-- ==== Sys2Proof/Word.lean ====
section
/-! DEFINITION. The words of the block: registers are 32 bits wide and little-endian (spec/00_scope.md, Registers). -/

namespace Sys2Proof

/-- A register word. -/
abbrev Word := BitVec 32

/-- A byte. -/
abbrev Byte := BitVec 8

/-- Bits [hi:lo] of a word, as a number (the manual's bit range, inclusive). -/
def Word.field (w : Word) (hi lo : Nat) : Nat := (w.toNat >>> lo) % 2 ^ (hi + 1 - lo)

/-- The mask of bits [hi:lo]. -/
def Word.mask (hi lo : Nat) : Word := BitVec.ofNat 32 ((2 ^ (hi + 1 - lo) - 1) <<< lo)

/-- The word with bits [hi:lo] replaced by the low bits of `v`. -/
def Word.withField (w : Word) (hi lo v : Nat) : Word :=
  (w &&& ~~~ Word.mask hi lo) ||| (BitVec.ofNat 32 (v <<< lo) &&& Word.mask hi lo)

/-- Bits of `new` where `m` is 1, of `old` elsewhere. -/
def Word.merge (old new m : Word) : Word := (old &&& ~~~ m) ||| (new &&& m)

/-- The mask of the bytes whose byte enable is 1 (R571). -/
def Word.byteMask (be : BitVec 4) : Word :=
  (if be.getLsbD 0 then 0x000000FF#32 else 0#32) ||| (if be.getLsbD 1 then 0x0000FF00#32 else 0#32) |||
  (if be.getLsbD 2 then 0x00FF0000#32 else 0#32) ||| (if be.getLsbD 3 then 0xFF000000#32 else 0#32)

end Sys2Proof
end

