-- ==== Sys2Proof/Syntax.lean ====
section
/-! DEFINITION. The commands: one constructor per row of spec/opcode_table.json, with the operands that the spec gives the
row, and the readings that some of them carry. -/

namespace Sys2Proof

/-- A host port (spec/13_host_ports_and_registers.md). -/
inductive Port where
  | A | B
  deriving DecidableEq, Repr

/-- A master of register accesses (R565). -/
inductive Master where
  | portA | portB | marshal
  deriving DecidableEq, Repr

/-- What a lane reports of one region sample (R39, R49, R53, R57, R69, R77, R81). -/
structure LaneRead where
  /-- I_PRI, mA. -/
  iPri : BitVec 12
  /-- I_SEC, mA. -/
  iSec : BitVec 12
  /-- Switching cycles that ended in the sample. -/
  cyc : Nat
  /-- Their mean cycle peak current, mA. -/
  peak : Nat
  /-- Those of them that the fast limit ended. -/
  fastEnds : Nat
  /-- The run of cycles ended at the fast limit that stands at the sample's end. -/
  fastRun : Nat
  /-- The last cycle ended at the start current cap or at the fast limit. -/
  atCap : Bool
  /-- The time spent switching in the sample, ns. -/
  onNs : Nat
  /-- The on-time of the last cycle, ps. -/
  onTime : Nat
  deriving DecidableEq, Repr

/-- What a region reads in one region sample (R39, R161, R162). -/
structure RgnRead where
  /-- The window ADC code, two's complement. -/
  code : BitVec 8
  /-- A new reading of the coarse converter, 2 mV per code, when this sample delivers one (R161). -/
  q : Option (Fin 601)
  /-- The reports of its 8 lanes, position 0 first; a lane not listed reports zeros. -/
  lanes : List LaneRead
  deriving DecidableEq, Repr

/-- What a patrol read finds (R449 to R455). -/
inductive PatrolOutcome where
  /-- No symbol in error. -/
  | clean
  /-- One or two symbols in error. -/
  | corrected
  /-- The decoding fails; of a table held in two copies, in one copy. -/
  | uncorrectable
  /-- Both copies fail (tables 0x07 and 0x0C); of the Ledger, with the other words lost in the same region sample. -/
  | lostBoth (others : List Nat)
  deriving DecidableEq, Repr


/-- A command: one constructor per row of spec/opcode_table.json, in its order. -/
inductive Instr where
  /-- POWER_ON_RESET (R30). The input rail falls below 1.45 V, which resets everything, turns the lanes off and asserts FAULT_N. -/
  | powerOnReset
  /-- POR_RELEASE (R518). Power-on reset is released 100 µs after the rail rises above 1.55 V; hardware then reads and checks Opal and cold boot begins. -/
  | porRelease (entropyOk : Bool)
  /-- BOOT_TABLE_INIT_DONE (R18). Every table word has been written with valid check symbols and read back. -/
  | bootTableInitDone (bad : List (Nat × Nat))
  /-- BOOT_HEADER_DONE (R523). SFDP has been read, the partition table verified, boot records replayed and key slots unwrapped. -/
  | bootHeaderDone
  /-- BOOT_LOAD_DONE (R530). The firmware slot has been chosen, verified and loaded, together with settings, calibration, model and learned profiles. -/
  | bootLoadDone
  /-- BOOT_LOCKED (R533). lk fields are written, the lane PLL is programmed, the retire list is applied and boot lock is set. -/
  | bootLocked
  /-- DOMAIN_START_NEXT (R535). The previous domain has settled and the gap has passed, so the next domain in the start order begins. -/
  | domainStartNext
  /-- BOOT_READY (R537). Domains have started, STATE READY is sent, BAT_STATUS.UP is set, and DARK regions are reported. -/
  | bootReady
  /-- DRBG_RESEED (R534). The 10 s reseed timer expires and the DRBG is reseeded; on a health failure reseeding is retried every 10 ms. -/
  | drbgReseed (healthOk : Bool)
  /-- SOFT_RST (R593). A write of QB_CTRL.SOFT_RST with KEY 0x0B20 performs a block reset; any other key is counted and ignored. -/
  | softRst (p : Port) (key : BitVec 16)
  /-- BLOCK_RESET_RELEASE (R31). After release, Stride resumes from retained set-points within 200 µs and RESET_EXIT is sent. -/
  | blockResetRelease
  /-- WARM_BOOT_END (R538). Marshal has checked or reloaded its code, rewritten lk and Gauge settings, set boot lock and resumed mailbox service. -/
  | warmBootEnd
  /-- TEST_RESET (R30). TRST_N resets the IEEE 1149.1 and IEEE 1500 test logic only. -/
  | testReset
  /-- CACHE_DIE_RESET (R27). A cache-die functional reset resets nothing in Quebire. -/
  | cacheDieReset
  /-- REFCLK_LOST (R28). There is no REFCLK edge, or a PLL is out of lock, for 200 ns; Quebire switches to the backup oscillator and raises a clock fault. -/
  | refclkLost
  /-- STEP_BOUNDARY (R193). A rising edge of step_pulse increments the step count, resets the fine count and executes the due step actions. -/
  | stepBoundary (t : Nat)
  /-- TIME_BASE_IDLE (R24). step_pulse has been absent for more than 100 µs, so the time base goes IDLE and TIME_IDLE is sent. -/
  | timeBaseIdle
  /-- STEP_BCAST_FRAME (R197). A step_bcast frame is checked and its COUNT applied at the next qualifying boundary; bad frames are counted. -/
  | stepBcastFrame (frame : BitVec 64) (stop : Bool) (t : Nat)
  /-- BCAST_MISS (R201). 4,096 boundaries pass without an accepted frame, so BCAST_MISS is set and a fault is raised. -/
  | bcastMiss
  /-- SAMPLE_PERIOD (R147). Every 50 ns Stride updates every region and heat, the lanes report their senses, and the Ledger meters. -/
  | samplePeriod (rs : List (Nat × RgnRead))
  /-- HEAT_AT_TARGET (R160). REF equals TGT and the error stays within 5 mV for 8 periods, so AT_TARGET is set and pending transitions complete with DONE. -/
  | heatAtTarget (h : Fin 256)
  /-- BALANCE_PASS (R183). Every 64 periods the lane trims are adjusted to equalise I_SEC. -/
  | balancePass
  /-- FAST_LIMIT_LATCH (R54). Eight consecutive cycles end at the fast limit, so the lane enters LATCHED for 2 µs. -/
  | fastLimitLatch (m : Fin 2048)
  /-- LATCH_END (R55). The 2 µs of LATCHED ends; the lane counts a retry and returns to its prior state, or goes FAILED. -/
  | latchEnd (m : Fin 2048)
  /-- RETRY_COUNT_CLEAR (R56). After 1 ms without a latch the lane's retry count returns to 0. -/
  | retryCountClear (m : Fin 2048)
  /-- START_MEASUREMENT_DONE (R44). The 2 µs start measurement ends and the lanes enter RAMP from the measured level. -/
  | startMeasurementDone (n : Fin 256) (code : Fin 601)
  /-- RAMP_END (R96). The ramp reaches the target within ±5 mV; the region becomes ISLAND or DEGRADED at the next boundary. -/
  | rampEnd (n : Fin 256)
  /-- FALSE_START (R50). A region is at current limit with the ramp 50 mV above the output for 20 µs, so its lanes are disabled. -/
  | falseStart (n : Fin 256)
  /-- FALSE_START_RETRY (R100). The 1 ms wait after a false start ends and a new attempt begins. -/
  | falseStartRetry (n : Fin 256)
  /-- ATTEMPT_COUNT_CLEAR (R101). After 1 s of unbroken regulation the region's attempt count returns to 0. -/
  | attemptCountClear (n : Fin 256)
  /-- OVERLOAD_FLAG_SET (R59). The mean peak exceeds the slow limit for 400 samples, so the overload flag is set. -/
  | overloadFlagSet (n : Fin 256)
  /-- OVERLOAD_FLAG_CLEAR (R60). The voltage demand stays below 0.95 × the slow limit for 400 samples, so the overload flag clears. -/
  | overloadFlagClear (n : Fin 256)
  /-- REGION_OVERLOAD_FAULT (R61). The overload flag has stayed set for 2 ms, so the region overload fault is raised. -/
  | regionOverloadFault (n : Fin 256)
  /-- CAPACITY_EXCEEDED (R62). The mean lane current has exceeded 1.5 A for 1 ms, so the capacity-exceeded event is raised. -/
  | capacityExceeded (n : Fin 256)
  /-- BURST_ENTRY_TEST (R63). A heat's per-lane current has been below the burst threshold for 10 µs, so burst entry is queued. -/
  | burstEntryTest (h : Fin 256)
  /-- KEEPER_ENTRY (R72). A region has had no Stride update for 4 samples, or a fail-over is in progress, so its lanes enter HOLD. -/
  | keeperEntry (n : Fin 256)
  /-- KEEPER_TIMEOUT (R75). After 1 ms in HOLD the lanes are disabled with cause 4 and the region loses regulation. -/
  | keeperTimeout (n : Fin 256)
  /-- OPEN_PHASE (R77). A lane has switched for 2 µs with a high command and no current, so it declares itself open and enters FAILED. -/
  | openPhase (m : Fin 2048)
  /-- SENSE_MISMATCH (R80). The two senses disagree for 50 µs, so the lane enters FOLLOWER with cause 3. -/
  | senseMismatch (m : Fin 2048)
  /-- REGULATION_LOSS (R102). A region is at current limit and 50 mV low for 20 µs, so it is restarted or goes DARK. -/
  | regulationLoss (h : Fin 256)
  /-- MERGE_VOLTAGE_TIMEOUT (R109). The voltage condition fails at 64 boundaries, so the merge is refused with TIMEOUT_VOLTAGE. -/
  | mergeVoltageTimeout (g : Fin 512)
  /-- FORCED_MERGE_STRETCH_ORDER (R115). At f − 64 an unexecuted deferred merge orders a forced-merge stretch starting at f. -/
  | forcedMergeStretchOrder (g : Fin 512)
  /-- FORCED_MERGE_DUE (R116). At step f the deferral no longer holds the merge, which executes as DONE_FORCED. -/
  | forcedMergeDue (g : Fin 512)
  /-- SPLIT_REFUSED_LOAD (R120). A split has been deferred for DEFER_MAX steps, so it is refused with REFUSED_LOAD. -/
  | splitRefusedLoad (g : Fin 512)
  /-- SPLITTING_END (R96). One step after an open, SPLITTING regions take their new state. -/
  | splittingEnd (n : Fin 256)
  /-- NO_LANE_DARK (R125). An islanded region with no current-mode lane and no rescue within 64 steps enters DARK with cause 4. -/
  | noLaneDark (n : Fin 256)
  /-- RETENTION_SETUP_END (R127). SETUP steps after the entry, the heat slews down to VRET. -/
  | retentionSetupEnd (h : Fin 256)
  /-- RETENTION_EXIT_DONE (R128). At the first boundary with the output within ±5 mV, ret_strobe is deasserted and the regions return to their prior states. -/
  | retentionExitDone (h : Fin 256)
  /-- VG_SCAN (R131). Every 1 ms each loaded region measures its vertical groups. -/
  | vgScan (n : Fin 256) (currents : List Nat)
  /-- SPARE_MAPPING (R133). A failed group is mapped to the lowest unused spare: the spare's switch closes, then the failed one opens 1 µs later. -/
  | spareMapping (n : Fin 256) (group : Fin 104)
  /-- GRACE_PERIOD_END (R138). The grace period ends, so all the region's gates open and iso_strobe is asserted. -/
  | gracePeriodEnd (n : Fin 256)
  /-- GRACE_DARK_ENTRY (R138). One step after the grace period ends, the lanes are disabled and the region enters DARK with cause 5. -/
  | graceDarkEntry (n : Fin 256)
  /-- LANE_EN_WRITE (R40). A write of LANE_CTRL.EN disables the lane, or queues a wake-up, at the next boundary. -/
  | laneEnWrite (p : Port) (m : Fin 2048) (en : Bool)
  /-- LANE_CLR_FAIL (R40). A FAILED or FOLLOWER lane goes DISABLED, its cause and retries are cleared, and a wake-up is queued. -/
  | laneClrFail (p : Port) (m : Fin 2048)
  /-- LANE_RETIRE (R88). The lane becomes RETIRED with cause 7 at the next boundary. -/
  | laneRetire (p : Port) (m : Fin 2048)
  /-- CLOSE_GATE_CMD (R143). DOM_RCMD op 0 queues a gate close for the due step. -/
  | closeGateCmd (p : Port) (d : Fin 4) (g : Fin 512)
  /-- OPEN_GATE_CMD (R143). DOM_RCMD op 1 queues a gate open for the due step. -/
  | openGateCmd (p : Port) (d : Fin 4) (g : Fin 512)
  /-- START_REGION_CMD (R143). DOM_RCMD op 2 queues a region start. -/
  | startRegionCmd (p : Port) (d : Fin 4) (n : Fin 256)
  /-- STOP_REGION_CMD (R143). DOM_RCMD op 3 queues a region stop. -/
  | stopRegionCmd (p : Port) (d : Fin 4) (n : Fin 256)
  /-- RETENTION_ENTRY_CMD (R126). DOM_RCMD op 4 queues retention entry for the region's heat. -/
  | retentionEntryCmd (p : Port) (d : Fin 4) (n : Fin 256)
  /-- RETENTION_EXIT_CMD (R128). DOM_RCMD op 5 queues retention exit for the region's heat. -/
  | retentionExitCmd (p : Port) (d : Fin 4) (n : Fin 256)
  /-- CLR_DARK (R96). RGN_CTRL.CLR_DARK moves a DARK region to OFF at the next boundary and clears its attempts. -/
  | clrDark (p : Port) (n : Fin 256)
  /-- DOM_CTRL_MESH_WRITE (R595). A change of MESH queues the domain's mesh change for the due step. -/
  | domCtrlMeshWrite (p : Port) (d : Fin 4) (mesh : Bool)
  /-- DOM_SETPT_WRITE (R596). The domain set-point changes at the next sample, or a move is queued for the due step. -/
  | domSetptWrite (p : Port) (d : Fin 4) (vset : BitVec 12) (sched : Bool)
  /-- RGN_SETPT_WRITE (R596). The region set-point changes at the next sample, or a move is queued for the due step. -/
  | rgnSetptWrite (p : Port) (n : Fin 256) (vset : BitVec 12) (sched : Bool)
  /-- CLR_FB (R188). RGN_STR_CFG.CLR_FB clears FB_ACTIVE at the next period. -/
  | clrFb (p : Port) (n : Fin 256)
  /-- BATON_PACKET (R207). A received packet is checked for CRC and sequence, and a NAK is sent on an error episode. -/
  | batonPacket (bits : BitVec 80) (edges : Nat)
  /-- BATON_LINK_ACK_DUE (R211). 500 ns after an uncovered acceptance, a LINK with NAK 0 is sent. -/
  | batonLinkAckDue
  /-- BATON_RESEND_TIMEOUT (R212). No LINK covers the oldest unacknowledged ack within 2 µs, so the acks are resent in order. -/
  | batonResendTimeout
  /-- NOP (R219). A NOP notice is accepted without an ack. -/
  | nop (seq : BitVec 8) (body : BitVec 52)
  /-- LINK (R212). A LINK notice acknowledges acks, or with NAK 1 starts an in-order resend. -/
  | link (seq : BitVec 8) (body : BitVec 52)
  /-- LINK_RESET (R214). A LINK notice with RESET 1 resets both sequence numbers and discards retained acks. -/
  | linkReset (seq : BitVec 8) (body : BitVec 52)
  /-- ACTIVITY (R254). An ACTIVITY notice enters the pending table to set a record rate at its due step, or enters the ring if due soon. -/
  | activity (seq : BitVec 8) (body : BitVec 52)
  /-- BARRIER (R286). A BARRIER notice starts a slope check, or with a short lead is accepted at once. -/
  | barrier (seq : BitVec 8) (body : BitVec 52)
  /-- SLOPE_CHECK_DONE (R287). The check completes within 8 steps, ACCEPT or STRETCH is sent, and pre-lift and pre-bias are ordered. -/
  | slopeCheckDone (tag : BitVec 8)
  /-- SETPOINT (R229). A scheduled SETPOINT is checked, its slot is claimed and it is queued, with ACCEPT sent. -/
  | setpoint (seq : BitVec 8) (body : BitVec 52)
  /-- SETPOINT_IMMEDIATE (R230). A SETPOINT with IMM 1 executes at the next region sample. -/
  | setpointImmediate (seq : BitVec 8) (body : BitVec 52)
  /-- SETPOINT_TIMEOUT (R233). 10 ms after execution without reaching target, the transition ends with DONE TIMEOUT. -/
  | setpointTimeout (tag : BitVec 8)
  /-- GATE_TIMEOUT (R238). GATE_TO passes without AT_TARGET, so DONE TIMEOUT is sent and the gating hold ends. -/
  | gateTimeout (tag : BitVec 8)
  /-- DEFER_TIMEOUT (R235). A transition held for 1,024 counted boundaries ends with DONE TIMEOUT. -/
  | deferTimeout (tag : BitVec 8)
  /-- ABORT (R240). An ABORT removes or reverses a set-point transition, or reports ALREADY_DONE or UNKNOWN. -/
  | abort (seq : BitVec 8) (body : BitVec 52)
  /-- CONFIRM (R296). CONFIRM makes every open notice of the group unconditional. -/
  | confirm (seq : BitVec 8) (body : BitVec 52)
  /-- CANCEL (R297). CANCEL withdraws every open notice of the group and its speculative actions. -/
  | cancel (seq : BitVec 8) (body : BitVec 52)
  /-- CONTEXT_SWITCH (R246). A CONTEXT notice of KIND 0 queues a context switch. -/
  | contextSwitch (seq : BitVec 8) (body : BitVec 52)
  /-- CONTEXT_SWITCH_NEW_USER (R404). A CONTEXT notice of KIND 1 queues a switch with a scrub. -/
  | contextSwitchNewUser (seq : BitVec 8) (body : BitVec 52)
  /-- CONTEXT_CLOSE (R246). A CONTEXT notice of KIND 2 queues a context close. -/
  | contextClose (seq : BitVec 8) (body : BitVec 52)
  /-- PERIOD (R247). A PERIOD notice queues a declaration of the iteration length. -/
  | period (seq : BitVec 8) (body : BitVec 52)
  /-- FREQPT (R347). A FREQPT with FLOOR_ACK 0 sets the frequency point; step mode accepts NOM only. -/
  | freqpt (seq : BitVec 8) (body : BitVec 52)
  /-- FREQPT_FLOOR_ACK (R337). The host acknowledges a floor: set-points move to the voltage table, or the lowest state exits. -/
  | freqptFloorAck (seq : BitVec 8) (body : BitVec 52)
  /-- NOTICE_UNDEFINED (R219). A notice of undefined TYPE is answered with NACK ENCODING. -/
  | noticeUndefined (ntype : BitVec 4) (seq : BitVec 8) (body : BitVec 52)
  /-- MISMATCH_WINDOW_END (R302). A 1,024-step window ends; it is judged bad or clean, and regions are demoted or restored. -/
  | mismatchWindowEnd
  /-- COEF_TABLE_WRITE (R264). A coefficient-window write takes effect only while EN is 0; otherwise WR_REF is set. -/
  | coefTableWrite (p : Port) (off : BitVec 20) (be : BitVec 4) (v : Word)
  /-- COEF_CTRL_EN_WRITE (R299). Setting COEF_CTRL.EN computes the row maxima and puts the regions in HELD. -/
  | coefCtrlEnWrite (p : Port) (v : Word)
  /-- REP_CLEAR (R279). REP_CFG.CLR clears every bin of every region. -/
  | repClear (p : Port)
  /-- MODEL_LOAD_DONE (R276). A model image load finishes its checks and becomes LOADED or is rejected whole. -/
  | modelLoadDone
  /-- LIMITS_TICK (R304). Every 10 µs the Limits unit forms the power figures, the cap, the power law and the shares. -/
  | limitsTick
  /-- PCAP_IN_EDGE (R309). A PCAP_IN edge is timed, and the duty and cap are taken from a valid period. -/
  | pcapInEdge (pinHigh : Bool) (t : Nat)
  /-- PCAP_LOST (R310). 2 ms pass without a valid period, so the fallback cap applies and a fault is raised. -/
  | pcapLost
  /-- CAP_ANA_STALE (R311). The CAP_ANA result is older than 2 ms, so the fallback cap applies and ANA_STALE is set. -/
  | capAnaStale
  /-- THERMAL_CAP_RUN (R331). D_T has been selected for 20 samples, so the THERMAL level goes to its clamp. -/
  | thermalCapRun (n : Fin 256)
  /-- HOST_STRETCH_LEVEL_WRITE (R316). A change of LIM_STR_HOST.LEVEL orders the HOST level. -/
  | hostStretchLevelWrite (p : Port) (level : BitVec 14)
  /-- CLR_PEAK_POWER (R384). LIM_PWR1.CLR_PEAK clears the held peak power. -/
  | clrPeakPower (p : Port)
  /-- ALERT_N_ASSERT (R335). ALERT_N has been low for 50 ns, so the forced lowest state is entered. -/
  | alertNAssert
  /-- ALERT_N_DEASSERT (R335). ALERT_N has been high for 50 ns, so the exit hold starts. -/
  | alertNDeassert
  /-- LOWEST_STATE_HOLD_END (R342). The causes have stayed clear for HOLD, so set-points return to their sources and the exit proceeds. -/
  | lowestStateHoldEnd
  /-- FLOOR_ACK_TIMEOUT (R340). No floor acknowledgement arrives within 1 ms, so a fault is raised and FREQ_FLOOR is repeated. -/
  | floorAckTimeout
  /-- HOUSEKEEPING_TICK (R361). Every 1 ms each modulator starts its housekeeping round, or skips it on overrun. -/
  | housekeepingTick
  /-- CONVERSION_DONE (R356). A conversion ends; the result becomes the channel's latest value and may enter the queue. -/
  | conversionDone (k : Fin 16) (r : Int) (ovr : Bool) (t : Nat)
  /-- ROUND_EVALUATION (R382). After the last round ends, the input rail, sensors, maxima, flags and NVM window are evaluated and delivered. -/
  | roundEvaluation
  /-- REGULAR_TRIGGER (R368). A regular trigger starts the delay or sequence, is held pending, or is dropped. -/
  | regularTrigger (k : Fin 16)
  /-- URGENT_TRIGGER (R369). An urgent trigger starts the injected delay or sequence, or is dropped. -/
  | urgentTrigger (k : Fin 16)
  /-- TRIGGER_DELAY_END (R366). A trigger delay ends and the sequence starts, aborting lower-precedence work. -/
  | triggerDelayEnd (k : Fin 16) (urgent : Bool)
  /-- GAU_RSW (R366). GAU_MOD_CFG.RSW starts the regular sequence without delay. -/
  | gauRsw (p : Port) (k : Fin 16)
  /-- GAU_ISW (R366). GAU_MOD_CFG.ISW fires the software urgent trigger. -/
  | gauIsw (p : Port) (k : Fin 16)
  /-- GAU_QDATA_READ (R374). A read of GAU_QDATA_LO removes and captures the head entry. -/
  | gauQdataRead (p : Port)
  /-- QCLR (R370). GAU_CFG.QCLR empties the result queue. -/
  | qclr (p : Port)
  /-- TELEMETRY_UPDATE (R383). Every 1 ms the domain current, power and voltage figures are updated. -/
  | telemetryUpdate
  /-- DOM_TEL_CLR (R384). DOM_TEL_CTRL.CLR clears the domain's peaks and minima. -/
  | domTelClr (p : Port) (d : Fin 4)
  /-- CLR_PEAK_TEMP (R384). GAU_TSTAT.CLR_PEAK clears the held peak temperature. -/
  | clrPeakTemp (p : Port)
  /-- SNAP (R395). LED_SNAP.SNAP starts a snapshot of the accounts. -/
  | snap (p : Port) (sel : BitVec 8)
  /-- SNAPSHOT_DONE (R395). The snapshot has been copied from one sample boundary, so VALID is set. -/
  | snapshotDone
  /-- CONTEXT_RELEASE (R399). LED_CTX.REL moves a CLOSED context's accounts to the retired totals and frees the slot. -/
  | contextRelease (p : Port) (c : Fin 64)
  /-- RECORD_POP (R398). LED_REC_CTRL.POP moves the oldest close record into LED_REC0–5. -/
  | recordPop (p : Port)
  /-- TENANT_VIEW_READ (R418). A read of LED_TV_LO captures the pair of the context. -/
  | tenantViewRead (p : Port) (c : Fin 64)
  /-- TENANT_VIEW_REFRESH (R401). Every 100 ms the tenant-view E and STATE are set and SEQ is incremented. -/
  | tenantViewRefresh
  /-- SCRUB_END (R407). The read-back passes, so the new context runs at the next boundary and DONE_EVT is set. -/
  | scrubEnd (bad : List (Nat × Nat))
  /-- SCRUB_OVERRUN (R408). The scrub has not ended 2 ms after its start, so OVERRUN is set and a fault is raised. -/
  | scrubOverrun
  /-- CREDIT_ALLOC (R414). LED_CR_ALLOC.GO queues a credit move for the next tick. -/
  | creditAlloc (p : Port) (n : Fin 256) (amount : BitVec 17)
  /-- STEP_COUNT_READ (R253). A read of STP_COUNT_LO captures the step and fine count of one instant. -/
  | stepCountRead (p : Port)
  /-- FAULT_PROCESS (R442). The collector takes the next pending source, then classifies, captures, logs and reacts within one interval. -/
  | faultProcess
  /-- FAULT_RECOVERY (R427). The quiet period ends, so SEV and the FAULT_N hold clear and recovery is logged. -/
  | faultRecovery (x : Fin 128)
  /-- WATCHDOG (R423). 10 ms pass without a Marshal heartbeat, so WATCHDOG is raised. -/
  | watchdog
  /-- MARSHAL_HEARTBEAT (R423). FLT_CTRL.HB written by Marshal restarts the watchdog. -/
  | marshalHeartbeat
  /-- TRAP_HANDLER_TIMEOUT (R433). The trap handler has not returned within 1 ms, so WATCHDOG is raised. -/
  | trapHandlerTimeout
  /-- TRAP_RETURN (R433). The trap handler returns and any held T reaction is delivered. -/
  | trapReturn
  /-- FE_ARM (R445). FLT_CTRL.FE_ARM clears the first-error capture. -/
  | feArm (p : Port)
  /-- FN_REL (R439). FLT_CTRL.FN_REL releases the FAULT_N holds whose conditions have ended. -/
  | fnRel (p : Port)
  /-- CRST_CLEAR (R436). A write of 1 to FLT_STATUS.CRST deasserts chip_rst_req. -/
  | crstClear (p : Port)
  /-- LOG_POP (R447). FLT_LOG_CTRL.POP moves the oldest log record into FLT_LOG0–4. -/
  | logPop (p : Port)
  /-- LOG_COPY (R448). Once per second Marshal appends new records to the log partition. -/
  | logCopy
  /-- PATROL_READ (R450). The table engine reads every table word at least every 100 ms. -/
  | patrolRead (tid : Fin 16) (index : Nat) (o : PatrolOutcome)
  /-- VT_WORD_REWRITE (R662). Marshal rewrites a replaced voltage-table word from the checked calibration partition. -/
  | vtWordRewrite (n : Fin 256)
  /-- PORT_ALIGNED (R474). Both pairs align and the port enters TRAIN. -/
  | portAligned (p : Fin 5)
  /-- TRAIN_END (R474). After 10 µs of alignment the port enters HELLO. -/
  | trainEnd (p : Fin 5)
  /-- HELLO (R476). A HELLO frame is checked, then the port enters UP with session keys or becomes REFUSED. -/
  | hello (p : Fin 5) (frame : List Byte)
  /-- HELLO_TIMEOUT (R474). No agreement within 1 ms, so the port goes DOWN. -/
  | helloTimeout (p : Fin 5)
  /-- REFUSED_TIMEOUT (R474). 10 ms in REFUSED, then the port goes DOWN. -/
  | refusedTimeout (p : Fin 5)
  /-- LINK_LOSS (R475). 1 µs out of alignment or 16 µs without a DATA frame, so the port goes DOWN. -/
  | linkLoss (p : Fin 5)
  /-- DATA_FRAME (R470). A DATA frame is authenticated, its replay is checked, and its message is taken. -/
  | dataFrame (p : Fin 5) (frame : List Byte)
  /-- FRAME_SEND_DUE (R477). 500 ns have passed without a frame on an UP port, so a HEARTBEAT is sent. -/
  | frameSendDue (p : Fin 5)
  /-- RELIABLE_RESEND (R479). MACK has not advanced for 4 µs, so reliable messages are resent. -/
  | reliableResend (p : Fin 5)
  /-- SEQ_EXHAUSTED (R473). SEQ reaches 2^32 − 65,536, so the port goes DOWN. -/
  | seqExhausted (p : Fin 5)
  /-- REKEY_START (R471). SEQ reaches 2^31, so the upper end starts a rekey. -/
  | rekeyStart (p : Fin 5)
  /-- RLY_REKEY_WRITE (R471). RLY_CTRL.REKEY starts a rekey of the port. -/
  | rlyRekeyWrite (port : Port) (p : Fin 5)
  /-- EPOCH_GRACE_END (R472). 64 frames or 100 µs after the first new-epoch frame, old-epoch frames are no longer accepted. -/
  | epochGraceEnd (p : Fin 5)
  /-- HEARTBEAT (R481). A HEARTBEAT message carries the peer's state. -/
  | heartbeat (p : Fin 5) (body : BitVec 272)
  /-- REPORT (R499). A child's REPORT is stored for the summed report. -/
  | report (p : Fin 5) (body : BitVec 272)
  /-- REPORT_DUE (R499). Every 100 µs an instance sends its summed REPORT up. -/
  | reportDue
  /-- REQUEST (R502). A REQUEST updates the subtree's level, which is forwarded, or ordered at the master. -/
  | request (p : Fin 5) (body : BitVec 272)
  /-- ORDER (R503). An ORDER is forwarded and held as the CASCADE level from its step, late if need be. -/
  | order (p : Fin 5) (body : BitVec 272)
  /-- ORDER_NAK (R504). The master repeats the order to the whole tree at its count + 16. -/
  | orderNak (p : Fin 5) (body : BitVec 272)
  /-- DELAY (R326). A barrier delay report reaches the master, which sends a delay order. -/
  | delay (p : Fin 5) (body : BitVec 272)
  /-- DELAY_ORDER (R326). Barriers due at s move to s + K, lifts move, and STRETCH is sent. -/
  | delayOrder (p : Fin 5) (body : BitVec 272)
  /-- EMERG (R343). The master orders the emergency entry, exit or end from the members' reports. -/
  | emerg (p : Fin 5) (body : BitVec 272)
  /-- EMERG_ORDER (R343). An instance enters, exits or ends the EMERGENCY level as ordered. -/
  | emergOrder (p : Fin 5) (body : BitVec 272)
  /-- MIRROR (R487). The standby applies a mirrored register write or queue entry. -/
  | mirror (p : Fin 5) (body : BitVec 272)
  /-- DIGEST (R488). The standby compares the digest and requests a RESYNC after two mismatches. -/
  | digest (p : Fin 5) (body : BitVec 272)
  /-- DIGEST_DUE (R488). Every 1 ms a pair instance computes its digest, and the active one sends it. -/
  | digestDue
  /-- RESYNC (R489). The standby loads the streamed state and becomes STANDBY_SYNC at the named boundary. -/
  | resync (p : Fin 5) (body : BitVec 272)
  /-- RLY_RESYNC_WRITE (R489). RLY_CTRL.RESYNC makes the standby request a RESYNC. -/
  | rlyResyncWrite (p : Port)
  /-- REKEY (R469). A REKEY supplies nonces for epoch E + 1, and REKEY_ACK is answered. -/
  | rekey (p : Fin 5) (body : BitVec 272)
  /-- REKEY_ACK (R471). A REKEY_ACK switches sending to epoch E + 1. -/
  | rekeyAck (p : Fin 5) (body : BitVec 272)
  /-- JOIN (R498). A JOIN is forwarded, and the master records the instance, grants it and reorders its level. -/
  | join (p : Fin 5) (body : BitVec 272)
  /-- GRANT (R509). A GRANT enters credit mode and sets LED_CR_GRANT. -/
  | grant (p : Fin 5) (body : BitVec 272)
  /-- CR_REQ (R510). The lender prepares a transfer of up to pool − RESERVE and sends CR_PREP. -/
  | crReq (p : Fin 5) (body : BitVec 272)
  /-- CR_PREP (R510). The borrower adds to ESC_IN and answers CR_PREP_ACK. -/
  | crPrep (p : Fin 5) (body : BitVec 272)
  /-- CR_PREP_ACK (R511). The lender commits, or answers from its logged decision. -/
  | crPrepAck (p : Fin 5) (body : BitVec 272)
  /-- CR_COMMIT (R510). The borrower commits, adds to its pool and NET, and sends CR_DONE. -/
  | crCommit (p : Fin 5) (body : BitVec 272)
  /-- CR_DONE (R512). The lender counts the transfer as committed. -/
  | crDone (p : Fin 5) (body : BitVec 272)
  /-- CR_ABORT (R510). The borrower aborts a prepared transfer. -/
  | crAbort (p : Fin 5) (body : BitVec 272)
  /-- CR_PREP_TIMEOUT (R510). 1 ms without CR_PREP_ACK, so the lender aborts and sends CR_ABORT. -/
  | crPrepTimeout (tid : Nat)
  /-- CR_PREP_ACK_RESEND (R511). Every 100 µs a borrower with a prepared transfer resends CR_PREP_ACK. -/
  | crPrepAckResend
  /-- HEARTBEAT_LOST (R491). No frame from the active for HB_TO, so the standby fences, takes over and sends FAILOVER. -/
  | heartbeatLost
  /-- PAIR_FENCE (R486). The partner asserts pair_fence_n, so the instance drops pair_act and is held in block reset. -/
  | pairFence
  /-- FENCE_RELEASE (R486). 1 µs after asserting pair_act, the new active releases the fence. -/
  | fenceRelease
  /-- PLANNED_SWITCH (R496). RLY_CTRL.SWITCH queues a handover at the next boundary, or sets SW_REF. -/
  | plannedSwitch (p : Port)
  /-- ACTING_MASTER (R506). The up port has been DOWN for 100 µs, so the instance acts as master of its subtree. -/
  | actingMaster
  /-- STATUS (R587). The mailbox STATUS command returns boot status, version and Marshal state. -/
  | status (p : Port)
  /-- ECHO (R587). ECHO returns the argument words. -/
  | echo (p : Port)
  /-- UPD_OPEN (R541). Opens an update session for a kind and page count. -/
  | updOpen (p : Port)
  /-- UPD_PAGE (R541). Checks and programs the staged page at index NEXT. -/
  | updPage (p : Port)
  /-- UPD_CLOSE (R542). Checks the whole image and sets RES to VERIFIED or the failure. -/
  | updClose (p : Port)
  /-- UPD_ABORT (R587). Abandons the update session. -/
  | updAbort (p : Port)
  /-- ACTIVATE (R543). Activates the verified image; for firmware, starts a trial within a pause of at most 35 ms. -/
  | activate (p : Port)
  /-- COMMIT (R548). Commits the trial slot and blows requested fuses. -/
  | commit (p : Port)
  /-- RETIRE_ADD (R587). Adds lanes to the retire list in the settings slot. -/
  | retireAdd (p : Port)
  /-- RETIRE_REMOVE (R587). Removes lanes from the retire list. -/
  | retireRemove (p : Port)
  /-- RETIRE_READ (R587). Returns entries of the retire list. -/
  | retireRead (p : Port)
  /-- LEARN_SAVE (R558). Saves the repetitive bins to the older learned-profile copy. -/
  | learnSave (p : Port)
  /-- LEARN_SAVE_TIMER (R558). Every LP_SAVE minutes Marshal saves the learned profiles. -/
  | learnSaveTimer
  /-- MODEL_LOAD (R278). Starts loading the Pacer model image. -/
  | modelLoad (p : Port)
  /-- LOG_INFO (R587). Returns the stored log record count and the oldest and newest indices. -/
  | logInfo (p : Port)
  /-- LOG_READ (R587). Returns two stored log records, or EMPTY. -/
  | logRead (p : Port)
  /-- CREDIT_LOG_READ (R587). Returns one credit-log entry; refused in step mode. -/
  | creditLogRead (p : Port)
  /-- UNKNOWN_CMD (R587). An undefined mailbox command is answered UNKNOWN_CMD. -/
  | unknownCmd (p : Port)
  /-- TOKEN_CHALLENGE (R614). Returns a fresh DRBG nonce. -/
  | tokenChallenge (p : Port)
  /-- TOKEN_DATA (R614). Stores 52 bytes of the debug token. -/
  | tokenData (p : Port)
  /-- TOKEN_CHECK (R615). Verifies the token and grants its rights, or raises TOKEN. -/
  | tokenCheck (p : Port)
  /-- TOKEN_REVOKE (R616). Ends the token's rights. -/
  | tokenRevoke (p : Port)
  /-- TOKEN_EXPIRY (R616). LIFE passes, so the rights end and the selects return to 0x00. -/
  | tokenExpiry
  /-- BOOT_UPD_DATA_WRITE (R563). A write stores a staging word and advances the index, or sets OVR. -/
  | bootUpdDataWrite (p : Port) (w : Word)
  /-- TRIAL_MINUTE (R547). Each minute of trial time a TRIAL_MINUTE record is written. -/
  | trialMinute
  /-- TRIAL_ROLLBACK (R549). Trial time reaches 10 minutes, so the old slot is activated and ROLLBACK is recorded. -/
  | trialRollback
  /-- ROTATION_PAGE (R553). Marshal re-encrypts one retiring-epoch page through the ROT scratch in five steps. -/
  | rotationPage
  /-- PORT_A_TIMEOUT (R570). A Port A transaction exceeds 4 µs and ends with pa_err. -/
  | portATimeout (write : Bool)
  /-- SET_WIN (R575). Port B SET_WIN sets the window pointer, count and increment. -/
  | setWin (w : Word) (pecOk : Bool)
  /-- WR (R578). Port B WR applies up to 8 words after a correct PEC. -/
  | wr (ws : List Word) (pecOk : Bool)
  /-- RD (R577). Port B RD reads words into the replay buffer and sends them. -/
  | rd
  /-- RE_RD (R577). Port B RE_RD resends the last RD block. -/
  | reRd
  /-- STAT (R575). Port B STAT returns the status byte and clears the PEC flag. -/
  | stat
  /-- SMB_UNDEFINED_COMMAND (R575). An undefined command byte is not acknowledged and the transaction is discarded. -/
  | smbUndefinedCommand (code : BitVec 8)
  /-- SMBUS_TIMEOUT (R579). SCL has been low for 25 ms, so the Port B interface resets. -/
  | smbusTimeout
  /-- SEM_TAKE (R580). TAKE makes the writer the owner of a free semaphore. -/
  | semTake (x : Master) (sem : Fin 16) (tag : BitVec 8)
  /-- SEM_REL (R580). REL by the owner frees the semaphore. -/
  | semRel (x : Master) (sem : Fin 16)
  /-- SEM_FORCE (R583). QB_SEM_FORCE with the key frees a semaphore and sets FORCED. -/
  | semForce (p : Port) (sem : Fin 16) (key : BitVec 16)
  /-- RESERVED_ACCESS (R566). An access to a reserved offset is ignored and counted. -/
  | reservedAccess (p : Port) (off : BitVec 20) (write : Bool)
  /-- FSW_WRITE (R594). A write to FSW after PLL programming is stored in settings for the next cold boot. -/
  | fswWrite (p : Port) (code : BitVec 4)
  /-- REGISTER_WRITE (R6). A write to a register with no behaviour of its own updates its rw, w1c and w1s fields. -/
  | registerWrite (p : Port) (off : BitVec 20) (be : BitVec 4) (v : Word)
  /-- EXTEST (R600). The JTAG EXTEST instruction drives the pins, or acts as BYPASS while regulating. -/
  | extest
  /-- SAMPLE_PRELOAD (R598). The JTAG SAMPLE/PRELOAD instruction samples or preloads the boundary register. -/
  | samplePreload (cells : BitVec 23)
  /-- IDCODE (R599). The JTAG IDCODE instruction selects the identification register. -/
  | idcode
  /-- CLAMP (R600). The JTAG CLAMP instruction, subject to the regulation check. -/
  | clamp
  /-- HIGHZ (R600). The JTAG HIGHZ instruction, subject to the regulation check. -/
  | highz
  /-- WRAP_SEL (R602). The JTAG WRAP_SEL instruction selects the wrapper instruction register. -/
  | wrapSel
  /-- WRAP_DR (R602). The JTAG WRAP_DR instruction selects the wrapper data register. -/
  | wrapDr
  /-- PRIV_DBG (R600). The Fjostad debug register, only with the PRIV right and when not regulating. -/
  | privDbg
  /-- BYPASS (R598). The JTAG BYPASS instruction, also taken for undefined codes. -/
  | bypass
  /-- WS_BYPASS (R602). The wrapper bypass instruction. -/
  | wsBypass
  /-- WS_PRELOAD (R602). The wrapper preload instruction. -/
  | wsPreload (cells : BitVec 1142)
  /-- WS_EXTEST (R603). The wrapper external test, subject to the regulation check. -/
  | wsExtest
  /-- WS_INTEST (R603). The wrapper internal test, subject to the regulation check. -/
  | wsIntest
  /-- WS_LANE_ST (R602). The wrapper instruction that starts the lane self-test at update-DR. -/
  | wsLaneSt (m : Fin 2048)
  /-- LANE_SELF_TEST (R605). TST_LST_CTRL.GO starts the self-test of an eligible lane, or refuses. -/
  | laneSelfTest (p : Port) (m : Fin 2048)
  /-- SELF_TEST_DONE (R607). The self-test ends, results are recorded, and a failing lane becomes FAILED. -/
  | selfTestDone (failed : BitVec 8)
  /-- SELF_TEST_ABORT (R608). A block reset or region transition aborts the self-test. -/
  | selfTestAbort
  /-- OBS_SELECT_WRITE (R611). A TST_OBS write sets the pin select unless locked without a token right. -/
  | obsSelectWrite (p : Port) (pin : Fin 2) (v : Word)
  /-- PF_ARM (R621). PF_CTRL.ARM starts recording and clears FROZEN, TRIG, WRAP and WPTR. -/
  | pfArm (p : Port)
  /-- PF_SWTRIG (R620). PF_CTRL.SWTRIG is a software trigger for Photo-finish. -/
  | pfSwtrig (p : Port)
  /-- PF_FREEZE (R620). POST records after the trigger, ARM clears and FROZEN is set. -/
  | pfFreeze
  /-- ALIGNMENT_LOSS (R462). A Relay receiver sees a disparity or code error, or loses the comma, in 4 consecutive characters on either pair, so the port is out of alignment, RLY_PERR.ALIGN counts it, and a port in TRAIN goes DOWN. -/
  | alignmentLoss (p : Fin 5)
  /-- REFCLK_RETURN (R426). REFCLK edges and PLL lock return, ending the REFCLK_LOST level condition from which the source's quiet period for recovery is measured. -/
  | refclkReturn
  /-- ISO_STROBE_DEASSERT (R95). While the time base is not RUNNING, iso_strobe[n] is deasserted COEF_CTRL.TSTEP ns after the region enters ISLAND or DEGRADED. -/
  | isoStrobeDeassert (n : Fin 256)
  /-- ACTIVATE_PAUSE_END (R543). The ACTIVATE pause ends: UPDATE_END is sent, mailboxes and the frozen telemetry and tenant refresh resume, and QB_STATUS.PAUSE clears. -/
  | activatePauseEnd
  deriving DecidableEq, Repr

end Sys2Proof
end

