-- ==== Sys2Proof/Machine/Sources.lean ====
section
/-! DEFINITION. The 70 fault sources with their IDs, default reaction sets and thresholds (R422), the reaction bits, and the
address kinds, masters and access types of capture (R446). -/

namespace Sys2Proof.Machine

/-- A fault source (R422). -/
inductive Src where
  | FAST_LATCH | LANE_FAILED | LANE_OPEN | LANE_MISMATCH | KEEPER_TO | RAMP_LATCH | CAPACITY
  | OVERLOAD | FALSE_START | REG_LOSS | EMERG_OPEN | VG_FAIL | SPARES_OUT | DEGRADED
  | DARK_PEND | DARK | RESCUE | OSC | SAT | FCAST_MISMATCH | STEP_JUMP
  | BCAST_MISS | SHORT_STEP | REFCLK_LOST | CONFIG | ORDER_LATE | SCRUB_OVERRUN | WATCHDOG
  | QUEUE_FULL | BAT_LINK | BAT_ENC | BAT_DROP | BCAST_FRAME | RELAY_DOWN | RELAY_AUTH
  | HEARTBEAT_LOST | QSPI | SMBUS_PEC | GAUGE_DROP | GAUGE_QOVF | ECC_CORR | UNC_COEF
  | UNC_REP | UNC_VTABLE | UNC_PROFILE | UNC_TRIM | UNC_QUEUE | UNC_PACER | UNC_MCODE
  | UNC_MDATA | UNC_LEDGER | UNC_TRACE | COLLECTOR_SELF | INIT_FAIL | IMAGE_AUTH | IMAGE_BINDING
  | PAGE_TAG | KEY_EPOCH | VT_HASH | OPAL | TOKEN | THERM_WARN | THERM_SHUT
  | SENSOR_BAD | HK_OVERRUN | INPUT_RAIL | CAP_LOST | LOWEST | FLOOR_TO | NVM_TEMP
  deriving DecidableEq, Repr

/-- The source ID (R422). -/
def Src.id : Src → Nat
  | .FAST_LATCH => 0x00
  | .LANE_FAILED => 0x01
  | .LANE_OPEN => 0x02
  | .LANE_MISMATCH => 0x03
  | .KEEPER_TO => 0x04
  | .RAMP_LATCH => 0x05
  | .CAPACITY => 0x06
  | .OVERLOAD => 0x07
  | .FALSE_START => 0x08
  | .REG_LOSS => 0x09
  | .EMERG_OPEN => 0x0A
  | .VG_FAIL => 0x0B
  | .SPARES_OUT => 0x0C
  | .DEGRADED => 0x0D
  | .DARK_PEND => 0x0E
  | .DARK => 0x0F
  | .RESCUE => 0x10
  | .OSC => 0x20
  | .SAT => 0x21
  | .FCAST_MISMATCH => 0x22
  | .STEP_JUMP => 0x23
  | .BCAST_MISS => 0x24
  | .SHORT_STEP => 0x25
  | .REFCLK_LOST => 0x26
  | .CONFIG => 0x27
  | .ORDER_LATE => 0x28
  | .SCRUB_OVERRUN => 0x29
  | .WATCHDOG => 0x2A
  | .QUEUE_FULL => 0x2B
  | .BAT_LINK => 0x30
  | .BAT_ENC => 0x31
  | .BAT_DROP => 0x32
  | .BCAST_FRAME => 0x33
  | .RELAY_DOWN => 0x34
  | .RELAY_AUTH => 0x35
  | .HEARTBEAT_LOST => 0x36
  | .QSPI => 0x37
  | .SMBUS_PEC => 0x38
  | .GAUGE_DROP => 0x39
  | .GAUGE_QOVF => 0x3A
  | .ECC_CORR => 0x40
  | .UNC_COEF => 0x41
  | .UNC_REP => 0x42
  | .UNC_VTABLE => 0x43
  | .UNC_PROFILE => 0x44
  | .UNC_TRIM => 0x45
  | .UNC_QUEUE => 0x46
  | .UNC_PACER => 0x47
  | .UNC_MCODE => 0x48
  | .UNC_MDATA => 0x49
  | .UNC_LEDGER => 0x4A
  | .UNC_TRACE => 0x4B
  | .COLLECTOR_SELF => 0x4C
  | .INIT_FAIL => 0x4D
  | .IMAGE_AUTH => 0x50
  | .IMAGE_BINDING => 0x51
  | .PAGE_TAG => 0x52
  | .KEY_EPOCH => 0x53
  | .VT_HASH => 0x54
  | .OPAL => 0x55
  | .TOKEN => 0x56
  | .THERM_WARN => 0x60
  | .THERM_SHUT => 0x61
  | .SENSOR_BAD => 0x62
  | .HK_OVERRUN => 0x63
  | .INPUT_RAIL => 0x64
  | .CAP_LOST => 0x65
  | .LOWEST => 0x66
  | .FLOOR_TO => 0x67
  | .NVM_TEMP => 0x68

/-- The default normal reaction set: I 1, T 2, B 4, C 8, F 16 (R422). -/
def Src.norm : Src → Nat
  | .FAST_LATCH => 0
  | .LANE_FAILED => 1
  | .LANE_OPEN => 1
  | .LANE_MISMATCH => 1
  | .KEEPER_TO => 1
  | .RAMP_LATCH => 0
  | .CAPACITY => 1
  | .OVERLOAD => 1
  | .FALSE_START => 0
  | .REG_LOSS => 1
  | .EMERG_OPEN => 1
  | .VG_FAIL => 0
  | .SPARES_OUT => 1
  | .DEGRADED => 1
  | .DARK_PEND => 1
  | .DARK => 1
  | .RESCUE => 1
  | .OSC => 1
  | .SAT => 0
  | .FCAST_MISMATCH => 1
  | .STEP_JUMP => 1
  | .BCAST_MISS => 1
  | .SHORT_STEP => 0
  | .REFCLK_LOST => 17
  | .CONFIG => 1
  | .ORDER_LATE => 1
  | .SCRUB_OVERRUN => 1
  | .WATCHDOG => 4
  | .QUEUE_FULL => 0
  | .BAT_LINK => 0
  | .BAT_ENC => 0
  | .BAT_DROP => 0
  | .BCAST_FRAME => 0
  | .RELAY_DOWN => 1
  | .RELAY_AUTH => 0
  | .HEARTBEAT_LOST => 1
  | .QSPI => 1
  | .SMBUS_PEC => 0
  | .GAUGE_DROP => 0
  | .GAUGE_QOVF => 1
  | .ECC_CORR => 0
  | .UNC_COEF => 1
  | .UNC_REP => 1
  | .UNC_VTABLE => 1
  | .UNC_PROFILE => 1
  | .UNC_TRIM => 1
  | .UNC_QUEUE => 1
  | .UNC_PACER => 1
  | .UNC_MCODE => 4
  | .UNC_MDATA => 2
  | .UNC_LEDGER => 1
  | .UNC_TRACE => 0
  | .COLLECTOR_SELF => 17
  | .INIT_FAIL => 1
  | .IMAGE_AUTH => 1
  | .IMAGE_BINDING => 1
  | .PAGE_TAG => 1
  | .KEY_EPOCH => 1
  | .VT_HASH => 17
  | .OPAL => 17
  | .TOKEN => 1
  | .THERM_WARN => 1
  | .THERM_SHUT => 17
  | .SENSOR_BAD => 1
  | .HK_OVERRUN => 0
  | .INPUT_RAIL => 17
  | .CAP_LOST => 1
  | .LOWEST => 1
  | .FLOOR_TO => 1
  | .NVM_TEMP => 0

/-- The default severe reaction set (R422). -/
def Src.sev : Src → Nat
  | .FAST_LATCH => 1
  | .LANE_FAILED => 1
  | .LANE_OPEN => 1
  | .LANE_MISMATCH => 1
  | .KEEPER_TO => 17
  | .RAMP_LATCH => 0
  | .CAPACITY => 1
  | .OVERLOAD => 17
  | .FALSE_START => 1
  | .REG_LOSS => 17
  | .EMERG_OPEN => 1
  | .VG_FAIL => 1
  | .SPARES_OUT => 1
  | .DEGRADED => 1
  | .DARK_PEND => 1
  | .DARK => 17
  | .RESCUE => 1
  | .OSC => 1
  | .SAT => 1
  | .FCAST_MISMATCH => 1
  | .STEP_JUMP => 9
  | .BCAST_MISS => 1
  | .SHORT_STEP => 1
  | .REFCLK_LOST => 17
  | .CONFIG => 1
  | .ORDER_LATE => 1
  | .SCRUB_OVERRUN => 1
  | .WATCHDOG => 20
  | .QUEUE_FULL => 1
  | .BAT_LINK => 1
  | .BAT_ENC => 1
  | .BAT_DROP => 1
  | .BCAST_FRAME => 1
  | .RELAY_DOWN => 1
  | .RELAY_AUTH => 1
  | .HEARTBEAT_LOST => 1
  | .QSPI => 3
  | .SMBUS_PEC => 1
  | .GAUGE_DROP => 1
  | .GAUGE_QOVF => 1
  | .ECC_CORR => 1
  | .UNC_COEF => 1
  | .UNC_REP => 1
  | .UNC_VTABLE => 17
  | .UNC_PROFILE => 1
  | .UNC_TRIM => 1
  | .UNC_QUEUE => 17
  | .UNC_PACER => 1
  | .UNC_MCODE => 20
  | .UNC_MDATA => 20
  | .UNC_LEDGER => 17
  | .UNC_TRACE => 1
  | .COLLECTOR_SELF => 17
  | .INIT_FAIL => 17
  | .IMAGE_AUTH => 17
  | .IMAGE_BINDING => 17
  | .PAGE_TAG => 17
  | .KEY_EPOCH => 17
  | .VT_HASH => 17
  | .OPAL => 17
  | .TOKEN => 3
  | .THERM_WARN => 1
  | .THERM_SHUT => 17
  | .SENSOR_BAD => 1
  | .HK_OVERRUN => 1
  | .INPUT_RAIL => 17
  | .CAP_LOST => 1
  | .LOWEST => 1
  | .FLOOR_TO => 17
  | .NVM_TEMP => 1

/-- The reset value of N (R422). -/
def Src.thr : Src → Nat
  | .FAST_LATCH => 64
  | .LANE_FAILED => 8
  | .LANE_OPEN => 8
  | .LANE_MISMATCH => 8
  | .KEEPER_TO => 8
  | .RAMP_LATCH => 255
  | .CAPACITY => 16
  | .OVERLOAD => 4
  | .FALSE_START => 4
  | .REG_LOSS => 4
  | .EMERG_OPEN => 4
  | .VG_FAIL => 8
  | .SPARES_OUT => 8
  | .DEGRADED => 8
  | .DARK_PEND => 1
  | .DARK => 4
  | .RESCUE => 8
  | .OSC => 8
  | .SAT => 255
  | .FCAST_MISMATCH => 16
  | .STEP_JUMP => 4
  | .BCAST_MISS => 4
  | .SHORT_STEP => 16
  | .REFCLK_LOST => 1
  | .CONFIG => 16
  | .ORDER_LATE => 16
  | .SCRUB_OVERRUN => 4
  | .WATCHDOG => 3
  | .QUEUE_FULL => 64
  | .BAT_LINK => 16
  | .BAT_ENC => 16
  | .BAT_DROP => 16
  | .BCAST_FRAME => 16
  | .RELAY_DOWN => 4
  | .RELAY_AUTH => 16
  | .HEARTBEAT_LOST => 1
  | .QSPI => 4
  | .SMBUS_PEC => 16
  | .GAUGE_DROP => 64
  | .GAUGE_QOVF => 16
  | .ECC_CORR => 255
  | .UNC_COEF => 4
  | .UNC_REP => 4
  | .UNC_VTABLE => 2
  | .UNC_PROFILE => 4
  | .UNC_TRIM => 4
  | .UNC_QUEUE => 2
  | .UNC_PACER => 4
  | .UNC_MCODE => 2
  | .UNC_MDATA => 2
  | .UNC_LEDGER => 1
  | .UNC_TRACE => 16
  | .COLLECTOR_SELF => 1
  | .INIT_FAIL => 1
  | .IMAGE_AUTH => 2
  | .IMAGE_BINDING => 2
  | .PAGE_TAG => 4
  | .KEY_EPOCH => 4
  | .VT_HASH => 1
  | .OPAL => 1
  | .TOKEN => 4
  | .THERM_WARN => 16
  | .THERM_SHUT => 1
  | .SENSOR_BAD => 8
  | .HK_OVERRUN => 16
  | .INPUT_RAIL => 1
  | .CAP_LOST => 4
  | .LOWEST => 16
  | .FLOOR_TO => 4
  | .NVM_TEMP => 16

/-- Every source, in order of ID (R442). -/
def Src.all : List Src :=
  [.FAST_LATCH, .LANE_FAILED, .LANE_OPEN, .LANE_MISMATCH, .KEEPER_TO, .RAMP_LATCH, .CAPACITY,
   .OVERLOAD, .FALSE_START, .REG_LOSS, .EMERG_OPEN, .VG_FAIL, .SPARES_OUT, .DEGRADED,
   .DARK_PEND, .DARK, .RESCUE, .OSC, .SAT, .FCAST_MISMATCH, .STEP_JUMP,
   .BCAST_MISS, .SHORT_STEP, .REFCLK_LOST, .CONFIG, .ORDER_LATE, .SCRUB_OVERRUN, .WATCHDOG,
   .QUEUE_FULL, .BAT_LINK, .BAT_ENC, .BAT_DROP, .BCAST_FRAME, .RELAY_DOWN, .RELAY_AUTH,
   .HEARTBEAT_LOST, .QSPI, .SMBUS_PEC, .GAUGE_DROP, .GAUGE_QOVF, .ECC_CORR, .UNC_COEF,
   .UNC_REP, .UNC_VTABLE, .UNC_PROFILE, .UNC_TRIM, .UNC_QUEUE, .UNC_PACER, .UNC_MCODE,
   .UNC_MDATA, .UNC_LEDGER, .UNC_TRACE, .COLLECTOR_SELF, .INIT_FAIL, .IMAGE_AUTH, .IMAGE_BINDING,
   .PAGE_TAG, .KEY_EPOCH, .VT_HASH, .OPAL, .TOKEN, .THERM_WARN, .THERM_SHUT,
   .SENSOR_BAD, .HK_OVERRUN, .INPUT_RAIL, .CAP_LOST, .LOWEST, .FLOOR_TO, .NVM_TEMP]

/-- The address kinds of capture (10_faults.md, First-error capture). -/
inductive AKind where
  | none | register | lane | region | nvm | table | port | channel
  deriving DecidableEq, Repr

/-- The AKIND code. -/
def AKind.code : AKind → Nat
  | .none => 0 | .register => 1 | .lane => 2 | .region => 3 | .nvm => 4 | .table => 5 | .port => 6 | .channel => 7

/-- The masters of capture. -/
inductive FMaster where
  | portA | portB | marshal | relay | baton | hardware
  deriving DecidableEq, Repr

/-- The MASTER code. -/
def FMaster.code : FMaster → Nat
  | .portA => 0 | .portB => 1 | .marshal => 2 | .relay => 3 | .baton => 4 | .hardware => 5

/-- The access types of capture. -/
inductive FAccess where
  | read | write | fetch | notice | sense | table
  deriving DecidableEq, Repr

/-- The ACCESS code. -/
def FAccess.code : FAccess → Nat
  | .read => 0 | .write => 1 | .fetch => 2 | .notice => 3 | .sense => 4 | .table => 5

end Sys2Proof.Machine
end

