-- ==== Sys2Proof/Machine/Tbl.lean ====
section
/-! DEFINITION. A table with a default: a list of (index, value) pairs in one canonical form, indices strictly rising and no
entry equal to what an unlisted index reads as, so that equal tables are equal data. Every indexed array of the manual
(registers, lanes, regions, slots, bins) is one. -/

namespace Sys2Proof.Machine

/-- A table: what it lists; every other index reads as the default its accessor names. -/
structure Tbl (α : Type) where
  /-- The listed entries, rising. -/
  entries : List (Nat × α)
  deriving DecidableEq, Repr

/-- The value listed at `k`, if any. -/
def assocFind {α : Type} : List (Nat × α) → Nat → Option α
  | [], _ => none
  | (i, a) :: t, k => if i = k then some a else assocFind t k

/-- The list without an entry at `k`. -/
def assocErase {α : Type} : List (Nat × α) → Nat → List (Nat × α)
  | [], _ => []
  | (i, a) :: t, k => if i = k then assocErase t k else (i, a) :: assocErase t k

/-- The list with `v` at `k`, in rising order. -/
def assocPut {α : Type} : List (Nat × α) → Nat → α → List (Nat × α)
  | [], k, v => [(k, v)]
  | (i, a) :: t, k, v => if i = k then (k, v) :: t else if k < i then (k, v) :: (i, a) :: t else (i, a) :: assocPut t k v

/-- The empty table. -/
def tblEmpty {α : Type} : Tbl α := ⟨[]⟩

/-- What index `k` reads as, `d` being the default. -/
def tblGet {α : Type} (d : α) (t : Tbl α) (k : Nat) : α := (assocFind t.entries k).getD d

/-- Write `v` at `k`; the default removes the entry, so that the form stays canonical. -/
def tblSet {α : Type} [DecidableEq α] (d : α) (t : Tbl α) (k : Nat) (v : α) : Tbl α :=
  if v = d then ⟨assocErase t.entries k⟩ else ⟨assocPut t.entries k v⟩

/-- Apply `f` at `k`. -/
def tblMod {α : Type} [DecidableEq α] (d : α) (t : Tbl α) (k : Nat) (f : α → α) : Tbl α := tblSet d t k (f (tblGet d t k))

/-- Indices strictly rising from `lo` on. -/
def risingFrom {α : Type} : Nat → List (Nat × α) → Bool
  | _, [] => true
  | lo, (i, _) :: t => decide (lo ≤ i) && risingFrom (i + 1) t

/-- Indices strictly rising. -/
def Tbl.rising {α : Type} (t : Tbl α) : Prop := risingFrom 0 t.entries = true

/-- The canonical form, `d k` being what index `k` reads as when unlisted. -/
def tblWf {α : Type} [DecidableEq α] (d : Nat → α) (t : Tbl α) : Bool :=
  risingFrom 0 t.entries && t.entries.all (fun e => decide (e.2 ≠ d e.1))

end Sys2Proof.Machine
end

