-- ==== Sys2Proof/Machine/Units.lean ====
section
/-! DEFINITION. The state of lanes, regions, heats, the step unit, Baton, Pacer and the fault collector: plain data, field by
field as chapters 01 to 06 and 10 of spec/ name it. Times are local time in ns, voltages called units are 5 µV (R153). -/

namespace Sys2Proof.Machine

/-- The lane states (02_lanes.md, Lane states). -/
inductive LaneState where
  | DISABLED | RAMP | SWITCHING | BURST | SHED | LATCHED | FOLLOWER | HOLD | FAILED | RETIRED
  deriving DecidableEq, Repr

/-- The LANE_STATUS.STATE code. -/
def LaneState.code : LaneState → Nat
  | .DISABLED => 0 | .RAMP => 1 | .SWITCHING => 2 | .BURST => 3 | .SHED => 4 | .LATCHED => 5 | .FOLLOWER => 6 | .HOLD => 7
  | .FAILED => 8 | .RETIRED => 9

/-- The region states (03_regions_and_heats.md, Region states). -/
inductive RgnState where
  | OFF | RETAIN | STARTING | ISLAND | MERGING | MERGED | SPLITTING | DEGRADED | DARK
  deriving DecidableEq, Repr

/-- The RGN_STATUS.STATE code. -/
def RgnState.code : RgnState → Nat
  | .OFF => 0 | .RETAIN => 1 | .STARTING => 2 | .ISLAND => 3 | .MERGING => 4 | .MERGED => 5 | .SPLITTING => 6 | .DEGRADED => 7
  | .DARK => 8

/-- A region is regulating (03_regions_and_heats.md, Region states). -/
def RgnState.regulating : RgnState → Bool
  | .OFF | .STARTING | .DARK => false
  | _ => true

/-- A stage value m × 2^e of Stride's block floating point (R148). -/
structure Stage where
  m : Int
  e : Int
  deriving DecidableEq, Repr

/-- One lane macro and what Stride keeps of the lane. -/
structure Lane where
  st : LaneState := .DISABLED
  /-- The state before LATCHED (R55). -/
  prev : LaneState := .DISABLED
  /-- The state before HOLD (R72, R76). -/
  held : LaneState := .DISABLED
  /-- The fail cause (LANE_STATUS.CAUSE). -/
  cause : Nat := 0
  /-- The fast-limit retry count (R55). -/
  retry : Nat := 0
  /-- When the lane entered LATCHED (R54, R56). -/
  latchAt : Nat := 0
  /-- The run of cycles ended at the fast limit (R54). -/
  fastRun : Nat := 0
  /-- LANE_CMD.PEAK. -/
  peak : Nat := 0
  /-- LANE_CMD.TRIM, signed. -/
  trim : Int := 0
  /-- The keeper command in mA (R73). -/
  keeper : Nat := 0
  /-- The lane switches, not asleep between bursts or in the keeper (R68, R73). -/
  awake : Bool := true
  /-- Diode emulation is active (R43, R46, R48, R73). -/
  de : Bool := false
  /-- Switching cycles of the wake-up's diode emulation left (R43). -/
  deLeft : Nat := 0
  /-- I_PRI and I_SEC of the last sample, mA (R39). -/
  iPri : Nat := 0
  iSec : Nat := 0
  /-- What the last sample reported (R49, R57, R81). -/
  atCap : Bool := false
  cyc : Nat := 0
  peakMa : Nat := 0
  onTime : Nat := 0
  /-- Time counted toward an open phase, ns (R77, R78). -/
  openNs : Nat := 0
  /-- Consecutive samples with a sense mismatch (R80). -/
  mmRun : Nat := 0
  /-- The follower's on-time, in half ps (R81), and its current cap in mA (R82, R180). -/
  follOn : Nat := 0
  follCap : Rat := 0
  /-- The sum of I_SEC and the number of samples of the running balance accumulation (R182). -/
  balSum : Nat := 0
  balN : Nat := 0
  /-- LANE_COUNT. -/
  fastCyc : Nat := 0
  latches : Nat := 0
  /-- Switching time in each of the last 40 samples, newest first (R69). -/
  swRecent : List Nat := []
  deriving DecidableEq, Repr

/-- Where a region stands in its start (R44 to R48, R100). -/
inductive StartPhase where
  | idle
  /-- The start measurement runs since this time. -/
  | measuring (since : Nat)
  /-- RAMP. -/
  | ramp
  /-- Lanes DISABLED after a failed attempt at this time. -/
  | waiting (since : Nat)
  deriving DecidableEq, Repr

/-- A region's forecast mode (R299). -/
inductive FcMode where
  | FORECAST | DEMOTED | HELD
  deriving DecidableEq, Repr

/-- The RGN_PCR_STATUS.MODE code. -/
def FcMode.code : FcMode → Nat
  | .FORECAST => 0 | .DEMOTED => 1 | .HELD => 2

/-- One region: its sense macro, its monitor of vertical groups, what Stride and Pacer keep of it. -/
structure Rgn where
  st : RgnState := .OFF
  /-- The state before RETAIN (R128). -/
  before : RgnState := .OFF
  /-- The cause of OFF or DARK and the start attempts made (RGN_STATUS, R101). -/
  cause : Nat := 0
  attempts : Nat := 0
  /-- The running attempt was begun by a start command (R101). -/
  byStart : Bool := false
  /-- iso_strobe and ret_strobe (R95). -/
  iso : Bool := true
  ret : Bool := false
  /-- When iso_strobe falls while the time base is not RUNNING (R95, R536). -/
  isoDue : Option Nat := none
  /-- The phase of a start (R44 to R48, R100). -/
  phase : StartPhase := .idle
  /-- The start measurement and the ramp reference's start, units (R44, R45). -/
  meas : Nat := 0
  /-- The reference moves down to the target (R48). -/
  rampDown : Bool := false
  /-- The ramp has reached its target within ±5 mV (R96). -/
  rampDone : Bool := false
  /-- The step one after which the lanes go off (R95, R96), with the time the stop began. -/
  stopAt : Option Nat := none
  stopNs : Nat := 0
  /-- The boundary count at which SPLITTING began, and the time (R118, R536). -/
  splitAt : Nat := 0
  splitNs : Nat := 0
  /-- Consecutive samples of R50 and of R102. -/
  falseRun : Nat := 0
  lossRun : Nat := 0
  /-- The overload flag, its two counts, when it was set, and that R61 has raised its fault (R59 to R61). -/
  ovFlag : Bool := false
  ovRun : Nat := 0
  ovClr : Nat := 0
  ovSince : Nat := 0
  ovRaised : Bool := false
  /-- Consecutive samples above 1.5 A (R62). -/
  capRun : Nat := 0
  capRaised : Bool := false
  /-- Burst entries made, modulo 8 (R67). -/
  burstN : Nat := 0
  /-- The start of unbroken regulation (R101). -/
  regSince : Option Nat := none
  /-- Boundaries counted and the time since the region has had no current-mode lane (R125, R536). -/
  noLane : Option Nat := none
  noLaneNs : Nat := 0
  /-- The rescue for too few lanes has been requested and the number has stayed below since (R122). -/
  rescueLow : Bool := false
  /-- A rescue waiting for room in the step action queue (R20): the gate. -/
  rescueWait : Option Nat := none
  /-- The step that ends a grace period, and when it started (R137, R536). -/
  graceEnd : Option Nat := none
  graceNs : Nat := 0
  /-- The boundary after which the region enters DARK (R138). -/
  darkAt : Option Nat := none
  darkNs : Nat := 0
  /-- RGN_CTRL.CLR_DARK was written and takes effect at the next boundary (R96). -/
  clrDark : Bool := false
  /-- Vertical groups (R131 to R137): working groups W, failed groups, the group each spare covers (127 unused), the runs of low
  measurements, last failed group and kind. -/
  working : Nat := 96
  vgFailed : List Nat := []
  vgMap : List Nat := [127, 127, 127, 127, 127, 127, 127, 127]
  vgLow : Tbl Nat := tblEmpty
  vgLast : Nat := 127
  vgKind : Nat := 0
  /-- The Baton value, 0.5 mV (R155). -/
  batonV : Option Nat := none
  /-- The host-register source value, 0.5 mV (R155, R596). -/
  hostV : Nat := 1600
  /-- Periods without a Stride update (R72). -/
  miss : Nat := 0
  /-- Keeper entry and the held set-point, units (R72, R75, R657). -/
  keepSince : Option Nat := none
  heldRef : Nat := 0
  /-- RGN_STR_STATUS WIN, FB_ACTIVE, SPEC_ACTIVE; RGN_STR_ERR. -/
  win : Nat := 0
  fb : Bool := false
  /-- The heat runs on the built-in profile until CLR_FB (R452). -/
  builtIn : Bool := false
  /-- CLR_FB was written and takes effect at the next period. -/
  clrFb : Bool := false
  /-- RGN_STR_STATUS.SPEC_ACTIVE and RGN_STR_ERR (R159, R162). -/
  spec : Bool := false
  er : Int := 0
  /-- The selected demand u_r and the lowest active limit demand c_r (R173, R176). -/
  ur : Stage := ⟨0, -4⟩
  cr : Option Stage := none
  /-- n_r and f_r at the last issue (R167). -/
  nShare : Nat := 0
  nFoll : Nat := 0
  /-- The power integrator, 2^-16 mA (R177). -/
  iP : Int := 0
  /-- Periods, counted back from now, of recent swings, newest first, and the sign of the last (R185, R186). -/
  swings : List Nat := []
  swingSign : Int := 0
  /-- Output values of the last 4 samples, units, newest first (R108). -/
  outs : List Int := []
  /-- The latest coarse reading, 2 mV (R161). -/
  coarse : Nat := 0
  /-- Delivered current of the last 16 samples, mA, newest first (R283, R300). -/
  curs : List Nat := []
  /-- The current sum and the number of samples of the running step, M_r of the last complete step (R283). -/
  stepSum : Nat := 0
  stepN : Nat := 0
  mLast : Nat := 0
  /-- A condition of R282 has failed for the region in the running step. -/
  stepBad : Bool := false
  /-- Consecutive samples with D_T selected (R331). -/
  dtRun : Nat := 0
  /-- Forecast mode, its runs, the pre-bias steps (R299 to R302, R292). -/
  mode : FcMode := .HELD
  bad : Nat := 0
  clean : Nat := 0
  preb : List Nat := []
  /-- The mismatch window's sums and whether it still counts (R301, R303). -/
  sErr : Nat := 0
  sRef : Nat := 0
  winBad : Bool := false
  /-- Output power of the running tick and of the last 100 ticks, mW units of the Limits unit (R304, R320). -/
  pTick : Nat := 0
  pTicks : List Nat := []
  deriving DecidableEq, Repr

/-- What Stride keeps of a heat (R153 to R174). -/
structure Heat where
  /-- REF and TGT, units. -/
  ref : Nat := 0
  tgt : Nat := 0
  /-- i_H, 2^-16 mA. -/
  iH : Int := 0
  /-- Half ripple, mA. -/
  hr : Nat := 0
  /-- The error, the output demand, its shared part and the segment of the last run (R163 to R174). -/
  eH : Int := 0
  dv : Stage := ⟨0, -4⟩
  sh : Stage := ⟨0, -4⟩
  seg : Nat := 16
  /-- The slew of R158 that a lift or its withdrawal asks for until REF reaches TGT. -/
  liftSlew : Option Nat := none
  /-- The size of the last unconfirmed lift, units, while SPEC_ACTIVE stands (R298). -/
  liftVal : Nat := 0
  /-- Consecutive periods at target, and the state itself (R160). -/
  atRun : Nat := 0
  atTgt : Bool := false
  /-- The heat is in burst; consecutive samples below the threshold; burst has ended and R181 is due (R63, R181). -/
  burst : Bool := false
  burstRun : Nat := 0
  burstWait : Bool := false
  /-- The run after a burst seeds i_H (R181). -/
  seedIH : Bool := false
  /-- Ī_H of R181 for that run, mA; none: the mean of the run's own period. -/
  seedI : Option Rat := none
  /-- The heat is one that an open has just left, for which the combiner still runs (R119, R190); the load estimate that R190 puts in
  place of the forecast in that run, mA per weighted lane. -/
  splitDue : Bool := false
  fEst : Option Rat := none
  /-- Retention: the step at which the slew to VRET is due, when it was entered, the base set-point held at entry (0.5 mV), that
  the slew has begun and that the exit has (R127, R128). -/
  retDue : Option Nat := none
  retNs : Nat := 0
  retOp : Nat := 0
  retLow : Bool := false
  retOut : Bool := false
  deriving DecidableEq, Repr

/-- Where a close or open command comes from. -/
inductive MergeOrigin where
  /-- DOM_RCMD of a domain (R143). -/
  | cmd (d : Nat)
  /-- A rescue merge requested by a region (R123). -/
  | rescue (n : Nat)
  /-- The mesh change of a domain (R121). -/
  | plan (d : Nat)
  deriving DecidableEq, Repr

/-- A close or open command past its due step and not ended (R108 to R120). -/
structure PMerge where
  gate : Nat
  /-- It closes; else it opens. -/
  close : Bool
  origin : MergeOrigin
  /-- The forced step f and the first deferred step d (R114). -/
  d : Option Nat := none
  f : Option Nat := none
  /-- The forced-merge stretch has been ordered (R115). -/
  ordered : Bool := false
  /-- Consecutive boundaries at which the voltage condition failed (R109), and the time since it fails (R536). -/
  vfail : Nat := 0
  vfailNs : Option Nat := none
  /-- Held by a deferral at the last boundary. -/
  deferred : Bool := false
  /-- Boundaries at which an open has been deferred (R120). -/
  dcount : Nat := 0
  deriving DecidableEq, Repr

/-- The source of a stretch level (R315). -/
inductive StrSrc where
  | POWER | THERMAL | HOST | MERGE | EMERGENCY | CASCADE
  deriving DecidableEq, Repr

/-- A step-scheduled action (R21). -/
inductive Action where
  /-- With the processing order of its notice (R405). -/
  | ctxSwitch (c : Nat) (newUser : Bool) (ord : Nat)
  | ctxClose (c : Nat)
  | stretch (src : StrSrc) (x : Nat)
  | mesh (d : Nat) (domain : Bool)
  | close (g : Nat) (o : MergeOrigin)
  | openG (g : Nat) (o : MergeOrigin)
  | spareMap (n g : Nat)
  | stop (n d : Nat)
  | start (n d : Nat)
  | retIn (n d : Nat)
  | retOut (n d : Nat)
  | setpt (tag : Nat)
  | lift (id : Nat)
  | liftEnd (id : Nat)
  | domSetpt (d v : Nat)
  | rgnSetpt (n v : Nat)
  | period (len tag : Nat)
  | wake (h : Nat)
  | laneWake (m : Nat)
  | burst (h : Nat)
  | laneOff (m : Nat)
  | laneRetire (m : Nat)
  deriving DecidableEq, Repr

/-- The place of an action's type in the order of R21; the types that R21 does not list come last. -/
def Action.rank : Action → Nat
  | .ctxSwitch .. | .ctxClose .. => 1
  | .stretch .. => 2
  | .mesh .. => 3
  | .close .. | .openG .. => 4
  | .spareMap .. => 5
  | .stop .. => 6
  | .start .. => 7
  | .retIn .. | .retOut .. => 8
  | .setpt .. | .lift .. | .liftEnd .. | .domSetpt .. | .rgnSetpt .. => 9
  | .wake .. | .laneWake .. => 10
  | .burst .. | .laneOff .. | .laneRetire .. => 11
  | .period .. => 12

/-- An entry of the step action queue (01_architecture.md, The step action queue). -/
structure QEntry where
  due : Nat
  act : Action
  deriving DecidableEq, Repr

/-- The time-base states (R202). -/
inductive TimeBase where
  | UNSYNC | RUNNING | IDLE
  deriving DecidableEq, Repr

/-- The STP_STATUS.TB code. -/
def TimeBase.code : TimeBase → Nat
  | .UNSYNC => 0 | .RUNNING => 1 | .IDLE => 2

/-- The step unit (R193 to R203, R653). -/
structure StepUnit where
  /-- The 48-bit step count. -/
  count : Nat := 0
  tb : TimeBase := .UNSYNC
  /-- The time of the last recognised boundary; of the last edge that R194 measures from (R653). -/
  lastEdge : Option Nat := none
  edge : Option Nat := none
  /-- The COUNT of an accepted frame and the time of its stop bit (R197). -/
  bcast : Option (Nat × Nat) := none
  /-- Boundaries since the last accepted frame (R201). -/
  sinceFrame : Nat := 0
  /-- A missing broadcast has been reported since the last accepted frame. -/
  missRep : Bool := false
  /-- The end of the last gating hold (R24). -/
  holdEnd : Nat := 0
  /-- What STP_COUNT_LO captured (R253). -/
  capCount : Nat := 0
  capFine : Nat := 0
  /-- The step action queue, in entry order (R19). -/
  queue : List QEntry := []
  /-- The length of the last completed step and the stretch level applied at its opening boundary (R267). -/
  lenNs : Nat := 640
  openX : Nat := 0
  /-- The stretch level applied at the last boundary. -/
  nowX : Nat := 0
  deriving DecidableEq, Repr

/-- The state of a transaction slot (05, BAT_TXN). -/
inductive SlotState where
  | FREE | QUEUED | DEFERRED | MOVING | COMPLETE | ABORTED | REFUSED
  deriving DecidableEq, Repr

/-- The BAT_TXN.STATE code. -/
def SlotState.code : SlotState → Nat
  | .FREE => 0 | .QUEUED => 1 | .DEFERRED => 2 | .MOVING => 3 | .COMPLETE => 4 | .ABORTED => 5 | .REFUSED => 6

/-- A transaction slot (R223, R231). -/
structure Slot where
  st : SlotState := .FREE
  /-- The completion latch (R232). -/
  latch : Bool := false
  /-- BAT_TXN: STATUS, GATE, NTYPE (R223). -/
  status : Nat := 0
  gate : Bool := false
  ntype : Nat := 0
  /-- PREV, 0.5 mV (R231). -/
  prev : Nat := 0
  /-- The target: SCOPE and TARGET; VSET, 0.5 mV. -/
  scope : Bool := false
  target : Nat := 0
  vset : Nat := 0
  imm : Bool := false
  /-- The Baton values of the target's regions before the move (R231). -/
  priors : List (Nat × Option Nat) := []
  /-- When the transition executed (R233), and the due boundary of a gating one (R238). -/
  execAt : Nat := 0
  /-- A gating hold is in force. -/
  hold : Bool := false
  /-- Boundaries held at which cause 0x3 does not hold (R235). -/
  held : Nat := 0
  /-- The action executed late (R25). -/
  late : Bool := false
  /-- The place of its notice in the order of processing: deferred transitions execute in it (R21). -/
  ord : Nat := 0
  /-- When the slot's latest ack was sent (R249). -/
  ackAt : Nat := 0
  /-- The latest ack of the slot (R249). -/
  lastAck : Option (Nat × Nat) := none
  deriving DecidableEq, Repr

/-- Baton's link layer (R209 to R214). -/
structure BatonLink where
  up : Bool := false
  /-- The SEQ expected next, an error episode in force, accepted packets not covered by a LINK and when the first was accepted,
  RSEQ. -/
  rxNext : Nat := 0
  episode : Bool := false
  rxUncov : Nat := 0
  rxSince : Option Nat := none
  lastRx : Nat := 255
  /-- The SEQ sent next, TSEQ, sequenced acks not covered by a LINK with the time each was last sent, acks waiting for room. -/
  txNext : Nat := 0
  lastTx : Nat := 255
  unacked : List (BitVec 64 × Nat) := []
  wait : List (Nat × Nat) := []
  /-- Notices accepted and not yet processed (R213). -/
  rxq : List (BitVec 64) := []
  deriving DecidableEq, Repr

/-- An activity record (R254). -/
structure Rec where
  cls : Nat
  fmt : Nat
  bs : Bool
  rate : Nat
  deriving DecidableEq, Repr

/-- An ACTIVITY notice not yet due (R257). -/
structure Pend where
  due : Nat
  dw : Bool
  region : Nat
  group : Nat
  rc : Rec
  /-- Its place in the order of processing (R405). -/
  ord : Nat
  deriving DecidableEq, Repr

/-- A barrier whose due step has not passed (R285). -/
structure Barrier where
  id : Nat
  regions : List Nat
  due : Nat
  tag : Nat
  seq : Nat
  group : Nat
  kmax : Nat
  /-- Its slope check has not completed (R286). -/
  checking : Bool
  /-- The release step before any STRETCH, and the K of the last STRETCH sent (R243, R326). -/
  rel : Nat
  k : Nat
  /-- Its place in the order of processing (R405). -/
  ord : Nat
  deriving DecidableEq, Repr

/-- A pre-lift, ordered or in force (R288 to R291): the regions of its heat, its size in units, its slew code, the step of its
withdrawal, the barriers that justify it with their groups (0: unconditional or confirmed). -/
structure Lift where
  id : Nat
  regions : List Nat
  val : Nat
  slew : Nat
  at_ : Nat
  until_ : Nat
  just : List (Nat × Nat)
  executed : Bool
  deriving DecidableEq, Repr

/-- A ring entry: the forecast of one region for one step (R268): energy in fJ of the full and of the confirmed sum, t_step × v in
ns·mV, the network's correction in mA, that the region was regulating. -/
structure RingEnt where
  t : Nat
  n : Nat
  full : Rat
  conf : Rat
  tv : Rat
  corr : Int
  deriving DecidableEq, Repr

/-- A loaded correction network (R274 to R276): descriptors, local shifts, weights as integers, biases, shifts. -/
structure Model where
  nIn : Nat
  nHid : Nat
  nOut : Nat
  local_ : Bool
  r1 : Nat
  r2 : Nat
  inputs : List Nat
  sl : List Nat
  w1 : List Int
  b1 : List Int
  w2 : List Int
  w3 : List Int
  b2 : List Int
  deriving DecidableEq, Repr

/-- Pacer. -/
structure Pacer where
  rgnRec : Tbl (List Rec) := tblEmpty
  domRec : Tbl (List Rec) := tblEmpty
  pend : List Pend := []
  /-- Open groups with the last due step of their notices (R221). -/
  groups : List (Nat × Nat) := []
  /-- Barriers and the identity of the next one (R285). -/
  barriers : List Barrier := []
  nextBar : Nat := 0
  /-- Notices processed so far (R405). -/
  ord : Nat := 0
  /-- Lifts and the identity of the next one (R288). -/
  lifts : List Lift := []
  nextLift : Nat := 0
  /-- The ring of forecasts (R268). -/
  ring : List RingEnt := []
  /-- The period origin and length (R279). -/
  t0 : Nat := 0
  len : Nat := 0
  /-- Learned bins, index 256 n + b, 0.25 mA (R280). -/
  bins : Tbl Int := tblEmpty
  /-- Row maxima (R451). -/
  rowMax : Tbl Nat := tblEmpty
  /-- The loaded correction network (R274 to R278). -/
  model : Option Model := none
  /-- The image of a load in progress (R278). -/
  loading : Option (List Byte) := none
  /-- Steps of the running window counted as boundaries, and that it cannot count (R303). -/
  winSteps : Nat := 0
  winVoid : Bool := true
  /-- A condition of R282 has failed for every region in the running step. -/
  stepVoid : Bool := true
  deriving DecidableEq, Repr

/-- A pending event (R421): its merge count, what its earliest event captured, its detection time. -/
structure Evt where
  merge : Nat
  akind : AKind
  addr : Nat
  master : FMaster
  access : FAccess
  step : Nat
  fine : Nat
  notime : Bool
  at_ : Nat
  deriving DecidableEq, Repr

/-- What the collector keeps of a source beside its registers (R420 to R427). -/
structure SrcState where
  pend : Option Evt := none
  winStart : Nat := 0
  lastEvent : Nat := 0
  /-- The sample period of the latest event merged into the pending one (R420). -/
  lastPer : Nat := 0
  /-- The end of a level source's condition. -/
  condEnd : Nat := 0
  /-- The pending event takes the severe set whatever its count (R455). -/
  force : Bool := false
  deriving DecidableEq, Repr

/-- A record of the event log (R447). -/
structure LogRec where
  src : Nat
  recovery : Bool
  sev : Bool
  merge : Nat
  akind : Nat
  addr : Nat
  master : Nat
  access : Nat
  step : Nat
  fine : Nat
  notime : Bool
  deriving DecidableEq, Repr

/-- The fault collector beside its registers. -/
structure Collector where
  srcs : Tbl SrcState := tblEmpty
  /-- The source processed last (R442). -/
  last : Nat := 127
  log : List LogRec := []
  /-- Records not yet copied to the log partition (R448). -/
  fresh : List LogRec := []
  /-- The last heartbeat (R423). -/
  hb : Nat := 0
  /-- Entry to the trap handler, held trap (R432, R433). -/
  trapAt : Option Nat := none
  trapHeld : Bool := false
  /-- The running handler's time-out has been raised (R433). -/
  trapLate : Bool := false
  /-- When chip_rst_req was asserted (R436). -/
  crstAt : Option Nat := none
  /-- Marshal is halted by the reset-storm guard (R435). -/
  halted : Bool := false
  /-- The release of the last block reset that a reaction caused (R435). -/
  brRelease : Option Nat := none
  deriving DecidableEq, Repr

end Sys2Proof.Machine
end

