-- ==== Sys2Proof/Machine/Arith.lean ====
section
/-! DEFINITION. Exact arithmetic and its roundings: nearest with ties to even, Stride's block floating point (R148 to R151),
clamps, saturating counts, means. -/

namespace Sys2Proof.Machine

/-- The nearest whole number, ties to even. -/
def roundEven (x : Rat) : Int :=
  let f := x.floor
  let d := x - f
  if d < 1 / 2 then f else if 1 / 2 < d then f + 1 else if f % 2 = 0 then f else f + 1

/-- The nearest whole number not below 0, ties to even. -/
def roundNat (x : Rat) : Nat := (roundEven x).toNat

/-- `x` held between `lo` and `hi`. -/
def clampI (lo hi x : Int) : Int := max lo (min hi x)

/-- `x` held between `lo` and `hi`. -/
def clampN (lo hi x : Nat) : Nat := max lo (min hi x)

/-- The least whole number at or above a / b; 0 when b is 0. -/
def ceilDiv (a b : Nat) : Nat := (a + b - 1) / b

/-- The least whole number at or above x, and 0 when x is negative. -/
def ceilNat (x : Rat) : Nat := (-((-x).floor)).toNat

/-- A count that saturates. -/
def satAdd (top a b : Nat) : Nat := min top (a + b)

/-- 2^e. -/
def pow2 (e : Int) : Rat := if 0 ≤ e then (2 ^ e.toNat : Nat) else 1 / ((2 ^ (-e).toNat : Nat) : Rat)

/-- The value of a stage entry. -/
def Stage.val (x : Stage) : Rat := (x.m : Rat) * pow2 x.e

/-- The greatest mantissa (R148). -/
def mantMax : Int := 131071

/-- Every value rounds to a mantissa in range at exponent e (R148). -/
def stageFits (vs : List Rat) (e : Int) : Bool :=
  vs.all fun v => let m := roundEven (v / pow2 e); decide (-mantMax ≤ m ∧ m ≤ mantMax)

/-- The smallest exponent of lo, lo + 1, … at which every value fits; `none` when none of the `n` does (R148). -/
def stageExp (vs : List Rat) : Nat → Int → Option Int
  | 0, _ => none
  | n + 1, e => if stageFits vs e then some e else stageExp vs n (e + 1)

/-- A current stage (R152): the values rounded at the shared exponent chosen from -10 to -4 over the active values, with R149's clamp;
and whether it saturated. -/
def rndStage (vs : List Rat) : List Stage × Bool :=
  if vs.isEmpty then ([], false) else
  match stageExp vs 7 (-10) with
  | some e => (vs.map fun v => ⟨roundEven (v / pow2 e), e⟩, false)
  | none => (vs.map fun v => ⟨clampI (-mantMax) mantMax (roundEven (v / pow2 (-4))), -4⟩, true)

/-- One value rounded into a current stage. -/
def rndStage1 (v : Rat) : Stage × Bool :=
  match rndStage [v] with
  | (x :: _, b) => (x, b)
  | ([], b) => (⟨0, -4⟩, b)

/-- An integrator's saturation, ±8,192 mA in 2^-16 mA (R153). -/
def intMax : Int := 8192 * 65536

/-- A value in mA rounded to 2^-16 mA and saturated (R153). -/
def rnd16 (x : Rat) : Int := clampI (-intMax) intMax (roundEven (x * 65536))

/-- An integrator's value in mA. -/
def of16 (i : Int) : Rat := (i : Rat) / 65536

/-- The sum of a list of naturals. -/
def sumN (l : List Nat) : Nat := l.foldl (· + ·) 0

/-- The sum of a list of rationals. -/
def sumR (l : List Rat) : Rat := l.foldl (· + ·) 0

/-- The mean; 0 of an empty list. -/
def meanR (l : List Rat) : Rat := if l.isEmpty then 0 else sumR l / l.length

/-- The greatest; 0 of an empty list. -/
def maxN (l : List Nat) : Nat := l.foldl max 0

/-- Two's complement of `w` bits. -/
def signed (w v : Nat) : Int := if v % 2 ^ w < 2 ^ (w - 1) then ((v % 2 ^ w : Nat) : Int) else ((v % 2 ^ w : Nat) : Int) - 2 ^ w

/-- The `w` bits that hold a signed value. -/
def unsigned (w : Nat) (x : Int) : Nat := (x % (2 ^ w : Int)).toNat

/-- A sorted copy (insertion). -/
def insertN (a : Nat) : List Nat → List Nat
  | [] => [a]
  | b :: t => if a ≤ b then a :: b :: t else b :: insertN a t

/-- Rising order. -/
def sortN (l : List Nat) : List Nat := l.foldr insertN []

/-- Twice the median: the middle value twice, or the two middle values added (log entry 9). -/
def median2 (l : List Nat) : Nat :=
  let t := sortN l
  let n := t.length
  if n = 0 then 0 else if n % 2 = 1 then 2 * t.getD (n / 2) 0 else t.getD (n / 2 - 1) 0 + t.getD (n / 2) 0

/-- The first of a list with the least key. -/
def argMin {α : Type} (key : α → Rat) : List α → Option α
  | [] => none
  | a :: t => match argMin key t with
    | none => some a
    | some b => if key a ≤ key b then some a else some b

end Sys2Proof.Machine
end

