-- ==== Sys2Proof/Config.lean ====
section
/-! DEFINITION. What an implementation or an integration fixes and the spec does not give, and the free values: constants
with no body, so that a statement holds whatever they are. -/

namespace Sys2Proof.Config

/-- QB_VERSION of the release: releases differ only in it and in IDCODE [31:28] (R651). -/
opaque version : Word

/-- The integrator's JEDEC manufacturer code, IDCODE [11:1] (R599). -/
opaque jedecId : BitVec 11

/-- The `n`th 128-bit output of the DRBG (R468, R534, R614): a free value, applied to State.freeCtr. -/
opaque nonce128 : Nat → BitVec 128

/-- The `n`th 64-bit output of the DRBG (R468). -/
opaque nonce64 : Nat → BitVec 64

/-- AES-256-GCM authenticated decryption of NIST SP 800-38D (R464, R524): key, IV, additional data, ciphertext, tag; `none`
when the tag fails. -/
opaque gcmOpen : BitVec 256 → BitVec 96 → List Byte → List Byte → BitVec 128 → Option (List Byte)

/-- AES-256-GCM tag and ciphertext (R464, R524). -/
opaque gcmSeal : BitVec 256 → BitVec 96 → List Byte → List Byte → List Byte × BitVec 128

/-- SHA-384 (R517, R527, R538). -/
opaque sha384 : List Byte → BitVec 384

/-- ECDSA P-384 verification (R527, R613): public key, signature, signed bytes. -/
opaque ecdsaOk : List Byte → List Byte → List Byte → Bool

/-- AES key unwrap of RFC 3394 under K_ROOT (R526): the page key and the Relay group key, `none` when it fails. -/
opaque keyUnwrap : BitVec 256 → List Byte → Option (BitVec 256 × BitVec 256)

/-- The session key of R469 (HKDF, RFC 5869, with SHA-384): input keying material, salt, info. -/
opaque hkdf : BitVec 256 → List Byte → List Byte → BitVec 256

/-- What the payload of a settings image sets: the FORMAT of the payload is not laid out in the spec (R527). Pairs of a byte
offset of the register window and the word stored there. -/
opaque settingsWords : List Byte → List (Nat × Word)

/-- The retire list that a settings payload holds (R86, R87). -/
opaque settingsRetire : List Byte → List Nat

/-- The domain of every placed region that a settings payload gives (R3): pairs of region and domain. -/
opaque settingsPlace : List Byte → List (Nat × Nat)

/-- The gates that a settings payload marks allowed (R91). -/
opaque settingsGates : List Byte → List Nat

/-- The heat plan of a settings payload: the allowed gates closed in domain mode (R121). -/
opaque settingsPlan : List Byte → List Nat

/-- The settings built into a firmware image (R546). -/
opaque defaultSettings : List Byte → List Byte

/-- The voltage-table section of a calibration payload (R529): its bytes, hashed against VT_HASH. -/
opaque calVtBytes : List Byte → List Byte

/-- The voltage-table codes of a calibration payload, region by region, point by point (R345). -/
opaque calVt : List Byte → List (Nat × List Nat)

/-- The Gauge trims of a calibration payload: sensor, G_s, O_s (R358, R359). -/
opaque calTrims : List Byte → List (Nat × Int × Int)

/-- The coefficient and exponent tables of a model payload: pairs of a byte offset of the register window and a word; `none`
when the tables fail their checks (R529). -/
opaque modelTables : List Byte → Option (List (Nat × Word))

/-- The correction-network image of a model payload (R274 to R276). -/
opaque modelImage : List Byte → List Byte

/-- The wrapped keys and the epoch of a key package payload (R526, R540). -/
opaque keyPackage : List Byte → Nat × List Byte

/-- The partition table of a header payload: ID, offset, size (R523). -/
opaque partTable : List Byte → List (Nat × Nat × Nat)

/-- A word of the privileged debug register of PRIV_DBG, whose contents the spec does not give (R598). -/
opaque privDebug : Nat → Word

/-- The retry-after time of a NACK during a block reset, µs (R249): the spec says 'the time left to RESET_EXIT' and no figure. A free
value, applied to State.freeCtr. -/
opaque retryAfter : Nat → Nat

/-- The records that a 64 KiB sector of the LOG partition holds: the layout of a sector is not in the spec (R560). -/
opaque logPerSector : Nat

/-! What the spec states no result for (log entry 3): free values, each of its own operands. -/

/-- The voltage of a conversion below 0, by its magnitude (GAU_VIN, RGN_GAU_V). -/
opaque belowZero : Nat → Nat

/-- DOM_TEL_V.V_MEAN of a domain without a regulating region: the domain and the time. -/
opaque meanOfNone : Nat → Nat → Nat

/-- B_P of R175 where V or the weight is 0: P_r, REF and the weight. -/
opaque powerPerLane : Nat → Nat → Nat → Rat

/-- RGN_PCR_MM.ERR of a window whose reference sum is 0: the region and the sum of its errors. -/
opaque errorOverZero : Nat → Nat → Nat

/-- What a recovery record holds in place of an event's merge count, master and access, and the indices of an empty log: applied to
State.freeCtr. -/
opaque recordValue : Nat → Nat

/-- Word `k` of the record that `n` records were lost (R560). -/
opaque lossWord : Nat → Nat → Nat

end Sys2Proof.Config
end

