-- ==== Sys2Proof/Machine/RegMap.lean ====
section
/-! DEFINITION. The register map: every register of the 1 MiB window with its place (R564, spec/13_host_ports_and_registers.md
and the register lists of the chapters) and every field with its bits, access code and reset value, from the field tables of
the chapters. Names are the manual's own. -/

namespace Sys2Proof.Machine

/-- The access codes (spec/00_scope.md, Registers). -/
inductive Access where
  | rw | ro | w1c | w1s | wo | lk
  deriving DecidableEq, Repr

/-- Every register, or register array, of the map. -/
inductive Reg where
  | QB_ID | QB_VERSION | QB_CTRL | QB_STATUS | QB_LANE_CFG | QB_PORTB_CFG | QB_IRQ_STATUS | QB_IRQ_EN
  | QB_PORT_ERR | QB_SEM | QB_SEM_FORCE | QB_MBX_DATA | QB_MBX_CTRL | QB_MBX_STATUS | FLT_STATUS | FLT_CTRL
  | FLT_RECOV | FLT_PIN | FLT_FE0 | FLT_FE1 | FLT_FE2 | FLT_FE3 | FLT_FE4 | FLT_IPEND
  | FLT_IEN | FLT_LOG_CTRL | FLT_LOG0 | FLT_LOG1 | FLT_LOG2 | FLT_LOG3 | FLT_LOG4 | FLT_CLS
  | FLT_RCT | FLT_CNT | STP_COUNT_LO | STP_COUNT_HI | STP_FINE | STP_STATUS | BAT_CFG | BAT_STATUS
  | BAT_ERR | BAT_ERR2 | BAT_TXN | LIM_CFG | LIM_CAP_REG | LIM_MODEL | LIM_SUP | LIM_CAP_STATUS
  | LIM_PWR0 | LIM_PWR1 | LIM_STR_STATUS | LIM_STR_HOST | LIM_STR_SRC | LIM_TH_CFG | LIM_ALERT | LIM_VT_CFG
  | LIM_BOOST | LIM_CNT | GAU_CFG | GAU_STATUS | GAU_QDATA_LO | GAU_QDATA_HI | GAU_QSTAT | GAU_VIN
  | GAU_TH_CFG | GAU_TH_HYS | GAU_TMAX | GAU_TSTAT | GAU_OTH_EN | GAU_TRIM_SEL | GAU_TRIM | GAU_MOD_CFG
  | GAU_MOD_TIM | GAU_MOD_STAT | GAU_INJ | GAU_MOD_DLY | GAU_SEQ | LED_STATUS | LED_SNAP | LED_SN_LO
  | LED_SN_HI | LED_SN_REM | LED_SCRUB | LED_REC0 | LED_REC1 | LED_REC2 | LED_REC3 | LED_REC4
  | LED_REC5 | LED_REC_CTRL | LED_CTX | LED_CR_GRANT | LED_CR_POOL | LED_CR_ESC_OUT | LED_CR_ESC_IN | LED_CR_NET
  | LED_CR_ALLOC | LED_CR_LOG | LED_TV_LO | LED_TV_HI | RLY_CFG | RLY_STATUS | RLY_CTRL | RLY_GRP_BUDGET
  | RLY_GRP_STATUS | RLY_CR_CFG | RLY_CR_LNET | RLY_PSTAT | RLY_PERR | RLY_PSEQ_TX | RLY_PSEQ_RX | RLY_PPEER
  | BOOT_STATUS | BOOT_CFG | BOOT_COUNT | BOOT_TIME | BOOT_FW_VER | BOOT_FW_ALT | BOOT_UPD_STATUS | BOOT_UPD_DATA
  | BOOT_TRIAL | KEY_STATUS | KEY_SVN | BOOT_CHIP | BOOT_UNIT_LO | BOOT_UNIT_HI | TST_STATUS | TST_OBS_A
  | TST_OBS_B | TST_LST_CTRL | TST_LST_RES | PF_CTRL | PF_CFG | PF_RGN | PF_TRIG | PF_TRIG_STEP_LO
  | PF_TRIG_STEP_HI | PF_PAT_MASK_LO | PF_PAT_MASK_HI | PF_PAT_VAL_LO | PF_PAT_VAL_HI | PF_STATUS | DOM_CTRL | DOM_STATUS
  | DOM_SETPT | DOM_SP_CFG | DOM_VRANGE | DOM_RCMD | DOM_RCMD_STEP_LO | DOM_RCMD_STEP_HI | DOM_RCMD_RES | DOM_MERGE_CFG
  | DOM_PCR_CFG | DOM_TEL_I | DOM_TEL_P | DOM_TEL_V | DOM_TEL_CTRL | RGN_CTRL | RGN_STATUS | RGN_SETPT
  | RGN_EVT | RGN_LANE_SET0 | RGN_LANE_SET1 | RGN_RETAIN | RGN_VG_STATUS | RGN_STR_CFG | RGN_STR_STATUS | RGN_STR_ERR
  | RGN_PCR_STATUS | RGN_PCR_FCAST | RGN_PCR_MM | RGN_LIM | RGN_GAU_T | RGN_GAU_TM | RGN_GAU_V | RGN_VG_FAIL
  | RGN_VG_MAP | RGN_VT | LANE_CTRL | LANE_CFG | LANE_STATUS | LANE_CMD | LANE_SENSE | LANE_EVT
  | LANE_COUNT | COEF_M | COEF_X | COEF_CTRL | COEF_STATUS | COEF_MODEL | COEF_CNT | COEF_MM_CFG
  | STR_SEG | STR_PHDR | STR_CFG | REP_CFG | REP_PERIOD | REP_PHASE | REP_SEL | REP_BIN
  | PF_WIN
  deriving DecidableEq, Repr

/-- A field of a register: bits [hi:lo], access and reset value. -/
structure Fld where
  reg : Reg
  hi : Nat
  lo : Nat
  acc : Access
  rst : Nat
  deriving DecidableEq, Repr

/-- Where an array lies: element (i, j) is at base + s1·i + s2·j, for i < n1 and j < n2. -/
structure Place where
  base : Nat
  n1 : Nat
  s1 : Nat
  n2 : Nat
  s2 : Nat
  deriving DecidableEq, Repr

/-- The place of every register (byte offsets in the window). -/
def Reg.place : Reg → Place
  | .QB_ID => ⟨0x00000, 1, 0x0, 1, 0x0⟩
  | .QB_VERSION => ⟨0x00004, 1, 0x0, 1, 0x0⟩
  | .QB_CTRL => ⟨0x00008, 1, 0x0, 1, 0x0⟩
  | .QB_STATUS => ⟨0x0000C, 1, 0x0, 1, 0x0⟩
  | .QB_LANE_CFG => ⟨0x00010, 1, 0x0, 1, 0x0⟩
  | .QB_PORTB_CFG => ⟨0x00014, 1, 0x0, 1, 0x0⟩
  | .QB_IRQ_STATUS => ⟨0x00020, 2, 0x4, 1, 0x0⟩
  | .QB_IRQ_EN => ⟨0x00028, 2, 0x4, 1, 0x0⟩
  | .QB_PORT_ERR => ⟨0x00030, 2, 0x4, 1, 0x0⟩
  | .QB_SEM => ⟨0x00040, 16, 0x4, 1, 0x0⟩
  | .QB_SEM_FORCE => ⟨0x00080, 1, 0x0, 1, 0x0⟩
  | .QB_MBX_DATA => ⟨0x00100, 2, 0x80, 16, 0x4⟩
  | .QB_MBX_CTRL => ⟨0x00140, 2, 0x80, 1, 0x0⟩
  | .QB_MBX_STATUS => ⟨0x00144, 2, 0x80, 1, 0x0⟩
  | .FLT_STATUS => ⟨0x01000, 1, 0x0, 1, 0x0⟩
  | .FLT_CTRL => ⟨0x01004, 1, 0x0, 1, 0x0⟩
  | .FLT_RECOV => ⟨0x01008, 1, 0x0, 1, 0x0⟩
  | .FLT_PIN => ⟨0x0100C, 1, 0x0, 1, 0x0⟩
  | .FLT_FE0 => ⟨0x01010, 1, 0x0, 1, 0x0⟩
  | .FLT_FE1 => ⟨0x01014, 1, 0x0, 1, 0x0⟩
  | .FLT_FE2 => ⟨0x01018, 1, 0x0, 1, 0x0⟩
  | .FLT_FE3 => ⟨0x0101C, 1, 0x0, 1, 0x0⟩
  | .FLT_FE4 => ⟨0x01020, 1, 0x0, 1, 0x0⟩
  | .FLT_IPEND => ⟨0x01040, 4, 0x4, 1, 0x0⟩
  | .FLT_IEN => ⟨0x01050, 2, 0x10, 4, 0x4⟩
  | .FLT_LOG_CTRL => ⟨0x01080, 1, 0x0, 1, 0x0⟩
  | .FLT_LOG0 => ⟨0x01084, 1, 0x0, 1, 0x0⟩
  | .FLT_LOG1 => ⟨0x01088, 1, 0x0, 1, 0x0⟩
  | .FLT_LOG2 => ⟨0x0108C, 1, 0x0, 1, 0x0⟩
  | .FLT_LOG3 => ⟨0x01090, 1, 0x0, 1, 0x0⟩
  | .FLT_LOG4 => ⟨0x01094, 1, 0x0, 1, 0x0⟩
  | .FLT_CLS => ⟨0x01200, 112, 0x4, 1, 0x0⟩
  | .FLT_RCT => ⟨0x01400, 112, 0x4, 1, 0x0⟩
  | .FLT_CNT => ⟨0x01600, 112, 0x4, 1, 0x0⟩
  | .STP_COUNT_LO => ⟨0x02000, 1, 0x0, 1, 0x0⟩
  | .STP_COUNT_HI => ⟨0x02004, 1, 0x0, 1, 0x0⟩
  | .STP_FINE => ⟨0x02008, 1, 0x0, 1, 0x0⟩
  | .STP_STATUS => ⟨0x0200C, 1, 0x0, 1, 0x0⟩
  | .BAT_CFG => ⟨0x02040, 1, 0x0, 1, 0x0⟩
  | .BAT_STATUS => ⟨0x02044, 1, 0x0, 1, 0x0⟩
  | .BAT_ERR => ⟨0x02048, 1, 0x0, 1, 0x0⟩
  | .BAT_ERR2 => ⟨0x0204C, 1, 0x0, 1, 0x0⟩
  | .BAT_TXN => ⟨0x02400, 256, 0x4, 1, 0x0⟩
  | .LIM_CFG => ⟨0x03000, 1, 0x0, 1, 0x0⟩
  | .LIM_CAP_REG => ⟨0x03004, 1, 0x0, 1, 0x0⟩
  | .LIM_MODEL => ⟨0x03008, 1, 0x0, 1, 0x0⟩
  | .LIM_SUP => ⟨0x0300C, 1, 0x0, 1, 0x0⟩
  | .LIM_CAP_STATUS => ⟨0x03010, 1, 0x0, 1, 0x0⟩
  | .LIM_PWR0 => ⟨0x03014, 1, 0x0, 1, 0x0⟩
  | .LIM_PWR1 => ⟨0x03018, 1, 0x0, 1, 0x0⟩
  | .LIM_STR_STATUS => ⟨0x0301C, 1, 0x0, 1, 0x0⟩
  | .LIM_STR_HOST => ⟨0x03020, 1, 0x0, 1, 0x0⟩
  | .LIM_STR_SRC => ⟨0x03024, 1, 0x0, 1, 0x0⟩
  | .LIM_TH_CFG => ⟨0x03028, 1, 0x0, 1, 0x0⟩
  | .LIM_ALERT => ⟨0x0302C, 1, 0x0, 1, 0x0⟩
  | .LIM_VT_CFG => ⟨0x03030, 1, 0x0, 1, 0x0⟩
  | .LIM_BOOST => ⟨0x03034, 1, 0x0, 1, 0x0⟩
  | .LIM_CNT => ⟨0x03038, 1, 0x0, 1, 0x0⟩
  | .GAU_CFG => ⟨0x04000, 1, 0x0, 1, 0x0⟩
  | .GAU_STATUS => ⟨0x04004, 1, 0x0, 1, 0x0⟩
  | .GAU_QDATA_LO => ⟨0x04008, 1, 0x0, 1, 0x0⟩
  | .GAU_QDATA_HI => ⟨0x0400C, 1, 0x0, 1, 0x0⟩
  | .GAU_QSTAT => ⟨0x04010, 1, 0x0, 1, 0x0⟩
  | .GAU_VIN => ⟨0x04014, 1, 0x0, 1, 0x0⟩
  | .GAU_TH_CFG => ⟨0x04018, 1, 0x0, 1, 0x0⟩
  | .GAU_TH_HYS => ⟨0x0401C, 1, 0x0, 1, 0x0⟩
  | .GAU_TMAX => ⟨0x04020, 1, 0x0, 1, 0x0⟩
  | .GAU_TSTAT => ⟨0x04024, 1, 0x0, 1, 0x0⟩
  | .GAU_OTH_EN => ⟨0x04028, 1, 0x0, 1, 0x0⟩
  | .GAU_TRIM_SEL => ⟨0x0402C, 1, 0x0, 1, 0x0⟩
  | .GAU_TRIM => ⟨0x04030, 1, 0x0, 1, 0x0⟩
  | .GAU_MOD_CFG => ⟨0x04040, 16, 0x4, 1, 0x0⟩
  | .GAU_MOD_TIM => ⟨0x04080, 16, 0x4, 1, 0x0⟩
  | .GAU_MOD_STAT => ⟨0x040C0, 16, 0x4, 1, 0x0⟩
  | .GAU_INJ => ⟨0x04100, 16, 0x8, 2, 0x4⟩
  | .GAU_MOD_DLY => ⟨0x04180, 16, 0x4, 1, 0x0⟩
  | .GAU_SEQ => ⟨0x04200, 16, 0x80, 32, 0x4⟩
  | .LED_STATUS => ⟨0x05000, 1, 0x0, 1, 0x0⟩
  | .LED_SNAP => ⟨0x05004, 1, 0x0, 1, 0x0⟩
  | .LED_SN_LO => ⟨0x05010, 8, 0x10, 1, 0x0⟩
  | .LED_SN_HI => ⟨0x05014, 8, 0x10, 1, 0x0⟩
  | .LED_SN_REM => ⟨0x05018, 8, 0x10, 1, 0x0⟩
  | .LED_SCRUB => ⟨0x050C0, 1, 0x0, 1, 0x0⟩
  | .LED_REC0 => ⟨0x050D0, 1, 0x0, 1, 0x0⟩
  | .LED_REC1 => ⟨0x050D4, 1, 0x0, 1, 0x0⟩
  | .LED_REC2 => ⟨0x050D8, 1, 0x0, 1, 0x0⟩
  | .LED_REC3 => ⟨0x050DC, 1, 0x0, 1, 0x0⟩
  | .LED_REC4 => ⟨0x050E0, 1, 0x0, 1, 0x0⟩
  | .LED_REC5 => ⟨0x050E4, 1, 0x0, 1, 0x0⟩
  | .LED_REC_CTRL => ⟨0x050E8, 1, 0x0, 1, 0x0⟩
  | .LED_CTX => ⟨0x05100, 64, 0x4, 1, 0x0⟩
  | .LED_CR_GRANT => ⟨0x05200, 1, 0x0, 1, 0x0⟩
  | .LED_CR_POOL => ⟨0x05204, 1, 0x0, 1, 0x0⟩
  | .LED_CR_ESC_OUT => ⟨0x05208, 1, 0x0, 1, 0x0⟩
  | .LED_CR_ESC_IN => ⟨0x0520C, 1, 0x0, 1, 0x0⟩
  | .LED_CR_NET => ⟨0x05210, 1, 0x0, 1, 0x0⟩
  | .LED_CR_ALLOC => ⟨0x05214, 1, 0x0, 1, 0x0⟩
  | .LED_CR_LOG => ⟨0x05218, 1, 0x0, 1, 0x0⟩
  | .LED_TV_LO => ⟨0x05800, 64, 0x8, 1, 0x0⟩
  | .LED_TV_HI => ⟨0x05804, 64, 0x8, 1, 0x0⟩
  | .RLY_CFG => ⟨0x06000, 1, 0x0, 1, 0x0⟩
  | .RLY_STATUS => ⟨0x06004, 1, 0x0, 1, 0x0⟩
  | .RLY_CTRL => ⟨0x06008, 1, 0x0, 1, 0x0⟩
  | .RLY_GRP_BUDGET => ⟨0x0600C, 1, 0x0, 1, 0x0⟩
  | .RLY_GRP_STATUS => ⟨0x06010, 1, 0x0, 1, 0x0⟩
  | .RLY_CR_CFG => ⟨0x06014, 1, 0x0, 1, 0x0⟩
  | .RLY_CR_LNET => ⟨0x06020, 5, 0x4, 1, 0x0⟩
  | .RLY_PSTAT => ⟨0x06100, 5, 0x20, 1, 0x0⟩
  | .RLY_PERR => ⟨0x06104, 5, 0x20, 1, 0x0⟩
  | .RLY_PSEQ_TX => ⟨0x06108, 5, 0x20, 1, 0x0⟩
  | .RLY_PSEQ_RX => ⟨0x0610C, 5, 0x20, 1, 0x0⟩
  | .RLY_PPEER => ⟨0x06110, 5, 0x20, 1, 0x0⟩
  | .BOOT_STATUS => ⟨0x07000, 1, 0x0, 1, 0x0⟩
  | .BOOT_CFG => ⟨0x07004, 1, 0x0, 1, 0x0⟩
  | .BOOT_COUNT => ⟨0x07008, 1, 0x0, 1, 0x0⟩
  | .BOOT_TIME => ⟨0x0700C, 1, 0x0, 1, 0x0⟩
  | .BOOT_FW_VER => ⟨0x07010, 1, 0x0, 1, 0x0⟩
  | .BOOT_FW_ALT => ⟨0x07014, 1, 0x0, 1, 0x0⟩
  | .BOOT_UPD_STATUS => ⟨0x07020, 1, 0x0, 1, 0x0⟩
  | .BOOT_UPD_DATA => ⟨0x07024, 1, 0x0, 1, 0x0⟩
  | .BOOT_TRIAL => ⟨0x07028, 1, 0x0, 1, 0x0⟩
  | .KEY_STATUS => ⟨0x07040, 1, 0x0, 1, 0x0⟩
  | .KEY_SVN => ⟨0x07044, 1, 0x0, 1, 0x0⟩
  | .BOOT_CHIP => ⟨0x07048, 1, 0x0, 1, 0x0⟩
  | .BOOT_UNIT_LO => ⟨0x0704C, 1, 0x0, 1, 0x0⟩
  | .BOOT_UNIT_HI => ⟨0x07050, 1, 0x0, 1, 0x0⟩
  | .TST_STATUS => ⟨0x08000, 1, 0x0, 1, 0x0⟩
  | .TST_OBS_A => ⟨0x08004, 1, 0x0, 1, 0x0⟩
  | .TST_OBS_B => ⟨0x08008, 1, 0x0, 1, 0x0⟩
  | .TST_LST_CTRL => ⟨0x08010, 1, 0x0, 1, 0x0⟩
  | .TST_LST_RES => ⟨0x08014, 1, 0x0, 1, 0x0⟩
  | .PF_CTRL => ⟨0x08100, 1, 0x0, 1, 0x0⟩
  | .PF_CFG => ⟨0x08104, 1, 0x0, 1, 0x0⟩
  | .PF_RGN => ⟨0x08108, 1, 0x0, 1, 0x0⟩
  | .PF_TRIG => ⟨0x0810C, 1, 0x0, 1, 0x0⟩
  | .PF_TRIG_STEP_LO => ⟨0x08110, 1, 0x0, 1, 0x0⟩
  | .PF_TRIG_STEP_HI => ⟨0x08114, 1, 0x0, 1, 0x0⟩
  | .PF_PAT_MASK_LO => ⟨0x08118, 1, 0x0, 1, 0x0⟩
  | .PF_PAT_MASK_HI => ⟨0x0811C, 1, 0x0, 1, 0x0⟩
  | .PF_PAT_VAL_LO => ⟨0x08120, 1, 0x0, 1, 0x0⟩
  | .PF_PAT_VAL_HI => ⟨0x08124, 1, 0x0, 1, 0x0⟩
  | .PF_STATUS => ⟨0x08128, 1, 0x0, 1, 0x0⟩
  | .DOM_CTRL => ⟨0x10000, 4, 0x400, 1, 0x0⟩
  | .DOM_STATUS => ⟨0x10004, 4, 0x400, 1, 0x0⟩
  | .DOM_SETPT => ⟨0x10008, 4, 0x400, 1, 0x0⟩
  | .DOM_SP_CFG => ⟨0x10010, 4, 0x400, 1, 0x0⟩
  | .DOM_VRANGE => ⟨0x10014, 4, 0x400, 1, 0x0⟩
  | .DOM_RCMD => ⟨0x10040, 4, 0x400, 1, 0x0⟩
  | .DOM_RCMD_STEP_LO => ⟨0x10044, 4, 0x400, 1, 0x0⟩
  | .DOM_RCMD_STEP_HI => ⟨0x10048, 4, 0x400, 1, 0x0⟩
  | .DOM_RCMD_RES => ⟨0x1004C, 4, 0x400, 1, 0x0⟩
  | .DOM_MERGE_CFG => ⟨0x10050, 4, 0x400, 1, 0x0⟩
  | .DOM_PCR_CFG => ⟨0x10060, 4, 0x400, 1, 0x0⟩
  | .DOM_TEL_I => ⟨0x10080, 4, 0x400, 1, 0x0⟩
  | .DOM_TEL_P => ⟨0x10084, 4, 0x400, 1, 0x0⟩
  | .DOM_TEL_V => ⟨0x10088, 4, 0x400, 1, 0x0⟩
  | .DOM_TEL_CTRL => ⟨0x1008C, 4, 0x400, 1, 0x0⟩
  | .RGN_CTRL => ⟨0x20000, 256, 0x100, 1, 0x0⟩
  | .RGN_STATUS => ⟨0x20004, 256, 0x100, 1, 0x0⟩
  | .RGN_SETPT => ⟨0x20008, 256, 0x100, 1, 0x0⟩
  | .RGN_EVT => ⟨0x2000C, 256, 0x100, 1, 0x0⟩
  | .RGN_LANE_SET0 => ⟨0x20010, 256, 0x100, 1, 0x0⟩
  | .RGN_LANE_SET1 => ⟨0x20014, 256, 0x100, 1, 0x0⟩
  | .RGN_RETAIN => ⟨0x2001C, 256, 0x100, 1, 0x0⟩
  | .RGN_VG_STATUS => ⟨0x20020, 256, 0x100, 1, 0x0⟩
  | .RGN_STR_CFG => ⟨0x20040, 256, 0x100, 1, 0x0⟩
  | .RGN_STR_STATUS => ⟨0x20044, 256, 0x100, 1, 0x0⟩
  | .RGN_STR_ERR => ⟨0x20048, 256, 0x100, 1, 0x0⟩
  | .RGN_PCR_STATUS => ⟨0x20060, 256, 0x100, 1, 0x0⟩
  | .RGN_PCR_FCAST => ⟨0x20064, 256, 0x100, 1, 0x0⟩
  | .RGN_PCR_MM => ⟨0x20068, 256, 0x100, 1, 0x0⟩
  | .RGN_LIM => ⟨0x200A0, 256, 0x100, 1, 0x0⟩
  | .RGN_GAU_T => ⟨0x200B0, 256, 0x100, 1, 0x0⟩
  | .RGN_GAU_TM => ⟨0x200B4, 256, 0x100, 1, 0x0⟩
  | .RGN_GAU_V => ⟨0x200B8, 256, 0x100, 1, 0x0⟩
  | .RGN_VG_FAIL => ⟨0x20024, 256, 0x100, 4, 0x4⟩
  | .RGN_VG_MAP => ⟨0x20034, 256, 0x100, 2, 0x4⟩
  | .RGN_VT => ⟨0x20080, 256, 0x100, 8, 0x4⟩
  | .LANE_CTRL => ⟨0x40000, 2048, 0x40, 1, 0x0⟩
  | .LANE_CFG => ⟨0x40004, 2048, 0x40, 1, 0x0⟩
  | .LANE_STATUS => ⟨0x40008, 2048, 0x40, 1, 0x0⟩
  | .LANE_CMD => ⟨0x4000C, 2048, 0x40, 1, 0x0⟩
  | .LANE_SENSE => ⟨0x40010, 2048, 0x40, 1, 0x0⟩
  | .LANE_EVT => ⟨0x40014, 2048, 0x40, 1, 0x0⟩
  | .LANE_COUNT => ⟨0x40018, 2048, 0x40, 1, 0x0⟩
  | .COEF_M => ⟨0x80000, 32768, 0x4, 1, 0x0⟩
  | .COEF_X => ⟨0xA0000, 1024, 0x4, 1, 0x0⟩
  | .COEF_CTRL => ⟨0xBF000, 1, 0x0, 1, 0x0⟩
  | .COEF_STATUS => ⟨0xBF004, 1, 0x0, 1, 0x0⟩
  | .COEF_MODEL => ⟨0xBF008, 1, 0x0, 1, 0x0⟩
  | .COEF_CNT => ⟨0xBF00C, 1, 0x0, 1, 0x0⟩
  | .COEF_MM_CFG => ⟨0xBF010, 1, 0x0, 1, 0x0⟩
  | .STR_SEG => ⟨0xC0000, 16, 0x100, 32, 0x4⟩
  | .STR_PHDR => ⟨0xC0080, 16, 0x100, 1, 0x0⟩
  | .STR_CFG => ⟨0xC1000, 1, 0x0, 1, 0x0⟩
  | .REP_CFG => ⟨0xC2000, 1, 0x0, 1, 0x0⟩
  | .REP_PERIOD => ⟨0xC2004, 1, 0x0, 1, 0x0⟩
  | .REP_PHASE => ⟨0xC2008, 1, 0x0, 1, 0x0⟩
  | .REP_SEL => ⟨0xC200C, 1, 0x0, 1, 0x0⟩
  | .REP_BIN => ⟨0xC2400, 128, 0x4, 1, 0x0⟩
  | .PF_WIN => ⟨0xE0000, 2048, 0x20, 8, 0x4⟩

def QB_ID.ID : Fld := ⟨.QB_ID, 31, 0, .ro, 0xB202048⟩
def QB_VERSION.PATCH : Fld := ⟨.QB_VERSION, 15, 0, .ro, 0⟩
def QB_VERSION.MINOR : Fld := ⟨.QB_VERSION, 23, 16, .ro, 0⟩
def QB_VERSION.MAJOR : Fld := ⟨.QB_VERSION, 31, 24, .ro, 0⟩
def QB_CTRL.SOFT_RST : Fld := ⟨.QB_CTRL, 0, 0, .wo, 0⟩
def QB_CTRL.KEY : Fld := ⟨.QB_CTRL, 31, 16, .wo, 0⟩
def QB_STATUS.READY : Fld := ⟨.QB_STATUS, 0, 0, .ro, 0⟩
def QB_STATUS.TB_IDLE : Fld := ⟨.QB_STATUS, 1, 1, .ro, 0⟩
def QB_STATUS.LOCK : Fld := ⟨.QB_STATUS, 2, 2, .ro, 0⟩
def QB_STATUS.MARSHAL_RUN : Fld := ⟨.QB_STATUS, 3, 3, .ro, 0⟩
def QB_STATUS.PAUSE : Fld := ⟨.QB_STATUS, 4, 4, .ro, 0⟩
def QB_STATUS.SCRUB : Fld := ⟨.QB_STATUS, 5, 5, .ro, 0⟩
def QB_STATUS.RECOVERY : Fld := ⟨.QB_STATUS, 6, 6, .ro, 0⟩
def QB_STATUS.ACTIVE : Fld := ⟨.QB_STATUS, 7, 7, .ro, 0⟩
def QB_LANE_CFG.FSW : Fld := ⟨.QB_LANE_CFG, 3, 0, .rw, 4⟩
def QB_LANE_CFG.FSW_RUN : Fld := ⟨.QB_LANE_CFG, 7, 4, .ro, 4⟩
def QB_PORTB_CFG.ADDR : Fld := ⟨.QB_PORTB_CFG, 6, 0, .lk, 92⟩
def QB_IRQ_STATUS.FLT : Fld := ⟨.QB_IRQ_STATUS, 0, 0, .ro, 0⟩
def QB_IRQ_STATUS.MBX : Fld := ⟨.QB_IRQ_STATUS, 1, 1, .w1c, 0⟩
def QB_IRQ_STATUS.GAU_WM : Fld := ⟨.QB_IRQ_STATUS, 2, 2, .w1c, 0⟩
def QB_IRQ_STATUS.SCRUB_DONE : Fld := ⟨.QB_IRQ_STATUS, 3, 3, .w1c, 0⟩
def QB_IRQ_STATUS.WARM : Fld := ⟨.QB_IRQ_STATUS, 4, 4, .w1c, 0⟩
def QB_IRQ_STATUS.READY : Fld := ⟨.QB_IRQ_STATUS, 5, 5, .w1c, 0⟩
def QB_IRQ_EN.EN : Fld := ⟨.QB_IRQ_EN, 5, 0, .rw, 0⟩
def QB_PORT_ERR.RSVD : Fld := ⟨.QB_PORT_ERR, 7, 0, .rw, 0⟩
def QB_PORT_ERR.SEM : Fld := ⟨.QB_PORT_ERR, 15, 8, .rw, 0⟩
def QB_PORT_ERR.PEC : Fld := ⟨.QB_PORT_ERR, 23, 16, .rw, 0⟩
def QB_PORT_ERR.TMO : Fld := ⟨.QB_PORT_ERR, 31, 24, .rw, 0⟩
def QB_SEM.OWNER : Fld := ⟨.QB_SEM, 1, 0, .ro, 0⟩
def QB_SEM.TAG : Fld := ⟨.QB_SEM, 15, 8, .rw, 0⟩
def QB_SEM.TAKE : Fld := ⟨.QB_SEM, 16, 16, .wo, 0⟩
def QB_SEM.REL : Fld := ⟨.QB_SEM, 17, 17, .wo, 0⟩
def QB_SEM.FORCED : Fld := ⟨.QB_SEM, 18, 18, .w1c, 0⟩
def QB_SEM_FORCE.SEM : Fld := ⟨.QB_SEM_FORCE, 3, 0, .wo, 0⟩
def QB_SEM_FORCE.KEY : Fld := ⟨.QB_SEM_FORCE, 31, 16, .wo, 0⟩
def QB_MBX_DATA.DATA : Fld := ⟨.QB_MBX_DATA, 31, 0, .rw, 0⟩
def QB_MBX_CTRL.GO : Fld := ⟨.QB_MBX_CTRL, 0, 0, .wo, 0⟩
def QB_MBX_STATUS.STATE : Fld := ⟨.QB_MBX_STATUS, 1, 0, .ro, 0⟩
def QB_MBX_STATUS.STATUS : Fld := ⟨.QB_MBX_STATUS, 9, 2, .ro, 0⟩
def QB_MBX_STATUS.OVR : Fld := ⟨.QB_MBX_STATUS, 10, 10, .w1c, 0⟩
def QB_MBX_STATUS.XPORT : Fld := ⟨.QB_MBX_STATUS, 11, 11, .w1c, 0⟩
def FLT_STATUS.FAULTN : Fld := ⟨.FLT_STATUS, 0, 0, .ro, 1⟩
def FLT_STATUS.LOST : Fld := ⟨.FLT_STATUS, 1, 1, .w1c, 0⟩
def FLT_STATUS.CRST : Fld := ⟨.FLT_STATUS, 2, 2, .w1c, 0⟩
def FLT_STATUS.RST_STORM : Fld := ⟨.FLT_STATUS, 3, 3, .w1c, 0⟩
def FLT_STATUS.TRAP : Fld := ⟨.FLT_STATUS, 4, 4, .ro, 0⟩
def FLT_STATUS.SEV_N : Fld := ⟨.FLT_STATUS, 11, 5, .ro, 0⟩
def FLT_CTRL.FE_ARM : Fld := ⟨.FLT_CTRL, 0, 0, .wo, 0⟩
def FLT_CTRL.FN_REL : Fld := ⟨.FLT_CTRL, 1, 1, .wo, 0⟩
def FLT_CTRL.HB : Fld := ⟨.FLT_CTRL, 2, 2, .wo, 0⟩
def FLT_RECOV.RECOV : Fld := ⟨.FLT_RECOV, 31, 0, .ro, 0⟩
def FLT_PIN.SRC : Fld := ⟨.FLT_PIN, 6, 0, .ro, 0⟩
def FLT_PIN.VALID : Fld := ⟨.FLT_PIN, 7, 7, .ro, 0⟩
def FLT_FE0.SRC : Fld := ⟨.FLT_FE0, 6, 0, .ro, 0⟩
def FLT_FE0.VALID : Fld := ⟨.FLT_FE0, 7, 7, .ro, 0⟩
def FLT_FE0.MASTER : Fld := ⟨.FLT_FE0, 10, 8, .ro, 0⟩
def FLT_FE0.ACCESS : Fld := ⟨.FLT_FE0, 13, 11, .ro, 0⟩
def FLT_FE0.AKIND : Fld := ⟨.FLT_FE0, 16, 14, .ro, 0⟩
def FLT_FE0.SEV : Fld := ⟨.FLT_FE0, 17, 17, .ro, 0⟩
def FLT_FE0.MULTI : Fld := ⟨.FLT_FE0, 25, 18, .ro, 0⟩
def FLT_FE1.ADDR : Fld := ⟨.FLT_FE1, 31, 0, .ro, 0⟩
def FLT_FE2.STEP_LO : Fld := ⟨.FLT_FE2, 31, 0, .ro, 0⟩
def FLT_FE3.STEP_HI : Fld := ⟨.FLT_FE3, 15, 0, .ro, 0⟩
def FLT_FE4.FINE : Fld := ⟨.FLT_FE4, 19, 0, .ro, 0⟩
def FLT_FE4.NOTIME : Fld := ⟨.FLT_FE4, 20, 20, .ro, 0⟩
def FLT_IPEND.PEND : Fld := ⟨.FLT_IPEND, 31, 0, .w1c, 0⟩
def FLT_IEN.EN : Fld := ⟨.FLT_IEN, 31, 0, .rw, 0⟩
def FLT_LOG_CTRL.POP : Fld := ⟨.FLT_LOG_CTRL, 0, 0, .wo, 0⟩
def FLT_LOG_CTRL.LEVEL : Fld := ⟨.FLT_LOG_CTRL, 9, 1, .ro, 0⟩
def FLT_LOG_CTRL.LOADED : Fld := ⟨.FLT_LOG_CTRL, 10, 10, .ro, 0⟩
def FLT_LOG_CTRL.OVW : Fld := ⟨.FLT_LOG_CTRL, 18, 11, .rw, 0⟩
def FLT_LOG0.SRC : Fld := ⟨.FLT_LOG0, 6, 0, .ro, 0⟩
def FLT_LOG0.SEV : Fld := ⟨.FLT_LOG0, 7, 7, .ro, 0⟩
def FLT_LOG0.MASTER : Fld := ⟨.FLT_LOG0, 10, 8, .ro, 0⟩
def FLT_LOG0.ACCESS : Fld := ⟨.FLT_LOG0, 13, 11, .ro, 0⟩
def FLT_LOG0.AKIND : Fld := ⟨.FLT_LOG0, 16, 14, .ro, 0⟩
def FLT_LOG0.MERGED : Fld := ⟨.FLT_LOG0, 24, 17, .ro, 0⟩
def FLT_LOG0.RECOVERY : Fld := ⟨.FLT_LOG0, 25, 25, .ro, 0⟩
def FLT_LOG1.ADDR : Fld := ⟨.FLT_LOG1, 31, 0, .ro, 0⟩
def FLT_LOG2.STEP_LO : Fld := ⟨.FLT_LOG2, 31, 0, .ro, 0⟩
def FLT_LOG3.STEP_HI : Fld := ⟨.FLT_LOG3, 15, 0, .ro, 0⟩
def FLT_LOG4.FINE : Fld := ⟨.FLT_LOG4, 19, 0, .ro, 0⟩
def FLT_LOG4.NOTIME : Fld := ⟨.FLT_LOG4, 20, 20, .ro, 0⟩
def FLT_CLS.N : Fld := ⟨.FLT_CLS, 7, 0, .rw, 0⟩
def FLT_CLS.W : Fld := ⟨.FLT_CLS, 21, 8, .rw, 1000⟩
def FLT_RCT.NORM : Fld := ⟨.FLT_RCT, 4, 0, .rw, 0⟩
def FLT_RCT.SEV : Fld := ⟨.FLT_RCT, 9, 5, .rw, 0⟩
def FLT_RCT.EN : Fld := ⟨.FLT_RCT, 10, 10, .rw, 1⟩
def FLT_RCT.Q : Fld := ⟨.FLT_RCT, 26, 11, .rw, 0x2710⟩
def FLT_CNT.TOTAL : Fld := ⟨.FLT_CNT, 15, 0, .rw, 0⟩
def FLT_CNT.WCOUNT : Fld := ⟨.FLT_CNT, 23, 16, .ro, 0⟩
def FLT_CNT.SEV : Fld := ⟨.FLT_CNT, 24, 24, .ro, 0⟩
def FLT_CNT.FHOLD : Fld := ⟨.FLT_CNT, 25, 25, .ro, 0⟩
def FLT_CNT.PEND : Fld := ⟨.FLT_CNT, 26, 26, .ro, 0⟩
def FLT_CNT.RECOV : Fld := ⟨.FLT_CNT, 31, 27, .ro, 0⟩
def STP_COUNT_LO.COUNT_LO : Fld := ⟨.STP_COUNT_LO, 31, 0, .ro, 0⟩
def STP_COUNT_HI.COUNT_HI : Fld := ⟨.STP_COUNT_HI, 15, 0, .ro, 0⟩
def STP_FINE.FINE : Fld := ⟨.STP_FINE, 19, 0, .ro, 0⟩
def STP_STATUS.TB : Fld := ⟨.STP_STATUS, 1, 0, .ro, 0⟩
def STP_STATUS.JUMP : Fld := ⟨.STP_STATUS, 2, 2, .w1c, 0⟩
def STP_STATUS.BCAST_MISS : Fld := ⟨.STP_STATUS, 3, 3, .w1c, 0⟩
def STP_STATUS.SHORT_STEP : Fld := ⟨.STP_STATUS, 4, 4, .w1c, 0⟩
def STP_STATUS.GATE_HOLD : Fld := ⟨.STP_STATUS, 5, 5, .ro, 0⟩
def STP_STATUS.QUEUE_USED : Fld := ⟨.STP_STATUS, 25, 16, .ro, 0⟩
def BAT_CFG.GATE_TO : Fld := ⟨.BAT_CFG, 6, 0, .rw, 50⟩
def BAT_STATUS.UP : Fld := ⟨.BAT_STATUS, 0, 0, .ro, 0⟩
def BAT_STATUS.RSEQ : Fld := ⟨.BAT_STATUS, 8, 1, .ro, 255⟩
def BAT_STATUS.TSEQ : Fld := ⟨.BAT_STATUS, 16, 9, .ro, 255⟩
def BAT_STATUS.UNACK : Fld := ⟨.BAT_STATUS, 24, 17, .ro, 0⟩
def BAT_ERR.CRC : Fld := ⟨.BAT_ERR, 7, 0, .rw, 0⟩
def BAT_ERR.SEQ : Fld := ⟨.BAT_ERR, 15, 8, .rw, 0⟩
def BAT_ERR.ENC : Fld := ⟨.BAT_ERR, 23, 16, .rw, 0⟩
def BAT_ERR.DROP : Fld := ⟨.BAT_ERR, 31, 24, .rw, 0⟩
def BAT_ERR2.BCAST : Fld := ⟨.BAT_ERR2, 7, 0, .rw, 0⟩
def BAT_TXN.STATE : Fld := ⟨.BAT_TXN, 2, 0, .ro, 0⟩
def BAT_TXN.DONE : Fld := ⟨.BAT_TXN, 3, 3, .ro, 0⟩
def BAT_TXN.STATUS : Fld := ⟨.BAT_TXN, 7, 4, .ro, 0⟩
def BAT_TXN.GATE : Fld := ⟨.BAT_TXN, 8, 8, .ro, 0⟩
def BAT_TXN.NTYPE : Fld := ⟨.BAT_TXN, 12, 9, .ro, 0⟩
def BAT_TXN.PREV : Fld := ⟨.BAT_TXN, 24, 13, .ro, 0⟩
def LIM_CFG.CAPSRC : Fld := ⟨.LIM_CFG, 1, 0, .rw, 0⟩
def LIM_CFG.LEAD : Fld := ⟨.LIM_CFG, 9, 2, .rw, 64⟩
def LIM_CFG.PK : Fld := ⟨.LIM_CFG, 16, 10, .rw, 20⟩
def LIM_CAP_REG.CAP : Fld := ⟨.LIM_CAP_REG, 11, 0, .rw, 3000⟩
def LIM_CAP_REG.FB : Fld := ⟨.LIM_CAP_REG, 27, 16, .rw, 1500⟩
def LIM_MODEL.EFF : Fld := ⟨.LIM_MODEL, 9, 0, .lk, 880⟩
def LIM_MODEL.P_FIX : Fld := ⟨.LIM_MODEL, 19, 10, .lk, 0⟩
def LIM_MODEL.P_IDLE : Fld := ⟨.LIM_MODEL, 31, 20, .rw, 600⟩
def LIM_SUP.SUP : Fld := ⟨.LIM_SUP, 11, 0, .lk, 3000⟩
def LIM_CAP_STATUS.CAP : Fld := ⟨.LIM_CAP_STATUS, 11, 0, .ro, 1500⟩
def LIM_CAP_STATUS.SRC : Fld := ⟨.LIM_CAP_STATUS, 13, 12, .ro, 0⟩
def LIM_CAP_STATUS.PCAP_LOST : Fld := ⟨.LIM_CAP_STATUS, 14, 14, .w1c, 0⟩
def LIM_CAP_STATUS.ANA_STALE : Fld := ⟨.LIM_CAP_STATUS, 15, 15, .w1c, 0⟩
def LIM_CAP_STATUS.DUTY : Fld := ⟨.LIM_CAP_STATUS, 25, 16, .ro, 0⟩
def LIM_CAP_STATUS.FALLBACK : Fld := ⟨.LIM_CAP_STATUS, 26, 26, .ro, 1⟩
def LIM_PWR0.P_TICK : Fld := ⟨.LIM_PWR0, 11, 0, .ro, 0⟩
def LIM_PWR0.A1 : Fld := ⟨.LIM_PWR0, 23, 12, .ro, 0⟩
def LIM_PWR1.A10 : Fld := ⟨.LIM_PWR1, 11, 0, .ro, 0⟩
def LIM_PWR1.PEAK : Fld := ⟨.LIM_PWR1, 23, 12, .ro, 0⟩
def LIM_PWR1.CLR_PEAK : Fld := ⟨.LIM_PWR1, 24, 24, .wo, 0⟩
def LIM_STR_STATUS.LEVEL : Fld := ⟨.LIM_STR_STATUS, 13, 0, .ro, 0⟩
def LIM_STR_STATUS.SRC : Fld := ⟨.LIM_STR_STATUS, 16, 14, .ro, 0⟩
def LIM_STR_STATUS.LOWEST : Fld := ⟨.LIM_STR_STATUS, 17, 17, .ro, 0⟩
def LIM_STR_STATUS.FLOOR_PEND : Fld := ⟨.LIM_STR_STATUS, 18, 18, .ro, 0⟩
def LIM_STR_STATUS.LATE_ORD : Fld := ⟨.LIM_STR_STATUS, 19, 19, .w1c, 0⟩
def LIM_STR_HOST.LEVEL : Fld := ⟨.LIM_STR_HOST, 13, 0, .rw, 0⟩
def LIM_STR_SRC.POWER : Fld := ⟨.LIM_STR_SRC, 13, 0, .ro, 0⟩
def LIM_STR_SRC.THERMAL : Fld := ⟨.LIM_STR_SRC, 29, 16, .ro, 0⟩
def LIM_TH_CFG.ICAP : Fld := ⟨.LIM_TH_CFG, 7, 0, .rw, 150⟩
def LIM_TH_CFG.STEP : Fld := ⟨.LIM_TH_CFG, 11, 8, .rw, 4⟩
def LIM_TH_CFG.XMAX : Fld := ⟨.LIM_TH_CFG, 19, 12, .rw, 64⟩
def LIM_TH_CFG.APPROACH : Fld := ⟨.LIM_TH_CFG, 26, 20, .rw, 120⟩
def LIM_ALERT.HOLD : Fld := ⟨.LIM_ALERT, 9, 0, .rw, 100⟩
def LIM_ALERT.ALERT : Fld := ⟨.LIM_ALERT, 10, 10, .ro, 0⟩
def LIM_ALERT.APPR : Fld := ⟨.LIM_ALERT, 11, 11, .ro, 0⟩
def LIM_ALERT.ALERT_EVT : Fld := ⟨.LIM_ALERT, 12, 12, .w1c, 0⟩
def LIM_VT_CFG.NOM : Fld := ⟨.LIM_VT_CFG, 3, 0, .lk, 12⟩
def LIM_VT_CFG.FLOOR : Fld := ⟨.LIM_VT_CFG, 7, 4, .lk, 0⟩
def LIM_VT_CFG.CUR : Fld := ⟨.LIM_VT_CFG, 11, 8, .ro, 12⟩
def LIM_BOOST.W_PT : Fld := ⟨.LIM_BOOST, 11, 0, .rw, 100⟩
def LIM_CNT.QFULL : Fld := ⟨.LIM_CNT, 7, 0, .rw, 0⟩
def LIM_CNT.CAP_LOSS : Fld := ⟨.LIM_CNT, 15, 8, .rw, 0⟩
def LIM_CNT.LOWEST : Fld := ⟨.LIM_CNT, 23, 16, .rw, 0⟩
def LIM_CNT.ACK_TO : Fld := ⟨.LIM_CNT, 31, 24, .rw, 0⟩
def GAU_CFG.HKQ : Fld := ⟨.GAU_CFG, 0, 0, .rw, 0⟩
def GAU_CFG.WM : Fld := ⟨.GAU_CFG, 10, 1, .rw, 512⟩
def GAU_CFG.QCLR : Fld := ⟨.GAU_CFG, 11, 11, .wo, 0⟩
def GAU_STATUS.HK_OVR : Fld := ⟨.GAU_STATUS, 7, 0, .rw, 0⟩
def GAU_STATUS.VIN_BAD : Fld := ⟨.GAU_STATUS, 8, 8, .w1c, 0⟩
def GAU_STATUS.EVAL : Fld := ⟨.GAU_STATUS, 9, 9, .ro, 0⟩
def GAU_QDATA_LO.DATA : Fld := ⟨.GAU_QDATA_LO, 31, 0, .ro, 0⟩
def GAU_QDATA_HI.DATA : Fld := ⟨.GAU_QDATA_HI, 31, 0, .ro, 0xC0000000⟩
def GAU_QSTAT.LEVEL : Fld := ⟨.GAU_QSTAT, 10, 0, .ro, 0⟩
def GAU_QSTAT.WM : Fld := ⟨.GAU_QSTAT, 11, 11, .ro, 0⟩
def GAU_QSTAT.OVF : Fld := ⟨.GAU_QSTAT, 19, 12, .rw, 0⟩
def GAU_VIN.VIN : Fld := ⟨.GAU_VIN, 15, 0, .ro, 0x4650⟩
def GAU_TH_CFG.WARN : Fld := ⟨.GAU_TH_CFG, 7, 0, .rw, 95⟩
def GAU_TH_CFG.THR : Fld := ⟨.GAU_TH_CFG, 15, 8, .lk, 105⟩
def GAU_TH_CFG.SD : Fld := ⟨.GAU_TH_CFG, 23, 16, .lk, 125⟩
def GAU_TH_HYS.WARN_HYS : Fld := ⟨.GAU_TH_HYS, 4, 0, .rw, 3⟩
def GAU_TH_HYS.THR_HYS : Fld := ⟨.GAU_TH_HYS, 9, 5, .lk, 5⟩
def GAU_TH_HYS.SD_HYS : Fld := ⟨.GAU_TH_HYS, 14, 10, .lk, 15⟩
def GAU_TH_HYS.NBR_MARGIN : Fld := ⟨.GAU_TH_HYS, 19, 15, .rw, 5⟩
def GAU_TMAX.CACHE : Fld := ⟨.GAU_TMAX, 15, 0, .ro, 0x8000⟩
def GAU_TMAX.LOGIC : Fld := ⟨.GAU_TMAX, 31, 16, .ro, 0x8000⟩
def GAU_TSTAT.PEAK : Fld := ⟨.GAU_TSTAT, 15, 0, .ro, 0x8000⟩
def GAU_TSTAT.CLR_PEAK : Fld := ⟨.GAU_TSTAT, 16, 16, .wo, 0⟩
def GAU_TSTAT.WARN : Fld := ⟨.GAU_TSTAT, 17, 17, .ro, 0⟩
def GAU_TSTAT.THROT : Fld := ⟨.GAU_TSTAT, 18, 18, .ro, 0⟩
def GAU_TSTAT.SHUT : Fld := ⟨.GAU_TSTAT, 19, 19, .ro, 0⟩
def GAU_TSTAT.NVM_OK : Fld := ⟨.GAU_TSTAT, 20, 20, .ro, 0⟩
def GAU_OTH_EN.EN : Fld := ⟨.GAU_OTH_EN, 31, 0, .lk, 0xFFFF⟩
def GAU_TRIM_SEL.SENSOR : Fld := ⟨.GAU_TRIM_SEL, 9, 0, .rw, 0⟩
def GAU_TRIM.G : Fld := ⟨.GAU_TRIM, 11, 0, .ro, 0⟩
def GAU_TRIM.O : Fld := ⟨.GAU_TRIM, 23, 12, .ro, 0⟩
def GAU_TRIM.VALID : Fld := ⟨.GAU_TRIM, 24, 24, .ro, 0⟩
def GAU_MOD_CFG.EN : Fld := ⟨.GAU_MOD_CFG, 0, 0, .rw, 1⟩
def GAU_MOD_CFG.RSRC : Fld := ⟨.GAU_MOD_CFG, 3, 1, .rw, 5⟩
def GAU_MOD_CFG.ISRC : Fld := ⟨.GAU_MOD_CFG, 6, 4, .rw, 0⟩
def GAU_MOD_CFG.RLEN : Fld := ⟨.GAU_MOD_CFG, 12, 7, .rw, 15⟩
def GAU_MOD_CFG.ILEN : Fld := ⟨.GAU_MOD_CFG, 14, 13, .rw, 0⟩
def GAU_MOD_CFG.RSW : Fld := ⟨.GAU_MOD_CFG, 15, 15, .wo, 0⟩
def GAU_MOD_CFG.ISW : Fld := ⟨.GAU_MOD_CFG, 16, 16, .wo, 0⟩
def GAU_MOD_CFG.SDIV : Fld := ⟨.GAU_MOD_CFG, 26, 17, .rw, 0⟩
def GAU_MOD_TIM.TPER : Fld := ⟨.GAU_MOD_TIM, 15, 0, .rw, 1000⟩
def GAU_MOD_STAT.IDROP : Fld := ⟨.GAU_MOD_STAT, 7, 0, .rw, 0⟩
def GAU_MOD_STAT.RDROP : Fld := ⟨.GAU_MOD_STAT, 15, 8, .rw, 0⟩
def GAU_MOD_STAT.ACT : Fld := ⟨.GAU_MOD_STAT, 17, 16, .ro, 0⟩
def GAU_MOD_STAT.ENTRY : Fld := ⟨.GAU_MOD_STAT, 23, 18, .ro, 0⟩
def GAU_INJ.IN_E : Fld := ⟨.GAU_INJ, 5, 0, .rw, 0⟩
def GAU_INJ.OSR_E : Fld := ⟨.GAU_INJ, 8, 6, .rw, 0⟩
def GAU_INJ.Q_E : Fld := ⟨.GAU_INJ, 9, 9, .rw, 0⟩
def GAU_INJ.IN_O : Fld := ⟨.GAU_INJ, 21, 16, .rw, 0⟩
def GAU_INJ.OSR_O : Fld := ⟨.GAU_INJ, 24, 22, .rw, 0⟩
def GAU_INJ.Q_O : Fld := ⟨.GAU_INJ, 25, 25, .rw, 0⟩
def GAU_MOD_DLY.RDLY : Fld := ⟨.GAU_MOD_DLY, 15, 0, .rw, 0⟩
def GAU_MOD_DLY.IDLY : Fld := ⟨.GAU_MOD_DLY, 31, 16, .rw, 0⟩
def GAU_SEQ.IN_E : Fld := ⟨.GAU_SEQ, 5, 0, .rw, 0⟩
def GAU_SEQ.OSR_E : Fld := ⟨.GAU_SEQ, 8, 6, .rw, 0⟩
def GAU_SEQ.Q_E : Fld := ⟨.GAU_SEQ, 9, 9, .rw, 0⟩
def GAU_SEQ.IN_O : Fld := ⟨.GAU_SEQ, 21, 16, .rw, 0⟩
def GAU_SEQ.OSR_O : Fld := ⟨.GAU_SEQ, 24, 22, .rw, 0⟩
def GAU_SEQ.Q_O : Fld := ⟨.GAU_SEQ, 25, 25, .rw, 0⟩
def LED_STATUS.RUN_CTX : Fld := ⟨.LED_STATUS, 5, 0, .ro, 0⟩
def LED_STATUS.RUN_VALID : Fld := ⟨.LED_STATUS, 6, 6, .ro, 0⟩
def LED_STATUS.SCRUB : Fld := ⟨.LED_STATUS, 7, 7, .ro, 0⟩
def LED_STATUS.CTX_ERR : Fld := ⟨.LED_STATUS, 8, 8, .w1c, 0⟩
def LED_STATUS.AUTO_REL : Fld := ⟨.LED_STATUS, 9, 9, .w1c, 0⟩
def LED_SNAP.SNAP : Fld := ⟨.LED_SNAP, 0, 0, .wo, 0⟩
def LED_SNAP.VALID : Fld := ⟨.LED_SNAP, 1, 1, .ro, 0⟩
def LED_SNAP.SEL : Fld := ⟨.LED_SNAP, 7, 2, .rw, 0⟩
def LED_SNAP.BUSY : Fld := ⟨.LED_SNAP, 8, 8, .ro, 0⟩
def LED_SN_LO.COUNT_LO : Fld := ⟨.LED_SN_LO, 31, 0, .ro, 0⟩
def LED_SN_HI.COUNT_HI : Fld := ⟨.LED_SN_HI, 31, 0, .ro, 0⟩
def LED_SN_REM.REM : Fld := ⟨.LED_SN_REM, 31, 0, .ro, 0⟩
def LED_SCRUB.PHASE : Fld := ⟨.LED_SCRUB, 1, 0, .ro, 0⟩
def LED_SCRUB.CTX : Fld := ⟨.LED_SCRUB, 7, 2, .ro, 0⟩
def LED_SCRUB.DONE_EVT : Fld := ⟨.LED_SCRUB, 8, 8, .w1c, 0⟩
def LED_SCRUB.OVERRUN : Fld := ⟨.LED_SCRUB, 9, 9, .w1c, 0⟩
def LED_SCRUB.TIME : Fld := ⟨.LED_SCRUB, 21, 10, .ro, 0⟩
def LED_REC0.CTX : Fld := ⟨.LED_REC0, 5, 0, .ro, 0⟩
def LED_REC0.END : Fld := ⟨.LED_REC0, 7, 6, .ro, 0⟩
def LED_REC0.STEP_HI : Fld := ⟨.LED_REC0, 31, 16, .ro, 0⟩
def LED_REC1.STEP_LO : Fld := ⟨.LED_REC1, 31, 0, .ro, 0⟩
def LED_REC2.ATTR_LO : Fld := ⟨.LED_REC2, 31, 0, .ro, 0⟩
def LED_REC3.ATTR_HI : Fld := ⟨.LED_REC3, 31, 0, .ro, 0⟩
def LED_REC4.SPEC_LO : Fld := ⟨.LED_REC4, 31, 0, .ro, 0⟩
def LED_REC5.SPEC_HI : Fld := ⟨.LED_REC5, 31, 0, .ro, 0⟩
def LED_REC_CTRL.POP : Fld := ⟨.LED_REC_CTRL, 0, 0, .wo, 0⟩
def LED_REC_CTRL.LEVEL : Fld := ⟨.LED_REC_CTRL, 5, 1, .ro, 0⟩
def LED_REC_CTRL.LOADED : Fld := ⟨.LED_REC_CTRL, 6, 6, .ro, 0⟩
def LED_REC_CTRL.OVF : Fld := ⟨.LED_REC_CTRL, 14, 7, .rw, 0⟩
def LED_CTX.STATE : Fld := ⟨.LED_CTX, 1, 0, .ro, 0⟩
def LED_CTX.REL : Fld := ⟨.LED_CTX, 2, 2, .wo, 0⟩
def LED_CR_GRANT.GRANT : Fld := ⟨.LED_CR_GRANT, 31, 0, .lk, 0⟩
def LED_CR_POOL.POOL : Fld := ⟨.LED_CR_POOL, 31, 0, .ro, 0⟩
def LED_CR_ESC_OUT.ESC_OUT : Fld := ⟨.LED_CR_ESC_OUT, 31, 0, .ro, 0⟩
def LED_CR_ESC_IN.ESC_IN : Fld := ⟨.LED_CR_ESC_IN, 31, 0, .ro, 0⟩
def LED_CR_NET.NET : Fld := ⟨.LED_CR_NET, 31, 0, .ro, 0⟩
def LED_CR_ALLOC.REGION : Fld := ⟨.LED_CR_ALLOC, 7, 0, .rw, 0⟩
def LED_CR_ALLOC.AMOUNT : Fld := ⟨.LED_CR_ALLOC, 24, 8, .rw, 0⟩
def LED_CR_ALLOC.GO : Fld := ⟨.LED_CR_ALLOC, 25, 25, .wo, 0⟩
def LED_CR_ALLOC.RES : Fld := ⟨.LED_CR_ALLOC, 27, 26, .ro, 0⟩
def LED_CR_LOG.USED : Fld := ⟨.LED_CR_LOG, 8, 0, .ro, 0⟩
def LED_CR_LOG.OPEN : Fld := ⟨.LED_CR_LOG, 17, 9, .ro, 0⟩
def LED_TV_LO.E_LO : Fld := ⟨.LED_TV_LO, 31, 0, .ro, 0⟩
def LED_TV_HI.E_HI : Fld := ⟨.LED_TV_HI, 15, 0, .ro, 0⟩
def LED_TV_HI.STATE : Fld := ⟨.LED_TV_HI, 18, 16, .ro, 0⟩
def LED_TV_HI.SEQ : Fld := ⟨.LED_TV_HI, 31, 24, .ro, 0⟩
def RLY_CFG.MODE : Fld := ⟨.RLY_CFG, 1, 0, .lk, 0⟩
def RLY_CFG.CREDIT : Fld := ⟨.RLY_CFG, 2, 2, .lk, 0⟩
def RLY_CFG.ROLE : Fld := ⟨.RLY_CFG, 3, 3, .lk, 0⟩
def RLY_CFG.PAIR_POS : Fld := ⟨.RLY_CFG, 4, 4, .lk, 0⟩
def RLY_CFG.ID : Fld := ⟨.RLY_CFG, 14, 5, .lk, 0⟩
def RLY_CFG.PORT_EN : Fld := ⟨.RLY_CFG, 19, 15, .lk, 0⟩
def RLY_CFG.HB_TO : Fld := ⟨.RLY_CFG, 22, 20, .lk, 2⟩
def RLY_STATUS.PAIR : Fld := ⟨.RLY_STATUS, 2, 0, .ro, 0⟩
def RLY_STATUS.ACTING : Fld := ⟨.RLY_STATUS, 3, 3, .ro, 0⟩
def RLY_STATUS.MEMBERS : Fld := ⟨.RLY_STATUS, 14, 4, .ro, 0⟩
def RLY_STATUS.STBY_WR : Fld := ⟨.RLY_STATUS, 15, 15, .w1c, 0⟩
def RLY_STATUS.SW_REF : Fld := ⟨.RLY_STATUS, 16, 16, .w1c, 0⟩
def RLY_STATUS.UNSYNC_TKO : Fld := ⟨.RLY_STATUS, 17, 17, .w1c, 0⟩
def RLY_CTRL.SWITCH : Fld := ⟨.RLY_CTRL, 0, 0, .wo, 0⟩
def RLY_CTRL.RESYNC : Fld := ⟨.RLY_CTRL, 1, 1, .wo, 0⟩
def RLY_CTRL.REKEY : Fld := ⟨.RLY_CTRL, 6, 2, .wo, 0⟩
def RLY_GRP_BUDGET.B : Fld := ⟨.RLY_GRP_BUDGET, 21, 0, .rw, 0⟩
def RLY_GRP_STATUS.LEVEL : Fld := ⟨.RLY_GRP_STATUS, 13, 0, .ro, 0⟩
def RLY_GRP_STATUS.STALE : Fld := ⟨.RLY_GRP_STATUS, 24, 14, .ro, 0⟩
def RLY_CR_CFG.WEIGHT : Fld := ⟨.RLY_CR_CFG, 7, 0, .lk, 1⟩
def RLY_CR_CFG.UNIT : Fld := ⟨.RLY_CR_CFG, 23, 8, .lk, 0⟩
def RLY_CR_CFG.RESERVE : Fld := ⟨.RLY_CR_CFG, 31, 24, .rw, 0⟩
def RLY_CR_LNET.LNET : Fld := ⟨.RLY_CR_LNET, 31, 0, .ro, 0⟩
def RLY_PSTAT.STATE : Fld := ⟨.RLY_PSTAT, 2, 0, .ro, 0⟩
def RLY_PSTAT.EPOCH : Fld := ⟨.RLY_PSTAT, 10, 3, .ro, 0⟩
def RLY_PSTAT.REKEY_PEND : Fld := ⟨.RLY_PSTAT, 11, 11, .ro, 0⟩
def RLY_PSTAT.PEER_ID : Fld := ⟨.RLY_PSTAT, 21, 12, .ro, 0⟩
def RLY_PSTAT.UNACK : Fld := ⟨.RLY_PSTAT, 28, 22, .ro, 0⟩
def RLY_PERR.TAG : Fld := ⟨.RLY_PERR, 7, 0, .rw, 0⟩
def RLY_PERR.REPLAY : Fld := ⟨.RLY_PERR, 15, 8, .rw, 0⟩
def RLY_PERR.ALIGN : Fld := ⟨.RLY_PERR, 23, 16, .rw, 0⟩
def RLY_PERR.UNDEF : Fld := ⟨.RLY_PERR, 31, 24, .rw, 0⟩
def RLY_PSEQ_TX.SEQ : Fld := ⟨.RLY_PSEQ_TX, 31, 0, .ro, 0⟩
def RLY_PSEQ_RX.SEQ : Fld := ⟨.RLY_PSEQ_RX, 31, 0, .ro, 0⟩
def RLY_PPEER.PEER : Fld := ⟨.RLY_PPEER, 9, 0, .lk, 0⟩
def BOOT_STATUS.STAGE : Fld := ⟨.BOOT_STATUS, 3, 0, .ro, 0⟩
def BOOT_STATUS.LOCK : Fld := ⟨.BOOT_STATUS, 4, 4, .ro, 0⟩
def BOOT_STATUS.FW_SLOT : Fld := ⟨.BOOT_STATUS, 5, 5, .ro, 0⟩
def BOOT_STATUS.SET_SLOT : Fld := ⟨.BOOT_STATUS, 6, 6, .ro, 0⟩
def BOOT_STATUS.TRIAL : Fld := ⟨.BOOT_STATUS, 7, 7, .ro, 0⟩
def BOOT_STATUS.DEFAULTS : Fld := ⟨.BOOT_STATUS, 8, 8, .ro, 0⟩
def BOOT_STATUS.DOM_FAIL : Fld := ⟨.BOOT_STATUS, 12, 9, .ro, 0⟩
def BOOT_STATUS.ENT_FAIL : Fld := ⟨.BOOT_STATUS, 13, 13, .ro, 0⟩
def BOOT_CFG.ORDER : Fld := ⟨.BOOT_CFG, 7, 0, .lk, 30⟩
def BOOT_CFG.GAP : Fld := ⟨.BOOT_CFG, 14, 8, .lk, 1⟩
def BOOT_CFG.LP_SAVE : Fld := ⟨.BOOT_CFG, 22, 15, .rw, 0⟩
def BOOT_COUNT.COLD : Fld := ⟨.BOOT_COUNT, 23, 0, .ro, 0⟩
def BOOT_COUNT.WARM : Fld := ⟨.BOOT_COUNT, 31, 24, .ro, 0⟩
def BOOT_TIME.COLD_T : Fld := ⟨.BOOT_TIME, 15, 0, .ro, 0⟩
def BOOT_TIME.WARM_T : Fld := ⟨.BOOT_TIME, 31, 16, .ro, 0⟩
def BOOT_FW_VER.VERSION : Fld := ⟨.BOOT_FW_VER, 31, 0, .ro, 0⟩
def BOOT_FW_ALT.VERSION : Fld := ⟨.BOOT_FW_ALT, 31, 0, .ro, 0⟩
def BOOT_UPD_STATUS.RES : Fld := ⟨.BOOT_UPD_STATUS, 3, 0, .ro, 0⟩
def BOOT_UPD_STATUS.KIND : Fld := ⟨.BOOT_UPD_STATUS, 6, 4, .ro, 0⟩
def BOOT_UPD_STATUS.NEXT : Fld := ⟨.BOOT_UPD_STATUS, 16, 7, .ro, 0⟩
def BOOT_UPD_STATUS.OVR : Fld := ⟨.BOOT_UPD_STATUS, 17, 17, .w1c, 0⟩
def BOOT_UPD_STATUS.PORT : Fld := ⟨.BOOT_UPD_STATUS, 18, 18, .ro, 0⟩
def BOOT_UPD_DATA.DATA : Fld := ⟨.BOOT_UPD_DATA, 31, 0, .wo, 0⟩
def BOOT_TRIAL.BOOTS : Fld := ⟨.BOOT_TRIAL, 1, 0, .ro, 0⟩
def BOOT_TRIAL.MINUTES : Fld := ⟨.BOOT_TRIAL, 5, 2, .ro, 0⟩
def BOOT_TRIAL.WAIT_TEMP : Fld := ⟨.BOOT_TRIAL, 6, 6, .ro, 0⟩
def KEY_STATUS.EPOCH0 : Fld := ⟨.KEY_STATUS, 7, 0, .ro, 0⟩
def KEY_STATUS.STATE0 : Fld := ⟨.KEY_STATUS, 9, 8, .ro, 0⟩
def KEY_STATUS.EPOCH1 : Fld := ⟨.KEY_STATUS, 17, 10, .ro, 0⟩
def KEY_STATUS.STATE1 : Fld := ⟨.KEY_STATUS, 19, 18, .ro, 0⟩
def KEY_STATUS.ROT : Fld := ⟨.KEY_STATUS, 20, 20, .ro, 0⟩
def KEY_STATUS.DONE : Fld := ⟨.KEY_STATUS, 31, 21, .ro, 0⟩
def KEY_SVN.SVN : Fld := ⟨.KEY_SVN, 6, 0, .ro, 0⟩
def KEY_SVN.REVOKE : Fld := ⟨.KEY_SVN, 8, 7, .ro, 0⟩
def KEY_SVN.OBS_LOCK : Fld := ⟨.KEY_SVN, 9, 9, .ro, 0⟩
def BOOT_CHIP.CHIP : Fld := ⟨.BOOT_CHIP, 31, 0, .ro, 0⟩
def BOOT_UNIT_LO.UNIT_LO : Fld := ⟨.BOOT_UNIT_LO, 31, 0, .ro, 0⟩
def BOOT_UNIT_HI.UNIT_HI : Fld := ⟨.BOOT_UNIT_HI, 31, 0, .ro, 0⟩
def TST_STATUS.JREF : Fld := ⟨.TST_STATUS, 0, 0, .w1c, 0⟩
def TST_STATUS.OBS_REF : Fld := ⟨.TST_STATUS, 1, 1, .w1c, 0⟩
def TST_STATUS.RIGHTS : Fld := ⟨.TST_STATUS, 4, 2, .ro, 0⟩
def TST_STATUS.LIFE_LEFT : Fld := ⟨.TST_STATUS, 15, 5, .ro, 0⟩
def TST_OBS_A.SEL : Fld := ⟨.TST_OBS_A, 8, 0, .rw, 0⟩
def TST_OBS_A.LANE : Fld := ⟨.TST_OBS_A, 19, 9, .rw, 0⟩
def TST_OBS_B.SEL : Fld := ⟨.TST_OBS_B, 8, 0, .rw, 0⟩
def TST_OBS_B.LANE : Fld := ⟨.TST_OBS_B, 19, 9, .rw, 0⟩
def TST_LST_CTRL.LANE : Fld := ⟨.TST_LST_CTRL, 10, 0, .rw, 0⟩
def TST_LST_CTRL.GO : Fld := ⟨.TST_LST_CTRL, 11, 11, .wo, 0⟩
def TST_LST_RES.STATUS : Fld := ⟨.TST_LST_RES, 2, 0, .ro, 0⟩
def TST_LST_RES.FAIL : Fld := ⟨.TST_LST_RES, 7, 3, .ro, 0⟩
def TST_LST_RES.LANE : Fld := ⟨.TST_LST_RES, 18, 8, .ro, 0⟩
def PF_CTRL.ARM : Fld := ⟨.PF_CTRL, 0, 0, .rw, 0⟩
def PF_CTRL.SWTRIG : Fld := ⟨.PF_CTRL, 1, 1, .wo, 0⟩
def PF_CFG.STR_EN : Fld := ⟨.PF_CFG, 0, 0, .rw, 1⟩
def PF_CFG.BAT_EN : Fld := ⟨.PF_CFG, 1, 1, .rw, 0⟩
def PF_CFG.FLT_EN : Fld := ⟨.PF_CFG, 2, 2, .rw, 1⟩
def PF_CFG.DEC : Fld := ⟨.PF_CFG, 6, 3, .rw, 0⟩
def PF_RGN.RGN0_RGN3 : Fld := ⟨.PF_RGN, 31, 0, .rw, 0⟩
def PF_TRIG.FLT : Fld := ⟨.PF_TRIG, 0, 0, .rw, 1⟩
def PF_TRIG.ANY_SEV : Fld := ⟨.PF_TRIG, 1, 1, .rw, 1⟩
def PF_TRIG.STEP : Fld := ⟨.PF_TRIG, 2, 2, .rw, 0⟩
def PF_TRIG.PAT : Fld := ⟨.PF_TRIG, 3, 3, .rw, 0⟩
def PF_TRIG.SRC : Fld := ⟨.PF_TRIG, 10, 4, .rw, 127⟩
def PF_TRIG.POST : Fld := ⟨.PF_TRIG, 21, 11, .rw, 1024⟩
def PF_TRIG_STEP_LO.WORD : Fld := ⟨.PF_TRIG_STEP_LO, 31, 0, .rw, 0⟩
def PF_TRIG_STEP_HI.WORD : Fld := ⟨.PF_TRIG_STEP_HI, 15, 0, .rw, 0⟩
def PF_PAT_MASK_LO.WORD : Fld := ⟨.PF_PAT_MASK_LO, 31, 0, .rw, 0⟩
def PF_PAT_MASK_HI.WORD : Fld := ⟨.PF_PAT_MASK_HI, 31, 0, .rw, 0⟩
def PF_PAT_VAL_LO.WORD : Fld := ⟨.PF_PAT_VAL_LO, 31, 0, .rw, 0⟩
def PF_PAT_VAL_HI.WORD : Fld := ⟨.PF_PAT_VAL_HI, 31, 0, .rw, 0⟩
def PF_STATUS.WPTR : Fld := ⟨.PF_STATUS, 10, 0, .ro, 0⟩
def PF_STATUS.WRAP : Fld := ⟨.PF_STATUS, 11, 11, .ro, 0⟩
def PF_STATUS.TRIG : Fld := ⟨.PF_STATUS, 12, 12, .ro, 0⟩
def PF_STATUS.FROZEN : Fld := ⟨.PF_STATUS, 13, 13, .ro, 0⟩
def PF_STATUS.CAUSE : Fld := ⟨.PF_STATUS, 16, 14, .ro, 0⟩
def PF_STATUS.DROP : Fld := ⟨.PF_STATUS, 24, 17, .rw, 0⟩
def DOM_CTRL.MESH : Fld := ⟨.DOM_CTRL, 0, 0, .rw, 0⟩
def DOM_STATUS.MESH : Fld := ⟨.DOM_STATUS, 0, 0, .ro, 0⟩
def DOM_STATUS.MESH_PEND : Fld := ⟨.DOM_STATUS, 1, 1, .ro, 0⟩
def DOM_STATUS.QFULL : Fld := ⟨.DOM_STATUS, 2, 2, .w1c, 0⟩
def DOM_STATUS.HEATS : Fld := ⟨.DOM_STATUS, 11, 3, .ro, 0⟩
def DOM_STATUS.AT_TARGET : Fld := ⟨.DOM_STATUS, 12, 12, .ro, 0⟩
def DOM_SETPT.VSET : Fld := ⟨.DOM_SETPT, 11, 0, .rw, 1600⟩
def DOM_SETPT.BASE : Fld := ⟨.DOM_SETPT, 27, 16, .ro, 0⟩
def DOM_SETPT.SCHED : Fld := ⟨.DOM_SETPT, 28, 28, .rw, 0⟩
def DOM_SP_CFG.SRC : Fld := ⟨.DOM_SP_CFG, 1, 0, .rw, 0⟩
def DOM_SP_CFG.SLEW : Fld := ⟨.DOM_SP_CFG, 8, 2, .rw, 10⟩
def DOM_VRANGE.VMIN : Fld := ⟨.DOM_VRANGE, 11, 0, .lk, 900⟩
def DOM_VRANGE.VMAX : Fld := ⟨.DOM_VRANGE, 23, 12, .lk, 2100⟩
def DOM_RCMD.TARGET : Fld := ⟨.DOM_RCMD, 8, 0, .rw, 0⟩
def DOM_RCMD.OP : Fld := ⟨.DOM_RCMD, 11, 9, .rw, 0⟩
def DOM_RCMD.GO : Fld := ⟨.DOM_RCMD, 12, 12, .wo, 0⟩
def DOM_RCMD_STEP_LO.STEP_LO : Fld := ⟨.DOM_RCMD_STEP_LO, 31, 0, .rw, 0⟩
def DOM_RCMD_STEP_HI.STEP_HI : Fld := ⟨.DOM_RCMD_STEP_HI, 15, 0, .rw, 0⟩
def DOM_RCMD_RES.STATUS : Fld := ⟨.DOM_RCMD_RES, 3, 0, .ro, 0⟩
def DOM_RCMD_RES.BUSY_ERR : Fld := ⟨.DOM_RCMD_RES, 4, 4, .w1c, 0⟩
def DOM_RCMD_RES.WAITED : Fld := ⟨.DOM_RCMD_RES, 14, 5, .ro, 0⟩
def DOM_MERGE_CFG.THRESH : Fld := ⟨.DOM_MERGE_CFG, 6, 0, .rw, 90⟩
def DOM_MERGE_CFG.DEFER_MAX : Fld := ⟨.DOM_MERGE_CFG, 16, 7, .rw, 1000⟩
def DOM_MERGE_CFG.FSTR_CYC : Fld := ⟨.DOM_MERGE_CFG, 24, 17, .rw, 255⟩
def DOM_MERGE_CFG.FSTR_N : Fld := ⟨.DOM_MERGE_CFG, 30, 25, .rw, 16⟩
def DOM_PCR_CFG.RISE_MAX : Fld := ⟨.DOM_PCR_CFG, 7, 0, .rw, 100⟩
def DOM_PCR_CFG.LIFT_MIN : Fld := ⟨.DOM_PCR_CFG, 15, 8, .rw, 10⟩
def DOM_PCR_CFG.LIFT_HOLD : Fld := ⟨.DOM_PCR_CFG, 20, 16, .rw, 4⟩
def DOM_TEL_I.I_MEAN : Fld := ⟨.DOM_TEL_I, 15, 0, .ro, 0⟩
def DOM_TEL_I.I_PEAK : Fld := ⟨.DOM_TEL_I, 31, 16, .ro, 0⟩
def DOM_TEL_P.P_MEAN : Fld := ⟨.DOM_TEL_P, 15, 0, .ro, 0⟩
def DOM_TEL_P.P_PEAK : Fld := ⟨.DOM_TEL_P, 31, 16, .ro, 0⟩
def DOM_TEL_V.V_MEAN : Fld := ⟨.DOM_TEL_V, 15, 0, .ro, 0⟩
def DOM_TEL_V.V_MIN : Fld := ⟨.DOM_TEL_V, 31, 16, .ro, 0xFFFF⟩
def DOM_TEL_CTRL.CLR : Fld := ⟨.DOM_TEL_CTRL, 0, 0, .wo, 0⟩
def RGN_CTRL.RESCUE_EN : Fld := ⟨.RGN_CTRL, 0, 0, .rw, 0⟩
def RGN_CTRL.RESCUE_LANES : Fld := ⟨.RGN_CTRL, 3, 1, .rw, 6⟩
def RGN_CTRL.RET_CAP : Fld := ⟨.RGN_CTRL, 4, 4, .lk, 0⟩
def RGN_CTRL.GRACE : Fld := ⟨.RGN_CTRL, 14, 5, .rw, 64⟩
def RGN_CTRL.CLR_DARK : Fld := ⟨.RGN_CTRL, 15, 15, .wo, 0⟩
def RGN_STATUS.STATE : Fld := ⟨.RGN_STATUS, 3, 0, .ro, 0⟩
def RGN_STATUS.HEAT : Fld := ⟨.RGN_STATUS, 11, 4, .ro, 0⟩
def RGN_STATUS.CAUSE : Fld := ⟨.RGN_STATUS, 14, 12, .ro, 0⟩
def RGN_STATUS.ATTEMPT : Fld := ⟨.RGN_STATUS, 16, 15, .ro, 0⟩
def RGN_STATUS.DEFER : Fld := ⟨.RGN_STATUS, 17, 17, .ro, 0⟩
def RGN_SETPT.VSET : Fld := ⟨.RGN_SETPT, 11, 0, .rw, 1600⟩
def RGN_SETPT.BASE : Fld := ⟨.RGN_SETPT, 27, 16, .ro, 0⟩
def RGN_SETPT.SCHED : Fld := ⟨.RGN_SETPT, 28, 28, .rw, 0⟩
def RGN_EVT.FALSE_START : Fld := ⟨.RGN_EVT, 0, 0, .w1c, 0⟩
def RGN_EVT.REG_LOSS : Fld := ⟨.RGN_EVT, 1, 1, .w1c, 0⟩
def RGN_EVT.EMERG_OPEN : Fld := ⟨.RGN_EVT, 2, 2, .w1c, 0⟩
def RGN_EVT.VG_FAIL : Fld := ⟨.RGN_EVT, 3, 3, .w1c, 0⟩
def RGN_EVT.SPARES_OUT : Fld := ⟨.RGN_EVT, 4, 4, .w1c, 0⟩
def RGN_EVT.DEGRADED : Fld := ⟨.RGN_EVT, 5, 5, .w1c, 0⟩
def RGN_EVT.DARK_PEND : Fld := ⟨.RGN_EVT, 6, 6, .w1c, 0⟩
def RGN_EVT.DARK : Fld := ⟨.RGN_EVT, 7, 7, .w1c, 0⟩
def RGN_EVT.RESCUE : Fld := ⟨.RGN_EVT, 8, 8, .w1c, 0⟩
def RGN_LANE_SET0.SLOW : Fld := ⟨.RGN_LANE_SET0, 8, 0, .rw, 325⟩
def RGN_LANE_SET0.SCAP : Fld := ⟨.RGN_LANE_SET0, 17, 9, .rw, 150⟩
def RGN_LANE_SET0.SSLEW : Fld := ⟨.RGN_LANE_SET0, 24, 18, .rw, 10⟩
def RGN_LANE_SET1.BTH : Fld := ⟨.RGN_LANE_SET1, 5, 0, .rw, 15⟩
def RGN_LANE_SET1.BMIN : Fld := ⟨.RGN_LANE_SET1, 9, 6, .rw, 2⟩
def RGN_LANE_SET1.BPK : Fld := ⟨.RGN_LANE_SET1, 18, 10, .rw, 100⟩
def RGN_LANE_SET1.WAKE : Fld := ⟨.RGN_LANE_SET1, 22, 19, .rw, 2⟩
def RGN_RETAIN.VRET : Fld := ⟨.RGN_RETAIN, 8, 0, .rw, 0⟩
def RGN_RETAIN.SETUP : Fld := ⟨.RGN_RETAIN, 14, 9, .rw, 4⟩
def RGN_VG_STATUS.WORKING : Fld := ⟨.RGN_VG_STATUS, 6, 0, .ro, 96⟩
def RGN_VG_STATUS.SPARES_USED : Fld := ⟨.RGN_VG_STATUS, 10, 7, .ro, 0⟩
def RGN_VG_STATUS.LAST_GROUP : Fld := ⟨.RGN_VG_STATUS, 17, 11, .ro, 127⟩
def RGN_VG_STATUS.LAST_KIND : Fld := ⟨.RGN_VG_STATUS, 18, 18, .ro, 0⟩
def RGN_STR_CFG.PROFILE : Fld := ⟨.RGN_STR_CFG, 3, 0, .rw, 0⟩
def RGN_STR_CFG.CLR_FB : Fld := ⟨.RGN_STR_CFG, 4, 4, .wo, 0⟩
def RGN_STR_CFG.OSC_TH : Fld := ⟨.RGN_STR_CFG, 9, 5, .rw, 6⟩
def RGN_STR_CFG.OSC_WIN : Fld := ⟨.RGN_STR_CFG, 17, 10, .rw, 40⟩
def RGN_STR_CFG.OSC_CNT : Fld := ⟨.RGN_STR_CFG, 23, 18, .rw, 16⟩
def RGN_STR_CFG.OSC_EN : Fld := ⟨.RGN_STR_CFG, 24, 24, .rw, 1⟩
def RGN_STR_STATUS.WIN : Fld := ⟨.RGN_STR_STATUS, 1, 0, .ro, 0⟩
def RGN_STR_STATUS.FB_ACTIVE : Fld := ⟨.RGN_STR_STATUS, 2, 2, .ro, 0⟩
def RGN_STR_STATUS.SPEC_ACTIVE : Fld := ⟨.RGN_STR_STATUS, 3, 3, .ro, 0⟩
def RGN_STR_STATUS.AT_TARGET : Fld := ⟨.RGN_STR_STATUS, 4, 4, .ro, 0⟩
def RGN_STR_STATUS.SAT : Fld := ⟨.RGN_STR_STATUS, 5, 5, .w1c, 0⟩
def RGN_STR_STATUS.CLAMP : Fld := ⟨.RGN_STR_STATUS, 6, 6, .w1c, 0⟩
def RGN_STR_STATUS.OSC : Fld := ⟨.RGN_STR_STATUS, 7, 7, .w1c, 0⟩
def RGN_STR_STATUS.SEG : Fld := ⟨.RGN_STR_STATUS, 12, 8, .ro, 16⟩
def RGN_STR_ERR.ERR : Fld := ⟨.RGN_STR_ERR, 17, 0, .ro, 0⟩
def RGN_PCR_STATUS.MODE : Fld := ⟨.RGN_PCR_STATUS, 1, 0, .ro, 2⟩
def RGN_PCR_STATUS.BAD : Fld := ⟨.RGN_PCR_STATUS, 4, 2, .ro, 0⟩
def RGN_PCR_STATUS.CLEAN : Fld := ⟨.RGN_PCR_STATUS, 11, 5, .ro, 0⟩
def RGN_PCR_STATUS.PREBIAS : Fld := ⟨.RGN_PCR_STATUS, 12, 12, .ro, 0⟩
def RGN_PCR_STATUS.DEMOTED_EVT : Fld := ⟨.RGN_PCR_STATUS, 13, 13, .w1c, 0⟩
def RGN_PCR_STATUS.RESTORED_EVT : Fld := ⟨.RGN_PCR_STATUS, 14, 14, .w1c, 0⟩
def RGN_PCR_FCAST.CONF : Fld := ⟨.RGN_PCR_FCAST, 15, 0, .ro, 0⟩
def RGN_PCR_FCAST.MEAS : Fld := ⟨.RGN_PCR_FCAST, 31, 16, .ro, 0⟩
def RGN_PCR_MM.ERR : Fld := ⟨.RGN_PCR_MM, 15, 0, .ro, 0⟩
def RGN_PCR_MM.VALID : Fld := ⟨.RGN_PCR_MM, 16, 16, .ro, 0⟩
def RGN_LIM.TCAP : Fld := ⟨.RGN_LIM, 15, 0, .ro, 0xFFFF⟩
def RGN_LIM.PSHARE : Fld := ⟨.RGN_LIM, 31, 16, .ro, 0xFFFF⟩
def RGN_GAU_T.T0 : Fld := ⟨.RGN_GAU_T, 15, 0, .ro, 0x8000⟩
def RGN_GAU_T.T1 : Fld := ⟨.RGN_GAU_T, 31, 16, .ro, 0x8000⟩
def RGN_GAU_TM.TMAX : Fld := ⟨.RGN_GAU_TM, 15, 0, .ro, 0x8000⟩
def RGN_GAU_TM.S0_BAD : Fld := ⟨.RGN_GAU_TM, 16, 16, .ro, 0⟩
def RGN_GAU_TM.S1_BAD : Fld := ⟨.RGN_GAU_TM, 17, 17, .ro, 0⟩
def RGN_GAU_TM.SUBST : Fld := ⟨.RGN_GAU_TM, 18, 18, .ro, 0⟩
def RGN_GAU_TM.THROT : Fld := ⟨.RGN_GAU_TM, 19, 19, .ro, 0⟩
def RGN_GAU_V.V : Fld := ⟨.RGN_GAU_V, 15, 0, .ro, 0⟩
def RGN_GAU_V.V_MIN : Fld := ⟨.RGN_GAU_V, 31, 16, .ro, 0xFFFF⟩
def RGN_VG_FAIL.BITS : Fld := ⟨.RGN_VG_FAIL, 31, 0, .ro, 0⟩
def RGN_VG_MAP.S0 : Fld := ⟨.RGN_VG_MAP, 6, 0, .ro, 127⟩
def RGN_VG_MAP.S1 : Fld := ⟨.RGN_VG_MAP, 14, 8, .ro, 127⟩
def RGN_VG_MAP.S2 : Fld := ⟨.RGN_VG_MAP, 22, 16, .ro, 127⟩
def RGN_VG_MAP.S3 : Fld := ⟨.RGN_VG_MAP, 30, 24, .ro, 127⟩
def RGN_VT.V_EVEN : Fld := ⟨.RGN_VT, 9, 0, .ro, 0⟩
def RGN_VT.V_ODD : Fld := ⟨.RGN_VT, 25, 16, .ro, 0⟩
def LANE_CTRL.EN : Fld := ⟨.LANE_CTRL, 0, 0, .rw, 1⟩
def LANE_CTRL.CLR_FAIL : Fld := ⟨.LANE_CTRL, 1, 1, .wo, 0⟩
def LANE_CTRL.RETIRE : Fld := ⟨.LANE_CTRL, 2, 2, .w1s, 0⟩
def LANE_CFG.RAMP : Fld := ⟨.LANE_CFG, 3, 0, .lk, 8⟩
def LANE_CFG.FAST_LIM : Fld := ⟨.LANE_CFG, 8, 4, .lk, 12⟩
def LANE_CFG.OPEN_CMD : Fld := ⟨.LANE_CFG, 17, 9, .rw, 125⟩
def LANE_CFG.OPEN_SENSE : Fld := ⟨.LANE_CFG, 22, 18, .rw, 5⟩
def LANE_STATUS.STATE : Fld := ⟨.LANE_STATUS, 3, 0, .ro, 0⟩
def LANE_STATUS.CAUSE : Fld := ⟨.LANE_STATUS, 6, 4, .ro, 0⟩
def LANE_STATUS.RETRY : Fld := ⟨.LANE_STATUS, 8, 7, .ro, 0⟩
def LANE_STATUS.DE : Fld := ⟨.LANE_STATUS, 9, 9, .ro, 0⟩
def LANE_STATUS.OVL : Fld := ⟨.LANE_STATUS, 10, 10, .ro, 0⟩
def LANE_CMD.PEAK : Fld := ⟨.LANE_CMD, 8, 0, .ro, 0⟩
def LANE_CMD.TRIM : Fld := ⟨.LANE_CMD, 15, 9, .ro, 0⟩
def LANE_SENSE.I_PRI : Fld := ⟨.LANE_SENSE, 11, 0, .ro, 0⟩
def LANE_SENSE.I_SEC : Fld := ⟨.LANE_SENSE, 23, 12, .ro, 0⟩
def LANE_EVT.FAST_LATCH : Fld := ⟨.LANE_EVT, 0, 0, .w1c, 0⟩
def LANE_EVT.FAILED : Fld := ⟨.LANE_EVT, 1, 1, .w1c, 0⟩
def LANE_EVT.OPEN : Fld := ⟨.LANE_EVT, 2, 2, .w1c, 0⟩
def LANE_EVT.MISMATCH : Fld := ⟨.LANE_EVT, 3, 3, .w1c, 0⟩
def LANE_EVT.KEEPER_TO : Fld := ⟨.LANE_EVT, 4, 4, .w1c, 0⟩
def LANE_EVT.RAMP_LATCH : Fld := ⟨.LANE_EVT, 5, 5, .w1c, 0⟩
def LANE_COUNT.FAST_CYC : Fld := ⟨.LANE_COUNT, 15, 0, .ro, 0⟩
def LANE_COUNT.LATCHES : Fld := ⟨.LANE_COUNT, 23, 16, .ro, 0⟩
def COEF_M.M_EVEN : Fld := ⟨.COEF_M, 15, 0, .rw, 0⟩
def COEF_M.M_ODD : Fld := ⟨.COEF_M, 31, 16, .rw, 0⟩
def COEF_X.X0 : Fld := ⟨.COEF_X, 4, 0, .rw, 0⟩
def COEF_X.X1 : Fld := ⟨.COEF_X, 12, 8, .rw, 0⟩
def COEF_X.X2 : Fld := ⟨.COEF_X, 20, 16, .rw, 0⟩
def COEF_X.X3 : Fld := ⟨.COEF_X, 28, 24, .rw, 0⟩
def COEF_CTRL.EN : Fld := ⟨.COEF_CTRL, 0, 0, .rw, 1⟩
def COEF_CTRL.NET_EN : Fld := ⟨.COEF_CTRL, 1, 1, .rw, 1⟩
def COEF_CTRL.SPEC_EN : Fld := ⟨.COEF_CTRL, 2, 2, .rw, 1⟩
def COEF_CTRL.TSTEP : Fld := ⟨.COEF_CTRL, 18, 3, .rw, 640⟩
def COEF_STATUS.WR_REF : Fld := ⟨.COEF_STATUS, 0, 0, .w1c, 0⟩
def COEF_STATUS.REC_FULL : Fld := ⟨.COEF_STATUS, 1, 1, .w1c, 0⟩
def COEF_STATUS.NET_ACTIVE : Fld := ⟨.COEF_STATUS, 2, 2, .ro, 0⟩
def COEF_STATUS.PEND_USED : Fld := ⟨.COEF_STATUS, 28, 16, .ro, 0⟩
def COEF_MODEL.STATUS : Fld := ⟨.COEF_MODEL, 3, 0, .ro, 0⟩
def COEF_MODEL.N_IN : Fld := ⟨.COEF_MODEL, 10, 4, .ro, 0⟩
def COEF_MODEL.N_HID : Fld := ⟨.COEF_MODEL, 17, 11, .ro, 0⟩
def COEF_MODEL.N_OUT : Fld := ⟨.COEF_MODEL, 26, 18, .ro, 0⟩
def COEF_MODEL.WFMT : Fld := ⟨.COEF_MODEL, 27, 27, .ro, 0⟩
def COEF_CNT.SHORT : Fld := ⟨.COEF_CNT, 7, 0, .rw, 0⟩
def COEF_CNT.LATE : Fld := ⟨.COEF_CNT, 15, 8, .rw, 0⟩
def COEF_CNT.QFULL : Fld := ⟨.COEF_CNT, 23, 16, .rw, 0⟩
def COEF_CNT.SLOPE : Fld := ⟨.COEF_CNT, 31, 24, .rw, 0⟩
def COEF_MM_CFG.THRESH : Fld := ⟨.COEF_MM_CFG, 6, 0, .rw, 30⟩
def COEF_MM_CFG.DEMOTE_N : Fld := ⟨.COEF_MM_CFG, 10, 7, .rw, 4⟩
def COEF_MM_CFG.RESTORE_N : Fld := ⟨.COEF_MM_CFG, 17, 11, .rw, 64⟩
def COEF_MM_CFG.FLOOR : Fld := ⟨.COEF_MM_CFG, 29, 18, .rw, 1200⟩
def STR_SEG.KP_M : Fld := ⟨.STR_SEG, 11, 0, .rw, 0⟩
def STR_SEG.KP_E : Fld := ⟨.STR_SEG, 15, 12, .rw, 0⟩
def STR_SEG.KI_M : Fld := ⟨.STR_SEG, 27, 16, .rw, 0⟩
def STR_SEG.KI_E : Fld := ⟨.STR_SEG, 31, 28, .rw, 0⟩
def STR_PHDR.FB : Fld := ⟨.STR_PHDR, 3, 0, .rw, 0⟩
def STR_PHDR.TRK : Fld := ⟨.STR_PHDR, 6, 4, .rw, 3⟩
def STR_PHDR.LIFT : Fld := ⟨.STR_PHDR, 13, 7, .rw, 0⟩
def STR_PHDR.LIFT_SLEW : Fld := ⟨.STR_PHDR, 20, 14, .rw, 50⟩
def STR_PHDR.PKI : Fld := ⟨.STR_PHDR, 24, 21, .rw, 6⟩
def STR_CFG.BAL_EN : Fld := ⟨.STR_CFG, 0, 0, .rw, 1⟩
def STR_CFG.BAL_DB : Fld := ⟨.STR_CFG, 5, 1, .rw, 8⟩
def REP_CFG.LEARN : Fld := ⟨.REP_CFG, 0, 0, .rw, 1⟩
def REP_CFG.RG : Fld := ⟨.REP_CFG, 3, 1, .rw, 3⟩
def REP_CFG.CLAMP : Fld := ⟨.REP_CFG, 16, 4, .rw, 2000⟩
def REP_CFG.CLR : Fld := ⟨.REP_CFG, 17, 17, .wo, 0⟩
def REP_PERIOD.LEN : Fld := ⟨.REP_PERIOD, 23, 0, .ro, 0⟩
def REP_PHASE.PHASE : Fld := ⟨.REP_PHASE, 23, 0, .ro, 0⟩
def REP_SEL.REGION : Fld := ⟨.REP_SEL, 7, 0, .rw, 0⟩
def REP_BIN.BIN_EVEN : Fld := ⟨.REP_BIN, 15, 0, .rw, 0⟩
def REP_BIN.BIN_ODD : Fld := ⟨.REP_BIN, 31, 16, .rw, 0⟩
def PF_WIN.WORD : Fld := ⟨.PF_WIN, 31, 0, .ro, 0⟩

/-- The fields of a register; a bit in no field is reserved (R7). -/
def Reg.fields : Reg → List Fld
  | .QB_ID => [QB_ID.ID]
  | .QB_VERSION => [QB_VERSION.PATCH, QB_VERSION.MINOR, QB_VERSION.MAJOR]
  | .QB_CTRL => [QB_CTRL.SOFT_RST, QB_CTRL.KEY]
  | .QB_STATUS => [QB_STATUS.READY, QB_STATUS.TB_IDLE, QB_STATUS.LOCK, QB_STATUS.MARSHAL_RUN, QB_STATUS.PAUSE, QB_STATUS.SCRUB, QB_STATUS.RECOVERY, QB_STATUS.ACTIVE]
  | .QB_LANE_CFG => [QB_LANE_CFG.FSW, QB_LANE_CFG.FSW_RUN]
  | .QB_PORTB_CFG => [QB_PORTB_CFG.ADDR]
  | .QB_IRQ_STATUS => [QB_IRQ_STATUS.FLT, QB_IRQ_STATUS.MBX, QB_IRQ_STATUS.GAU_WM, QB_IRQ_STATUS.SCRUB_DONE, QB_IRQ_STATUS.WARM, QB_IRQ_STATUS.READY]
  | .QB_IRQ_EN => [QB_IRQ_EN.EN]
  | .QB_PORT_ERR => [QB_PORT_ERR.RSVD, QB_PORT_ERR.SEM, QB_PORT_ERR.PEC, QB_PORT_ERR.TMO]
  | .QB_SEM => [QB_SEM.OWNER, QB_SEM.TAG, QB_SEM.TAKE, QB_SEM.REL, QB_SEM.FORCED]
  | .QB_SEM_FORCE => [QB_SEM_FORCE.SEM, QB_SEM_FORCE.KEY]
  | .QB_MBX_DATA => [QB_MBX_DATA.DATA]
  | .QB_MBX_CTRL => [QB_MBX_CTRL.GO]
  | .QB_MBX_STATUS => [QB_MBX_STATUS.STATE, QB_MBX_STATUS.STATUS, QB_MBX_STATUS.OVR, QB_MBX_STATUS.XPORT]
  | .FLT_STATUS => [FLT_STATUS.FAULTN, FLT_STATUS.LOST, FLT_STATUS.CRST, FLT_STATUS.RST_STORM, FLT_STATUS.TRAP, FLT_STATUS.SEV_N]
  | .FLT_CTRL => [FLT_CTRL.FE_ARM, FLT_CTRL.FN_REL, FLT_CTRL.HB]
  | .FLT_RECOV => [FLT_RECOV.RECOV]
  | .FLT_PIN => [FLT_PIN.SRC, FLT_PIN.VALID]
  | .FLT_FE0 => [FLT_FE0.SRC, FLT_FE0.VALID, FLT_FE0.MASTER, FLT_FE0.ACCESS, FLT_FE0.AKIND, FLT_FE0.SEV, FLT_FE0.MULTI]
  | .FLT_FE1 => [FLT_FE1.ADDR]
  | .FLT_FE2 => [FLT_FE2.STEP_LO]
  | .FLT_FE3 => [FLT_FE3.STEP_HI]
  | .FLT_FE4 => [FLT_FE4.FINE, FLT_FE4.NOTIME]
  | .FLT_IPEND => [FLT_IPEND.PEND]
  | .FLT_IEN => [FLT_IEN.EN]
  | .FLT_LOG_CTRL => [FLT_LOG_CTRL.POP, FLT_LOG_CTRL.LEVEL, FLT_LOG_CTRL.LOADED, FLT_LOG_CTRL.OVW]
  | .FLT_LOG0 => [FLT_LOG0.SRC, FLT_LOG0.SEV, FLT_LOG0.MASTER, FLT_LOG0.ACCESS, FLT_LOG0.AKIND, FLT_LOG0.MERGED, FLT_LOG0.RECOVERY]
  | .FLT_LOG1 => [FLT_LOG1.ADDR]
  | .FLT_LOG2 => [FLT_LOG2.STEP_LO]
  | .FLT_LOG3 => [FLT_LOG3.STEP_HI]
  | .FLT_LOG4 => [FLT_LOG4.FINE, FLT_LOG4.NOTIME]
  | .FLT_CLS => [FLT_CLS.N, FLT_CLS.W]
  | .FLT_RCT => [FLT_RCT.NORM, FLT_RCT.SEV, FLT_RCT.EN, FLT_RCT.Q]
  | .FLT_CNT => [FLT_CNT.TOTAL, FLT_CNT.WCOUNT, FLT_CNT.SEV, FLT_CNT.FHOLD, FLT_CNT.PEND, FLT_CNT.RECOV]
  | .STP_COUNT_LO => [STP_COUNT_LO.COUNT_LO]
  | .STP_COUNT_HI => [STP_COUNT_HI.COUNT_HI]
  | .STP_FINE => [STP_FINE.FINE]
  | .STP_STATUS => [STP_STATUS.TB, STP_STATUS.JUMP, STP_STATUS.BCAST_MISS, STP_STATUS.SHORT_STEP, STP_STATUS.GATE_HOLD, STP_STATUS.QUEUE_USED]
  | .BAT_CFG => [BAT_CFG.GATE_TO]
  | .BAT_STATUS => [BAT_STATUS.UP, BAT_STATUS.RSEQ, BAT_STATUS.TSEQ, BAT_STATUS.UNACK]
  | .BAT_ERR => [BAT_ERR.CRC, BAT_ERR.SEQ, BAT_ERR.ENC, BAT_ERR.DROP]
  | .BAT_ERR2 => [BAT_ERR2.BCAST]
  | .BAT_TXN => [BAT_TXN.STATE, BAT_TXN.DONE, BAT_TXN.STATUS, BAT_TXN.GATE, BAT_TXN.NTYPE, BAT_TXN.PREV]
  | .LIM_CFG => [LIM_CFG.CAPSRC, LIM_CFG.LEAD, LIM_CFG.PK]
  | .LIM_CAP_REG => [LIM_CAP_REG.CAP, LIM_CAP_REG.FB]
  | .LIM_MODEL => [LIM_MODEL.EFF, LIM_MODEL.P_FIX, LIM_MODEL.P_IDLE]
  | .LIM_SUP => [LIM_SUP.SUP]
  | .LIM_CAP_STATUS => [LIM_CAP_STATUS.CAP, LIM_CAP_STATUS.SRC, LIM_CAP_STATUS.PCAP_LOST, LIM_CAP_STATUS.ANA_STALE, LIM_CAP_STATUS.DUTY, LIM_CAP_STATUS.FALLBACK]
  | .LIM_PWR0 => [LIM_PWR0.P_TICK, LIM_PWR0.A1]
  | .LIM_PWR1 => [LIM_PWR1.A10, LIM_PWR1.PEAK, LIM_PWR1.CLR_PEAK]
  | .LIM_STR_STATUS => [LIM_STR_STATUS.LEVEL, LIM_STR_STATUS.SRC, LIM_STR_STATUS.LOWEST, LIM_STR_STATUS.FLOOR_PEND, LIM_STR_STATUS.LATE_ORD]
  | .LIM_STR_HOST => [LIM_STR_HOST.LEVEL]
  | .LIM_STR_SRC => [LIM_STR_SRC.POWER, LIM_STR_SRC.THERMAL]
  | .LIM_TH_CFG => [LIM_TH_CFG.ICAP, LIM_TH_CFG.STEP, LIM_TH_CFG.XMAX, LIM_TH_CFG.APPROACH]
  | .LIM_ALERT => [LIM_ALERT.HOLD, LIM_ALERT.ALERT, LIM_ALERT.APPR, LIM_ALERT.ALERT_EVT]
  | .LIM_VT_CFG => [LIM_VT_CFG.NOM, LIM_VT_CFG.FLOOR, LIM_VT_CFG.CUR]
  | .LIM_BOOST => [LIM_BOOST.W_PT]
  | .LIM_CNT => [LIM_CNT.QFULL, LIM_CNT.CAP_LOSS, LIM_CNT.LOWEST, LIM_CNT.ACK_TO]
  | .GAU_CFG => [GAU_CFG.HKQ, GAU_CFG.WM, GAU_CFG.QCLR]
  | .GAU_STATUS => [GAU_STATUS.HK_OVR, GAU_STATUS.VIN_BAD, GAU_STATUS.EVAL]
  | .GAU_QDATA_LO => [GAU_QDATA_LO.DATA]
  | .GAU_QDATA_HI => [GAU_QDATA_HI.DATA]
  | .GAU_QSTAT => [GAU_QSTAT.LEVEL, GAU_QSTAT.WM, GAU_QSTAT.OVF]
  | .GAU_VIN => [GAU_VIN.VIN]
  | .GAU_TH_CFG => [GAU_TH_CFG.WARN, GAU_TH_CFG.THR, GAU_TH_CFG.SD]
  | .GAU_TH_HYS => [GAU_TH_HYS.WARN_HYS, GAU_TH_HYS.THR_HYS, GAU_TH_HYS.SD_HYS, GAU_TH_HYS.NBR_MARGIN]
  | .GAU_TMAX => [GAU_TMAX.CACHE, GAU_TMAX.LOGIC]
  | .GAU_TSTAT => [GAU_TSTAT.PEAK, GAU_TSTAT.CLR_PEAK, GAU_TSTAT.WARN, GAU_TSTAT.THROT, GAU_TSTAT.SHUT, GAU_TSTAT.NVM_OK]
  | .GAU_OTH_EN => [GAU_OTH_EN.EN]
  | .GAU_TRIM_SEL => [GAU_TRIM_SEL.SENSOR]
  | .GAU_TRIM => [GAU_TRIM.G, GAU_TRIM.O, GAU_TRIM.VALID]
  | .GAU_MOD_CFG => [GAU_MOD_CFG.EN, GAU_MOD_CFG.RSRC, GAU_MOD_CFG.ISRC, GAU_MOD_CFG.RLEN, GAU_MOD_CFG.ILEN, GAU_MOD_CFG.RSW, GAU_MOD_CFG.ISW, GAU_MOD_CFG.SDIV]
  | .GAU_MOD_TIM => [GAU_MOD_TIM.TPER]
  | .GAU_MOD_STAT => [GAU_MOD_STAT.IDROP, GAU_MOD_STAT.RDROP, GAU_MOD_STAT.ACT, GAU_MOD_STAT.ENTRY]
  | .GAU_INJ => [GAU_INJ.IN_E, GAU_INJ.OSR_E, GAU_INJ.Q_E, GAU_INJ.IN_O, GAU_INJ.OSR_O, GAU_INJ.Q_O]
  | .GAU_MOD_DLY => [GAU_MOD_DLY.RDLY, GAU_MOD_DLY.IDLY]
  | .GAU_SEQ => [GAU_SEQ.IN_E, GAU_SEQ.OSR_E, GAU_SEQ.Q_E, GAU_SEQ.IN_O, GAU_SEQ.OSR_O, GAU_SEQ.Q_O]
  | .LED_STATUS => [LED_STATUS.RUN_CTX, LED_STATUS.RUN_VALID, LED_STATUS.SCRUB, LED_STATUS.CTX_ERR, LED_STATUS.AUTO_REL]
  | .LED_SNAP => [LED_SNAP.SNAP, LED_SNAP.VALID, LED_SNAP.SEL, LED_SNAP.BUSY]
  | .LED_SN_LO => [LED_SN_LO.COUNT_LO]
  | .LED_SN_HI => [LED_SN_HI.COUNT_HI]
  | .LED_SN_REM => [LED_SN_REM.REM]
  | .LED_SCRUB => [LED_SCRUB.PHASE, LED_SCRUB.CTX, LED_SCRUB.DONE_EVT, LED_SCRUB.OVERRUN, LED_SCRUB.TIME]
  | .LED_REC0 => [LED_REC0.CTX, LED_REC0.END, LED_REC0.STEP_HI]
  | .LED_REC1 => [LED_REC1.STEP_LO]
  | .LED_REC2 => [LED_REC2.ATTR_LO]
  | .LED_REC3 => [LED_REC3.ATTR_HI]
  | .LED_REC4 => [LED_REC4.SPEC_LO]
  | .LED_REC5 => [LED_REC5.SPEC_HI]
  | .LED_REC_CTRL => [LED_REC_CTRL.POP, LED_REC_CTRL.LEVEL, LED_REC_CTRL.LOADED, LED_REC_CTRL.OVF]
  | .LED_CTX => [LED_CTX.STATE, LED_CTX.REL]
  | .LED_CR_GRANT => [LED_CR_GRANT.GRANT]
  | .LED_CR_POOL => [LED_CR_POOL.POOL]
  | .LED_CR_ESC_OUT => [LED_CR_ESC_OUT.ESC_OUT]
  | .LED_CR_ESC_IN => [LED_CR_ESC_IN.ESC_IN]
  | .LED_CR_NET => [LED_CR_NET.NET]
  | .LED_CR_ALLOC => [LED_CR_ALLOC.REGION, LED_CR_ALLOC.AMOUNT, LED_CR_ALLOC.GO, LED_CR_ALLOC.RES]
  | .LED_CR_LOG => [LED_CR_LOG.USED, LED_CR_LOG.OPEN]
  | .LED_TV_LO => [LED_TV_LO.E_LO]
  | .LED_TV_HI => [LED_TV_HI.E_HI, LED_TV_HI.STATE, LED_TV_HI.SEQ]
  | .RLY_CFG => [RLY_CFG.MODE, RLY_CFG.CREDIT, RLY_CFG.ROLE, RLY_CFG.PAIR_POS, RLY_CFG.ID, RLY_CFG.PORT_EN, RLY_CFG.HB_TO]
  | .RLY_STATUS => [RLY_STATUS.PAIR, RLY_STATUS.ACTING, RLY_STATUS.MEMBERS, RLY_STATUS.STBY_WR, RLY_STATUS.SW_REF, RLY_STATUS.UNSYNC_TKO]
  | .RLY_CTRL => [RLY_CTRL.SWITCH, RLY_CTRL.RESYNC, RLY_CTRL.REKEY]
  | .RLY_GRP_BUDGET => [RLY_GRP_BUDGET.B]
  | .RLY_GRP_STATUS => [RLY_GRP_STATUS.LEVEL, RLY_GRP_STATUS.STALE]
  | .RLY_CR_CFG => [RLY_CR_CFG.WEIGHT, RLY_CR_CFG.UNIT, RLY_CR_CFG.RESERVE]
  | .RLY_CR_LNET => [RLY_CR_LNET.LNET]
  | .RLY_PSTAT => [RLY_PSTAT.STATE, RLY_PSTAT.EPOCH, RLY_PSTAT.REKEY_PEND, RLY_PSTAT.PEER_ID, RLY_PSTAT.UNACK]
  | .RLY_PERR => [RLY_PERR.TAG, RLY_PERR.REPLAY, RLY_PERR.ALIGN, RLY_PERR.UNDEF]
  | .RLY_PSEQ_TX => [RLY_PSEQ_TX.SEQ]
  | .RLY_PSEQ_RX => [RLY_PSEQ_RX.SEQ]
  | .RLY_PPEER => [RLY_PPEER.PEER]
  | .BOOT_STATUS => [BOOT_STATUS.STAGE, BOOT_STATUS.LOCK, BOOT_STATUS.FW_SLOT, BOOT_STATUS.SET_SLOT, BOOT_STATUS.TRIAL, BOOT_STATUS.DEFAULTS, BOOT_STATUS.DOM_FAIL, BOOT_STATUS.ENT_FAIL]
  | .BOOT_CFG => [BOOT_CFG.ORDER, BOOT_CFG.GAP, BOOT_CFG.LP_SAVE]
  | .BOOT_COUNT => [BOOT_COUNT.COLD, BOOT_COUNT.WARM]
  | .BOOT_TIME => [BOOT_TIME.COLD_T, BOOT_TIME.WARM_T]
  | .BOOT_FW_VER => [BOOT_FW_VER.VERSION]
  | .BOOT_FW_ALT => [BOOT_FW_ALT.VERSION]
  | .BOOT_UPD_STATUS => [BOOT_UPD_STATUS.RES, BOOT_UPD_STATUS.KIND, BOOT_UPD_STATUS.NEXT, BOOT_UPD_STATUS.OVR, BOOT_UPD_STATUS.PORT]
  | .BOOT_UPD_DATA => [BOOT_UPD_DATA.DATA]
  | .BOOT_TRIAL => [BOOT_TRIAL.BOOTS, BOOT_TRIAL.MINUTES, BOOT_TRIAL.WAIT_TEMP]
  | .KEY_STATUS => [KEY_STATUS.EPOCH0, KEY_STATUS.STATE0, KEY_STATUS.EPOCH1, KEY_STATUS.STATE1, KEY_STATUS.ROT, KEY_STATUS.DONE]
  | .KEY_SVN => [KEY_SVN.SVN, KEY_SVN.REVOKE, KEY_SVN.OBS_LOCK]
  | .BOOT_CHIP => [BOOT_CHIP.CHIP]
  | .BOOT_UNIT_LO => [BOOT_UNIT_LO.UNIT_LO]
  | .BOOT_UNIT_HI => [BOOT_UNIT_HI.UNIT_HI]
  | .TST_STATUS => [TST_STATUS.JREF, TST_STATUS.OBS_REF, TST_STATUS.RIGHTS, TST_STATUS.LIFE_LEFT]
  | .TST_OBS_A => [TST_OBS_A.SEL, TST_OBS_A.LANE]
  | .TST_OBS_B => [TST_OBS_B.SEL, TST_OBS_B.LANE]
  | .TST_LST_CTRL => [TST_LST_CTRL.LANE, TST_LST_CTRL.GO]
  | .TST_LST_RES => [TST_LST_RES.STATUS, TST_LST_RES.FAIL, TST_LST_RES.LANE]
  | .PF_CTRL => [PF_CTRL.ARM, PF_CTRL.SWTRIG]
  | .PF_CFG => [PF_CFG.STR_EN, PF_CFG.BAT_EN, PF_CFG.FLT_EN, PF_CFG.DEC]
  | .PF_RGN => [PF_RGN.RGN0_RGN3]
  | .PF_TRIG => [PF_TRIG.FLT, PF_TRIG.ANY_SEV, PF_TRIG.STEP, PF_TRIG.PAT, PF_TRIG.SRC, PF_TRIG.POST]
  | .PF_TRIG_STEP_LO => [PF_TRIG_STEP_LO.WORD]
  | .PF_TRIG_STEP_HI => [PF_TRIG_STEP_HI.WORD]
  | .PF_PAT_MASK_LO => [PF_PAT_MASK_LO.WORD]
  | .PF_PAT_MASK_HI => [PF_PAT_MASK_HI.WORD]
  | .PF_PAT_VAL_LO => [PF_PAT_VAL_LO.WORD]
  | .PF_PAT_VAL_HI => [PF_PAT_VAL_HI.WORD]
  | .PF_STATUS => [PF_STATUS.WPTR, PF_STATUS.WRAP, PF_STATUS.TRIG, PF_STATUS.FROZEN, PF_STATUS.CAUSE, PF_STATUS.DROP]
  | .DOM_CTRL => [DOM_CTRL.MESH]
  | .DOM_STATUS => [DOM_STATUS.MESH, DOM_STATUS.MESH_PEND, DOM_STATUS.QFULL, DOM_STATUS.HEATS, DOM_STATUS.AT_TARGET]
  | .DOM_SETPT => [DOM_SETPT.VSET, DOM_SETPT.BASE, DOM_SETPT.SCHED]
  | .DOM_SP_CFG => [DOM_SP_CFG.SRC, DOM_SP_CFG.SLEW]
  | .DOM_VRANGE => [DOM_VRANGE.VMIN, DOM_VRANGE.VMAX]
  | .DOM_RCMD => [DOM_RCMD.TARGET, DOM_RCMD.OP, DOM_RCMD.GO]
  | .DOM_RCMD_STEP_LO => [DOM_RCMD_STEP_LO.STEP_LO]
  | .DOM_RCMD_STEP_HI => [DOM_RCMD_STEP_HI.STEP_HI]
  | .DOM_RCMD_RES => [DOM_RCMD_RES.STATUS, DOM_RCMD_RES.BUSY_ERR, DOM_RCMD_RES.WAITED]
  | .DOM_MERGE_CFG => [DOM_MERGE_CFG.THRESH, DOM_MERGE_CFG.DEFER_MAX, DOM_MERGE_CFG.FSTR_CYC, DOM_MERGE_CFG.FSTR_N]
  | .DOM_PCR_CFG => [DOM_PCR_CFG.RISE_MAX, DOM_PCR_CFG.LIFT_MIN, DOM_PCR_CFG.LIFT_HOLD]
  | .DOM_TEL_I => [DOM_TEL_I.I_MEAN, DOM_TEL_I.I_PEAK]
  | .DOM_TEL_P => [DOM_TEL_P.P_MEAN, DOM_TEL_P.P_PEAK]
  | .DOM_TEL_V => [DOM_TEL_V.V_MEAN, DOM_TEL_V.V_MIN]
  | .DOM_TEL_CTRL => [DOM_TEL_CTRL.CLR]
  | .RGN_CTRL => [RGN_CTRL.RESCUE_EN, RGN_CTRL.RESCUE_LANES, RGN_CTRL.RET_CAP, RGN_CTRL.GRACE, RGN_CTRL.CLR_DARK]
  | .RGN_STATUS => [RGN_STATUS.STATE, RGN_STATUS.HEAT, RGN_STATUS.CAUSE, RGN_STATUS.ATTEMPT, RGN_STATUS.DEFER]
  | .RGN_SETPT => [RGN_SETPT.VSET, RGN_SETPT.BASE, RGN_SETPT.SCHED]
  | .RGN_EVT => [RGN_EVT.FALSE_START, RGN_EVT.REG_LOSS, RGN_EVT.EMERG_OPEN, RGN_EVT.VG_FAIL, RGN_EVT.SPARES_OUT, RGN_EVT.DEGRADED, RGN_EVT.DARK_PEND, RGN_EVT.DARK, RGN_EVT.RESCUE]
  | .RGN_LANE_SET0 => [RGN_LANE_SET0.SLOW, RGN_LANE_SET0.SCAP, RGN_LANE_SET0.SSLEW]
  | .RGN_LANE_SET1 => [RGN_LANE_SET1.BTH, RGN_LANE_SET1.BMIN, RGN_LANE_SET1.BPK, RGN_LANE_SET1.WAKE]
  | .RGN_RETAIN => [RGN_RETAIN.VRET, RGN_RETAIN.SETUP]
  | .RGN_VG_STATUS => [RGN_VG_STATUS.WORKING, RGN_VG_STATUS.SPARES_USED, RGN_VG_STATUS.LAST_GROUP, RGN_VG_STATUS.LAST_KIND]
  | .RGN_STR_CFG => [RGN_STR_CFG.PROFILE, RGN_STR_CFG.CLR_FB, RGN_STR_CFG.OSC_TH, RGN_STR_CFG.OSC_WIN, RGN_STR_CFG.OSC_CNT, RGN_STR_CFG.OSC_EN]
  | .RGN_STR_STATUS => [RGN_STR_STATUS.WIN, RGN_STR_STATUS.FB_ACTIVE, RGN_STR_STATUS.SPEC_ACTIVE, RGN_STR_STATUS.AT_TARGET, RGN_STR_STATUS.SAT, RGN_STR_STATUS.CLAMP, RGN_STR_STATUS.OSC, RGN_STR_STATUS.SEG]
  | .RGN_STR_ERR => [RGN_STR_ERR.ERR]
  | .RGN_PCR_STATUS => [RGN_PCR_STATUS.MODE, RGN_PCR_STATUS.BAD, RGN_PCR_STATUS.CLEAN, RGN_PCR_STATUS.PREBIAS, RGN_PCR_STATUS.DEMOTED_EVT, RGN_PCR_STATUS.RESTORED_EVT]
  | .RGN_PCR_FCAST => [RGN_PCR_FCAST.CONF, RGN_PCR_FCAST.MEAS]
  | .RGN_PCR_MM => [RGN_PCR_MM.ERR, RGN_PCR_MM.VALID]
  | .RGN_LIM => [RGN_LIM.TCAP, RGN_LIM.PSHARE]
  | .RGN_GAU_T => [RGN_GAU_T.T0, RGN_GAU_T.T1]
  | .RGN_GAU_TM => [RGN_GAU_TM.TMAX, RGN_GAU_TM.S0_BAD, RGN_GAU_TM.S1_BAD, RGN_GAU_TM.SUBST, RGN_GAU_TM.THROT]
  | .RGN_GAU_V => [RGN_GAU_V.V, RGN_GAU_V.V_MIN]
  | .RGN_VG_FAIL => [RGN_VG_FAIL.BITS]
  | .RGN_VG_MAP => [RGN_VG_MAP.S0, RGN_VG_MAP.S1, RGN_VG_MAP.S2, RGN_VG_MAP.S3]
  | .RGN_VT => [RGN_VT.V_EVEN, RGN_VT.V_ODD]
  | .LANE_CTRL => [LANE_CTRL.EN, LANE_CTRL.CLR_FAIL, LANE_CTRL.RETIRE]
  | .LANE_CFG => [LANE_CFG.RAMP, LANE_CFG.FAST_LIM, LANE_CFG.OPEN_CMD, LANE_CFG.OPEN_SENSE]
  | .LANE_STATUS => [LANE_STATUS.STATE, LANE_STATUS.CAUSE, LANE_STATUS.RETRY, LANE_STATUS.DE, LANE_STATUS.OVL]
  | .LANE_CMD => [LANE_CMD.PEAK, LANE_CMD.TRIM]
  | .LANE_SENSE => [LANE_SENSE.I_PRI, LANE_SENSE.I_SEC]
  | .LANE_EVT => [LANE_EVT.FAST_LATCH, LANE_EVT.FAILED, LANE_EVT.OPEN, LANE_EVT.MISMATCH, LANE_EVT.KEEPER_TO, LANE_EVT.RAMP_LATCH]
  | .LANE_COUNT => [LANE_COUNT.FAST_CYC, LANE_COUNT.LATCHES]
  | .COEF_M => [COEF_M.M_EVEN, COEF_M.M_ODD]
  | .COEF_X => [COEF_X.X0, COEF_X.X1, COEF_X.X2, COEF_X.X3]
  | .COEF_CTRL => [COEF_CTRL.EN, COEF_CTRL.NET_EN, COEF_CTRL.SPEC_EN, COEF_CTRL.TSTEP]
  | .COEF_STATUS => [COEF_STATUS.WR_REF, COEF_STATUS.REC_FULL, COEF_STATUS.NET_ACTIVE, COEF_STATUS.PEND_USED]
  | .COEF_MODEL => [COEF_MODEL.STATUS, COEF_MODEL.N_IN, COEF_MODEL.N_HID, COEF_MODEL.N_OUT, COEF_MODEL.WFMT]
  | .COEF_CNT => [COEF_CNT.SHORT, COEF_CNT.LATE, COEF_CNT.QFULL, COEF_CNT.SLOPE]
  | .COEF_MM_CFG => [COEF_MM_CFG.THRESH, COEF_MM_CFG.DEMOTE_N, COEF_MM_CFG.RESTORE_N, COEF_MM_CFG.FLOOR]
  | .STR_SEG => [STR_SEG.KP_M, STR_SEG.KP_E, STR_SEG.KI_M, STR_SEG.KI_E]
  | .STR_PHDR => [STR_PHDR.FB, STR_PHDR.TRK, STR_PHDR.LIFT, STR_PHDR.LIFT_SLEW, STR_PHDR.PKI]
  | .STR_CFG => [STR_CFG.BAL_EN, STR_CFG.BAL_DB]
  | .REP_CFG => [REP_CFG.LEARN, REP_CFG.RG, REP_CFG.CLAMP, REP_CFG.CLR]
  | .REP_PERIOD => [REP_PERIOD.LEN]
  | .REP_PHASE => [REP_PHASE.PHASE]
  | .REP_SEL => [REP_SEL.REGION]
  | .REP_BIN => [REP_BIN.BIN_EVEN, REP_BIN.BIN_ODD]
  | .PF_WIN => [PF_WIN.WORD]

/-- Registers, part 0. -/
def regsPart0 : List Reg := [.QB_ID, .QB_VERSION, .QB_CTRL, .QB_STATUS, .QB_LANE_CFG, .QB_PORTB_CFG, .QB_IRQ_STATUS, .QB_IRQ_EN, .QB_PORT_ERR, .QB_SEM, .QB_SEM_FORCE, .QB_MBX_DATA]
/-- Registers, part 1. -/
def regsPart1 : List Reg := [.QB_MBX_CTRL, .QB_MBX_STATUS, .FLT_STATUS, .FLT_CTRL, .FLT_RECOV, .FLT_PIN, .FLT_FE0, .FLT_FE1, .FLT_FE2, .FLT_FE3, .FLT_FE4, .FLT_IPEND]
/-- Registers, part 2. -/
def regsPart2 : List Reg := [.FLT_IEN, .FLT_LOG_CTRL, .FLT_LOG0, .FLT_LOG1, .FLT_LOG2, .FLT_LOG3, .FLT_LOG4, .FLT_CLS, .FLT_RCT, .FLT_CNT, .STP_COUNT_LO, .STP_COUNT_HI]
/-- Registers, part 3. -/
def regsPart3 : List Reg := [.STP_FINE, .STP_STATUS, .BAT_CFG, .BAT_STATUS, .BAT_ERR, .BAT_ERR2, .BAT_TXN, .LIM_CFG, .LIM_CAP_REG, .LIM_MODEL, .LIM_SUP, .LIM_CAP_STATUS]
/-- Registers, part 4. -/
def regsPart4 : List Reg := [.LIM_PWR0, .LIM_PWR1, .LIM_STR_STATUS, .LIM_STR_HOST, .LIM_STR_SRC, .LIM_TH_CFG, .LIM_ALERT, .LIM_VT_CFG, .LIM_BOOST, .LIM_CNT, .GAU_CFG, .GAU_STATUS]
/-- Registers, part 5. -/
def regsPart5 : List Reg := [.GAU_QDATA_LO, .GAU_QDATA_HI, .GAU_QSTAT, .GAU_VIN, .GAU_TH_CFG, .GAU_TH_HYS, .GAU_TMAX, .GAU_TSTAT, .GAU_OTH_EN, .GAU_TRIM_SEL, .GAU_TRIM, .GAU_MOD_CFG]
/-- Registers, part 6. -/
def regsPart6 : List Reg := [.GAU_MOD_TIM, .GAU_MOD_STAT, .GAU_INJ, .GAU_MOD_DLY, .GAU_SEQ, .LED_STATUS, .LED_SNAP, .LED_SN_LO, .LED_SN_HI, .LED_SN_REM, .LED_SCRUB, .LED_REC0]
/-- Registers, part 7. -/
def regsPart7 : List Reg := [.LED_REC1, .LED_REC2, .LED_REC3, .LED_REC4, .LED_REC5, .LED_REC_CTRL, .LED_CTX, .LED_CR_GRANT, .LED_CR_POOL, .LED_CR_ESC_OUT, .LED_CR_ESC_IN, .LED_CR_NET]
/-- Registers, part 8. -/
def regsPart8 : List Reg := [.LED_CR_ALLOC, .LED_CR_LOG, .LED_TV_LO, .LED_TV_HI, .RLY_CFG, .RLY_STATUS, .RLY_CTRL, .RLY_GRP_BUDGET, .RLY_GRP_STATUS, .RLY_CR_CFG, .RLY_CR_LNET, .RLY_PSTAT]
/-- Registers, part 9. -/
def regsPart9 : List Reg := [.RLY_PERR, .RLY_PSEQ_TX, .RLY_PSEQ_RX, .RLY_PPEER, .BOOT_STATUS, .BOOT_CFG, .BOOT_COUNT, .BOOT_TIME, .BOOT_FW_VER, .BOOT_FW_ALT, .BOOT_UPD_STATUS, .BOOT_UPD_DATA]
/-- Registers, part 10. -/
def regsPart10 : List Reg := [.BOOT_TRIAL, .KEY_STATUS, .KEY_SVN, .BOOT_CHIP, .BOOT_UNIT_LO, .BOOT_UNIT_HI, .TST_STATUS, .TST_OBS_A, .TST_OBS_B, .TST_LST_CTRL, .TST_LST_RES, .PF_CTRL]
/-- Registers, part 11. -/
def regsPart11 : List Reg := [.PF_CFG, .PF_RGN, .PF_TRIG, .PF_TRIG_STEP_LO, .PF_TRIG_STEP_HI, .PF_PAT_MASK_LO, .PF_PAT_MASK_HI, .PF_PAT_VAL_LO, .PF_PAT_VAL_HI, .PF_STATUS, .DOM_CTRL, .DOM_STATUS]
/-- Registers, part 12. -/
def regsPart12 : List Reg := [.DOM_SETPT, .DOM_SP_CFG, .DOM_VRANGE, .DOM_RCMD, .DOM_RCMD_STEP_LO, .DOM_RCMD_STEP_HI, .DOM_RCMD_RES, .DOM_MERGE_CFG, .DOM_PCR_CFG, .DOM_TEL_I, .DOM_TEL_P, .DOM_TEL_V]
/-- Registers, part 13. -/
def regsPart13 : List Reg := [.DOM_TEL_CTRL, .RGN_CTRL, .RGN_STATUS, .RGN_SETPT, .RGN_EVT, .RGN_LANE_SET0, .RGN_LANE_SET1, .RGN_RETAIN, .RGN_VG_STATUS, .RGN_STR_CFG, .RGN_STR_STATUS, .RGN_STR_ERR]
/-- Registers, part 14. -/
def regsPart14 : List Reg := [.RGN_PCR_STATUS, .RGN_PCR_FCAST, .RGN_PCR_MM, .RGN_LIM, .RGN_GAU_T, .RGN_GAU_TM, .RGN_GAU_V, .RGN_VG_FAIL, .RGN_VG_MAP, .RGN_VT, .LANE_CTRL, .LANE_CFG]
/-- Registers, part 15. -/
def regsPart15 : List Reg := [.LANE_STATUS, .LANE_CMD, .LANE_SENSE, .LANE_EVT, .LANE_COUNT, .COEF_M, .COEF_X, .COEF_CTRL, .COEF_STATUS, .COEF_MODEL, .COEF_CNT, .COEF_MM_CFG]
/-- Registers, part 16. -/
def regsPart16 : List Reg := [.STR_SEG, .STR_PHDR, .STR_CFG, .REP_CFG, .REP_PERIOD, .REP_PHASE, .REP_SEL, .REP_BIN, .PF_WIN]

/-- Every register. -/
def Reg.all : List Reg :=
  List.flatten [regsPart0, regsPart1, regsPart2, regsPart3, regsPart4, regsPart5, regsPart6, regsPart7, regsPart8, regsPart9, regsPart10, regsPart11, regsPart12, regsPart13, regsPart14, regsPart15, regsPart16]

end Sys2Proof.Machine
end

