-- ==== Sys2Proof/Machine/Units2.lean ====
section
/-! DEFINITION. The state of the Limits unit, Gauge, the Ledger, Relay, Opal, the flash, boot, the host ports, the test unit and
Photo-finish: plain data, as chapters 07 to 09 and 11 to 14 of spec/ name it. -/

namespace Sys2Proof.Machine

/-- The phases of the forced lowest state (R336, R342). -/
inductive LowPhase where
  /-- Not in force. -/
  | out
  /-- In force, a cause standing or its hold running. -/
  | inForce
  /-- Step 1 of R342 has been taken: the set-points return. -/
  | rising
  /-- Step 2: FREQ_FLOOR for NOM has been sent. -/
  | released
  /-- Step 3: acknowledged; EMERGENCY ends at the next boundary, or at the step the master names. -/
  | acked
  deriving DecidableEq, Repr

/-- The Limits unit (07_power_limits.md). -/
structure Lim where
  /-- Samples and the sum of V × I over the samples of the running tick, 5 nW (R304). -/
  smpN : Nat := 0
  pSum : Int := 0
  /-- P_in of the last 1,000 ticks, mW, newest first (R305, R306), and U (R307). -/
  pin : List Nat := []
  u : List Rat := []
  /-- The sum and number of stretch levels over the boundaries of the running tick (R307). -/
  lvlSum : Nat := 0
  lvlN : Nat := 0
  /-- The cap in force, W (R308). -/
  cap : Nat := 1500
  /-- PCAP_IN: level, last rising edge, last falling edge, last valid period with its high time and its end, run of valid periods. -/
  pcapHigh : Bool := false
  pcapRise : Option Nat := none
  pcapFall : Option Nat := none
  pcapValid : Option (Nat × Nat) := none
  pcapAt : Nat := 0
  pcapRun : Nat := 0
  pcapLost : Bool := true
  /-- The loss has been reported (R310). -/
  pcapRep : Bool := false
  /-- CAP_ANA is stale (R311). -/
  anaStale : Bool := true
  /-- Levels in force (R315). -/
  power : Nat := 0
  thermal : Nat := 0
  host : Nat := 0
  emerg : Nat := 0
  cascade : Nat := 0
  /-- The level last ordered of POWER, THERMAL and HOST, and orders that the queue refused (R316, R317). -/
  ordPower : Nat := 0
  ordThermal : Nat := 0
  ordHost : Nat := 0
  waiting : List (StrSrc × Nat) := []
  /-- THERMAL as the rounds and R331 set it (R329). -/
  thLevel : Nat := 0
  /-- Regions whose run of D_T has reached 20 samples since the last tick (R331). -/
  thRun : List Nat := []
  /-- F_in of the last tick, mW (R319, R499). -/
  fin : Nat := 0
  /-- Forced-merge stretches placed: first boundary, boundaries, cycles (R115); in a cascade, those requested of the master (R322). -/
  mergeStr : List (Nat × Nat × Nat) := []
  /-- stretch_req: MULT and N (R312), and the level that stands on it. -/
  reqMult : Bool := false
  reqN : Nat := 0
  reqLevel : Nat := 0
  reqSrc : Nat := 0
  /-- The forced lowest state: its phase, its first and last cause, ALERT_N and APPROACH (R332 to R336). -/
  low : LowPhase := .out
  lowFirst : Nat := 0
  lowLast : Nat := 0
  alert : Bool := false
  appr : Bool := false
  /-- ALERT_N deasserted since; the die maximum below APPROACH − 5 °C since. -/
  alertHigh : Nat := 0
  apprBelow : Option Nat := none
  /-- The frequency point of the FREQ_FLOOR in force; when it was last sent; it has been acknowledged, so that the voltage table
  applies. -/
  floorFp : Nat := 0
  floorAt : Option Nat := none
  vtOn : Bool := false
  /-- In a cascade, the master has ordered the exit; the step it names for the end (R343). -/
  exitOk : Bool := false
  endStep : Option Nat := none
  deriving DecidableEq, Repr

/-- A close record (R398). -/
structure CloseRec where
  ctx : Nat
  /-- END: 0 by KIND 2, 1 by a scrub. -/
  by_ : Nat
  step : Nat
  attr : Nat
  spec : Nat
  deriving DecidableEq, Repr

/-- A tenant-view pair (R401, R402). -/
structure TView where
  e : Nat := 0
  st : Nat := 0
  seq : Nat := 0
  deriving DecidableEq, Repr

/-- The states of a context slot (09, Contexts). -/
inductive CtxState where
  | FREE | OPEN | RUNNING | CLOSED
  deriving DecidableEq, Repr

/-- The LED_CTX.STATE code. -/
def CtxState.code : CtxState → Nat
  | .FREE => 0 | .OPEN => 1 | .RUNNING => 2 | .CLOSED => 3

/-- A scrub in progress (R405 to R410): its context, its start, the LED_SCRUB.PHASE, that it has overrun. -/
structure Scrub where
  ctx : Nat
  start : Nat
  phase : Nat
  overran : Bool
  deriving DecidableEq, Repr

/-- The phases of a credit transfer in the log (R415, R416). -/
inductive CrPhase where
  | prepared | committed | aborted
  deriving DecidableEq, Repr

/-- An entry of the credit log (R416) with the port of its transfer; `closed` is R512's: a lender has CR_DONE, a borrower has committed,
or the transfer is aborted. -/
structure CrEntry where
  tid : Nat
  lend : Bool
  port : Nat
  phase : CrPhase
  x : Nat
  step : Nat
  closed : Bool
  /-- When it was prepared, and when CR_PREP_ACK was last sent (R510, R511). -/
  at_ : Nat
  deriving DecidableEq, Repr

/-- The Ledger (09_ledger_and_isolation.md). Accounts are exact, in units of 0.25 fJ (R390). -/
structure Ledger where
  m : Nat := 0
  u : Nat := 0
  ra : Nat := 0
  rs : Nat := 0
  attr : Tbl Nat := tblEmpty
  spec : Tbl Nat := tblEmpty
  ctx : Tbl CtxState := tblEmpty
  /-- The queue of close records (R398). -/
  recs : List CloseRec := []
  /-- The scrub in progress (R405). -/
  scrub : Option Scrub := none
  /-- Context switches and closes that fell due in a scrub (R409). -/
  waiting : List Action := []
  /-- A snapshot is being taken (R395). -/
  snapBusy : Bool := false
  /-- The tenant views (R401). -/
  tv : Tbl TView := tblEmpty
  /-- The word that LED_TV_HI returns (R418), per context. -/
  tvCap : Tbl Nat := tblEmpty
  /-- The pool (mW, negative after R514), the allowances, the credit in flight and NET (R412 to R415). -/
  pool : Int := 0
  allow : Tbl Nat := tblEmpty
  escOut : Nat := 0
  escIn : Nat := 0
  net : Int := 0
  /-- Moves that wait for the next tick (R414). -/
  moves : List (Nat × Int) := []
  /-- The credit log, oldest first. -/
  log : List CrEntry := []
  deriving DecidableEq, Repr

/-- The link states of a Relay port (R474). -/
inductive LinkState where
  | DOWN | TRAIN | HELLO | UP | REFUSED
  deriving DecidableEq, Repr

/-- The RLY_PSTAT.STATE code. -/
def LinkState.code : LinkState → Nat
  | .DOWN => 0 | .TRAIN => 1 | .HELLO => 2 | .UP => 3 | .REFUSED => 4

/-- A message to send: MTYPE, RELIABLE, body (byte i in bits [8i+7:8i]). -/
structure RMsg where
  mtype : Nat
  rel : Bool
  body : BitVec 272
  deriving DecidableEq, Repr

/-- A child's REPORT (R499). -/
structure RReport where
  n : Nat := 0
  a1u : Nat := 0
  pidle : Nat := 0
  fin : Nat := 0
  cap : Nat := 0
  stale : Nat := 0
  step : Nat := 0
  deriving DecidableEq, Repr

/-- What a HELLO shows (R467). -/
structure RHello where
  r : Nat
  n : BitVec 128
  id : Nat
  boot : Nat
  flags : Nat
  /-- The port that sent it. -/
  port : Nat
  deriving DecidableEq, Repr

/-- The receiving side of one epoch: the highest SEQ accepted and those of the 64 below it (R470). -/
structure RWindow where
  epoch : Nat := 0
  high : Option Nat := none
  seen : List Nat := []
  deriving DecidableEq, Repr

/-- A Relay port. -/
structure RPort where
  st : LinkState := .DOWN
  since : Nat := 0
  aligned : Bool := false
  lostAt : Nat := 0
  /-- The own HELLO last sent, and the peer's (R467, R476). -/
  own : Option RHello := none
  peer : Option RHello := none
  /-- The BOOT that the peer last showed (R498, R514). -/
  lastBoot : Option Nat := none
  /-- The group key in use, and session keys by epoch (R469, R557). -/
  kg : BitVec 256 := 0#256
  keys : List (Nat × BitVec 256) := []
  /-- The epoch and SEQ of the next frame sent, the receiving side (R470). -/
  txE : Nat := 0
  txSeq : Nat := 0
  rx : RWindow := {}
  /-- The epoch before, the frames it may still bring and the end of its grace (R472). -/
  old : Option (RWindow × Nat × Nat) := none
  /-- The nonce of a REKEY sent and not acknowledged (R471). -/
  rekey : Option (BitVec 128) := none
  /-- When the last DATA frame came and the last frame went out (R475, R477). -/
  lastData : Nat := 0
  lastSent : Nat := 0
  /-- Messages that wait to be sent. -/
  waiting : List RMsg := []
  /-- Reliable messages sent and not acknowledged, with their MSEQ (R479). -/
  unacked : List (Nat × RMsg) := []
  /-- MSEQ sent and received, when the last MACK came (R477 to R479). -/
  txM : Nat := 0
  rxM : Nat := 0
  ackAt : Nat := 0
  /-- The latest REPORT of the child and its time (R499). -/
  report : Option (RReport × Nat) := none
  deriving DecidableEq, Repr

/-- A level requested of the tree master (R322, R502): the port it came from (5: the instance's own), SRC, step, level. -/
structure RReq where
  from_ : Nat
  src : Nat
  step : Nat
  level : Nat
  deriving DecidableEq, Repr

/-- Relay beside its registers (11_scale_out.md). -/
structure Relay where
  ports : Tbl RPort := tblEmpty
  /-- Messages accepted and not yet processed: port, MTYPE, body. -/
  rxq : List (Nat × Nat × BitVec 272) := []
  /-- The ports whose JOINs went up and have no GRANT yet, oldest first; 5 is the instance's own (R508, R509). -/
  joinq : List Nat := []
  /-- The pair state that the partner's HEARTBEAT last showed (R481). -/
  peerSt : Nat := 0
  /-- Chunks of a RESYNC received: offset, data (R489). -/
  chunks : List (Nat × Nat) := []
  /-- Levels requested of the master (R502). -/
  reqs : List RReq := []
  /-- Levels sent up: SRC, step, level; levels ordered: step, level. -/
  sent : List (Nat × Nat × Nat) := []
  ordered : List (Nat × Nat) := []
  /-- The serial number of the last order, and that a NAK waits (R503, R504). -/
  serial : Nat := 0
  nak : Bool := false
  /-- The last ORDER and EMERG_ORDER forwarded (R507). -/
  lastOrder : Option (BitVec 272) := none
  lastEmerg : Option (BitVec 272) := none
  /-- Instances that have joined with their BOOT (R498), grants given (R508). -/
  joined : List (Nat × Nat) := []
  granted : List (Nat × Nat) := []
  /-- Credit mode has been entered (R412, R509). -/
  credit : Bool := false
  /-- At the master: causes by origin, an emergency is ordered, reports of exit step 3 (R343). -/
  causes : List (Nat × Nat) := []
  emergency : Bool := false
  exiting : Bool := false
  done3 : List (Nat × Nat) := []
  /-- The largest K ordered for a release step (R326). -/
  delays : List (Nat × Nat) := []
  /-- The digest of the last boundary whose count is a multiple of 1,024, and consecutive digests that differed (R488). -/
  digest : BitVec 128 := 0#128
  digestAt : Nat := 0
  differ : Nat := 0
  /-- The heartbeat has been declared lost (R491). -/
  hbLost : Bool := false
  /-- pair_fence_n is asserted since; the partner asserts it (R486, R492). -/
  fence : Option Nat := none
  fenced : Bool := false
  /-- No DATA frame accepted since the release from a fence (R495). -/
  waitFrame : Bool := false
  /-- A planned switch-over waits for the boundary (R496). -/
  switching : Bool := false
  /-- The step at which a RESYNC loads (R489). -/
  resyncAt : Option Nat := none
  /-- The 22-bit count of the transfers lent (R510). -/
  tids : Nat := 0
  deriving DecidableEq, Repr

/-- A Gauge modulator (R360 to R369): the entry of the housekeeping round, of the regular and of the injected sequence in conversion or
suspended; the round includes CAP_ANA; when a delay of each kind began; a start held pending. -/
structure Modulator where
  hk : Option Nat := none
  hkCap : Bool := false
  reg : Option Nat := none
  inj : Option Nat := none
  regDelay : Option Nat := none
  injDelay : Option Nat := none
  regPend : Bool := false
  deriving DecidableEq, Repr

/-- A temperature sensor (R358, R378): its last valid temperature code, a valid reading in the running round, runs of rounds, bad. -/
structure Sensor where
  val : Option Int := none
  got : Bool := false
  badRun : Nat := 0
  goodRun : Nat := 0
  bad : Bool := false
  deriving DecidableEq, Repr

/-- Gauge beside its registers (08_gauge_and_thermal.md). -/
structure Gauge where
  mods : Tbl Modulator := tblEmpty
  /-- Every modulator has ended its round, which is not yet evaluated (R382). -/
  roundDone : Bool := false
  /-- The latest non-OVR result of each voltage channel (R370, R375, R377). -/
  latest : Tbl (Option Int) := tblEmpty
  /-- When the latest CAP_ANA result came (R311). -/
  anaAt : Nat := 0
  /-- The 544 sensors (R358, R378). -/
  sensors : Tbl Sensor := tblEmpty
  /-- Trims G_s and O_s (R358). -/
  trimG : Tbl Int := tblEmpty
  trimO : Tbl Int := tblEmpty
  /-- Consecutive evaluations with GAU_VIN out of range (R376). -/
  vinRun : Nat := 0
  /-- The die maximum and every region maximum of the last evaluation, 2^-14 °C. -/
  dieT : Option Int := none
  rgnT : Tbl (Option Int) := tblEmpty
  /-- The result queue (R371), the step count of the last time entry written, a broadcast jump since, LOST is due, the first discard since
  the queue was empty has been reported. -/
  queue : List (BitVec 64) := []
  lastTime : Option Nat := none
  jumped : Bool := false
  lost : Bool := false
  ovfSeen : Bool := false
  /-- Telemetry (R383, R384): samples of the running ms; per domain the sums of current (mA) and power (20 nW), the last 20 samples. -/
  telN : Nat := 0
  telI : Tbl Nat := tblEmpty
  telP : Tbl Nat := tblEmpty
  lastI : Tbl (List Nat) := tblEmpty
  lastP : Tbl (List Nat) := tblEmpty
  deriving DecidableEq, Repr

/-- Opal: 64 words, each in two fuse copies (R516). -/
structure Opal where
  a : Tbl Word := tblEmpty
  b : Tbl Word := tblEmpty
  deriving DecidableEq, Repr

/-- A key slot (R526): its epoch, its state (0 EMPTY, 1 STAGED, 2 LIVE, 3 RETIRING), the wrapped page key and K_G. -/
structure KeySlot where
  epoch : Nat := 0
  st : Nat := 0
  wrapped : List Byte := []
  deriving DecidableEq, Repr

/-- A boot record (R530, R543, R547 to R549, R552 to R556). -/
inductive BootRec where
  /-- The new slot and the settings slot that its firmware uses. -/
  | trialStart (slot set : Nat)
  /-- A further boot into the trial firmware. -/
  | trialBoot
  | trialMinute
  | commit
  | rollback
  | rotBegin
  /-- Page number of the flash. -/
  | rotCopied (page : Nat)
  | rotSwitched (page : Nat)
  | rotComplete
  /-- A settings slot comes into use (R540, R546). -/
  | setUse (set : Nat)
  deriving DecidableEq, Repr

/-- What Marshal firmware has written to a settings slot since its image: defaults with their FORMAT (R546), the retire list (R87), FSW
(R594). -/
structure SetRec where
  payload : Option (Nat × List Byte) := none
  retire : Option (List Nat) := none
  fsw : Option Nat := none
  deriving DecidableEq, Repr

/-- A copy of the learned profiles (R558): sequence number, LEN, bins (index 256 n + b). -/
structure LearnCopy where
  seq : Nat
  len : Nat
  bins : Tbl Int
  deriving DecidableEq, Repr

/-- An entry of the log partition (R448, R560): a record with the boot count, or a loss. -/
inductive LogEnt where
  | stored (r : LogRec) (boot : Nat)
  | loss (n : Nat)
  deriving DecidableEq, Repr

/-- The flash. -/
structure Nvm where
  /-- Its SFDP tables declare what R521 asks (R522), and its size in bytes. -/
  sfdpOk : Bool := false
  size : Nat := 0
  /-- Pages by offset / 4,096; an unlisted page is erased. -/
  pages : Tbl (List Byte) := tblEmpty
  /-- Boot records, oldest first (R530, R547). -/
  recs : List BootRec := []
  /-- The committed firmware and settings slots, cold boots recorded. -/
  committed : Nat := 0
  setCommitted : Nat := 0
  cold : Nat := 0
  /-- Key slots (R526), settings slots (R546), learned-profile copies (R558). -/
  key0 : KeySlot := {}
  key1 : KeySlot := {}
  set0 : SetRec := {}
  set1 : SetRec := {}
  learnA : Option LearnCopy := none
  learnB : Option LearnCopy := none
  /-- The learned-profile partition is marked empty (R406). -/
  learnEmpty : Bool := false
  /-- The log partition (R560). -/
  log : List LogEnt := []
  /-- Log records lost as the ring was reused (R560), so that record indices keep their meaning. -/
  logFirst : Nat := 0
  deriving DecidableEq, Repr

/-- The fields of a manifest that are used after its check (R527). -/
structure Manifest where
  kind : Nat := 0
  flags : Nat := 0
  format : Nat := 0
  version : Nat := 0
  svn : Nat := 0
  epoch : Nat := 0
  setMin : Nat := 0
  setCur : Nat := 0
  len : Nat := 0
  deriving DecidableEq, Repr

/-- An ACTIVATE pause (R543): when it began, the firmware slot it starts, that slot's settings slot, that it is a rollback, that step 3
has passed, the port whose command it answers. -/
structure Pause where
  since : Nat
  slot : Nat
  set : Nat
  rollback : Bool
  ok : Bool
  port : Option Nat
  deriving DecidableEq, Repr

/-- Boot, update and Marshal (12_startup_and_update.md). -/
structure Boot where
  /-- When power-on reset was released, and when the running warm boot began. -/
  porAt : Nat := 0
  warmAt : Nat := 0
  /-- Partitions: ID, offset, bytes (R523). -/
  parts : List (Nat × Nat × Nat) := []
  /-- The manifest of the running firmware; its code SRAM reads as loaded (R538). -/
  fw : Manifest := {}
  codeOk : Bool := true
  /-- Boot lock has been set since power-on reset (R532). -/
  lockedOnce : Bool := false
  /-- Marshal runs firmware: it is in no reset and not in its boot ROM. -/
  marshal : Bool := false
  /-- The DRBG is seeded and its source healthy (R534). -/
  seeded : Bool := false
  /-- The position in ORDER of the domain that starts; when the first condition of R535 began to hold. -/
  domPos : Nat := 0
  domSettled : Option Nat := none
  /-- The heat plan of the domain has been ordered. -/
  planDone : Bool := false
  /-- The ACTIVATE pause (R543). -/
  pause : Option Pause := none
  /-- The update session (R541, R542, R563): open, pages announced, staged words, staging index. -/
  updOpen : Bool := false
  updPages : Nat := 0
  staging : Tbl Nat := tblEmpty
  stageIx : Nat := 0
  /-- The last TRIAL_MINUTE, learned-profile save and log copy. -/
  minuteAt : Nat := 0
  saveAt : Nat := 0
  copyAt : Nat := 0
  /-- The LEN of the learned bins loaded or saved (R559). -/
  learnLen : Nat := 0
  /-- Pages re-encrypted in the running rotation (KEY_STATUS.DONE) and the place in the flash it has reached. -/
  rotDone : Nat := 0
  rotNext : Nat := 0
  /-- The settings payload in use, for warm boot (R539). -/
  settings : List Byte := []
  /-- A settings slot that ACTIVATE has put into use applies whole at the next warm boot (R540). -/
  setNew : Bool := false
  /-- COEF_CTRL.EN to restore, and the port to answer, when the running model load ends (R278, R540). -/
  modelEn : Bool := false
  modelPort : Option Nat := none
  /-- The token challenge not yet used and when it was issued; the token's bytes; the end of the rights (R614 to R616). -/
  nonce : Option (BitVec 128 × Nat) := none
  token : Tbl Nat := tblEmpty
  rightsEnd : Option Nat := none
  deriving DecidableEq, Repr

/-- The host ports beside their registers (13_host_ports_and_registers.md): BUSY mailboxes in the order of their GOs, Port B's window,
replay buffer and status flags. -/
structure HostPorts where
  busy : List Nat := []
  winOff : Nat := 0
  winCount : Nat := 0
  winInc : Bool := false
  replay : List Word := []
  applied : Bool := false
  refused : Bool := false
  pecBad : Bool := false
  /-- What the last single read returned, and pa_err of the last transaction of Port A (R570). -/
  rdata : Word := 0#32
  err : Bool := false
  deriving DecidableEq, Repr

/-- The test unit (14_test_and_debug.md): instruction register, wrapper instruction register, boundary registers, the lane self-test that
runs with its start. -/
structure TestUnit where
  ir : Nat := 2
  wir : Nat := 0
  /-- The instruction in force was refused and acts as BYPASS (R600, R603). -/
  refused : Bool := false
  /-- Boundary cells (R601), wrapper cells (R604), the running self-test: lane, start, state before (R605). -/
  cells : BitVec 23 := 0x000020#23
  wcells : BitVec 1142 := 0#1142
  lst : Option (Nat × Nat × RgnState) := none
  deriving DecidableEq, Repr

/-- Photo-finish (R617 to R622): records of 8 words (an unlisted one reads 0), the 48-bit step of the last TIME record, records left
after the trigger, samples counted for the decimation. -/
structure Photo where
  recs : Tbl (List Nat) := tblEmpty
  lastTime : Option Nat := none
  post : Option Nat := none
  smp : Nat := 0
  deriving DecidableEq, Repr

end Sys2Proof.Machine
end

