-- ==== Sys2Proof/Machine/State.lean ====
section
/-! DEFINITION. The state of the block: the register file, every unit's state, the queue of waiting commands; the faults and
refusals; the state after reset. -/

namespace Sys2Proof.Machine

/-- Why a command stops. -/
inductive Fault where
  /-- Raised by a command whose operands are no command of the hardware (Instr.WellFormed, the check named). Safe. -/
  | illFormed (check : String)
  deriving DecidableEq, Repr

/-- Why a command is refused. -/
inductive Refusal where
  /-- Answered by the dispatch for a command without a meaning yet. Safe. -/
  | notModelled (mnemonic : String)
  deriving DecidableEq, Repr

/-- A packet or message that the block has sent. -/
inductive Output where
  /-- A Baton packet's payload (R205). -/
  | baton (payload : BitVec 64)
  /-- A Relay frame on a port (R461). -/
  | relay (p : Nat) (frame : List Byte)
  /-- Bytes answered on Port B (R575 to R577). -/
  | smbus (bytes : List Byte)
  /-- Bits shifted out of the test port (R598). -/
  | tdo (v : Nat)
  deriving DecidableEq, Repr

/-- The state of the block. -/
structure State where
  /-- The commands that wait, first in, first out. -/
  pending : List Instr := []
  /-- Local time, ns. -/
  now : Nat := 0
  /-- Power-on reset has been released (R30, R518). -/
  powered : Bool := false
  /-- A block reset is in force since this time (R30). -/
  blockReset : Option Nat := none
  /-- Periods since the release of a block reset, while R191 governs them. -/
  resume : Option Nat := none
  /-- That a reaction caused the block reset in force (R435). -/
  brReaction : Bool := false
  /-- REFCLK is lost; the PLLs run on the backup oscillator (R28, R29). -/
  refLost : Bool := false
  backup : Bool := false
  /-- Every table word has been written since power-on reset (R18). -/
  tablesInit : Bool := false
  /-- Words that the second read-back found wrong: table and index (R457). -/
  badWords : List (Nat × Nat) := []
  /-- The register file, by byte offset (R564). -/
  regs : Tbl Word := tblEmpty
  /-- The step unit (R193). -/
  step : StepUnit := {}
  /-- Periods since the last balance pass (R182). -/
  balCtr : Nat := 0
  /-- Lanes by index, regions by index, heats by their lowest region (02, 03, 04). -/
  lanes : Tbl Lane := tblEmpty
  rgns : Tbl Rgn := tblEmpty
  heats : Tbl Heat := tblEmpty
  /-- The heat of each region; a region not listed is a heat of one (R92). -/
  heatOf : Tbl Nat := tblEmpty
  /-- Closed gates (R90). -/
  gates : Tbl Bool := tblEmpty
  /-- Close and open commands past their due step (R108 to R120). -/
  merges : List PMerge := []
  /-- The host-register source value of each domain, 0.5 mV (R155, R596). -/
  domV : Tbl Nat := tblEmpty
  /-- Placed regions: the domain plus 1; 0 is not placed (R3, R592). -/
  place : Tbl Nat := tblEmpty
  /-- Gates marked allowed (R91), the heat plan (R121). -/
  gatesOk : List Nat := []
  plan : List Nat := []
  /-- Domains whose heat-plan gates are still to close, one after another (R121). -/
  planLeft : List Nat := []
  /-- The units, each described at its structure. -/
  baton : BatonLink := {}
  slots : Tbl Slot := tblEmpty
  pacer : Pacer := {}
  coll : Collector := {}
  lim : Lim := {}
  gauge : Gauge := {}
  led : Ledger := {}
  relay : Relay := {}
  opal : Opal := {}
  nvm : Nvm := {}
  boot : Boot := {}
  host : HostPorts := {}
  test : TestUnit := {}
  pf : Photo := {}
  /-- What the block has sent, newest last. -/
  out : List Output := []
  /-- The model's own counter, to which the free values of Config are applied (log entry 3). -/
  freeCtr : Nat := 0
  deriving DecidableEq, Repr

/-- The block right after power-on reset is asserted: every field at its reset value. -/
def State.reset : State := {}

end Sys2Proof.Machine
end

