-- ==== Sys2Proof/Machine/Operands.lean ====
section
/-! DEFINITION. Operand forms: the fields of Baton notices (R220), the CRCs of the links (R196, R208, the model image's CRC-32), bytes
of words. -/

namespace Sys2Proof.Machine

/-! ### Fields -/

/-- Bits [hi:lo] of a body of 52 bits. -/
def bodyField (b : BitVec 52) (hi lo : Nat) : Nat := (b.toNat >>> lo) % 2 ^ (hi + 1 - lo)

/-- One bit of a body. -/
def bodyBit (b : BitVec 52) (i : Nat) : Bool := b.getLsbD i

/-! ### CRCs -/

/-- One step of a CRC of width `w` that takes the highest bit first. -/
def crcStep (w poly : Nat) (reg : Nat) (bit : Bool) : Nat :=
  let top := decide (reg / 2 ^ (w - 1) % 2 = 1)
  let sh := reg * 2 % 2 ^ w
  if top != bit then sh ^^^ poly else sh

/-- A CRC over bits, first bit first. -/
def crcBits (w poly init : Nat) (bits : List Bool) : Nat := bits.foldl (crcStep w poly) init

/-- The bits of a number of width `n`, highest first. -/
def bitsOf (n v : Nat) : List Bool := (List.range n).map fun i => v.testBit (n - 1 - i)

/-- CRC-8 of a step_bcast frame's bits [63:8] (R196). -/
def crc8 (frame : BitVec 64) : Nat := crcBits 8 0x07 0 (bitsOf 56 (frame.toNat / 256))

/-- CRC-16 of a Baton payload, from P[63] down (R208). -/
def crc16 (payload : BitVec 64) : Nat := crcBits 16 0x1021 0xFFFF (bitsOf 64 payload.toNat)

/-- One step of the reflected CRC-32. -/
def crc32Step (reg : Nat) (bit : Bool) : Nat :=
  let low := decide (reg % 2 = 1)
  if low != bit then (reg / 2) ^^^ 0xEDB88320 else reg / 2

/-- CRC-32 of bytes: polynomial 0x04C1_1DB7, reflected, initial value and final XOR 0xFFFF_FFFF (06, Model image). -/
def crc32 (bs : List Byte) : Nat :=
  (bs.foldl (fun r b => (List.range 8).foldl (fun r i => crc32Step r (b.getLsbD i)) r) 0xFFFFFFFF) ^^^ 0xFFFFFFFF

/-- One step of the SMBus PEC: CRC-8 with polynomial 0x07, over whole bytes. -/
def crc8Bytes (bs : List Byte) : Nat := bs.foldl (fun r b => crcBits 8 0x07 r (bitsOf 8 b.toNat)) 0

/-! ### Bytes -/

/-- `n` bytes of a number, lowest first. -/
def leBytes (n v : Nat) : List Byte := (List.range n).map fun i => BitVec.ofNat 8 (v / 256 ^ i)

/-- The number that bytes spell, lowest first. -/
def ofLe : List Byte → Nat
  | [] => 0
  | b :: t => b.toNat + 256 * ofLe t

/-- A byte of a list; 0 beyond its end. -/
def byteAt (bs : List Byte) (i : Nat) : Nat := (bs.getD i 0#8).toNat

/-- `n` bytes of a list from offset `o`, as a number. -/
def leAt (bs : List Byte) (o n : Nat) : Nat := ofLe ((bs.drop o).take n)

/-! ### Operands that no event of the hardware has (WellFormed.lean) -/

/-- Rising regions below 256 with at most 8 lanes each (R12, R147). -/
def readsOk (rs : List (Nat × RgnRead)) : Bool :=
  risingFrom 0 rs && rs.all (fun x => decide (x.1 < 256) && decide (x.2.lanes.length ≤ 8))

/-- A measurement of each of the 104 vertical groups (R131). -/
def currentsOk (l : List Nat) : Bool := l.length = 104

/-- A raw result (R356). -/
def rawOk (r : Int) : Bool := decide (-8388607 ≤ r ∧ r ≤ 8388607)

/-- Steps 0 to 4 of the self-test (R606). -/
def stepsOk (failed : BitVec 8) : Bool := decide (failed.toNat < 32)

/-- The words of each table (R655). -/
def tableWords : List Nat := [4096, 128, 256, 4096, 256, 80, 68, 512, 2704, 768, 8192, 4096, 388, 2048, 112]

/-- A word of a table (R655). -/
def wordOk (tid index : Nat) : Bool := decide (index < tableWords.getD tid 0)

/-- A type that no notice has (R220). -/
def typeUndefined (ntype : BitVec 4) : Bool := decide (10 < ntype.toNat)

/-- A command code that Port B does not have (R575). -/
def codeUndefined (code : BitVec 8) : Bool := !decide (0x10 ≤ code.toNat ∧ code.toNat ≤ 0x14)

/-- An offset of the coefficient table window (06, Pacer registers). -/
def coefOffset (off : BitVec 20) : Bool := decide (0x80000 ≤ off.toNat ∧ off.toNat < 0xA1000)

/-- A command whose operands fail a check: the hardware has no such event. -/
def checked (ok : Bool) (name : String) (act : Host.Outcome State Fault Refusal) : Host.Outcome State Fault Refusal :=
  if ok then act else .fault (.illFormed name)

/-! ### Notices (R220) -/

/-- The tag, or the group, that a notice of a type names; 0 where it names none. -/
def noticeTag (typ : Nat) (b : BitVec 52) : Nat :=
  match typ with
  | 3 => bodyField b 20 13
  | 4 => bodyField b 14 7
  | 5 => bodyField b 51 44
  | 6 | 7 => bodyField b 51 46
  | 8 => bodyField b 27 20
  | 9 => bodyField b 11 4
  | 10 => bodyField b 46 39
  | _ => 0

/-- A notice of a defined type has a non-zero reserved bit, or a content that R220, R230 and R246 refuse with ENCODING. -/
def noticeBad (typ : Nat) (b : BitVec 52) : Bool :=
  match typ with
  | 0 => false
  | 1 => bodyField b 41 0 ≠ 0
  | 2 => bodyBit b 27 && bodyField b 35 30 ≠ 0
  | 3 => bodyField b 4 0 ≠ 0 || (bodyBit b 27 && bodyField b 35 30 ≠ 0)
  | 4 => bodyField b 4 0 ≠ 0 || (bodyBit b 27 && bodyField b 35 30 ≠ 0) || (bodyBit b 5 && bodyBit b 6)
  | 5 => bodyField b 43 0 ≠ 0
  | 6 | 7 => bodyField b 45 0 ≠ 0
  | 8 => bodyField b 19 0 ≠ 0 || bodyField b 29 28 = 3
  | 9 => bodyField b 3 0 ≠ 0
  | 10 => bodyField b 38 0 ≠ 0
  | _ => true

/-- DUE decoded against the step count (R215): the due step, and that the notice is late. A late one falls due at the next boundary
(R216, R270). -/
def State.dueOf (s : State) (due : Nat) : Nat × Bool :=
  let c := s.step.count
  let delta := (due + 65536 - c % 65536) % 65536
  if 1 ≤ delta ∧ delta ≤ 61439 then (c + delta, false) else (c + 1, true)

end Sys2Proof.Machine
end

