-- ==== Sys2Proof/Machine/Ops.lean ====
section
/-! DEFINITION. The named operations on the state: registers and fields, the records of lanes, regions, heats and slots, time, the
collector's inputs, the step action queue, the sending of acks. -/

namespace Sys2Proof

/-- A port as the originator of an action or the master of an access (R422, R446). -/
def Port.fm : Port → Machine.FMaster
  | .A => .portA
  | .B => .portB

/-- A port's index. -/
def Port.ix : Port → Nat
  | .A => 0
  | .B => 1

/-- A master as R446 names it. -/
def Master.fm : Master → Machine.FMaster
  | .portA => .portA
  | .portB => .portB
  | .marshal => .marshal

/-- The owner ID of a master (13, Semaphores). -/
def Master.owner : Master → Nat
  | .portA => 1
  | .portB => 2
  | .marshal => 3

/-- A port as a master. -/
def Port.master : Port → Master
  | .A => .portA
  | .B => .portB

end Sys2Proof

namespace Sys2Proof.Machine

/-! ### Registers -/

/-- The byte offset of element `i` of a register array; of a two-level array, i = i1 × n2 + i2. -/
def Reg.offset (r : Reg) (i : Nat) : Nat :=
  let p := r.place
  p.base + p.s1 * (i / p.n2) + p.s2 * (i % p.n2)

/-- The elements of a register array. -/
def Reg.count (r : Reg) : Nat := r.place.n1 * r.place.n2

/-- The source with an ID. -/
def Src.ofId (i : Nat) : Option Src := Src.all.find? (fun x => x.id = i)

/-- The reset values that depend on the element or the release: GAU_SEQ and GAU_INJ name their entry's input, STR_PHDR.FB its profile,
FLT_CLS and FLT_RCT the source table's figures (R422), QB_VERSION the release (R651). -/
def Reg.resetExtra (r : Reg) (i : Nat) (w : Word) : Word :=
  match r with
  | .QB_VERSION => Config.version
  | .STR_PHDR => w.withField 3 0 i
  | .GAU_SEQ => (w.withField 5 0 (2 * (i % 32))).withField 21 16 (2 * (i % 32) + 1)
  | .GAU_INJ => (w.withField 5 0 (2 * (i % 2))).withField 21 16 (2 * (i % 2) + 1)
  | .FLT_CLS => match Src.ofId i with
    | some x => w.withField 7 0 x.thr
    | none => w
  | .FLT_RCT => match Src.ofId i with
    | some x => (w.withField 4 0 x.norm).withField 9 5 x.sev
    | none => w
  | _ => w

/-- The word that element `i` of a register holds after power-on reset (R9). -/
def Reg.resetWord (r : Reg) (i : Nat) : Word :=
  r.resetExtra i (r.fields.foldl (fun w f => w.withField f.hi f.lo f.rst) 0#32)

/-- The register and element at a byte offset, if one is there. -/
def Reg.ofOffset (off : Nat) : Option (Reg × Nat) :=
  Reg.all.findSome? fun r =>
    let p := r.place
    if off < p.base then none else
    let d := off - p.base
    let i := if p.s1 = 0 then 0 else d / p.s1
    let d' := d - p.s1 * i
    let j := if p.s2 = 0 then 0 else d' / p.s2
    if i < p.n1 ∧ j < p.n2 ∧ d = p.s1 * i + p.s2 * j then some (r, i * p.n2 + j) else none

/-- The reset word at a byte offset; 0 where no register lies. -/
def resetAt (off : Nat) : Word :=
  match Reg.ofOffset off with
  | some (r, i) => r.resetWord i
  | none => 0#32

/-- The word that the register file holds for element `i` of a register. -/
def State.reg (s : State) (r : Reg) (i : Nat := 0) : Word := tblGet (r.resetWord i) s.regs (r.offset i)

/-- Write that word; an index beyond the array names no element, and the word that is there already, write nothing. -/
def State.setReg (s : State) (r : Reg) (i : Nat) (w : Word) : State :=
  { s with regs := if i < r.count ∧ s.reg r i ≠ w then tblSet (r.resetWord i) s.regs (r.offset i) w else s.regs }

/-- A field's value. -/
def State.f (s : State) (x : Fld) (i : Nat := 0) : Nat := (s.reg x.reg i).field x.hi x.lo

/-- A one-bit field. -/
def State.fb (s : State) (x : Fld) (i : Nat := 0) : Bool := s.f x i ≠ 0

/-- Write a field. -/
def State.put (s : State) (x : Fld) (i : Nat) (v : Nat) : State := s.setReg x.reg i ((s.reg x.reg i).withField x.hi x.lo v)

/-- Set a field to the value it has after power-on reset. -/
def State.rst (s : State) (x : Fld) (i : Nat) : State := s.put x i ((x.reg.resetWord i).field x.hi x.lo)

/-- Add 1 to a counter field, saturating at its greatest value. -/
def State.bump (s : State) (x : Fld) (i : Nat := 0) : State := s.put x i (satAdd (2 ^ (x.hi + 1 - x.lo) - 1) (s.f x i) 1)

/-! ### Records -/

/-- A lane. -/
def State.lane (s : State) (m : Nat) : Lane := tblGet {} s.lanes m

/-- Change a lane. -/
def State.modLane (s : State) (m : Nat) (g : Lane → Lane) : State := { s with lanes := tblMod {} s.lanes m g }

/-- A region. -/
def State.rgn (s : State) (n : Nat) : Rgn := tblGet {} s.rgns n

/-- Change a region. -/
def State.modRgn (s : State) (n : Nat) (g : Rgn → Rgn) : State := { s with rgns := tblMod {} s.rgns n g }

/-- A heat's values. -/
def State.heat (s : State) (h : Nat) : Heat := tblGet {} s.heats h

/-- Change a heat's values. -/
def State.modHeat (s : State) (h : Nat) (g : Heat → Heat) : State := { s with heats := tblMod {} s.heats h g }

/-- A transaction slot. -/
def State.slot (s : State) (t : Nat) : Slot := tblGet {} s.slots t

/-- Change a slot. -/
def State.modSlot (s : State) (t : Nat) (g : Slot → Slot) : State := { s with slots := tblMod {} s.slots t g }

/-- Do something for every element of a list, in order. -/
def State.forEach {α : Type} (s : State) (l : List α) (g : State → α → State) : State := l.foldl g s

/-- The lanes of a region (R12). -/
def lanesOf (n : Nat) : List Nat := [8*n, 8*n+1, 8*n+2, 8*n+3, 8*n+4, 8*n+5, 8*n+6, 8*n+7]

/-- The placed regions, rising (R3). -/
def State.placed (s : State) : List Nat := s.place.entries.map (·.1)

/-- The integration places the region. -/
def State.isPlaced (s : State) (n : Nat) : Bool := tblGet 0 s.place n ≠ 0

/-- The domain of a placed region (R13). -/
def State.domOf (s : State) (n : Nat) : Nat := tblGet 0 s.place n - 1

/-- The placed regions of a domain, rising. -/
def State.domRgns (s : State) (d : Nat) : List Nat := s.placed.filter (fun n => s.domOf n = d)

/-- The heat of a region: its lowest region's index (R92). -/
def State.heatIx (s : State) (n : Nat) : Nat := tblGet n s.heatOf n

/-- The regions of a heat, rising. -/
def State.members (s : State) (h : Nat) : List Nat := s.placed.filter (fun n => s.heatIx n = h)

/-- Every heat's index, rising. -/
def State.allHeats (s : State) : List Nat := s.placed.filter (fun n => s.heatIx n = n)

/-- A gate is closed. -/
def State.closed (s : State) (g : Nat) : Bool := tblGet false s.gates g

/-- The two regions that a gate joins, when it exists (R89, R90). -/
def gateEnds (g : Nat) : Option (Nat × Nat) :=
  let n := g / 2
  if g % 2 = 0 then if n % 16 < 15 ∧ n < 256 then some (n, n + 1) else none
  else if n / 16 < 15 then some (n, n + 16) else none

/-- The gates of a region with the region on the other side, rising (R89). -/
def gatesOf (n : Nat) : List (Nat × Nat) :=
  (if 16 ≤ n then [(2 * (n - 16) + 1, n - 16)] else []) ++ (if n % 16 ≠ 0 then [(2 * (n - 1), n - 1)] else []) ++
  (if n % 16 < 15 then [(2 * n, n + 1)] else []) ++ (if n / 16 < 15 then [(2 * n + 1, n + 16)] else [])

/-- All the region's gates are open. -/
def State.allOpen (s : State) (n : Nat) : Bool := (gatesOf n).all (fun x => !s.closed x.1)

/-! ### Time -/

/-- Local time moves on to `t`; it never moves back. -/
def State.advance (s : State) (t : Nat) : State := { s with now := max s.now t }

/-- The fine count (R195). -/
def State.fine (s : State) : Nat :=
  match s.step.lastEdge with
  | some t => min (s.now - t) 1048575
  | none => min s.now 1048575

/-- The time base is RUNNING. -/
def State.running (s : State) : Bool := s.step.tb = .RUNNING

/-- The step length that periods in steps take while the time base is UNSYNC (R536). -/
def State.tstep (s : State) : Nat := max 400 (s.f COEF_CTRL.TSTEP)

/-! ### The collector's inputs -/

/-- A condition of a source occurs (R420, R421): the event becomes pending or merges into the pending one. Events of one sample period
merge into one, whose address is the lowest. -/
def State.raise (s : State) (x : Src) (ak : AKind) (addr : Nat) (ms : FMaster) (ac : FAccess) : State :=
  let st : SrcState := tblGet {} s.coll.srcs x.id
  let per := s.now / 50
  let ev : Evt := match st.pend with
    | none => ⟨1, ak, addr, ms, ac, if s.step.tb = .UNSYNC then 0 else s.step.count, s.fine, s.step.tb = .UNSYNC, s.now⟩
    | some e =>
      if st.lastPer = per then if e.at_ / 50 = per then { e with addr := min e.addr addr } else e
      else { e with merge := satAdd 255 e.merge 1 }
  { s with coll := { s.coll with srcs := tblSet {} s.coll.srcs x.id { st with pend := some ev, lastPer := per } } }

/-- A source of the sense hardware with an address. -/
def State.raiseHw (s : State) (x : Src) (ak : AKind) (addr : Nat) : State := s.raise x ak addr .hardware .sense

/-- The condition of a level source ends now (R426). -/
def State.condEnds (s : State) (x : Src) : State :=
  { s with coll := { s.coll with srcs := tblMod {} s.coll.srcs x.id (fun t => { t with condEnd := s.now }) } }

/-- Set a lane's event bit and report it. -/
def State.laneEvt (s : State) (x : Fld) (src : Src) (m : Nat) : State := (s.put x m 1).raiseHw src .lane m

/-- Set a region's event bit and report it. -/
def State.rgnEvt (s : State) (x : Fld) (src : Src) (n : Nat) : State := (s.put x n 1).raiseHw src .region n

/-! ### The step action queue (R19, R20) -/

/-- Entries in use: those queued, and the close and open commands that have passed their due step and wait. -/
def State.queueUsed (s : State) : Nat := s.step.queue.length + s.merges.length

/-- The queue has room for `k` more actions of an outside originator (R19). -/
def State.roomOut (s : State) (k : Nat) : Bool := s.queueUsed + k ≤ 448

/-- The queue has room for `k` more actions of Quebire's own (R19). -/
def State.roomOwn (s : State) (k : Nat) : Bool := s.queueUsed + k ≤ 512

/-- Enter an action behind the others. -/
def State.enqueue (s : State) (due : Nat) (a : Action) : State :=
  { s with step := { s.step with queue := s.step.queue ++ [⟨due, a⟩] } }

/-- The queue refuses an action (R19, R20, source QUEUE_FULL). -/
def State.queueFull (s : State) (ms : FMaster) : State :=
  s.raise .QUEUE_FULL .none 0 ms (match ms with
    | .relay | .baton => .notice
    | _ => .write)

/-- Drop the queued actions that a test picks. -/
def State.dequeue (s : State) (drop : Action → Bool) : State :=
  { s with step := { s.step with queue := s.step.queue.filter (fun e => !drop e.act) } }

/-! ### Photo-finish (R617 to R620) -/

/-- Write one record: KIND, the step and fine count, the payload words (R617). -/
def State.pfWord (s : State) (kind : Nat) (ws : List Nat) : State :=
  let j := s.f PF_STATUS.WPTR
  let hd := kind + 8 + s.step.count % 16 * 32 + s.fine * 512
  let rec_ := (hd :: ws ++ List.replicate (7 - ws.length) 0).map (· % 2 ^ 32)
  let s1 := { s with pf := { s.pf with recs := tblSet [] s.pf.recs j rec_, post := s.pf.post.map (· - 1) } }
  let s2 := s1.put PF_STATUS.WPTR 0 ((j + 1) % 2048)
  if j = 2047 then s2.put PF_STATUS.WRAP 0 1 else s2

/-- Photo-finish records now: armed, and the records after the trigger are not complete (R619, R620). -/
def State.pfOn (s : State) : Bool := s.fb PF_CTRL.ARM && s.pf.post != some 0

/-- Record, with the TIME record that R618 asks for before it. -/
def State.pfRecord (s : State) (kind : Nat) (ws : List Nat) : State :=
  if !s.pfOn then s else
  let c := s.step.count
  let s1 := if s.pf.lastTime.any (fun t => t / 16 = c / 16) then s
    else ({ s with pf := { s.pf with lastTime := some c } }).pfWord 1 [c, c / 2 ^ 32 % 65536]
  if s1.pfOn then s1.pfWord kind ws else s1

/-- A trigger event (R620): the first after arming. -/
def State.pfTrigger (s : State) (cause : Nat) : State :=
  if !s.fb PF_CTRL.ARM ∨ s.fb PF_STATUS.TRIG then s else
  let s1 := ((s.pfRecord 5 [cause]).put PF_STATUS.TRIG 0 1).put PF_STATUS.CAUSE 0 cause
  { s1 with pf := { s1.pf with post := some (min 2047 (s1.f PF_TRIG.POST)) } }

/-- A Baton packet: its record and the pattern trigger. -/
def State.pfBaton (s : State) (ack crcOk accepted : Bool) (p : BitVec 64) (crc : Nat) : State :=
  if !s.fb PF_CTRL.ARM then s else
  let b := fun (x : Bool) (w : Nat) => if x then w else 0
  let s1 := if s.fb PF_CFG.BAT_EN then
      s.pfRecord 3 [b ack 1 + b crcOk 2 + b accepted 4, p.toNat, p.toNat / 2 ^ 32, crc]
    else s
  let lo := s.reg .PF_PAT_MASK_LO
  let hi := s.reg .PF_PAT_MASK_HI
  let mask := hi ++ lo
  let val := s.reg .PF_PAT_VAL_HI ++ s.reg .PF_PAT_VAL_LO
  if s.fb PF_TRIG.PAT ∧ p &&& mask = val then s1.pfTrigger 3 else s1

/-- The instance holds the active head of its pair, or is outside a pair (R478). -/
def State.activeHead (s : State) : Bool := s.f RLY_STATUS.PAIR ≤ 1

/-- A Baton packet goes out; a standby computes its acks and withholds them (R487). -/
def State.emit (s : State) (p : BitVec 64) : State :=
  if s.activeHead then ({ s with out := s.out ++ [Output.baton p] }).pfBaton true true true p (crc16 p) else s

/-! ### Acks (R209, R212, R225) -/

/-- Send one sequenced packet. -/
def State.sendNow (s : State) (typ body : Nat) : State :=
  let b := s.baton
  let p := BitVec.ofNat 64 ((typ % 16) * 2 ^ 60 + (b.txNext % 256) * 2 ^ 52 + body % 2 ^ 52)
  ({ s with baton := { b with txNext := (b.txNext + 1) % 256, lastTx := b.txNext, unacked := b.unacked ++ [(p, s.now)] } }).emit p

/-- Send an ack: at most 128 stay unacknowledged, further ones wait (R212); none before READY (R249). -/
def State.sendAck (s : State) (typ body : Nat) : State :=
  if !s.baton.up then s
  else if s.baton.unacked.length < 128 ∧ s.baton.wait = [] then s.sendNow typ body
  else { s with baton := { s.baton with wait := s.baton.wait ++ [(typ, body)] } }

/-- Send an ack that concerns a tag, and keep it for a fail-over (R249). -/
def State.sendTag (s : State) (tag typ body : Nat) : State :=
  (s.sendAck typ body).modSlot tag (fun t => { t with lastAck := some (typ, body), ackAt := s.now })

/-- Send an unsequenced LINK (R210, R211). -/
def State.sendLink (s : State) (nak : Bool) : State :=
  let b := s.baton
  let p := BitVec.ofNat 64 (1 * 2 ^ 60 + b.lastRx * 2 ^ 44 + (if nak then 2 ^ 43 else 0))
  ({ s with baton := { b with rxUncov := 0, rxSince := none } }).emit p

/-- ACCEPT; CONFIRM and CANCEL carry their group in the place of the tag. -/
def State.ackAccept (s : State) (seq ntype tag status : Nat) : State :=
  let body := seq * 2 ^ 44 + ntype * 2 ^ 40 + tag * 2 ^ 32 + status * 2 ^ 28
  if ntype = 6 ∨ ntype = 7 then s.sendAck 2 body else s.sendTag tag 2 body

/-- DONE of a set-point transition, with the low 16 bits of the step. -/
def State.ackDone (s : State) (tag status : Nat) : State :=
  s.sendTag tag 3 (tag * 2 ^ 44 + status * 2 ^ 40 + (s.step.count % 65536) * 2 ^ 24)

/-- STRETCH. -/
def State.ackStretch (s : State) (tag k newdue : Nat) : State :=
  s.sendTag tag 4 (tag * 2 ^ 44 + k * 2 ^ 36 + (newdue % 65536) * 2 ^ 20)

/-- DEFER. -/
def State.ackDefer (s : State) (tag cause : Nat) (gateRel : Bool) : State :=
  s.sendTag tag 5 (tag * 2 ^ 44 + cause * 2 ^ 40 + (if gateRel then 2 ^ 39 else 0))

/-- NACK. -/
def State.ackNack (s : State) (seq ntype tag status ra : Nat) : State :=
  s.sendAck 6 (seq * 2 ^ 44 + ntype * 2 ^ 40 + tag * 2 ^ 32 + status * 2 ^ 28 + (ra % 4096) * 2 ^ 16)

/-- ABORTED. -/
def State.ackAborted (s : State) (tag status : Nat) : State := s.sendTag tag 7 (tag * 2 ^ 44 + status * 2 ^ 40)

/-- RGNSTAT with a DEADLINE. -/
def State.ackRgnStat (s : State) (n event deadline : Nat) : State :=
  let r := s.rgn n
  s.sendAck 8 (n * 2 ^ 44 + event * 2 ^ 40 + r.st.code * 2 ^ 36 + r.cause * 2 ^ 33 + r.working * 2 ^ 26 + (deadline % 65536) * 2 ^ 10)

/-- FREQ_FLOOR. -/
def State.ackFloor (s : State) (fp cause : Nat) : State := s.sendAck 9 (fp * 2 ^ 48 + cause * 2 ^ 44)

/-- STATE. -/
def State.ackState (s : State) (code : Nat) : State := s.sendAck 10 (code * 2 ^ 48 + s.baton.lastRx * 2 ^ 40)

/-- A command's effect, with nothing that stops it. -/
abbrev Res := Host.Outcome State Fault Refusal

end Sys2Proof.Machine
end

