-- ==== Sys2Proof/Machine/Rails.lean ====
section
/-! DEFINITION. What the rules compute from lanes, regions and heats: the settings in effect, capacity and rating, delivered current,
base set-points and targets. -/

namespace Sys2Proof.Machine

/-! ### Settings in effect (R597 and the field tables) -/

/-- The switching frequency in kHz (02_lanes.md, FSW codes). -/
def State.fswKHz (s : State) : Nat :=
  let c := s.f QB_LANE_CFG.FSW_RUN
  if c ≤ 8 then 100000 + 10000 * c else 140000

/-- The instance is in a cascade (R458): alone, or as a pair that is a leaf of it. -/
def State.inTree (s : State) : Bool := s.f RLY_CFG.MODE = 2 || s.f RLY_CFG.MODE = 3

/-- The instance is a member of a cascade in step mode (R322, R458, R459). -/
def State.inCascade (s : State) : Bool := s.inTree && !s.fb RLY_CFG.CREDIT

/-- A lane's fast limit, mA (LANE_CFG.FAST_LIM). -/
def State.fastLim (s : State) (m : Nat) : Nat :=
  let c := s.f LANE_CFG.FAST_LIM m
  2800 + 50 * (if c ≤ 24 then c else 0)

/-- A region's slow limit in use, mA (R57, R58). -/
def State.slowLim (s : State) (n : Nat) : Nat :=
  let lo := (lanesOf n).foldl (fun a m => min a (s.fastLim m)) 4000
  min (8 * clampN 100 400 (s.f RGN_LANE_SET0.SLOW n)) (lo - 200)

/-- Start current cap code, 8 mA (R47). -/
def State.startCap (s : State) (n : Nat) : Nat := clampN 25 325 (s.f RGN_LANE_SET0.SCAP n)

/-- Start slew, units per period (R45, R157). -/
def State.startSlew (s : State) (n : Nat) : Nat := clampN 1 100 (s.f RGN_LANE_SET0.SSLEW n)

/-- Burst threshold, mA per lane (R63). -/
def State.burstTh (s : State) (h : Nat) : Nat := 10 * clampN 5 50 (s.f RGN_LANE_SET1.BTH h)

/-- Burst minimum, lanes (R66). -/
def State.burstMin (s : State) (n : Nat) : Nat := clampN 1 8 (s.f RGN_LANE_SET1.BMIN n)

/-- Burst peak command code, 8 mA (R68). -/
def State.burstPk (s : State) (n : Nat) : Nat := clampN 25 250 (s.f RGN_LANE_SET1.BPK n)

/-- Wake lead, steps (R70). -/
def State.wakeLead (s : State) (h : Nat) : Nat := clampN 1 8 (s.f RGN_LANE_SET1.WAKE h)

/-- Open-phase threshold of a lane, mA (R77). -/
def State.openCmd (s : State) (m : Nat) : Nat := 8 * clampN 25 250 (s.f LANE_CFG.OPEN_CMD m)

/-- Open-phase sense threshold, mA (R77). -/
def State.openSense (s : State) (m : Nat) : Nat :=
  let c := s.f LANE_CFG.OPEN_SENSE m
  10 * (if c = 0 then 5 else c)

/-- DOM_MERGE_CFG.THRESH, % (R112). -/
def State.mergeTh (s : State) (d : Nat) : Nat := clampN 70 100 (s.f DOM_MERGE_CFG.THRESH d)

/-- DOM_MERGE_CFG.DEFER_MAX, steps (R114). -/
def State.deferMax (s : State) (d : Nat) : Nat := clampN 64 1000 (s.f DOM_MERGE_CFG.DEFER_MAX d)

/-- DOM_MERGE_CFG.FSTR_CYC (R115). -/
def State.fstrCyc (s : State) (d : Nat) : Nat := max 1 (s.f DOM_MERGE_CFG.FSTR_CYC d)

/-- DOM_MERGE_CFG.FSTR_N (R115). -/
def State.fstrN (s : State) (d : Nat) : Nat :=
  let c := s.f DOM_MERGE_CFG.FSTR_N d
  if c = 0 then 64 else c

/-- The gain profile a heat uses: its lowest region's, or that profile's fall-back while a region of the heat has FB_ACTIVE (R165); 16
stands for the built-in profile (R452). -/
def State.profile (s : State) (h : Nat) : Nat :=
  if (s.members h).any (fun n => (s.rgn n).builtIn) then 16 else
  let p := s.f RGN_STR_CFG.PROFILE h
  if (s.members h).any (fun n => (s.rgn n).fb) then s.f STR_PHDR.FB p else p

/-- DOM_SP_CFG.SLEW (R158). -/
def State.spSlew (s : State) (d : Nat) : Nat := clampN 1 100 (s.f DOM_SP_CFG.SLEW d)

/-- A field of a profile's header; of the built-in one, TRK 3, LIFT 0, LIFT_SLEW 50 and PKI 6 (R452). -/
def State.hdr (s : State) (x : Fld) (p : Nat) : Nat :=
  if p < 16 then s.f x p else if x = STR_PHDR.TRK then 3 else if x = STR_PHDR.LIFT_SLEW then 50 else if x = STR_PHDR.PKI then 6 else 0

/-- LIFT of a profile, units (R288). -/
def State.liftUnits (s : State) (p : Nat) : Nat := 100 * min 80 (s.hdr STR_PHDR.LIFT p)

/-- LIFT_SLEW of a profile. -/
def State.liftSlewOf (s : State) (p : Nat) : Nat := clampN 1 100 (s.hdr STR_PHDR.LIFT_SLEW p)

/-! ### Lanes, capacity, current -/

/-- A current-mode lane (R41). -/
def Lane.currentMode (l : Lane) : Bool :=
  match l.st with
  | .RAMP | .SWITCHING | .BURST | .SHED | .LATCHED => true
  | .HOLD => match l.held with
    | .RAMP | .SWITCHING | .BURST | .SHED | .LATCHED => true
    | _ => false
  | _ => false

/-- A sharing lane: a current-mode lane that is neither LATCHED nor SHED (R42). -/
def Lane.sharing (l : Lane) : Bool := l.currentMode && l.st != .LATCHED && l.st != .SHED

/-- The number of lanes of a region that pass a test. -/
def State.countLanes (s : State) (n : Nat) (p : Lane → Bool) : Nat := ((lanesOf n).filter (fun m => p (s.lane m))).length

/-- Current-mode lanes of a region. -/
def State.cmLanes (s : State) (n : Nat) : Nat := s.countLanes n Lane.currentMode

/-- Current-mode lanes of a list of regions. -/
def State.cmOf (s : State) (ns : List Nat) : Nat := sumN (ns.map s.cmLanes)

/-- Capacity of a region, mA (R41). -/
def State.capacity (s : State) (n : Nat) : Nat := 1500 * s.cmLanes n

/-- Group limit of a region, mA (R134). -/
def State.groupLimit (s : State) (n : Nat) : Nat := 125 * (s.rgn n).working

/-- Rated current of a region, mA (03, Deferral next to a loaded heat). -/
def State.rated (s : State) (n : Nat) : Nat := min (s.capacity n) (s.groupLimit n)

/-- Rated current of a list of regions. -/
def State.ratedOf (s : State) (ns : List Nat) : Nat := sumN (ns.map s.rated)

/-- Delivered current of a region in the last sample: I_PRI of its sharing lanes and I_SEC of its FOLLOWER lanes, mA (R283). -/
def State.delivered (s : State) (n : Nat) : Nat :=
  sumN ((lanesOf n).map fun m =>
    let l := s.lane m
    if l.sharing then l.iPri else if l.st = .FOLLOWER then l.iSec else 0)

/-- Mean delivered current of a region over the last 16 samples (R112, R300). -/
def State.cur16 (s : State) (n : Nat) : Rat := meanR ((s.rgn n).curs.map (fun (x : Nat) => (x : Rat)))

/-- A load exceeds a percentage of a rating. -/
def overRatio (load : Rat) (rated pct : Nat) : Bool := (rated * pct : Nat) < load * 100

/-! ### Set-points (R154 to R158), 0.5 mV unless they say units -/

/-- The voltage-table entry of a region at a point, 0.5 mV (R345). -/
def State.vtV (s : State) (n pt : Nat) : Nat :=
  800 + s.f (if pt % 2 = 0 then RGN_VT.V_EVEN else RGN_VT.V_ODD) (8 * n + pt / 2)

/-- The voltage-table base of a list of regions at the point in force. -/
def State.vtBase (s : State) (ns : List Nat) : Nat := maxN (ns.map (fun n => s.vtV n (s.f LIM_VT_CFG.CUR)))

/-- The source that DOM_SP_CFG.SRC selects; 3 acts as 0. -/
def State.spSrc (s : State) (d : Nat) : Nat :=
  let c := s.f DOM_SP_CFG.SRC d
  if c = 3 then 0 else c

/-- A domain's host-register source value (R596). -/
def State.domVal (s : State) (d : Nat) : Nat := tblGet 1600 s.domV d

/-- A region's Baton value (R155). -/
def State.batonVal (s : State) (n : Nat) : Nat := (s.rgn n).batonV.getD (s.domVal (s.domOf n))

/-- The base set-point of regions `ns` of domain `d` from the source of R155. -/
def State.srcBase (s : State) (d : Nat) (ns : List Nat) : Nat :=
  match s.spSrc d with
  | 1 => maxN (ns.map s.batonVal)
  | 2 => s.vtBase ns
  | _ => if s.fb DOM_STATUS.MESH d then maxN (ns.map (fun n => (s.rgn n).hostV)) else s.domVal d

/-- The base set-point of a heat (R154). -/
def State.baseV (s : State) (h : Nat) : Nat :=
  let t := s.heat h
  if t.retLow ∧ !t.retOut then 900 + min 300 (s.f RGN_RETAIN.VRET h)
  else if t.retOut then t.retOp
  else if s.lim.vtOn then s.vtBase (s.members h)
  else s.srcBase (s.domOf h) (s.members h)

/-- The lift in force of a heat, units (R288 to R291). -/
def State.liftOf (s : State) (h : Nat) : Nat :=
  maxN ((s.pacer.lifts.filter (fun l => l.executed && (s.members h).any (fun n => l.regions.contains n))).map (·.val))

/-- A lift no barrier of an unconditional or confirmed group justifies (R294). -/
def Lift.unconfirmed (l : Lift) : Bool := !l.just.isEmpty && l.just.all (fun x => x.2 ≠ 0)

/-- DOM_VRANGE, units: VMIN, and VMAX, which is never below VMIN. -/
def State.vrange (s : State) (d : Nat) : Nat × Nat :=
  let lo := s.f DOM_VRANGE.VMIN d
  (100 * lo, 100 * max lo (s.f DOM_VRANGE.VMAX d))

/-- A heat's own target before and after the clamps of R156. -/
def State.ownTgt (s : State) (h : Nat) : Nat × Nat :=
  let raw := 100 * s.baseV h + s.liftOf h
  let t := s.heat h
  let v := s.vrange (s.domOf h)
  let a := if t.retLow || t.retOut then raw else clampN v.1 v.2 raw
  (raw, clampN 90000 210000 a)

/-- The heats with which a pending close of `h`'s gates joins it (R107). -/
def State.mergeMates (s : State) (h : Nat) : List Nat :=
  (s.merges.filter (·.close)).filterMap fun x => match gateEnds x.gate with
    | some (a, b) =>
      let ha := s.heatIx a
      let hb := s.heatIx b
      if ha = h ∧ hb ≠ h then some hb else if hb = h ∧ ha ≠ h then some ha else none
    | none => none

/-- TGT of a heat, units: its own target or, while a merge is pending, the highest of the heats it joins (R107, R156). -/
def State.tgtOf (s : State) (h : Nat) : Nat := maxN ((s.ownTgt h).2 :: (s.mergeMates h).map (fun x => (s.ownTgt x).2))

/-- The slew in use, units per period (R158). -/
def State.slewOf (s : State) (h : Nat) : Nat :=
  if (s.rgn h).st = .STARTING then s.startSlew h
  else match (s.heat h).liftSlew with
    | some c => max c (s.spSlew (s.domOf h))
    | none => s.spSlew (s.domOf h)

/-- The heat is at target and REF is TGT (R160). -/
def State.atTarget (s : State) (h : Nat) : Bool := (s.heat h).atTgt

/-- SPEC_ACTIVE of a heat (R159). -/
def State.specOf (s : State) (h : Nat) : Bool := (s.members h).any (fun n => (s.rgn n).spec)

/-- The unconfirmed lift in force of a heat: the part of REF above the base that the unconfirmed lift has reached, units (R298, R304). -/
def State.unconfLift (s : State) (h : Nat) : Nat :=
  if s.specOf h then min (s.heat h).liftVal ((s.heat h).ref - 100 * s.baseV h) else 0

/-- The latest reading of the input rail, V (R174, R375). -/
def State.vin (s : State) : Rat := ((s.f GAU_VIN.VIN : Nat) : Rat) / 10000

/-- The die maximum of the last thermal round, 2^-14 °C (R380); below every temperature before the first. -/
def State.dieMax (s : State) : Int := s.gauge.dieT.getD (-16777216)

/-- The output of a region, units: the mean of its last 4 samples (R108). -/
def State.out4 (s : State) (n : Nat) : Rat := meanR ((s.rgn n).outs.map (fun (x : Int) => (x : Rat)))

/-- The output of a region in the last sample, units. -/
def State.outNow (s : State) (n : Nat) : Int := (s.rgn n).outs.headD 0

end Sys2Proof.Machine
end

