-- ==== Sys2Proof/Machine/PacerOps.lean ====
section
/-! DEFINITION. Pacer's computations: records and coefficients (R254 to R263), the linear forecast (R265 to R273), the correction
network (R275), the repetitive term (R280), lifts (R288 to R291), groups (R221). -/

namespace Sys2Proof.Machine

/-- Mantissa of a coefficient entry (R262). -/
def State.coefM (s : State) (i : Nat) : Nat := s.f (if i % 2 = 0 then COEF_M.M_EVEN else COEF_M.M_ODD) (i / 2)

/-- Exponent of a coefficient row (R262). -/
def State.coefX (s : State) (row : Nat) : Int :=
  signed 5 (s.f (match row % 4 with
    | 0 => COEF_X.X0
    | 1 => COEF_X.X1
    | 2 => COEF_X.X2
    | _ => COEF_X.X3) (row / 4))

/-- The cost of one activity unit of a record in a region, fJ (R260 to R263). -/
def State.coef (s : State) (r : Nat) (k : Rec) : Rat :=
  if k.cls = 15 then 0 else
  let f := if 11 ≤ k.fmt then 0 else k.fmt
  let i := 256 * r + 16 * k.cls
  let m := s.coefM (i + f) + (if k.bs then s.coefM (i + 15) else 0)
  (m : Rat) * pow2 (s.coefX (16 * r + k.cls))

/-- Two records have one key (R254). -/
def Rec.sameKey (a b : Rec) : Bool := a.cls = b.cls && a.fmt = b.fmt && a.bs = b.bs

/-- Set a rate in a list of at most `cap` records; a count of 0 deletes; a record beyond the limit is not applied (R254, R256). The
second part: the notice was not applied. -/
def setRate (cap : Nat) (l : List Rec) (k : Rec) : List Rec × Bool :=
  if k.rate = 0 then (l.filter (fun x => !x.sameKey k), false)
  else if l.any (fun x => x.sameKey k) then (l.map (fun x => if x.sameKey k then k else x), false)
  else if l.length < cap then (l ++ [k], false) else (l, true)

/-- Stable insertion by due step. -/
def insertPend (a : Pend) : List Pend → List Pend
  | [] => [a]
  | b :: t => if a.due < b.due then a :: b :: t else b :: insertPend a t

/-- Pending notices in due-step order, those of one step in SEQ order (R257). -/
def sortPend (l : List Pend) : List Pend := l.foldl (fun acc a => insertPend a acc) []

/-- A pending notice names the region directly or through its domain. -/
def State.pendHits (s : State) (p : Pend) (r : Nat) : Bool := if p.dw then s.domOf r = p.region else r = p.region

/-- The records of region `r` as they will stand at step `t`: the pending notices due at or before `t` applied, conditional ones only in
the full forecast and while SPEC_EN is 1 (R255, R259, R269). -/
def State.recsAt (s : State) (r t : Nat) (full : Bool) : List Rec :=
  let take := sortPend (s.pacer.pend.filter fun p =>
    p.due ≤ t && s.pendHits p r && (p.group = 0 || (full && s.fb COEF_CTRL.SPEC_EN)))
  let own := take.foldl (fun l p => if p.dw then l else (setRate 16 l p.rc).1) (tblGet [] s.pacer.rgnRec r)
  let dom := take.foldl (fun l p => if p.dw then (setRate 32 l p.rc).1 else l) (tblGet [] s.pacer.domRec (s.domOf r))
  own ++ dom

/-- The energy per step of a region at step `t`, fJ (R265); 0 while EN is 0 or the region is not regulating (R266). -/
def State.energy (s : State) (r t : Nat) (full : Bool) : Rat :=
  if s.fb COEF_CTRL.EN ∧ (s.rgn r).st.regulating then
    sumR ((s.recsAt r t full).map fun k => (k.rate : Rat) * s.coef r k)
  else 0

/-- The level of one source that stands at step `t`: its last queued order due by then, or the level in force (R316). -/
def State.levelAt (s : State) (src : StrSrc) (inForce t : Nat) : Nat :=
  (s.step.queue.filter (fun e => e.due ≤ t)).foldl (fun a e => match e.act with
    | .stretch x l => if x = src then l else a
    | _ => a) inForce

/-- The forced-merge level at step `t` (R115): placed, or queued as an action that carries N × 256 + cycles. -/
def State.mergeLevel (s : State) (t : Nat) : Nat :=
  if s.inCascade then 0 else max (maxN (s.lim.mergeStr.map fun x => if x.1 ≤ t ∧ t < x.1 + x.2.1 then x.2.2 else 0))
    (maxN (s.step.queue.map fun e => match e.act with
      | .stretch .MERGE x => if e.due ≤ t ∧ t < e.due + x / 256 then x % 256 else 0
      | _ => 0))

/-- The stretch scheduled for the boundary of step `t` (R266): the highest of the step-named levels. -/
def State.schedX (s : State) (t : Nat) : Nat :=
  min 16320 (maxN [s.levelAt .POWER s.lim.power t, s.levelAt .THERMAL s.lim.thermal t, s.levelAt .HOST s.lim.host t,
    s.mergeLevel t, s.levelAt .CASCADE s.lim.cascade t])

/-- t_step of R265 before R266, ns (R267). -/
def State.tNom (s : State) : Rat :=
  if s.f LIM_VT_CFG.CUR = s.f LIM_VT_CFG.NOM then (s.tstep : Rat)
  else (max 1 s.step.lenNs : Nat) * 1024 / ((1024 + s.step.openX : Nat) : Rat)

/-- t_step × v of a region for a step with a stretch of `x` cycles, ns·mV (R265, R266). -/
def State.tv (s : State) (r x : Nat) : Rat :=
  s.tNom * ((1024 + x : Nat) : Rat) / 1024 * ((s.baseV (s.heatIx r) : Nat) : Rat) / 2

/-- An energy as a current, mA, rounded and clamped (R265). -/
def toMa (e tv : Rat) : Nat := if tv = 0 then 0 else (clampI 0 65535 (roundEven (e / tv))).toNat

/-- The linear forecast of a region for a future step (R265, R269), mA. -/
def State.fLin (s : State) (r t : Nat) (full : Bool) : Nat := toMa (s.energy r t full) (s.tv r (s.schedX t))

/-- The linear forecast with no stretch counted (R319). -/
def State.fLin0 (s : State) (r t : Nat) : Nat := toMa (s.energy r t false) (s.tv r 0)

/-- The full linear forecast summed over regions. -/
def State.linOf (s : State) (ns : List Nat) (t : Nat) : Nat := sumN (ns.map (fun n => s.fLin n t true))

/-! ### The network (R274, R275) -/

/-- The total rate of a class for a region, over formats and records. -/
def State.actOf (s : State) (r k t : Nat) : Nat := sumN (((s.recsAt r t true).filter (fun x => x.cls = k)).map (·.rate))

/-- rnd(a, n) of R275. -/
def rndShift (a : Int) (n : Nat) : Int := if n = 0 then a else (a + 2 ^ (n - 1)) / (2 ^ n : Int)

/-- The phase of step `t` (R280). -/
def State.phaseAt (s : State) (t : Nat) : Nat :=
  if s.pacer.len = 0 then 0 else (((t : Int) - (s.pacer.t0 : Int)) % (s.pacer.len : Int)).toNat

/-- The value of an input descriptor for step `t` (R274). -/
def State.inputAt (s : State) (dsc t : Nat) : Nat :=
  let d := dsc / 4 % 4
  match dsc % 4 with
  | 0 => sumN ((s.domRgns d).map (fun r => s.actOf r (dsc / 16 % 16) t))
  | 1 => sumN ((s.domRgns d).map (fun r => s.fLin r t true))
  | 2 => (s.dieMax / 16384).toNat
  | _ => if s.pacer.len = 0 then 0 else s.phaseAt t * 256 / s.pacer.len

/-- The dot product. -/
def dotI : List Int → List Int → Int
  | a :: t, b :: u => a * b + dotI t u
  | _, _ => 0

/-- The correction of region `o` for step `t`, mA (R275). -/
def State.corrAt (s : State) (o t : Nat) : Int :=
  match s.pacer.model with
  | none => 0
  | some md =>
    if !s.fb COEF_CTRL.NET_EN || s.f COEF_MODEL.STATUS ≠ 2 || md.nOut ≤ o || (s.rgn o).mode ≠ .FORECAST
      || !(s.rgn o).st.regulating then 0 else
    let q : List Int := md.inputs.map fun dsc => ((min 255 (s.inputAt dsc t >>> (dsc / 256 % 32)) : Nat) : Int)
    let z : List Int := (List.range md.nHid).map fun h =>
      clampI 0 255 (rndShift (md.b1.getD h 0 + dotI ((md.w1.drop (h * md.nIn)).take md.nIn) q) md.r1)
    let a := md.b2.getD o 0 + dotI ((md.w2.drop (o * md.nHid)).take md.nHid) z
    let loc : List Int := if md.local_ then (List.range 16).map fun k => ((min 255 (s.actOf o k t >>> md.sl.getD k 0) : Nat) : Int) else []
    clampI (-8191) 8191 (rndShift (a + dotI ((md.w3.drop (o * 16)).take 16) loc) md.r2)

/-! ### The ring (R268 to R271) -/

/-- The entry of a region for a step, computed now. -/
def State.ringEnt (s : State) (r t : Nat) : RingEnt :=
  ⟨t, r, s.energy r t true, s.energy r t false, s.tv r (s.schedX t), s.corrAt r t⟩

/-- The full forecast that an entry holds. -/
def RingEnt.fullMa (e : RingEnt) : Nat := (clampI 0 65535 ((toMa e.full e.tv : Nat) + e.corr)).toNat

/-- The confirmed linear forecast that an entry holds. -/
def RingEnt.confMa (e : RingEnt) : Nat := toMa e.conf e.tv

/-- The ring's entry of a region for a step. -/
def State.ringAt (s : State) (r t : Nat) : Option RingEnt := s.pacer.ring.find? (fun e => e.n = r ∧ e.t = t)

/-- The full forecast in force of a region for a step, mA (R268); 0 when the ring has no entry. -/
def State.fFull (s : State) (r t : Nat) : Nat := ((s.ringAt r t).map RingEnt.fullMa).getD 0

/-- The confirmed one. -/
def State.fConf (s : State) (r t : Nat) : Nat := ((s.ringAt r t).map RingEnt.confMa).getD 0

/-- Bring the linear part of the entries of steps `d` on up to date with the records and the pending table; the network's part stays
(R270). -/
def State.ringFix (s : State) (d : Nat) : State :=
  { s with pacer := { s.pacer with ring := s.pacer.ring.map fun e =>
      if d ≤ e.t then { e with full := s.energy e.n e.t true, conf := s.energy e.n e.t false } else e } }

/-- The repetitive term of a region at step `t`, 0.25 mA (R280). -/
def State.qRep (s : State) (r t : Nat) : Int :=
  let len := s.pacer.len
  if len = 0 then 0 else
  let pos := s.phaseAt t * 65536 / len
  let b := pos / 256
  let fr : Int := ((pos % 256 : Nat) : Int)
  let bin := fun (k : Nat) => tblGet 0 s.pacer.bins (256 * r + k % 256)
  (bin b * (256 - fr) + bin (b + 1) * fr + 128) / 256

/-- The step whose terms Stride takes for the period that starts at `t`: the pre-biased one from the period whose start lies within
50 ns before its boundary (R171). The boundary's time is the last boundary plus the running step's nominal length with its stretch. -/
def State.ffStep (s : State) (n : Nat) (t : Nat) : Nat :=
  match s.step.lastEdge with
  | some e =>
    let next := e + ceilNat (s.tNom * ((1024 + s.step.nowX : Nat) : Rat) / 1024)
    if (s.rgn n).preb.contains (s.step.count + 1) ∧ next ≤ t + 50 then s.step.count + 1 else s.step.count
  | none => s.step.count

/-- F_r (mA) and Q_r (0.25 mA) that Pacer gives Stride for the period that starts at `t` (R271, R272). -/
def State.ffOf (s : State) (n t : Nat) : Rat × Int :=
  let r := s.rgn n
  if r.st = .STARTING then (0, 0)
  else if s.running ∧ r.mode = .FORECAST ∧ s.fb COEF_CTRL.EN then
    let k := s.ffStep n t
    ((s.fFull n k : Nat), s.qRep n k)
  else ((roundNat (s.cur16 n) : Nat), 0)

/-- An open conditional notice contributes to a region's forecast for a step (R294). -/
def State.condAt (s : State) (n t : Nat) : Bool :=
  s.fb COEF_CTRL.SPEC_EN && s.pacer.pend.any (fun p => p.group ≠ 0 && p.due ≤ t && s.pendHits p n)

/-! ### Records at a boundary, groups, lifts -/

/-- A record has taken effect: the HELD ones of its regions enter FORECAST (R299). -/
def State.recordTaken (s : State) (ns : List Nat) : State :=
  s.forEach ns fun s n =>
    if (s.rgn n).mode = .HELD then s.modRgn n (fun r => { r with mode := .FORECAST, bad := 0, clean := 0 }) else s

/-- Apply one notice to the records (R254, R256). -/
def State.applyRate (s : State) (p : Pend) : State :=
  let x := if p.dw then setRate 32 (tblGet [] s.pacer.domRec p.region) p.rc else setRate 16 (tblGet [] s.pacer.rgnRec p.region) p.rc
  let s1 := if p.dw then { s with pacer := { s.pacer with domRec := tblSet [] s.pacer.domRec p.region x.1 } }
    else { s with pacer := { s.pacer with rgnRec := tblSet [] s.pacer.rgnRec p.region x.1 } }
  if x.2 then s1.put COEF_STATUS.REC_FULL 0 1
  else if p.rc.rate = 0 then s1
  else s1.recordTaken (if p.dw then s1.domRgns p.region else [p.region])

/-- Note a notice of group `g` due at `due` (R221). -/
def State.openGroup (s : State) (g due : Nat) : State :=
  if g = 0 then s else
  let gs := s.pacer.groups
  let gs' := if gs.any (fun x => x.1 = g) then gs.map (fun x => if x.1 = g then (g, max x.2 due) else x) else gs ++ [(g, due)]
  { s with pacer := { s.pacer with groups := gs' } }

/-- The group is open. -/
def State.groupOpen (s : State) (g : Nat) : Bool := s.pacer.groups.any (fun x => x.1 = g)

/-- Withdraw a lift: if it stands it ends, if it is queued it leaves the queue (R297). -/
def State.endLift (s : State) (id : Nat) : State :=
  match s.pacer.lifts.find? (fun l => l.id = id) with
  | none => s
  | some l =>
    let s1 := if l.executed then s.forEach (s.allHeats.filter (fun h => (s.members h).any (fun n => l.regions.contains n)))
        (fun s h => s.modHeat h (fun t => { t with liftSlew := some (max l.slew (t.liftSlew.getD 0)) }))
      else s
    let s2 := s1.dequeue (fun a => a = .lift id ∨ a = .liftEnd id)
    { s2 with pacer := { s2.pacer with lifts := s2.pacer.lifts.filter (fun x => x.id ≠ id) } }

/-- A lift is withdrawn under R297: at the next boundary, or at once while it is only queued or the time base is not RUNNING (R654). -/
def State.withdrawLift (s : State) (id : Nat) : State :=
  match s.pacer.lifts.find? (fun l => l.id = id) with
  | none => s
  | some l =>
    if !l.executed || !s.running then s.endLift id
    else { s with step := { s.step with queue := s.step.queue.map (fun e =>
        if e.act = .liftEnd id then { e with due := min e.due (s.step.count + 1) } else e) } }

/-- Lifts whose last justifying barrier is gone are withdrawn (R297). -/
def State.dropLifts (s : State) (ls : List Lift) : State :=
  ({ s with pacer := { s.pacer with lifts := ls } }).forEach ((ls.filter (fun (l : Lift) => l.just = [])).map (fun (l : Lift) => l.id)) State.withdrawLift

/-- A barrier is withdrawn: it no longer justifies its lift (R297). -/
def State.dropBarrier (s : State) (bid : Nat) : State :=
  let s1 := { s with pacer := { s.pacer with barriers := s.pacer.barriers.filter (fun b => b.id ≠ bid) } }
  s1.dropLifts (s.pacer.lifts.map (fun (l : Lift) => { l with just := l.just.filter (fun x => x.1 ≠ bid) }))

end Sys2Proof.Machine
end

