-- ==== Sys2Proof/Machine/RelayOps.lean ====
section
/-! DEFINITION. Relay's shared operations (11_scale_out.md): ports, message bodies, sending up and down the tree, the levels requested of
and ordered by the tree master (R322, R323, R502, R503), its part in an emergency (R343) and in barrier delays (R326). -/

namespace Sys2Proof.Machine

/-! ### Ports and message bodies -/

/-- A Relay port. -/
def State.port (s : State) (p : Nat) : RPort := tblGet {} s.relay.ports p

/-- Change a port. -/
def State.modPort (s : State) (p : Nat) (g : RPort → RPort) : State :=
  { s with relay := { s.relay with ports := tblMod {} s.relay.ports p g } }

/-- A message body from its fields, (value, bytes) in byte order (R481). -/
def mkBody : List (Nat × Nat) → Nat
  | [] => 0
  | (v, n) :: t => v % 256 ^ n + 256 ^ n * mkBody t

/-- Bytes [o, o + n) of a message body, as a number. -/
def bf (b : BitVec 272) (o n : Nat) : Nat := b.toNat / 256 ^ o % 256 ^ n

/-- The reliable message types (R481). -/
def reliable (t : Nat) : Bool := !(t = 0x01 || t = 0x02 || t = 0x0B)

/-- The priority of a message, lowest first (R482). -/
def prio (t : Nat) : Nat :=
  match t with
  | 0x08 | 0x09 => 0
  | 0x04 | 0x06 | 0x07 => 1
  | 0x0A | 0x11 | 0x12 | 0x13 | 0x14 | 0x15 | 0x16 => 2
  | _ => 3

/-- The port is UP. -/
def State.isUp (s : State) (p : Nat) : Bool := (s.port p).st = .UP

/-- Bytes of a number, highest first. -/
def beBytes (n v : Nat) : List Byte := (leBytes n v).reverse

/-- The number that bytes spell, highest first. -/
def ofBe (l : List Byte) : Nat := ofLe l.reverse

/-- The link ID of frames from `src`'s port `p` to `dst` (R465). -/
def linkId (src dst p : Nat) : Nat := src % 1024 * 2 ^ 22 + dst % 1024 * 2 ^ 12 + p % 8 * 2 ^ 9

/-- The IV: link ID and frame counter (R464). -/
def frameIv (link counter : Nat) : BitVec 96 := BitVec.ofNat 96 (link * 2 ^ 64 + counter % 2 ^ 64)

/-- The DATA frame that a port sends next under a key: header and SEQ, the encrypted message, the tag (R463, R464, R478). -/
def State.frame (s : State) (p t mseq : Nat) (body : BitVec 272) (key : BitVec 256) : List Byte :=
  let x := s.port p
  let aad := [0x01#8, BitVec.ofNat 8 x.txE, 0#8, 0#8] ++ leBytes 4 x.txSeq
  let flags := (if reliable t then 1 else 0) + (if s.led.scrub.isSome then 2 else 0) + (if s.activeHead then 4 else 0)
  let mack := (x.rxM + 65535) % 65536
  let plain := [BitVec.ofNat 8 t, BitVec.ofNat 8 flags] ++ leBytes 2 mseq ++ leBytes 2 mack ++ leBytes 34 body.toNat
  let iv := frameIv (linkId (s.f RLY_CFG.ID) (s.f RLY_PPEER.PEER p) p) (x.txE * 2 ^ 32 + x.txSeq)
  let c := Config.gcmSeal key iv aad plain
  aad ++ c.1 ++ beBytes 16 c.2.toNat

/-- Send one DATA frame with the next SEQ. -/
def State.sendFrame (s : State) (p t mseq : Nat) (body : BitVec 272) : State :=
  let x := s.port p
  match x.keys.find? (fun k => k.1 = x.txE) with
  | none => s
  | some k =>
    let s1 := s.modPort p (fun x => { x with txSeq := x.txSeq + 1, lastSent := s.now })
    { s1 with out := s1.out ++ [Output.relay p (s.frame p t mseq body k.2)] }

/-- Send one message of those that wait; a reliable one takes its MSEQ (R479). -/
def State.sendMsg (s : State) (p : Nat) (m : RMsg) : State :=
  let x := s.port p
  if m.rel then
    let s1 := s.modPort p fun x => { x with
      unacked := x.unacked ++ [(x.txM, m)], txM := (x.txM + 1) % 65536, ackAt := if x.unacked = [] then s.now else x.ackAt }
    s1.sendFrame p m.mtype x.txM m.body
  else s.sendFrame p m.mtype 0 m.body

/-- The waiting message that goes next: the first of the highest priority that the window of 64 lets out (R479, R482). -/
def RPort.next (x : RPort) : Option RMsg :=
  (x.waiting.filter (fun m => !m.rel || x.unacked.length < 64)).foldl (fun (best : Option RMsg) m => match best with
    | some b => if prio m.mtype < prio b.mtype then some m else best
    | none => some m) none

/-- Send what waits at a port, as far as it may. -/
def State.drain (p : Nat) : Nat → State → State
  | 0, s => s
  | n + 1, s =>
    match (s.port p).next with
    | none => s
    | some m => State.drain p n ((s.modPort p (fun x => { x with waiting := x.waiting.erase m })).sendMsg p m)

/-- Send a message on a port; a port that is not UP sends none (R480). -/
def State.post (s : State) (p t : Nat) (body : Nat) : State :=
  if s.isUp p then
    let s1 := s.modPort p (fun x => { x with waiting := x.waiting ++ [⟨t, reliable t, BitVec.ofNat 272 body⟩] })
    State.drain p (s1.port p).waiting.length s1
  else s

/-- The instance has a parent: it is in a cascade and not its master. -/
def State.hasParent (s : State) : Bool := s.f RLY_CFG.MODE = 3 || (s.f RLY_CFG.MODE = 2 && s.f RLY_CFG.ROLE = 0)

/-- Send up the tree. -/
def State.postUp (s : State) (t body : Nat) : State := if s.hasParent then s.post 0 t body else s

/-- The down ports of a cascade (R458). -/
def State.downPorts (s : State) : List Nat := if s.f RLY_CFG.MODE = 2 then [1, 2, 3, 4] else []

/-- Send to every child. -/
def State.postDown (s : State) (t body : Nat) : State := s.forEach s.downPorts (fun s p => s.post p t body)

/-- The instance decides for its tree: the master, or an acting master (R460, R506). -/
def State.isMaster (s : State) : Bool := (s.f RLY_CFG.MODE = 2 && s.f RLY_CFG.ROLE = 1) || s.fb RLY_STATUS.ACTING

/-- The instance's ID. -/
def State.myId (s : State) : Nat := s.f RLY_CFG.ID

/-! ### Levels -/

/-- SRC of a REQUEST (R481). -/
def StrSrc.req : StrSrc → Nat
  | .POWER => 1 | .THERMAL => 2 | .HOST => 3 | _ => 4

/-- The level that stands at step `t` among (step, level) pairs: that of the latest step not after `t`. -/
def standing (l : List (Nat × Nat)) (t : Nat) : Nat :=
  ((l.foldl (fun (best : Option (Nat × Nat)) x =>
    if x.1 ≤ t then match best with
      | some b => if b.1 ≤ x.1 then some x else best
      | none => some x
    else best) none).map (·.2)).getD 0

/-- The highest level of a source that stands in the subtree at step `t` (R502). -/
def State.subLevel (s : State) (src t : Nat) : Nat :=
  maxN ((List.range 6).map fun p => standing ((s.relay.reqs.filter (fun r => r.from_ = p ∧ r.src = src)).map (fun r => (r.step, r.level))) t)

/-- The steps from `step` on at which a request of a source changes a level. -/
def State.reqSteps (s : State) (srcs : List Nat) (step : Nat) : List Nat :=
  sortN (((s.relay.reqs.filter (fun r => srcs.contains r.src && decide (step ≤ r.step))).map (·.step)).foldl
    (fun acc x => if acc.contains x then acc else x :: acc) [])

/-- The step from which a level ordered now for `due` can stand (R314): one known later than 300 ns after a boundary misses the next. -/
def State.stretchDue (s : State) (due : Nat) : Nat :=
  let c := s.step.count
  if due ≤ c + 1 then if s.fine ≤ 300 then c + 1 else c + 2 else due

/-- An order for a step is taken (R324, R503, R504): late when its step has come; refused by a full queue with ORDER_NAK. -/
def State.takeOrder (s : State) (step level serial : Nat) : State :=
  let s1 := if s.running ∧ step ≤ s.step.count then (s.put LIM_STR_STATUS.LATE_ORD 0 1).raise .ORDER_LATE .none 0 .relay .notice else s
  if s1.roomOut 1 then s1.enqueue (s1.stretchDue step) (.stretch .CASCADE level)
  else
    let s2 := s1.queueFull .relay
    if s2.isMaster then { s2 with relay := { s2.relay with nak := true } }
    else s2.postUp 0x05 (mkBody [(serial, 2), (s2.myId, 2)])

/-- The master orders a level for a step (R323, R503). -/
def State.sendOrder (s : State) (step level : Nat) : State :=
  let n := (s.relay.serial + 1) % 65536
  let body := mkBody [(step, 6), (level, 2), (n, 2)]
  let c := s.step.count
  let keep := s.relay.ordered.filter fun x => x.1 ≠ step ∧ (c ≤ x.1 ∨ !(s.relay.ordered.any fun y => x.1 < y.1 ∧ y.1 ≤ c))
  let s1 := { s with relay := { s.relay with
    serial := n, lastOrder := some (BitVec.ofNat 272 body), ordered := keep ++ [(step, level)] } }
  (s1.postDown 0x04 body).takeOrder step level n

/-- The level that the master orders for a step (R323): the highest of the requested levels and the group-budget level (code 0). -/
def State.treeLevel (s : State) (t : Nat) : Nat := maxN ([0, 1, 2, 3, 4].map (fun src => s.subLevel src t))

/-- The master orders where its level has changed, from a step on (R323). -/
def State.masterOrders (s : State) (step : Nat) : State :=
  s.forEach (s.reqSteps [0, 1, 2, 3, 4] step) fun s t =>
    let x := s.treeLevel t
    if x = standing s.relay.ordered t then s else s.sendOrder t x

/-- A member sends up where the highest level of its subtree has changed (R502). -/
def State.memberRequests (s : State) (src step : Nat) : State :=
  s.forEach (s.reqSteps [src] step) fun s t =>
    let x := s.subLevel src t
    let was := standing ((s.relay.sent.filter (fun e => e.1 = src)).map (·.2)) t
    if x = was then s else
    let keep := s.relay.sent.filter (fun e => !(e.1 = src ∧ e.2.1 = t))
    ({ s with relay := { s.relay with sent := keep ++ [(src, t, x)] } }).postUp 0x03 (mkBody [(src, 1), (t, 6), (x, 2), (s.myId, 2)])

/-- Levels whose steps have passed and that a later one has replaced are forgotten. -/
def pruneReqs (c : Nat) (l : List RReq) : List RReq :=
  l.filter fun r => c ≤ r.step ∨ !(l.any fun q => q.from_ = r.from_ ∧ q.src = r.src ∧ r.step < q.step ∧ q.step ≤ c)

/-- A level is requested from port `p` (5: by the instance itself) (R322, R323, R502). -/
def State.recordReq (s : State) (p src step level : Nat) : State :=
  let st := if s.isMaster then (if src = 0 then step else max step (s.step.count + 16)) else step
  let keep := s.relay.reqs.filter (fun r => !(r.from_ = p ∧ r.src = src ∧ r.step = st))
  let e : RReq := ⟨p, src, st, level⟩
  let s1 := { s with relay := { s.relay with reqs := pruneReqs s.step.count keep ++ [e] } }
  if s1.isMaster then s1.masterOrders st else s1.memberRequests src st

/-- The instance requests a level of the master for a named step (R322). -/
def State.requestLevel (s : State) (src : StrSrc) (step level : Nat) : State := s.recordReq 5 src.req step level

/-! ### Emergency (R343) -/

/-- The master orders an emergency, its exit, or its end; the orders go to every child. -/
def State.orderEmerg (s : State) (kind cause step : Nat) : State :=
  let body := mkBody [(kind, 1), (cause, 1), (step, 6)]
  ({ s with relay := { s.relay with lastEmerg := some (BitVec.ofNat 272 body) } }).postDown 0x09 body

/-- The master takes a report (R343, R505): entered, causes cleared, exit step 3 done. -/
def State.masterEmerg (s : State) (origin causes phase step : Nat) : State :=
  let r := s.relay
  let others := r.causes.filter (fun x => x.1 ≠ origin)
  match phase with
  | 1 =>
    let s1 := { s with relay := { r with causes := others ++ [(origin, causes)], emergency := true, exiting := false, done3 := [] } }
    if r.emergency ∧ !r.exiting then s1 else s1.orderEmerg 1 (if causes % 2 = 1 then 1 else 2) 0
  | 2 =>
    let s1 := { s with relay := { r with causes := others } }
    if others = [] ∧ r.emergency ∧ !r.exiting then
      let s2 := { s1 with relay := { s1.relay with exiting := true }, lim := { s1.lim with exitOk := true } }
      s2.orderEmerg 2 0 0
    else s1
  | _ =>
    let done := r.done3.filter (fun x => x.1 ≠ origin) ++ [(origin, step)]
    let s1 := { s with relay := { r with done3 := done } }
    let all := s.myId :: r.joined.map (·.1)
    if r.exiting ∧ all.all (fun i => done.any (fun x => x.1 = i)) then
      let e := maxN (done.map (·.2)) + 64
      let s2 := { s1 with relay := { s1.relay with emergency := false, exiting := false, done3 := [] }, lim := { s1.lim with endStep := some e } }
      s2.orderEmerg 3 0 e
    else s1

/-- The instance reports its part in an emergency (R336, R343). -/
def State.reportEmerg (s : State) (causes phase : Nat) : State :=
  if !s.inCascade then s
  else if s.isMaster then s.masterEmerg s.myId causes phase s.step.count
  else s.postUp 0x08 (mkBody [(s.myId, 2), (causes, 1), (phase, 1), (s.step.count, 6)])

/-! ### Barrier delays (R326) -/

/-- The master takes a report of a delay and orders the largest K; the second part: it has ordered. -/
def State.masterDelay (s : State) (rel k : Nat) : State × Bool :=
  let was := maxN ((s.relay.delays.filter (fun x => x.1 = rel)).map (·.2))
  if k ≤ was then (s, false) else
  let keep := s.relay.delays.filter (fun x => x.1 ≠ rel ∧ s.step.count ≤ x.1 + 256)
  (({ s with relay := { s.relay with delays := keep ++ [(rel, k)] } }).postDown 0x07 (mkBody [(rel, 6), (k, 1)]), true)

end Sys2Proof.Machine
end

