-- ==== Sys2Proof/Machine/RegionOps.lean ====
section
/-! DEFINITION. The transitions of regions and heats (03_regions_and_heats.md): lanes off, starts and their failures, heat membership,
merges and splits, emergency opens, rescue merges, vertical groups, the grace period; and the end of set-point transitions. -/

namespace Sys2Proof.Machine

/-! ### Set-point transitions end (R232, R233) -/

/-- Release a slot's gating hold (R24, R236). -/
def State.releaseHold (s : State) (tag : Nat) : State :=
  if (s.slot tag).hold then
    let s1 := s.modSlot tag (fun t => { t with hold := false })
    { s1 with step := { s1.step with holdEnd := s1.now } }
  else s

/-- End a transition: the completion latch is set, the slot is COMPLETE, DONE is sent with the status (R224, R232, R233). -/
def State.endSlot (s : State) (tag status : Nat) : State :=
  let s1 := s.releaseHold tag
  if (s1.slot tag).latch then s1.modSlot tag (fun t => { t with st := .COMPLETE })
  else (s1.modSlot tag (fun t => { t with st := .COMPLETE, latch := true, status := status })).ackDone tag status

/-- The heats of a slot's target, as they stand (R221 SETPOINT: SCOPE and TARGET). -/
def State.slotHeats (s : State) (tag : Nat) : List Nat :=
  let t := s.slot tag
  if t.scope then s.allHeats.filter (fun h => (s.members h).any (fun n => s.domOf n = t.target % 4)) else [s.heatIx t.target]

/-- The regions of a slot's target. -/
def State.slotRgns (s : State) (tag : Nat) : List Nat :=
  let t := s.slot tag
  if t.scope then s.domRgns (t.target % 4) else s.members (s.heatIx t.target)

/-- The slots in a state, rising. -/
def State.slotsIn (s : State) (p : Slot → Bool) : List Nat := (s.slots.entries.filter (fun e => p e.2)).map (·.1)

/-- A heat enters STARTING, OFF or DARK: every MOVING transition whose target holds it ends LOST (R233). -/
def State.loseTargets (s : State) (n : Nat) : State :=
  s.forEach (s.slotsIn (fun t => t.st = .MOVING)) fun s t =>
    if (s.slotHeats t).contains (s.heatIx n) then s.endSlot t 11 else s

/-! ### Lanes go off -/

/-- A lane's transition to DISABLED, from the states of the lane transition table that allow it. -/
def Lane.disable (l : Lane) : Lane :=
  match l.st with
  | .DISABLED | .FAILED | .RETIRED => l
  | _ => { l with st := .DISABLED, peak := 0, deLeft := 0, de := false, openNs := 0, mmRun := 0, balSum := 0, balN := 0, swRecent := [] }

/-- Every lane of a region goes off. -/
def State.lanesOff (s : State) (n : Nat) : State := s.forEach (lanesOf n) (fun s m => s.modLane m Lane.disable)

/-! ### Heat membership (R92) -/

/-- Replace label `b` by `a`. -/
def relabel (a b : Nat) (l : List (Nat × Nat)) : List (Nat × Nat) := l.map (fun x => if x.2 = b then (x.1, a) else x)

/-- The label of a region. -/
def labelOf (l : List (Nat × Nat)) (n : Nat) : Nat := ((l.find? (fun x => x.1 = n)).map (·.2)).getD n

/-- The lowest region connected to each placed region through closed gates. -/
def State.labels (s : State) : List (Nat × Nat) :=
  s.gates.entries.foldl (fun l g => match gateEnds g.1 with
    | some (a, b) =>
      let x := labelOf l a
      let y := labelOf l b
      if x = y then l else relabel (min x y) (max x y) l
    | none => l) (s.placed.map (fun n => (n, n)))

/-- Recompute heat membership (R92). -/
def State.recompute (s : State) : State := { s with heatOf := ⟨s.labels.filter (fun x => x.1 ≠ x.2)⟩ }

/-- Set a gate's position (R90). -/
def State.setGate (s : State) (g : Nat) (c : Bool) : State := { s with gates := tblSet false s.gates g c }

/-- The weight of regions: sharing and FOLLOWER lanes (R167). -/
def State.weight (s : State) (ns : List Nat) : Nat :=
  sumN (ns.map fun n => s.countLanes n (fun l => l.sharing || l.st = .FOLLOWER))

/-- Ī_H of R181: the mean I_PRI over the lanes of regions that switched in the last period, mA. -/
def State.exitMean (s : State) (ns : List Nat) : Rat :=
  meanR (((ns.flatMap lanesOf).filter fun m =>
    let l := s.lane m
    l.st = .RAMP || l.st = .SWITCHING || (l.st = .BURST && 0 < l.swRecent.headD 0)).map (fun m => (((s.lane m).iPri : Nat) : Rat)))

/-- A heat leaves burst: SHED lanes wake under R43, BURST lanes enter SWITCHING, R181 sets i_H (R69, R656). -/
def State.leaveBurst (s : State) (h : Nat) : State :=
  if (s.heat h).burst then
    let s1 := s.forEach (s.members h) fun s n => s.forEach (lanesOf n) fun s m => s.modLane m fun l =>
      match l.st with
      | .SHED => { l with st := .SWITCHING, awake := true, deLeft := 64, de := true }
      | .BURST => { l with st := .SWITCHING, awake := true, swRecent := [] }
      | .LATCHED => { l with prev := if l.prev = .BURST ∨ l.prev = .SHED then .SWITCHING else l.prev }
      | .HOLD => { l with held := if l.held = .BURST ∨ l.held = .SHED then .SWITCHING else l.held }
      | _ => l
    s1.modHeat h (fun t => { t with burst := false, burstRun := 0, seedIH := true, seedI := some (s.exitMean (s.members h)) })
  else s

/-- Split values after gates have opened: every new heat takes what its parent had (R118, R190, R291). -/
def State.inherit (s : State) (old : Tbl Nat) : State :=
  let est := fun (h : Nat) =>
    let p := tblGet h old h
    if p = h ∧ s.members h = s.placed.filter (fun n => tblGet n old n = p) then none else some p
  s.forEach s.allHeats fun s' h => match est h with
    | none => s'
    | some p => s'.modHeat h (fun _ => { s.heat p with atRun := 0, atTgt := false })

/-- Open gates and recompute the heats; the regions on both sides become SPLITTING for one step (R118) unless they are MERGING or do
not regulate. -/
def State.openGates (s : State) (gs : List Nat) : State :=
  let s1 := s.forEach gs (fun s g => s.setGate g false)
  let s2 := (s1.recompute).inherit s.heatOf
  s2.forEach gs fun s g => match gateEnds g with
    | some (a, b) => s.forEach [a, b] fun s n => s.modRgn n fun r =>
        if r.st = .MERGED ∨ r.st = .DEGRADED ∨ r.st = .SPLITTING ∨ r.st = .ISLAND then
          { r with st := .SPLITTING, splitAt := s.step.count, splitNs := s.now } else r
    | none => s

/-! ### Region states -/

/-- The state after MERGING or SPLITTING (R96, R97, R658). -/
def State.settled (s : State) (n : Nat) : RgnState :=
  if (s.rgn n).working < 72 then .DEGRADED else if s.allOpen n then .ISLAND else .MERGED

/-- A region enters DEGRADED: the event and RGNSTAT (R228, RGN_EVT.DEGRADED). -/
def State.degradedEvt (s : State) (n : Nat) : State := (s.rgnEvt RGN_EVT.DEGRADED .DEGRADED n).ackRgnStat n 3 0

/-- Put a region into a regulating state, reporting an entry into DEGRADED. -/
def State.settle (s : State) (n : Nat) (st : RgnState) : State :=
  let was := (s.rgn n).st
  let s1 := s.modRgn n (fun r => { r with st := st, regSince := some (r.regSince.getD s.now) })
  if st = .DEGRADED ∧ was ≠ .DEGRADED then s1.degradedEvt n else s1

/-- The region has a close command that is past its due step (R658). -/
def State.hasPendingClose (s : State) (n : Nat) : Bool :=
  s.merges.any fun x => x.close && match gateEnds x.gate with
    | some (a, b) => a = n || b = n
    | none => false

/-- The last pending close of a MERGING region has ended (R658). -/
def State.mergeEnded (s : State) (n : Nat) : State :=
  if (s.rgn n).st = .MERGING ∧ !s.hasPendingClose n then s.settle n (s.settled n) else s

/-- A command's result, where it came through DOM_RCMD; an ended heat-plan close lets the next follow. -/
def State.result (s : State) (o : MergeOrigin) (code : Nat) : State :=
  match o with
  | .cmd d => s.put DOM_RCMD_RES.STATUS d code
  | _ => s

/-- A pending close or open ends with a result; the regions of a close take their states under R658. -/
def State.endMerge (s : State) (x : PMerge) (code : Nat) : State :=
  let s1 := ({ s with merges := s.merges.filter (fun y => !(y.gate = x.gate ∧ y.close = x.close ∧ y.origin = x.origin)) }).result x.origin code
  match x.close, gateEnds x.gate with
  | true, some (a, b) => (s1.mergeEnded a).mergeEnded b
  | _, _ => s1

/-- Every pending close or open on a gate of a region ends with REFUSED_STATE (03, Coinciding situations). -/
def State.refuseMerges (s : State) (n : Nat) : State :=
  s.forEach (s.merges.filter fun x => match gateEnds x.gate with
    | some (a, b) => a = n || b = n
    | none => false) (fun s x => s.endMerge x 7)

/-- A region enters DARK (R96, R228): strobes, lanes off, the event and RGNSTAT. -/
def State.goDark (s : State) (n cause : Nat) : State :=
  let s1 := (s.lanesOff n).modRgn n fun r => { r with
    st := .DARK, cause := cause, iso := true, ret := false, phase := .idle, regSince := none, graceEnd := none, darkAt := none,
    noLane := none, stopAt := none, rampDone := false, falseRun := 0, lossRun := 0 }
  ((s1.loseTargets n).refuseMerges n |>.rgnEvt RGN_EVT.DARK .DARK n).ackRgnStat n 2 0

/-- A region's state of integrators and reference when it enters STARTING (R192). -/
def State.startHeat (s : State) (n : Nat) : State :=
  (s.modHeat n (fun _ => {})).modRgn n (fun r => { r with iP := 0, ur := ⟨0, -4⟩, cr := none })

/-- A region begins an attempt: the start measurement runs (R44, R99). -/
def State.beginAttempt (s : State) (n : Nat) (byStart : Bool) : State :=
  ((s.startHeat n).modRgn n fun r => { r with
    st := .STARTING, phase := .measuring s.now, byStart := byStart, iso := true, ret := false, rampDone := false, rampDown := false,
    falseRun := 0, lossRun := 0, regSince := none, stopAt := none, noLane := none }).loseTargets n

/-- An attempt, or a period of regulation, fails (R100, R101, R103): the region waits in STARTING for its next attempt, or goes DARK
with the fourth failure; the lanes are off and iso_strobe is asserted at once (R95). -/
def State.failAttempt (s : State) (n cause : Nat) : State :=
  let r := s.rgn n
  if 4 ≤ r.attempts + 1 then (s.modRgn n (fun r => { r with attempts := 4 })).goDark n cause
  else
    let s1 := ((s.lanesOff n).startHeat n).modRgn n fun r => { r with
      st := .STARTING, phase := .waiting s.now, attempts := r.attempts + 1, cause := if cause = 1 then r.cause else cause, byStart := false, iso := true, ret := false,
      rampDone := false, falseRun := 0, lossRun := 0, regSince := none, stopAt := none, noLane := none, isoDue := none }
    (s1.loseTargets n).refuseMerges n

/-- The ramp has ended within ±5 mV of the target and the transition takes effect (R96): ISLAND or DEGRADED; iso_strobe falls at this
boundary, or TSTEP later while the time base is not RUNNING (R95, R536). -/
def State.islandEntry (s : State) (n : Nat) : State :=
  let s1 := s.modRgn n fun r => { r with
    phase := .idle, rampDone := false, attempts := if r.byStart then 0 else r.attempts, regSince := some s.now, byStart := false,
    iso := if s.running then false else r.iso, isoDue := if s.running then none else some (s.now + s.tstep) }
  s1.settle n (if (s.rgn n).working < 72 then .DEGRADED else .ISLAND)

/-- An islanded region that loses regulation (R102, R103): the failed attempt, the event, RGNSTAT with the state that the loss leaves. -/
def State.loseRegulation (s : State) (n cause : Nat) : State :=
  ((s.failAttempt n cause).rgnEvt RGN_EVT.REG_LOSS .REG_LOSS n).ackRgnStat n 4 0

/-- Open gates at once, off a boundary (R104, R106): the events of the regions that had a gate opened. -/
def State.emergOpen (s : State) (gs : List Nat) : State :=
  let hit := s.placed.filter (fun n => (gatesOf n).any (fun x => gs.contains x.1))
  (s.forEach hit (fun s n => s.rgnEvt RGN_EVT.EMERG_OPEN .EMERG_OPEN n)).openGates gs

/-! ### Deferral and load (R112, R119, R120) -/

/-- A forecast of every region of a heat is valid (R119). -/
def State.fcValid (s : State) (ns : List Nat) : Bool := s.running && ns.all (fun n => (s.rgn n).mode = .FORECAST)

/-- R112 for one heat: its measured or its forecast load ratio exceeds THRESH. -/
def State.deferHeat (s : State) (h : Nat) : Bool :=
  let ns := s.members h
  let th := s.mergeTh (s.domOf h)
  let rt := s.ratedOf ns
  overRatio (sumR (ns.map s.cur16)) rt th ||
  ((List.range 17).any fun k => overRatio ((s.linOf ns (s.step.count + k) : Nat) : Rat) rt th)

/-- The heats that a gate's opening would leave, as lists of regions; one list when it divides nothing. -/
def State.divided (s : State) (g : Nat) : List (List Nat) :=
  match gateEnds g with
  | none => []
  | some (a, b) =>
    let s1 := (s.setGate g false).recompute
    if s1.heatIx a = s1.heatIx b then [s1.members (s1.heatIx a)] else [s1.members (s1.heatIx a), s1.members (s1.heatIx b)]

/-- The estimated load of one part of a heat to be split, mA (R119). -/
def State.splitLoad (s : State) (parent part : List Nat) : Rat :=
  if s.fcValid part then ((sumN (part.map (fun n => s.fFull n s.step.count)) : Nat) : Rat)
  else sumR (parent.map (fun n => ((s.delivered n : Nat) : Rat))) * (part.length : Rat) / (parent.length : Rat)

/-- An open is deferred: a resulting heat's estimated load ratio exceeds 100 % (R120). -/
def State.deferOpen (s : State) (g : Nat) : Bool :=
  match gateEnds g with
  | none => false
  | some (a, _) =>
    let parts := s.divided g
    parts.length = 2 && parts.any (fun part => overRatio (s.splitLoad (s.members (s.heatIx a)) part) (s.ratedOf part) 100)

/-! ### Closing and opening gates at a boundary -/

/-- The states from which a close command begins MERGING (R96). -/
def RgnState.canMerge : RgnState → Bool
  | .ISLAND | .MERGED | .DEGRADED | .MERGING | .SPLITTING => true
  | _ => false

/-- The gate is allowed by the image and joins two placed regions of one domain (R13, R91). -/
def State.gateOk (s : State) (g : Nat) : Bool :=
  match gateEnds g with
  | some (a, b) => s.gatesOk.contains g && s.isPlaced a && s.isPlaced b && s.domOf a = s.domOf b
  | none => false

/-- Join two heats at the closing of a gate: R189's integrator, the higher reference, the joined base set-point as Baton value (R155), the
lifts of both (R291), out of burst (R656). -/
def State.join (s : State) (ha hb g : Nat) : State :=
  let a := s.heat ha
  let b := s.heat hb
  let wa := s.weight (s.members ha)
  let wb := s.weight (s.members hb)
  let base := max (s.baseV ha) (s.baseV hb)
  let ms := s.members ha ++ s.members hb
  let burst := a.burst || b.burst
  let s0 := (s.leaveBurst ha).leaveBurst hb
  let s1 := (s0.setGate g true).recompute
  let h := min ha hb
  let hi := if a.tgt ≥ b.tgt then a else b
  let iH := if wa + wb = 0 then 0 else rnd16 ((of16 a.iH * wa + of16 b.iH * wb) / ((wa + wb : Nat) : Rat))
  let s2 := (s1.modHeat (max ha hb) (fun _ => {})).modHeat h (fun _ => { hi with
    ref := max a.ref b.ref, tgt := max a.tgt b.tgt, iH := iH, burst := false, burstRun := 0, seedIH := burst, seedI := if burst then some (s.exitMean ms) else none, atRun := 0, atTgt := false })
  let s3 := s2.forEach ms (fun s n => s.modRgn n (fun r => { r with batonV := some base }))
  let widen := fun (l : Lift) =>
    if l.regions.any (fun n => ms.contains n) then
      { l with regions := ms.foldl (fun acc n => if acc.contains n then acc else insertN n acc) l.regions }
    else l
  { s3 with pacer := { s3.pacer with lifts := s3.pacer.lifts.map widen } }

/-- The close conditions of R108 but for the voltage and the deferral. -/
def State.closeReady (s : State) (a b : Nat) : Bool :=
  let ok := fun (n : Nat) => (s.rgn n).st.regulating && (s.rgn n).st != .RETAIN
  let noRamp := fun (h : Nat) => (s.members h).all (fun n => s.countLanes n (fun l => l.st = .RAMP) = 0)
  ok a && ok b && noRamp (s.heatIx a) && noRamp (s.heatIx b)

/-- The voltage condition of R108: the outputs differ by less than 10 mV. -/
def State.closeVolt (s : State) (a b : Nat) : Bool :=
  let d := s.out4 a - s.out4 b
  decide (d < 2000 ∧ -2000 < d)

/-- The gate closes (R110, R116, R117). -/
def State.closeGate (s : State) (x : PMerge) (forced : Bool) : State :=
  match gateEnds x.gate with
  | none => s.endMerge x 6
  | some (a, b) =>
    let ha := s.heatIx a
    let hb := s.heatIx b
    let s1 := if ha = hb then s.setGate x.gate true else s.join ha hb x.gate
    let s2 := match x.origin with
      | .rescue n => s1.rgnEvt RGN_EVT.RESCUE .RESCUE n
      | _ => s1
    s2.endMerge x (if forced then 5 else 4)

/-- Replace a pending merge. -/
def State.setMerge (s : State) (x : PMerge) : State :=
  { s with merges := s.merges.map (fun y => if y.gate = x.gate ∧ y.close = x.close ∧ y.origin = x.origin then x else y) }

/-- Judge a pending close at a boundary (R108 to R117); `defer` is false while the time base is UNSYNC (R536). -/
def State.judgeClose (s : State) (x : PMerge) (defer : Bool) : State :=
  match gateEnds x.gate with
  | none => s.endMerge x 6
  | some (a, b) =>
    if !((s.rgn a).st.canMerge && (s.rgn b).st.canMerge) then s.endMerge x 7
    else if 64 ≤ x.vfail then s else
    let d := s.domOf a
    let ha := s.heatIx a
    let hb := s.heatIx b
    let spec := s.specOf ha || s.specOf hb
    let volt := s.closeVolt a b
    let isRescue := match x.origin with
      | .rescue _ => true
      | _ => false
    let past := match x.f with
      | some f => decide (f ≤ s.step.count)
      | none => false
    let held := defer && !isRescue && !past && ha ≠ hb && (s.deferHeat ha || s.deferHeat hb)
    if s.closeReady a b && !spec && volt && !held then s.closeGate x past
    else
      let x1 : PMerge := { x with
        vfail := if volt then 0 else if spec || !defer then x.vfail else x.vfail + 1
        vfailNs := if volt then none else some (x.vfailNs.getD s.now)
        deferred := held
        d := if held then some (x.d.getD s.step.count) else x.d
        f := if held then some (x.f.getD (s.step.count + s.deferMax d)) else x.f }
      (s.setMerge x1).result x.origin (if held then 3 else 2)

/-- A close command falls due (R107, R658, R659). -/
def State.closeDue (s : State) (g : Nat) (o : MergeOrigin) : State :=
  match gateEnds g with
  | none => s.result o 6
  | some (a, b) =>
    if s.closed g then s.result o 4
    else if !((s.rgn a).st.canMerge && (s.rgn b).st.canMerge) then s.result o 7
    else
      let s1 := s.forEach [a, b] (fun s n => s.modRgn n (fun r => { r with st := .MERGING }))
      let x : PMerge := { gate := g, close := true, origin := o }
      { s1 with merges := s1.merges ++ [x] }

/-- An open executes (R118): the heats divide; the combiner then runs for
each resulting heat, with R190's estimate in place of an invalid forecast (State.combine). -/
def State.openExec (s : State) (g : Nat) : State :=
  match gateEnds g with
  | none => s
  | some (a, _) =>
    let parent := s.members (s.heatIx a)
    let parts := s.divided g
    let s1 := s.openGates [g]
    if parts.length ≠ 2 then s1 else
    s1.forEach parts fun s' part =>
      let h := part.headD 0
      if s.fcValid part then s'.modHeat h (fun t => { t with splitDue := true }) else
      let w := s'.weight part
      s'.modHeat h (fun t => { t with
        splitDue := true, seedI := none, fEst := some (if w = 0 then 0 else s.splitLoad parent part / (w : Rat)), iH := 0 })

/-- Judge a pending open at a boundary (R118, R120). -/
def State.judgeOpen (s : State) (x : PMerge) : State :=
  match gateEnds x.gate with
  | none => s.endMerge x 6
  | some (a, b) =>
    if (s.rgn a).st = .RETAIN ∨ (s.rgn b).st = .RETAIN then s.endMerge x 7
    else if !s.closed x.gate then s.endMerge x 4
    else if s.deferMax (s.domOf a) ≤ x.dcount then s
    else if s.deferOpen x.gate then
      let x1 : PMerge := { x with deferred := true, dcount := x.dcount + 1 }
      (s.setMerge x1).result x.origin 3
    else (s.openExec x.gate).endMerge x 4

/-- An open command falls due (R659). -/
def State.openDue (s : State) (g : Nat) (o : MergeOrigin) : State :=
  match gateEnds g with
  | none => s.result o 6
  | some (a, b) =>
    if !s.closed g then s.result o 4
    else if (s.rgn a).st = .RETAIN ∨ (s.rgn b).st = .RETAIN then s.result o 7
    else { s with merges := s.merges ++ [{ gate := g, close := false, origin := o }] }

/-! ### Rescue (R122 to R125) -/

/-- The gate of the rescue merge: the allowed gate to the regulating, non-RETAIN neighbour of its domain whose heat has the lowest load
ratio, the lowest region on a tie (R123). -/
def State.rescueGate (s : State) (n : Nat) : Option (Nat × Nat) :=
  let cand := (gatesOf n).filter fun x => s.gateOk x.1 && (s.rgn x.2).st.regulating && (s.rgn x.2).st != .RETAIN
  argMin (fun x =>
    let ns := s.members (s.heatIx x.2)
    let rt := s.ratedOf ns
    if rt = 0 then 1000000 else sumR (ns.map s.cur16) / (rt : Rat)) cand

/-- Order a forced-merge stretch of a domain for step `f` (R115): in a cascade of the master (R322), else through the step action queue;
`none` when the queue is full (R20). -/
def State.orderMergeStretch (s : State) (d f : Nat) : Option State :=
  let n := s.fstrN d
  let c := s.fstrCyc d
  if s.inCascade then
    let all := s.lim.mergeStr ++ [(f, n, c)]
    let pts := (all.flatMap (fun x => [x.1, x.1 + x.2.1])).filter (fun p => f ≤ p ∧ p ≤ f + n)
    let at_ := fun (p : Nat) => maxN (all.map fun x => if x.1 ≤ p ∧ p < x.1 + x.2.1 then x.2.2 else 0)
    some (({ s with lim := { s.lim with mergeStr := all } }).forEach (sortN pts) (fun s p => s.requestLevel .MERGE p (at_ p)))
  else if s.roomOwn 1 then some (s.enqueue (s.stretchDue f) (.stretch .MERGE (256 * n + c)))
  else none

/-- Schedule the rescue of a region through a gate (R124): at the next boundary, or 64 steps ahead with a forced-merge stretch when the
neighbour's heat is above THRESH. When the queue is full it waits and is offered again (R20). -/
def State.scheduleRescue (s : State) (n g : Nat) : State :=
  let nb := match gateEnds g with
    | some (a, b) => if a = n then b else a
    | none => n
  let hot :=
    let ns := s.members (s.heatIx nb)
    overRatio (sumR (ns.map s.cur16)) (s.ratedOf ns) (s.mergeTh (s.domOf n))
  if s.roomOwn 1 then
    let due := if hot then s.step.count + 64 else s.step.count + 1
    let s1 := (s.enqueue due (.close g (.rescue n))).modRgn n (fun r => { r with rescueWait := none })
    if hot then (s1.orderMergeStretch (s.domOf n) due).getD (s1.queueFull .hardware) else s1
  else (s.modRgn n (fun r => { r with rescueWait := some g })).queueFull .hardware

/-- A region requests a rescue merge (R122): islanded, RESCUE_EN, an eligible neighbour. -/
def State.requestRescue (s : State) (n : Nat) : State :=
  if s.fb RGN_CTRL.RESCUE_EN n ∧ s.members (s.heatIx n) = [n] ∧ (s.rgn n).st.regulating then
    match s.rescueGate n with
    | some x => s.scheduleRescue n x.1
    | none => s
  else s

/-- After a region's number of current-mode lanes has changed: a rescue for too few lanes, once while it stays below (R122), and the
count of R125. -/
def State.lanesChanged (s : State) (n : Nat) : State :=
  let c := s.f RGN_CTRL.RESCUE_LANES n
  let need := if c = 0 then 8 else c
  let k := s.cmLanes n
  let r := s.rgn n
  let s1 := if need ≤ k then s.modRgn n (fun r => { r with rescueLow := false })
    else if r.rescueLow ∨ !r.st.regulating then s
    else (s.modRgn n (fun r => { r with rescueLow := true })).requestRescue n
  if k = 0 ∧ r.st.regulating then
    s1.modRgn n (fun r => { r with noLane := some (r.noLane.getD 0), noLaneNs := if r.noLane.isNone then s.now else r.noLaneNs })
  else s1.modRgn n (fun r => { r with noLane := none })

/-! ### Vertical groups (R131 to R137) -/

/-- The region's groups in service: working groups not failed, and mapped spares. -/
def State.inService (s : State) (n : Nat) : List Nat :=
  let r := s.rgn n
  (List.range 104).filter fun g =>
    if g < 96 then !r.vgFailed.contains g else r.vgMap.getD (g - 96) 127 ≠ 127 && !r.vgFailed.contains g

/-- Reported under R137: W has fallen below 48. -/
def State.startGrace (s : State) (n : Nat) : State :=
  if (s.rgn n).graceEnd.isSome ∨ (s.rgn n).st = .OFF ∨ (s.rgn n).st = .DARK then s else
  let g := max 16 (s.f RGN_CTRL.GRACE n)
  let e := s.step.count + g
  let s1 := s.modRgn n (fun r => { r with graceEnd := some e, graceNs := s.now })
  (s1.rgnEvt RGN_EVT.DARK_PEND .DARK_PEND n).ackRgnStat n 1 (if s.step.tb = .UNSYNC then 0 else e)

/-- A failed group finds no spare: W falls (R133), and the region starts its grace period below 48 (R137). -/
def State.groupLost (s : State) (n : Nat) : State :=
  let s1 := (s.modRgn n (fun r => { r with working := r.working - 1 })).rgnEvt RGN_EVT.SPARES_OUT .SPARES_OUT n
  if (s1.rgn n).working < 48 then s1.startGrace n else s1

/-- Map a failed group to the lowest unused spare (R133): a failed spare is replaced the same way. -/
def State.mapSpare (s : State) (n g : Nat) : State :=
  let r := s.rgn n
  let free := (List.range 8).find? (fun i => r.vgMap.getD i 127 = 127 && !r.vgFailed.contains (96 + i))
  let covers := if g < 96 then g else r.vgMap.getD (g - 96) 127
  match free with
  | some i => s.modRgn n (fun r => { r with vgMap := r.vgMap.set i covers })
  | none => s.groupLost n

/-- Degradation takes effect at a boundary: ISLAND, MERGED or SPLITTING with W below 72 (R96). -/
def State.degrade (s : State) (n : Nat) : State :=
  let r := s.rgn n
  if r.working < 72 ∧ (r.st = .ISLAND ∨ r.st = .MERGED ∨ r.st = .SPLITTING) then s.settle n .DEGRADED else s

end Sys2Proof.Machine
end

