-- ==== Sys2Proof/Machine/Stride.lean ====
section
/-! DEFINITION. Stride's period (04_stride_region_loop.md): the readings, the reference, the region issue, the combiner, the lane rules
that Stride and the macros apply every region sample (02_lanes.md). -/

namespace Sys2Proof.Machine

/-! ### Readings -/

/-- A region's reading in a sample; a region not listed reads zeros. -/
def readOf (rs : List (Nat × RgnRead)) (n : Nat) : RgnRead := ((rs.find? (fun x => x.1 = n)).map (·.2)).getD ⟨0#8, none, []⟩

/-- A lane's report. -/
def laneAt (r : RgnRead) (k : Nat) : LaneRead := r.lanes.getD k ⟨0#12, 0#12, 0, 0, 0, 0, false, 0, 0⟩

/-- A lane's effective peak threshold, mA (R35, R71); in HOLD the keeper command (R73). -/
def Lane.threshold (l : Lane) : Nat :=
  if l.st = .HOLD then l.keeper else
  let t : Int := match l.st with
    | .FOLLOWER | .SHED | .LATCHED => 0
    | _ => max (-63) l.trim
  (clampI 0 4088 (8 * (l.peak : Int) + 4 * t)).toNat

/-- A lane latches its report: senses, the counts of R54, R77, R78, R80, R182, R69, the wake-up's diode emulation (R43). -/
def Lane.latch (l : Lane) (x : LaneRead) (openCmd openSense : Nat) : Lane :=
  let p := x.iPri.toNat
  let q := x.iSec.toNat
  let sw := l.st = .RAMP ∨ l.st = .SWITCHING ∨ l.st = .BURST ∨ l.st = .HOLD
  let onOpen : Nat :=
    if sw then
      if openCmd < l.threshold ∧ p < openSense ∧ q < openSense then l.openNs + min 50 x.onNs else 0
    else if l.st = .FOLLOWER then
      if q < openSense then l.openNs + (if x.onTime = 0 then 0 else min 50 x.onNs) else 0
    else 0
  let mx := max p q
  let mm := (l.st = .SWITCHING ∨ l.st = .BURST) ∧ 250 ≤ mx ∧ mx < 4 * (max p q - min p q)
  { l with
    iPri := p, iSec := q, atCap := x.atCap, cyc := x.cyc, peakMa := x.peak, onTime := x.onTime, fastRun := x.fastRun
    fastCyc := satAdd 65535 l.fastCyc x.fastEnds
    openNs := onOpen
    mmRun := if mm then l.mmRun + 1 else 0
    balSum := if l.st = .SWITCHING then l.balSum + q else 0
    balN := if l.st = .SWITCHING then l.balN + 1 else 0
    deLeft := l.deLeft - x.cyc
    swRecent := if l.st = .BURST then (min 50 x.onNs :: l.swRecent).take 40 else [] }

/-! ### The reference (R156 to R158) and the error (R162) -/

/-- Stride moves REF and TGT of this heat in this period: it regulates, or runs its ramp. -/
def State.refMoves (s : State) (h : Nat) : Bool := (s.rgn h).st.regulating || (s.rgn h).phase = .ramp

/-- TGT is formed and REF moves toward it by at most the slew (R156, R157); the clamp's flag; the lift's slew ends at TGT (R158). -/
def State.moveRef (s : State) (h : Nat) : State :=
  if !s.refMoves h then s else
  let o := s.ownTgt h
  let tgt := s.tgtOf h
  let t := s.heat h
  let k := s.slewOf h
  let ref := if t.ref < tgt then min tgt (t.ref + k) else max tgt (t.ref - k)
  let s1 := s.modHeat h (fun t => { t with ref := ref, tgt := tgt, liftSlew := if ref = tgt then none else t.liftSlew })
  if o.1 ≠ o.2 then s1.put RGN_STR_STATUS.CLAMP h 1 else s1

/-- The region error, units (R162). -/
def errOf (ref : Nat) (a : Int) (q : Nat) : Int :=
  let cw := ref / 100
  if -128 < a ∧ a < 127 then (ref : Int) - 100 * cw - 200 * a else clampI (-51200) 51200 ((ref : Int) - 400 * q)

/-- The output value of a sample, units (R108, R162). -/
def outVal (ref : Nat) (a : Int) (q : Nat) : Int := if -128 < a ∧ a < 127 then 100 * ((ref / 100 : Nat) : Int) + 200 * a else 400 * (q : Int)

/-! ### Oscillation detector (R185 to R188) -/

/-- One issue of the detector. -/
def State.oscillation (s : State) (n : Nat) (e : Int) : State :=
  let th := 200 * max 1 (s.f RGN_STR_CFG.OSC_TH n)
  let win := max 8 (s.f RGN_STR_CFG.OSC_WIN n)
  let cnt := clampN 2 win (s.f RGN_STR_CFG.OSC_CNT n)
  if !s.fb RGN_STR_CFG.OSC_EN n ∨ (s.heat (s.heatIx n)).burst ∨ (s.rgn n).keepSince.isSome then
    s.modRgn n (fun r => { r with swings := [], swingSign := 0 })
  else
    let r := s.rgn n
    let aged := (r.swings.map (· + 1)).filter (· < win)
    let sg : Int := if 0 < e then 1 else -1
    let swing := (th : Int) < e.natAbs ∧ sg ≠ r.swingSign
    let sw := if swing then 0 :: aged else aged
    let s1 := s.modRgn n (fun r => { r with swings := sw, swingSign := if swing then sg else r.swingSign })
    if cnt ≤ sw.length then
      if r.fb then (s1.modRgn n (fun r => { r with swings := [], swingSign := 0 })).raiseHw .OSC .region n
      else ((s1.modRgn n (fun r => { r with swings := [], swingSign := 0, fb := true })).put RGN_STR_STATUS.OSC n 1).raiseHw .OSC .region n
    else s1

/-! ### The competition (R175 to R177) and the lane commands (R178 to R180) -/

/-- A stage of a region saturated (R149). -/
def State.satEvt (s : State) (n : Nat) (b : Bool) : State := if b then s.rgnEvt RGN_STR_STATUS.SAT .SAT n else s

/-- P_r over V and the weight, mA (R175); V is REF × 5 µV. At V = 0 the spec states no value (log entry 3). -/
def bpOf (p ref w : Nat) : Rat := if ref * w = 0 then Config.powerPerLane p ref w else ((p * 200000 : Nat) : Rat) / ((ref * w : Nat) : Rat)

/-- The active limit demands of a region with their WIN codes (R175): overload, thermal, power. -/
def State.limits (s : State) (n w : Nat) : List (Nat × Rat) :=
  if w = 0 then [] else
  let r := s.rgn n
  let t := s.heat (s.heatIx n)
  let o1 : List Rat := if r.ovFlag then [((s.slowLim n : Nat) : Rat) - (t.hr : Rat)] else []
  let o2 : List Rat := if r.working < 96 then [((s.groupLimit n : Nat) : Rat) / (w : Rat)] else []
  let dO : List (Nat × Rat) := match o1 ++ o2 with
    | [] => []
    | a :: rest => [(1, rest.foldl min a)]
  let tc := s.f RGN_LIM.TCAP n
  let pr := s.f RGN_LIM.PSHARE n
  dO ++ (if tc = 65535 then [] else [(2, (tc : Rat) / (w : Rat))]) ++
  (if pr = 65535 then [] else [(3, bpOf pr t.ref w + of16 r.iP)])

/-- The first of the least among (code, value) pairs (R176). -/
def lowest : List (Nat × Stage) → Nat × Stage
  | [] => (0, ⟨0, -4⟩)
  | [a] => a
  | a :: t => let b := lowest t; if a.2.val ≤ b.2.val then a else b

/-- A bound of i_P rounded toward zero (R177). -/
def towardZero16 (x : Rat) : Int := if 0 ≤ x then (x * 65536).floor else -((-x) * 65536).floor

/-- The competition of a region's issue: u_r, WIN, c_r, i_P. -/
def State.compete (s : State) (n : Nat) : State :=
  let t := s.heat (s.heatIx n)
  let nS := s.countLanes n Lane.sharing
  let nF := s.countLanes n (fun l => l.st = .FOLLOWER)
  let w := nS + nF
  let lim := s.limits n w
  let st := rndStage (t.sh.val :: lim.map (·.2))
  let all := (0 :: lim.map (·.1)).zip st.1
  let win := lowest all
  let lims := all.drop 1
  let p := s.profile (s.heatIx n)
  let dp := lims.find? (fun x => x.1 = 3)
  let iP : Int := match dp with
    | none => 0
    | some d =>
      let bp := bpOf (s.f RGN_LIM.PSHARE n) t.ref w
      let sh := (lanesOf n).filter (fun m => (s.lane m).sharing)
      let ibar := meanR (sh.map (fun m => (((s.lane m).iPri : Nat) : Rat)))
      let a1 := pow2 (-(s.hdr STR_PHDR.PKI p : Int)) * (bp - ibar)
      let a2 := if win.1 = 3 then 0 else pow2 (-(s.hdr STR_PHDR.TRK p : Int)) * (win.2.val - d.2.val)
      clampI (-intMax) intMax (clampI (towardZero16 (-bp / 8)) (towardZero16 (bp / 4))
        (roundEven ((of16 (s.rgn n).iP + a1 + a2) * 65536)))
  (s.modRgn n fun r => { r with
    ur := win.2, win := win.1, cr := if lims = [] then none else some (lowest lims).2, iP := iP, nShare := nS, nFoll := nF
    dtRun := if win.1 = 2 then r.dtRun + 1 else 0 }).satEvt n st.2

/-- Write a region's lane commands (R147, R178 to R180): `old` holds the I_SEC of period k − 1. -/
def State.writeLanes (s old : State) (n : Nat) : State :=
  let r := s.rgn n
  let t := s.heat (s.heatIx n)
  let foll := (lanesOf n).filter (fun m => (s.lane m).st = .FOLLOWER)
  let fsum : Rat := ((sumN (foll.map (fun m => (old.lane m).iSec)) : Nat) : Rat)
  let w := r.nShare + r.nFoll
  let x := if r.nShare = 0 then (⟨0, -4⟩, false) else rndStage1 (((w : Rat) * r.ur.val - fsum) / (r.nShare : Rat))
  let dark := r.st = .OFF ∨ r.st = .DARK
  let med := median2 (((lanesOf n).filter (fun m => (s.lane m).st = .SWITCHING)).map (fun m => (s.lane m).onTime))
  let cmd := fun (l : Lane) =>
    let cmax := if l.st = .RAMP then s.startCap n else 511
    (clampI 0 cmax (roundEven (x.1.val / 8 + (t.hr : Rat) / 8))).toNat
  (s.forEach (lanesOf n) fun s m => s.modLane m fun l =>
    match l.st with
    | .RAMP | .SWITCHING => { l with peak := if dark then 0 else cmd l }
    | .BURST => { l with peak := s.burstPk n }
    | .FOLLOWER => { l with follOn := med, follCap := x.1.val * 4 / 5 }
    | _ => { l with peak := 0 }).satEvt n x.2

/-! ### What the lanes and the region do of themselves in a sample -/

/-- BURST lanes switch from REF − 8 mV until REF + 8 mV (R68); lanes in HOLD from the held set-point − 15 mV, asleep from + 15 mV (R73);
diode emulation (R43, R46, R48). -/
def State.macros (s : State) (n : Nat) (out : Int) : State :=
  let r := s.rgn n
  let ref : Int := ((s.heat (s.heatIx n)).ref : Nat)
  let held : Int := (r.heldRef : Nat)
  s.forEach (lanesOf n) fun s m => s.modLane m fun l =>
    let awake := match l.st with
      | .BURST => if out ≤ ref - 1600 then true else if ref + 1600 ≤ out then false else l.awake
      | .HOLD => if l.held = .FOLLOWER then false
        else if out < held - 3000 then true else if held + 3000 < out then false else l.awake
      | _ => l.awake
    let de := match l.st with
      | .RAMP => r.rampDown || decide (ref < ((r.meas : Nat) : Int) + 3200)
      | .SWITCHING => decide (0 < l.deLeft)
      | .HOLD => !awake
      | _ => false
    { l with awake := awake, de := de }

/-- The region is at current limit (R49). -/
def State.atLimit (s : State) (n : Nat) : Bool :=
  let k := s.cmLanes n
  0 < k && k ≤ 2 * s.countLanes n (fun l => l.currentMode && (l.st = .LATCHED || l.atCap))

/-- The counts that a region's sample advances: R50, R57 to R60, R62, R102, R283. -/
def State.regionCounts (s : State) (n : Nat) (a : Int) (out : Int) : State :=
  let t := s.heat (s.heatIx n)
  let lim := s.atLimit n
  let low := decide (10000 < ((t.ref : Nat) : Int) - out) || a = -128
  let slow := s.slowLim n
  let pk := ((lanesOf n).filter (fun m => (s.lane m).currentMode && 1 ≤ (s.lane m).cyc)).map (fun m => (((s.lane m).peakMa : Nat) : Rat))
  let mean := meanR pk
  let cm := (lanesOf n).filter (fun m => (s.lane m).currentMode)
  let ip := meanR (cm.map (fun m => (((s.lane m).iPri : Nat) : Rat)))
  let cur := s.delivered n
  let dv := t.sh.val + (t.hr : Rat)
  s.modRgn n fun r => { r with
    falseRun := if r.phase = .ramp ∧ lim ∧ low then r.falseRun + 1 else 0
    lossRun := if r.st.regulating ∧ lim ∧ 10000 < ((t.ref : Nat) : Int) - out then r.lossRun + 1 else 0
    ovRun := if pk = [] then r.ovRun else if mean * 20 < (slow : Rat) * 19 then 0 else if (slow : Rat) < mean then r.ovRun + 1 else r.ovRun
    ovClr := if r.ovFlag ∧ dv * 20 < (slow : Rat) * 19 then r.ovClr + 1 else 0
    capRun := if cm ≠ [] ∧ 1500 < ip then r.capRun + 1 else 0
    capRaised := r.capRaised && decide (cm ≠ [] ∧ 1500 < ip)
    curs := (cur :: r.curs).take 16
    stepSum := r.stepSum + cur, stepN := r.stepN + 1
    stepBad := r.stepBad || !(r.st.regulating && decide (r.mode = .FORECAST))
    winBad := r.winBad || !(r.st.regulating && decide (r.mode ≠ .HELD)) }

/-- How Stride stands in a period. -/
inductive StrideMode where
  /-- A block reset: no update (R147). -/
  | off
  /-- The first period after its release: samples are latched, no lane command is written (R191). -/
  | latchOnly
  | normal
  deriving DecidableEq, Repr

/-- The mode of the running period. -/
def State.strideMode (s : State) : StrideMode :=
  if s.blockReset.isSome then .off else match s.resume with
    | some 0 => .latchOnly
    | _ => .normal

/-- The lanes of a region leave HOLD as Stride resumes it (R31, R72, R76). -/
def State.leaveHold (s : State) (n : Nat) : State :=
  if (s.rgn n).keepSince.isSome then
    (s.forEach (lanesOf n) fun s m => s.modLane m fun l => if l.st = .HOLD then { l with st := l.held, awake := true }
      else if l.st = .LATCHED ∧ l.prev = .HOLD then { l with prev := l.held } else l).modRgn n
      (fun r => { r with keepSince := none })
  else s

/-- The output value and the coarse reading of a sample (R108, R161). -/
def State.takeReading (s : State) (n : Nat) (rd : RgnRead) : State :=
  s.modRgn n fun r =>
    let q := match rd.q with
      | some x => x.val
      | none => r.coarse
    { r with coarse := q, outs := (outVal (s.heat (s.heatIx n)).ref rd.code.toInt q :: r.outs).take 4 }

/-- The region issue of period k (R144, R147). -/
def State.issue (s old : State) (n : Nat) (rd : RgnRead) (md : StrideMode) : State :=
  let a := rd.code.toInt
  let out := s.outNow n
  match md with
  | .off =>
    ((s.modRgn n fun r => { r with miss := r.miss + 1, clrFb := false
                                   fb := r.fb && !r.clrFb, builtIn := r.builtIn && !r.clrFb }).macros n out).regionCounts n a out
  | _ =>
    let s0 := if md = .normal then s.leaveHold n else s
    let e := errOf (s0.heat (s0.heatIx n)).ref a (s0.rgn n).coarse
    let s1 := s0.modRgn n fun r => { r with
      er := e, miss := if md = .normal then 0 else r.miss + 1
      fb := r.fb && !r.clrFb, builtIn := r.builtIn && !r.clrFb, clrFb := false }
    let s2 := (s1.oscillation n e).compete n
    let s3 := if md = .normal then s2.writeLanes old n else s2
    (s3.macros n out).regionCounts n a out

/-! ### The combiner (R163 to R174, R181, R189 to R191) -/

/-- The half ripple, mA (R174). -/
def State.halfRipple (s : State) (h : Nat) : Nat :=
  let v : Rat := (((s.heat h).ref : Nat) : Rat) * 5 / 1000000
  let vin : Rat := s.vin
  if vin ≤ v then 0 else
  (clampI 0 4095 (roundEven ((vin - v) * v * 1000 / (2 * vin * (13 / 1000000000) * (((s.fswKHz * 1000 : Nat)) : Rat))))).toNat

/-- The word of a gain segment as used: k_p and k_i in mA per unit (R164). -/
def State.gains (s : State) (p g : Nat) : Rat × Rat :=
  let i := 32 * p + g
  if 16 ≤ p then (3277 * pow2 (5 - 20), 2621 * pow2 (0 - 20)) else
  ((s.f STR_SEG.KP_M i : Rat) * pow2 ((s.f STR_SEG.KP_E i : Int) - 20), (s.f STR_SEG.KI_M i : Rat) * pow2 ((s.f STR_SEG.KI_E i : Int) - 20))

/-- SPEC_ACTIVE of the regions of a heat (R159, R294, R296, R297). -/
def State.specUpdate (s : State) (h : Nat) : State :=
  let ms := s.members h
  let t := s.heat h
  let ls := s.pacer.lifts.filter (fun l => l.executed && ms.any (fun n => l.regions.contains n))
  let unl := ls.any Lift.unconfirmed
  let pre := ms.any fun n =>
    let p := s.ffStep n (s.now + 50)
    decide (p ≠ s.step.count) && s.condAt n p
  let on := unl || pre || (s.specOf h && ls = [] && t.ref ≠ t.tgt)
  let s1 := s.forEach ms (fun s n => s.modRgn n (fun r => { r with spec := on }))
  s1.modHeat h (fun t => { t with liftVal := if unl then maxN ((ls.filter Lift.unconfirmed).map (·.val)) else if on then t.liftVal else 0 })

/-- The runs of the combiner: at a period's end; R191's first period; for a heat that an open has just left, whose parent's i_H the period
has already updated (R190). -/
inductive CombRun where
  | normal | first | split
  deriving DecidableEq, Repr

/-- The heat update for the next period. -/
def State.combine (s : State) (h : Nat) (run : CombRun) : State :=
  let seed := decide (run = .first)
  let split := decide (run = .split)
  let ms := s.members h
  let t := s.heat h
  let p := s.profile h
  let w := fun (n : Nat) => (s.rgn n).nShare + (s.rgn n).nFoll
  let wH := sumN (ms.map w)
  let hold := seed || (t.seedIH && !split)
  let uH : Rat := if wH = 0 then 0 else sumR (ms.map (fun n => (w n : Rat) * (s.rgn n).ur.val)) / (wH : Rat)
  let i1 : Int := if t.burst || hold || split || wH = 0 then t.iH
    else if uH < t.dv.val then rnd16 (of16 t.iH + (uH - t.dv.val) * pow2 (-(s.hdr STR_PHDR.TRK p : Int))) else t.iH
  let live := ms.filter (fun n => (s.rgn n).keepSince.isNone && 0 < w n)
  let live := if seed then ms.filter (fun n => 0 < w n) else live
  let eH : Int := if live = [] then t.eH else roundEven (meanR (live.map (fun n => (((s.rgn n).er : Int) : Rat))))
  let g := (clampI 0 31 ((eH + 51200) / 3200)).toNat
  let k := s.gains p g
  let i2 : Int := if t.burst || hold || split then i1 else rnd16 (of16 i1 + k.2 * (eH : Rat))
  let starting := (s.rgn h).st = .STARTING
  let ff := ms.map (fun n => s.ffOf n (s.now + 50))
  let fP : Rat := if wH = 0 ∨ starting then 0 else match t.fEst with
    | some x => x
    | none => sumR (ff.map (·.1)) / (wH : Rat)
  let fR : Rat := if wH = 0 ∨ starting ∨ t.fEst.isSome then 0 else sumR (ff.map (fun x => ((x.2 : Int) : Rat) / 4)) / (wH : Rat)
  let tm := rndStage [k.1 * (eH : Rat), fP, fR]
  let vP := (tm.1.getD 0 ⟨0, -4⟩).val
  let vF := (tm.1.getD 1 ⟨0, -4⟩).val
  let vR := (tm.1.getD 2 ⟨0, -4⟩).val
  let sw := (ms.flatMap lanesOf).filter (fun m => (s.lane m).sharing)
  let mean := meanR (sw.map (fun m => (((s.lane m).iPri : Nat) : Rat)))
  let i3 : Int := if hold then rnd16 ((if seed then mean else t.seedI.getD mean) - vF - vR) else i2
  let dv := rndStage1 (vP + vF + vR + of16 i3)
  let sat := if seed then [] else ms.filter (fun n => (s.rgn n).win ≠ 0)
  let wS := sumN (sat.map w)
  let share : Rat := if sat = [] ∨ wH ≤ wS then dv.1.val
    else ((wH : Rat) * dv.1.val - sumR (sat.map (fun n => (w n : Rat) * (((s.rgn n).cr.map Stage.val).getD 0)))) / ((wH - wS : Nat) : Rat)
  let sh := rndStage1 share
  let at_ := decide (t.ref = t.tgt) && decide (eH.natAbs ≤ 1000) && live ≠ []
  let s1 := s.modHeat h fun t => { t with
    iH := i3, eH := eH, seg := g, dv := dv.1, sh := sh.1, hr := s.halfRipple h, seedIH := split && (t.seedIH || t.fEst.isSome), seedI := if split then t.seedI else none, splitDue := false, fEst := none
    atRun := if split then t.atRun else if at_ then t.atRun + 1 else 0, atTgt := (split || at_) && t.atTgt }
  (s1.satEvt h (tm.2 || dv.2 || sh.2)).specUpdate h

/-- The combiner's runs for the heats that opens have just left (R119, R190). -/
def State.splitRuns (s : State) : State :=
  s.forEach (s.allHeats.filter (fun h => (s.heat h).splitDue)) (fun s h => s.combine h .split)

/-! ### Burst (R63, R69) -/

/-- The mean current per current-mode lane of a heat, mA (R63). -/
def State.perLane (s : State) (h : Nat) : Rat :=
  let k := s.cmOf (s.members h)
  if k = 0 then 0 else ((sumN ((s.members h).map s.delivered) : Nat) : Rat) / (k : Rat)

/-- The count of R63. -/
def State.burstCount (s : State) (h : Nat) : State :=
  if (s.heat h).burst ∨ (s.heat h).burstWait ∨ s.cmOf (s.members h) = 0 then s
  else s.modHeat h (fun t => { t with burstRun := if s.perLane h < ((s.burstTh h : Nat) : Rat) then t.burstRun + 1 else 0 })

/-- A heat in burst leaves it at once (R69). -/
def State.burstExit (s : State) (h : Nat) : State :=
  let t := s.heat h
  if !t.burst then s else
  let low := (s.members h).any (fun n => s.outNow n < ((t.ref : Nat) : Int) - 3200)
  let busy := (s.members h).any fun n =>
    let b := (lanesOf n).filter (fun m => (s.lane m).st = .BURST)
    b ≠ [] && b.all (fun m => 1500 < sumN (s.lane m).swRecent)
  if low || busy then s.leaveBurst h else s

/-- A region in burst keeps its number of BURST lanes: it takes the next position in its order when one has left (02, a lane's senses
disagree while its region is in burst). -/
def burstOrder (r : Nat) : List Nat := [0, 4, 2, 6, 1, 5, 3, 7].map (fun k => (k + r) % 8)

/-- Choose the BURST lanes of a region (R66, R67, R85): the first current-mode lanes of its order, the others SHED. -/
def State.burstLanes (s : State) (n r : Nat) : State :=
  let pos := (burstOrder r).filter (fun k => (s.lane (8 * n + k)).currentMode)
  let keep := pos.take (s.burstMin n)
  s.forEach pos fun s k => s.modLane (8 * n + k) fun l =>
    let want : LaneState := if keep.contains k then .BURST else .SHED
    match l.st with
    | .SWITCHING | .BURST | .SHED => { l with st := want, awake := if l.st = .BURST then l.awake else false }
    | .LATCHED => { l with prev := if l.prev = .SWITCHING ∨ l.prev = .BURST ∨ l.prev = .SHED then want else l.prev }
    | _ => l

/-- While in burst, keep the number of BURST lanes at the burst minimum. -/
def State.burstRefill (s : State) (h : Nat) : State :=
  if (s.heat h).burst then s.forEach (s.members h) (fun s n => s.burstLanes n (((s.rgn n).burstN + 7) % 8)) else s

/-! ### The period -/

/-- Stride's part of one sample period: readings, references, issues, combiner runs, burst. -/
def State.stride (s : State) (rs : List (Nat × RgnRead)) : State :=
  let md := s.strideMode
  let ns := s.placed
  let s1 := s.forEach ns fun s n =>
    let rd := readOf rs n
    s.forEach (List.range 8) fun s k =>
      let m := 8 * n + k
      s.modLane m (fun l => l.latch (laneAt rd k) (s.openCmd m) (s.openSense m))
  let s2 := if md = .off then s1 else s1.forEach s1.allHeats State.moveRef
  let r2 := s2.forEach ns (fun s n => s.takeReading n (readOf rs n))
  let x2 := r2.forEach r2.allHeats State.burstExit
  let s3 := x2.forEach ns (fun s' n => s'.issue s n (readOf rs n) md)
  let s4 := if md = .off then s3 else s3.forEach s3.allHeats (fun s h => s.combine h (if md = .latchOnly then .first else .normal))
  let s5 := s4.forEach s4.allHeats (fun s h => (s.burstRefill h).burstCount h)
  { s5 with balCtr := if md = .normal then s5.balCtr + 1 else s5.balCtr, resume := match s5.resume with
      | some 0 => if md = .latchOnly then some 1 else s5.resume
      | some _ => none
      | none => none }

end Sys2Proof.Machine
end

