-- ==== Sys2Proof/Machine/Lanes.lean ====
section
/-! DEFINITION. The commands of the lanes (02_lanes.md, 04 balance pass): latches and retries, open phases, sense mismatches, the keeper,
the starting block, overload and capacity, burst entry. -/

namespace Sys2Proof.Machine

/-- A lane enters FAILED (R55, R79): its cause, the event, its region's count of lanes. -/
def State.failLane (s : State) (m cause : Nat) : State :=
  ((s.modLane m fun l => { l with st := .FAILED, cause := cause, peak := 0, openNs := 0, mmRun := 0, fastRun := 0, de := false,
                                   deLeft := 0, balSum := 0, balN := 0, swRecent := [] }).laneEvt LANE_EVT.FAILED .LANE_FAILED m).lanesChanged (m / 8)

/-- Fast-limit latch (R52, R54, R55). -/
def State.fastLatch (s : State) (m : Nat) : State :=
  let l := s.lane m
  let can := l.st = .RAMP ∨ l.st = .SWITCHING ∨ l.st = .BURST ∨ l.st = .FOLLOWER ∨ l.st = .HOLD
  if !(can ∧ 8 ≤ l.fastRun) then s else
  if l.st ≠ .RAMP ∧ 3 ≤ l.retry then s.failLane m 1 else
  let s1 := s.modLane m fun l => { l with
    st := .LATCHED, prev := l.st, latchAt := s.now, latches := satAdd 255 l.latches 1, fastRun := 0, peak := 0, balSum := 0, balN := 0,
    mmRun := 0, de := false, swRecent := [] }
  if l.st = .RAMP then s1.laneEvt LANE_EVT.RAMP_LATCH .RAMP_LATCH m else s1.laneEvt LANE_EVT.FAST_LATCH .FAST_LATCH m

/-- FAST_LIMIT_LATCH. -/
def execFastLimitLatch (m : Fin 2048) (s : State) : Res := .next (s.fastLatch m.val)

/-- LATCH_END: 2 µs after the latch (R55). -/
def execLatchEnd (m : Fin 2048) (s : State) : Res :=
  let l := s.lane m.val
  if l.st = .LATCHED ∧ l.latchAt + 2000 ≤ s.now then
    let r := s.rgn (m.val / 8)
    let back : LaneState := if l.prev = .RAMP ∧ (r.rampDone ∨ r.st ≠ .STARTING) then .SWITCHING else l.prev
    .next (s.modLane m.val fun (l : Lane) =>
      let l1 : Lane := { l with retry := if l.prev = .RAMP then l.retry else min 3 (l.retry + 1), awake := true, openNs := 0 }
      if r.keepSince.isSome then { l1 with st := .HOLD, held := if back = .HOLD then l.held else back } else { l1 with st := back })
  else .next s

/-- RETRY_COUNT_CLEAR: 1 ms without a latch (R56). -/
def execRetryCountClear (m : Fin 2048) (s : State) : Res :=
  let l := s.lane m.val
  if l.st ≠ .FAILED ∧ l.st ≠ .RETIRED ∧ l.st ≠ .LATCHED ∧ l.latchAt + 1000000 ≤ s.now then
    .next (s.modLane m.val (fun l => { l with retry := 0 }))
  else .next s

/-- OPEN_PHASE: 2 µs counted (R77 to R79). -/
def execOpenPhase (m : Fin 2048) (s : State) : Res :=
  let l := s.lane m.val
  let can := l.st = .RAMP ∨ l.st = .SWITCHING ∨ l.st = .BURST ∨ l.st = .FOLLOWER ∨ l.st = .HOLD
  if can ∧ 2000 ≤ l.openNs then .next ((s.laneEvt LANE_EVT.OPEN .LANE_OPEN m.val).failLane m.val 2) else .next s

/-- SENSE_MISMATCH: 1,000 samples (R80, R81). -/
def execSenseMismatch (m : Fin 2048) (s : State) : Res :=
  let l := s.lane m.val
  if (l.st = .SWITCHING ∨ l.st = .BURST) ∧ 1000 ≤ l.mmRun then
    .next (((s.modLane m.val fun l => { l with
      st := .FOLLOWER, cause := 3, openNs := 0, mmRun := 0, balSum := 0, balN := 0, swRecent := [], de := false,
      deLeft := 0 }).laneEvt LANE_EVT.MISMATCH .LANE_MISMATCH m.val).lanesChanged (m.val / 8))
  else .next s

/-- BALANCE_PASS: every 64 periods (R182 to R184). -/
def State.balanceRgn (s : State) (n : Nat) : State :=
  if !s.fb STR_CFG.BAL_EN then s.forEach (lanesOf n) (fun s m => s.modLane m (fun l => { l with trim := 0 })) else
  let db := max 1 (s.f STR_CFG.BAL_DB)
  let on := (lanesOf n).filter (fun m => (s.lane m).st = .SWITCHING ∧ 64 ≤ (s.lane m).balN)
  if on.length < 2 then s else
  let mean := fun (m : Nat) => (((s.lane m).balSum : Nat) : Rat) / (((s.lane m).balN : Nat) : Rat)
  let all := meanR (on.map mean)
  let s1 := s.forEach on fun s m =>
    let d := mean m - all
    if (db : Rat) ≤ d ∨ d ≤ -(db : Rat) then s.modLane m (fun l => { l with trim := l.trim - clampI (-4) 4 (roundEven (d / 8)) }) else s
  let mt : Int := ((lanesOf n).map (fun m => (s1.lane m).trim)).foldl (· + ·) 0
  s1.forEach (lanesOf n) (fun s m => s.modLane m (fun l => { l with trim := clampI (-63) 63 (l.trim - mt.tdiv 8) }))

/-- BALANCE_PASS. -/
def execBalancePass (s : State) : Res :=
  if s.balCtr < 64 then .next s else
  let s1 := s.forEach s.placed State.balanceRgn
  .next { s1.forEach (s.placed.flatMap lanesOf) (fun s m => s.modLane m (fun l => { l with balSum := 0, balN := 0 })) with balCtr := 0 }

/-! ### The starting block -/

/-- START_MEASUREMENT_DONE: 2 µs after it began (R44, R45, R48): the reference starts at the measurement, the enabled lanes enter RAMP. -/
def execStartMeasurementDone (n : Fin 256) (code : Fin 601) (s : State) : Res :=
  match (s.rgn n.val).phase with
  | .measuring t0 =>
    if t0 + 2000 ≤ s.now then
      let v := 400 * code.val
      let h := s.heatIx n.val
      let tgt := s.tgtOf h
      let s1 := s.modHeat h (fun t => { t with ref := v, tgt := tgt, iH := 0, atRun := 0, atTgt := false })
      let s2 := s1.modRgn n.val (fun r => { r with phase := .ramp, meas := v, coarse := code.val, rampDown := decide (tgt < v), rampDone := false,
                                                     falseRun := 0 })
      .next (s2.forEach (lanesOf n.val) fun s m =>
        if s.fb LANE_CTRL.EN m then s.modLane m (fun l => if l.st = .DISABLED then { l with st := .RAMP, de := true, awake := true } else l) else s)
    else .next s
  | _ => .next s

/-- RAMP_END: REF is at the target and the output within ±5 mV of it (R48, R96). -/
def execRampEnd (n : Fin 256) (s : State) : Res :=
  let r := s.rgn n.val
  let t := s.heat (s.heatIx n.val)
  if r.st = .STARTING ∧ r.phase = .ramp ∧ !r.rampDone ∧ t.ref = t.tgt ∧ r.er.natAbs ≤ 1000 then
    let s1 := (s.forEach (lanesOf n.val) fun s m => s.modLane m fun l =>
      if l.st = .RAMP then { l with st := .SWITCHING, de := false } else l).modRgn n.val (fun r => { r with rampDone := true })
    .next (if s.step.tb = .UNSYNC then s1.islandEntry n.val else s1)
  else .next s

/-- FALSE_START: 400 samples (R50, R51, R100, R101). -/
def execFalseStart (n : Fin 256) (s : State) : Res :=
  let r := s.rgn n.val
  if r.st = .STARTING ∧ r.phase = .ramp ∧ 400 ≤ r.falseRun then
    .next ((s.rgnEvt RGN_EVT.FALSE_START .FALSE_START n.val).failAttempt n.val 1)
  else .next s

/-- FALSE_START_RETRY: 1 ms after the failed attempt, at the first boundary after it, or at once while the time base is not RUNNING (R100,
R654); not with W below 48 (R138, R140). -/
def execFalseStartRetry (n : Fin 256) (s : State) : Res :=
  let r := s.rgn n.val
  match r.phase with
  | .waiting t0 =>
    let due := t0 + 1000000
    let atB : Bool := match s.step.lastEdge with
      | some e => decide (due ≤ e)
      | none => false
    if r.st = .STARTING ∧ due ≤ s.now ∧ (!s.running ∨ atB) ∧ 48 ≤ r.working then .next (s.beginAttempt n.val false) else .next s
  | _ => .next s

/-- ATTEMPT_COUNT_CLEAR: 1 s of unbroken regulation (R101). -/
def execAttemptCountClear (n : Fin 256) (s : State) : Res :=
  match (s.rgn n.val).regSince with
  | some t0 => if t0 + 1000000000 ≤ s.now then .next (s.modRgn n.val (fun r => { r with attempts := 0 })) else .next s
  | none => .next s

/-! ### Overload and capacity -/

/-- OVERLOAD_FLAG_SET: 400 samples (R59). -/
def execOverloadFlagSet (n : Fin 256) (s : State) : Res :=
  let r := s.rgn n.val
  if !r.ovFlag ∧ 400 ≤ r.ovRun then
    .next (s.modRgn n.val (fun r => { r with ovFlag := true, ovSince := s.now, ovRaised := false, ovClr := 0 }))
  else .next s

/-- OVERLOAD_FLAG_CLEAR: 400 samples (R60); the level source's condition ends with the last flag (R426). -/
def execOverloadFlagClear (n : Fin 256) (s : State) : Res :=
  let r := s.rgn n.val
  if r.ovFlag ∧ 400 ≤ r.ovClr then
    let s1 := s.modRgn n.val (fun r => { r with ovFlag := false, ovRun := 0, ovClr := 0, ovRaised := false })
    .next (if s1.placed.any (fun k => (s1.rgn k).ovFlag) then s1 else s1.condEnds .OVERLOAD)
  else .next s

/-- REGION_OVERLOAD_FAULT: the flag has stayed set for 2 ms (R61). -/
def execRegionOverloadFault (n : Fin 256) (s : State) : Res :=
  let r := s.rgn n.val
  if r.ovFlag ∧ !r.ovRaised ∧ r.ovSince + 2000000 ≤ s.now then
    .next ((s.raiseHw .OVERLOAD .region n.val).modRgn n.val (fun r => { r with ovRaised := true }))
  else .next s

/-- CAPACITY_EXCEEDED: 20,000 samples (R62), with the rescue request of R122. -/
def execCapacityExceeded (n : Fin 256) (s : State) : Res :=
  let r := s.rgn n.val
  if 20000 ≤ r.capRun ∧ !r.capRaised then
    .next (((s.modRgn n.val (fun r => { r with capRaised := true })).raiseHw .CAPACITY .region n.val).requestRescue n.val)
  else .next s

/-! ### Burst entry (R63 to R67) -/

/-- One of the conditions of R65 holds. -/
def State.burstBarred (s : State) (h : Nat) : Bool :=
  let ms := s.members h
  let k := s.cmOf ms
  ms.any (fun n => s.countLanes n (fun l => l.st = .RAMP) ≠ 0) || s.specOf h ||
  ((List.range 64).any fun i => k * s.burstTh h < s.linOf ms (s.step.count + 1 + i)) ||
  s.merges.any (fun x => x.close && match gateEnds x.gate with
    | some (a, b) => s.heatIx a ≠ s.heatIx b && (s.heatIx a = h || s.heatIx b = h)
    | none => false)

/-- Burst entry executes (R64 to R67). -/
def State.enterBurst (s : State) (h : Nat) : State :=
  let s0 := s.modHeat h (fun t => { t with burstWait := false, burstRun := 0 })
  if (s.heat h).burst ∨ s.burstBarred h then s0 else
  (s0.forEach (s.members h) fun s n =>
    (s.burstLanes n (s.rgn n).burstN).modRgn n (fun r => { r with burstN := (r.burstN + 1) % 8 })).modHeat h (fun t => { t with burst := true })

/-- BURST_ENTRY_TEST: 200 samples below the threshold (R63); the entry is queued for the next boundary, or executes at once while the time
base is not RUNNING (R64, R654); with a full queue it is not made and the test starts again (R20). -/
def execBurstEntryTest (h : Fin 256) (s : State) : Res :=
  let t := s.heat h.val
  if t.burst ∨ t.burstWait ∨ t.burstRun < 200 then .next s
  else if s.burstBarred h.val then .next s
  else if !s.running then .next (s.enterBurst h.val)
  else if s.roomOwn 1 then
    .next ((s.enqueue (s.step.count + 1) (.burst h.val)).modHeat h.val (fun t => { t with burstWait := true }))
  else .next ((s.modHeat h.val (fun t => { t with burstRun := 0 })).queueFull .hardware)

/-! ### The keeper -/

/-- The lanes of a region enter HOLD (R72, R73, R76). -/
def State.enterKeeper (s : State) (n : Nat) : State :=
  let slow := s.slowLim n
  let ref := (s.heat (s.heatIx n)).ref
  (s.forEach (lanesOf n) fun s m => s.modLane m fun l =>
    match l.st with
    | .RAMP | .SWITCHING | .BURST | .SHED | .FOLLOWER =>
      { l with st := .HOLD, held := l.st, keeper := max 250 (min slow (10 * l.peak)), awake := l.st != .FOLLOWER, balSum := 0, balN := 0,
               mmRun := 0, swRecent := [] }
    | _ => l).modRgn n (fun r => { r with keepSince := some s.now, heldRef := ref })

/-- KEEPER_ENTRY: 4 periods without an update (R72). -/
def execKeeperEntry (n : Fin 256) (s : State) : Res :=
  let r := s.rgn n.val
  if 4 ≤ r.miss ∧ r.keepSince.isNone ∧ (r.st.regulating ∨ r.st = .STARTING) then .next (s.enterKeeper n.val) else .next s

/-- The lanes of a region leave HOLD by the time-out (R75). -/
def State.keeperLanes (s : State) (n : Nat) : State :=
  s.forEach (lanesOf n) fun s m =>
    if (s.lane m).st = .HOLD then
      (s.modLane m (fun l => { l.disable with cause := 4 })).laneEvt LANE_EVT.KEEPER_TO .KEEPER_TO m
    else s

/-- KEEPER_TIMEOUT: 1 ms in HOLD (R75, R102, R103, R106). -/
def execKeeperTimeout (n : Fin 256) (s : State) : Res :=
  match (s.rgn n.val).keepSince with
  | some t0 =>
    if t0 + 1000000 ≤ s.now then
      let ms := s.members (s.heatIx n.val)
      let s1 := s.forEach ms fun s k => match (s.rgn k).keepSince with
        | some t => (if t + 1000000 ≤ s.now then s.keeperLanes k else s).modRgn k (fun r => { r with keepSince := none })
        | none => s
      let gs := ((ms.flatMap gatesOf).map (·.1)).filter s1.closed
      let s2 := if ms.length = 1 then s1 else s1.emergOpen (gs.foldr (fun g acc => if acc.contains g then acc else g :: acc) [])
      .next (s2.forEach ms (fun s k => if (s.rgn k).st = .OFF ∨ (s.rgn k).st = .DARK then s else s.loseRegulation k 3))
    else .next s
  | none => .next s

/-! ### Host writes to lanes: their effects -/

/-- LANE_CTRL.EN is written (LANE_CTRL): clearing it sends the lane to DISABLED, setting it queues a wake-up, each at the next boundary. -/
def State.laneEn (s : State) (p : FMaster) (m : Nat) (en : Bool) : State :=
  if s.fb LANE_CTRL.EN m = en then s else
  let s1 := s.put LANE_CTRL.EN m (if en then 1 else 0)
  if s1.roomOut 1 then s1.enqueue (s1.step.count + 1) (if en then .laneWake m else .laneOff m) else s1.queueFull p

/-- LANE_CTRL.CLR_FAIL (R40): a FAILED or FOLLOWER lane goes to DISABLED, its cause and retry count to 0, and a wake-up is queued. -/
def State.laneClrFail (s : State) (p : FMaster) (m : Nat) : State :=
  let l := s.lane m
  if l.st = .FAILED ∨ l.st = .FOLLOWER then
    let s1 := (s.modLane m (fun l => { l with st := .DISABLED, cause := 0, retry := 0, openNs := 0, mmRun := 0, peak := 0 })).lanesChanged (m / 8)
    if s1.roomOut 1 then s1.enqueue (s1.step.count + 1) (.laneWake m) else s1.queueFull p
  else s

/-- LANE_CTRL.RETIRE (R88). -/
def State.laneRetire (s : State) (p : FMaster) (m : Nat) : State :=
  if (s.lane m).st = .RETIRED ∨ s.step.queue.any (fun e => e.act = .laneRetire m) then s
  else if s.roomOut 1 then (s.put LANE_CTRL.RETIRE m 1).enqueue (s.step.count + 1) (.laneRetire m)
  else s.queueFull p

/-- A lane enters RETIRED (R86, R88). -/
def State.retireLane (s : State) (m cause : Nat) : State :=
  ((s.modLane m fun l => { l.disable with st := .RETIRED, cause := cause }).put LANE_CTRL.RETIRE m 1).lanesChanged (m / 8)

/-- A lane wakes at a boundary (R43): into a running region from DISABLED or SHED; a latched lane wakes from its latch into SWITCHING. -/
def State.wakeLane (s : State) (m : Nat) : State :=
  let r := s.rgn (m / 8)
  if !s.fb LANE_CTRL.EN m ∨ !r.st.regulating then s else
  let pk := ((lanesOf (m / 8)).filter (fun k => (s.lane k).st = .SWITCHING)).head?.map (fun k => (s.lane k).peak)
  (s.modLane m fun l =>
    match l.st with
    | .DISABLED | .SHED => { l with st := .SWITCHING, deLeft := 64, de := true, awake := true, peak := pk.getD l.peak, openNs := 0 }
    | .BURST => { l with st := .SWITCHING, awake := true, swRecent := [] }
    | .LATCHED => { l with prev := if l.prev = .SHED ∨ l.prev = .BURST then .SWITCHING else l.prev }
    | .HOLD => { l with held := if l.held = .SHED ∨ l.held = .BURST then .SWITCHING else l.held }
    | _ => l).lanesChanged (m / 8)

/-- A heat wakes (R70, R111): it leaves burst. -/
def State.wakeHeat (s : State) (h : Nat) : State := s.leaveBurst (s.heatIx h)

/-- A lane goes off at a boundary because LANE_CTRL.EN was cleared. -/
def State.laneOffAt (s : State) (m : Nat) : State :=
  if s.fb LANE_CTRL.EN m then s else (s.modLane m Lane.disable).lanesChanged (m / 8)

end Sys2Proof.Machine
end

