-- ==== Sys2Proof/Machine/Baton.lean ====
section
/-! DEFINITION. Baton (05_step_time_and_baton.md): the link layer, how a notice is taken and refused, set-point transitions, the notices
SETPOINT, ABORT, CONTEXT and PERIOD. -/

namespace Sys2Proof.Machine

/-! ### Error counters -/

/-- A BAT_ERR counter increments and is reported; at its top it does not increment. -/
def State.countErr (s : State) (x : Fld) (src : Src) : State :=
  if 255 ≤ s.f x then s else (s.bump x).raise src .none 0 .baton .notice

/-- A notice is discarded without an ack (R219, R249). -/
def State.dropNotice (s : State) : State := s.countErr BAT_ERR.DROP .BAT_DROP

/-! ### The link layer (R204 to R214) -/

/-- The payload that a type, SEQ and body make. -/
def payloadOf (typ seq : Nat) (body : BitVec 52) : BitVec 64 := BitVec.ofNat 64 (typ * 2 ^ 60 + seq * 2 ^ 52 + body.toNat)

/-- The SEQ of a packet. -/
def seqOf (p : BitVec 64) : Nat := p.toNat / 2 ^ 52 % 256

/-- A packet arrives (R207, R210, R211, R249). -/
def State.packet (s : State) (bits : BitVec 80) (edges : Nat) : State :=
  let p : BitVec 64 := BitVec.ofNat 64 (bits.toNat / 65536)
  if edges < 20 ∨ crc16 p ≠ bits.toNat % 65536 then s.countErr BAT_ERR.CRC .BAT_LINK
  else if !s.baton.up then s.dropNotice
  else
    let typ := p.toNat / 2 ^ 60
    let b := s.baton
    if typ = 0 ∨ typ = 1 then { s with baton := { b with rxq := b.rxq ++ [p] } }
    else if seqOf p = b.rxNext then
      let s1 := { s with baton := { b with
        rxNext := (b.rxNext + 1) % 256, lastRx := b.rxNext, episode := false, rxq := b.rxq ++ [p], rxUncov := b.rxUncov + 1
        rxSince := some (b.rxSince.getD s.now) } }
      if 32 ≤ s1.baton.rxUncov then s1.sendLink false else s1
    else
      let s1 := s.countErr BAT_ERR.SEQ .BAT_LINK
      if b.episode then s1
      else
        let s2 := s1.sendLink true
        { s2 with baton := { s2.baton with episode := true } }

/-- BATON_PACKET. -/
def execBatonPacket (bits : BitVec 80) (edges : Nat) (s : State) : Res :=
  if !s.powered then .next s else
  let p : BitVec 64 := BitVec.ofNat 64 (bits.toNat / 65536)
  let s1 := s.packet bits edges
  let got := decide (s.baton.rxq.length < s1.baton.rxq.length)
  .next (if edges < 20 then s1 else s1.pfBaton false (crc16 p = bits.toNat % 65536) got p (bits.toNat % 65536))

/-- BATON_LINK_ACK_DUE: an accepted packet is not yet covered by a LINK (R211). -/
def execBatonLinkAckDue (s : State) : Res := .next (if 0 < s.baton.rxUncov then s.sendLink false else s)

/-- Send the retained packets again, in order (R212). -/
def State.resend (s : State) : State :=
  let s1 := { s with baton := { s.baton with unacked := s.baton.unacked.map (fun (x : BitVec 64 × Nat) => (x.1, s.now)) } }
  s1.forEach s.baton.unacked (fun s x => s.emit x.1)

/-- BATON_RESEND_TIMEOUT: no LINK covers the oldest unacknowledged packet within 2 µs (R212). -/
def execBatonResendTimeout (s : State) : Res :=
  match s.baton.unacked with
  | x :: _ => if x.2 + 2000 ≤ s.now then .next s.resend else .next s
  | [] => .next s

/-- The packets that a LINK naming `ack` leaves unacknowledged: those behind the one it names. -/
def uncovered (ack : Nat) (l : List (BitVec 64 × Nat)) : List (BitVec 64 × Nat) :=
  if l.any (fun x => seqOf x.1 = ack) then (l.dropWhile (fun x => seqOf x.1 ≠ ack)).drop 1 else l

/-- Acks that wait are sent while there is room for them (R212). -/
def State.flushAcks : Nat → State → State
  | 0, s => s
  | n + 1, s =>
    match s.baton.wait with
    | [] => s
    | x :: rest =>
      if s.baton.unacked.length < 128 then
        State.flushAcks n (({ s with baton := { s.baton with wait := rest } }).sendNow x.1 x.2)
      else s

/-- A LINK notice acts (R212, R214). -/
def State.linkNotice (s : State) (body : BitVec 52) : State :=
  if bodyBit body 42 then
    { s with baton := { s.baton with rxNext := 0, episode := false, rxUncov := 0, rxSince := none, lastRx := 255, txNext := 0, lastTx := 255,
                                     unacked := [], wait := [] } }
  else
    let s1 := { s with baton := { s.baton with unacked := uncovered (bodyField body 51 44) s.baton.unacked } }
    let s2 := if bodyBit body 43 then s1.resend else s1
    State.flushAcks s2.baton.wait.length s2

/-! ### How a notice is taken (R213, R219, R220, R660) -/

/-- A notice leaves the queue of accepted ones; it takes its place in the order of processing. -/
def State.popNotice (s : State) (p : BitVec 64) : State :=
  { s with
    baton := { s.baton with rxq := match s.baton.rxq with
      | x :: rest => if x = p then rest else x :: rest
      | [] => [] }
    pacer := { s.pacer with ord := s.pacer.ord + 1 } }

/-- A tag is busy (R223). -/
def Slot.busy (t : Slot) : Bool :=
  match t.st with
  | .QUEUED | .DEFERRED | .MOVING => true
  | _ => false

/-- The notice types that carry a tag which a slot holds (R223, R224). -/
def holdsTag (typ : Nat) : Bool := typ = 3 || typ = 4 || typ = 8 || typ = 9 || typ = 10

/-- Refuse a notice: the NACK, and the slot of a tag that was free (R219, R224). An ENCODING refusal counts in BAT_ERR.ENC (R220). -/
def State.refuse (s : State) (typ seq : Nat) (body : BitVec 52) (status ra : Nat) : State :=
  let tag := noticeTag typ body
  let s1 := if status = 7 then s.countErr BAT_ERR.ENC .BAT_ENC else s
  let s2 := s1.ackNack seq typ tag status ra
  if holdsTag typ ∧ !(s.slot tag).busy then
    s2.modSlot tag (fun t => { t with st := .REFUSED, status := status, ntype := typ, gate := false })
  else s2

/-- Accept a tagged notice whose last ack the ACCEPT is (R224). -/
def State.acceptTag (s : State) (typ seq tag status : Nat) : State :=
  (s.modSlot tag (fun t => { t with st := .COMPLETE, status := status, ntype := typ, gate := false })).ackAccept seq typ tag status

/-- The time left to RESET_EXIT in µs: the spec gives no figure, a free value (R249). -/
def State.timeToExit (s : State) : Nat := Config.retryAfter s.freeCtr % 4096

/-- Refuse with RETRY_AFTER during a block reset (R249). -/
def State.refuseRetry (s : State) (typ seq : Nat) (body : BitVec 52) : State :=
  { (s.refuse typ seq body 1 s.timeToExit) with freeCtr := s.freeCtr + 1 }

/-- Take a notice: before READY it is discarded and counted (R249); one that R220 refuses goes no further; a time-based one is refused
while the time base is UNSYNC (R217), one that R249 defers during a block reset, and one that names a busy tag (R223); else it acts. -/
def State.takeNotice (s : State) (typ seq : Nat) (body : BitVec 52) (timed retry : Bool) (act : State → State) : State :=
  if !s.baton.up then s.dropNotice else
  let s1 := s.popNotice (payloadOf typ seq body)
  if noticeBad typ body then s1.refuse typ seq body 7 0
  else if timed && s1.step.tb = .UNSYNC then s1.refuse typ seq body 8 0
  else if retry && s1.blockReset.isSome then s1.refuseRetry typ seq body
  else if holdsTag typ && (s1.slot (noticeTag typ body)).busy then s1.refuse typ seq body 12 0
  else act s1

/-- NOP. -/
def execNop (seq : BitVec 8) (body : BitVec 52) (s : State) : Res :=
  .next (if s.baton.up then s.popNotice (payloadOf 0 seq.toNat body) else s.dropNotice)

/-- A LINK packet: without an ack; a reserved bit discards it (R220). -/
def State.linkPacket (s : State) (seq : BitVec 8) (body : BitVec 52) : State :=
  if !s.baton.up then s.dropNotice else
  let s1 := s.popNotice (payloadOf 1 seq.toNat body)
  if noticeBad 1 body then s1.countErr BAT_ERR.ENC .BAT_ENC else s1.linkNotice body

/-- LINK. -/
def execLink (seq : BitVec 8) (body : BitVec 52) (s : State) : Res := .next (s.linkPacket seq body)

/-- LINK_RESET: a LINK notice with RESET = 1 (R214). -/
def execLinkReset (seq : BitVec 8) (body : BitVec 52) (s : State) : Res := .next (s.linkPacket seq body)

/-- NOTICE_UNDEFINED: a type that no notice has; NACK with ENCODING (05, Notices). -/
def execNoticeUndefined (ntype : BitVec 4) (seq : BitVec 8) (body : BitVec 52) (s : State) : Res :=
  checked (typeUndefined ntype) "notice type" (.next (if !s.baton.up then s.dropNotice
    else (s.popNotice (payloadOf ntype.toNat seq.toNat body)).refuse ntype.toNat seq.toNat body 7 0))

/-! ### Set-point transitions (R229 to R239) -/

/-- A transition executes (R231, R233): transitions that share a region with it are superseded; the previous values are kept; the new
Baton value applies. -/
def State.execSetpt (s : State) (tag : Nat) (late : Bool) : State :=
  let rs := s.slotRgns tag
  let s1 := s.forEach (s.slotsIn (fun t => t.st = .MOVING)) fun s t =>
    if t ≠ tag ∧ (s.slot t).priors.any (fun x => rs.contains x.1) then s.endSlot t 10 else s
  let prev := s1.baseV (s1.heatIx (rs.headD 0))
  let priors := rs.map (fun n => (n, (s1.rgn n).batonV))
  let v := (s1.slot tag).vset
  let s2 := s1.forEach rs (fun s n => s.modRgn n (fun r => { r with batonV := some v }))
  let s3 := s2.forEach (s2.slotHeats tag) fun s h =>
    if s.tgtOf h = (s.heat h).ref then s else s.modHeat h (fun t => { t with atRun := 0, atTgt := false })
  s3.modSlot tag fun t => { t with st := .MOVING, prev := prev, priors := priors, execAt := s.now, late := late, hold := t.gate }

/-- The cause for which a transition is held at a boundary, 0 for none (R234). -/
def State.deferCause (s : State) (tag : Nat) : Nat :=
  let rs := s.slotRgns tag
  let st := fun (p : RgnState → Bool) => rs.any (fun n => p (s.rgn n).st)
  if s.lim.low ≠ .out then 3
  else if st (fun x => x = .RETAIN) then 4
  else if st (fun x => x = .STARTING) then 2
  else if (s.slotHeats tag).any (fun h => (s.members h).any (fun n => (s.rgn n).st = .MERGING || (s.rgn n).st = .SPLITTING)) then 1
  else 0

/-- A set-point transition falls due (R234, R236). -/
def State.setptDue (s : State) (tag : Nat) (late : Bool) : State :=
  let c := s.deferCause tag
  if c = 0 then s.execSetpt tag late
  else
    let g := (s.slot tag).gate
    (s.modSlot tag fun t => { t with st := .DEFERRED, held := if c = 3 then 0 else 1, gate := false, late := late }).ackDefer tag c g

/-- The deferred transitions in the order of their notices. -/
def State.deferredSlots (s : State) : List Nat :=
  ((s.slotsIn (fun t => t.st = .DEFERRED)).map (fun t => ((s.slot t).ord, t))).foldl (fun acc x =>
    acc.takeWhile (fun y => y.1 ≤ x.1) ++ [x] ++ acc.dropWhile (fun y => y.1 ≤ x.1)) [] |>.map (·.2)

/-- A deferred transition at a later boundary (R234, R235). -/
def State.setptRetry (s : State) (tag : Nat) : State :=
  match s.deferCause tag with
  | 0 => s.execSetpt tag (s.slot tag).late
  | 3 => s
  | _ => s.modSlot tag (fun t => { t with held := t.held + 1 })

/-- The transitions all of whose heats are at target end with DONE (R230, R232). -/
def State.finishSlots (s : State) : State :=
  s.forEach (s.slotsIn (fun t => t.st = .MOVING)) fun s t =>
    let hs := s.slotHeats t
    let forced := (s.slot t).imm && hs.any (fun x => (s.heat x).retLow || (s.heat x).retOut || s.lim.vtOn)
    if hs.all (fun x => (s.heat x).atTgt) ∧ !forced then s.endSlot t 0 else s

/-- The immediate transitions that wait for a region sample execute (R230). -/
def State.immSetpts (s : State) : State :=
  s.forEach (s.slotsIn (fun t => t.st = .QUEUED && t.imm)) (fun s t => s.execSetpt t false)

/-- A SETPOINT notice is accepted: its slot, its place in the queue, its ACCEPT (R216, R224, R230). -/
def State.acceptSetpt (s : State) (seq : Nat) (body : BitVec 52) : State :=
  let tag := bodyField body 14 7
  let imm := bodyBit body 5
  let d := s.dueOf (bodyField body 51 36)
  let s1 := s.modSlot tag fun t => { t with
    st := .QUEUED, latch := false, status := 0, gate := bodyBit body 6, ntype := 4, scope := bodyBit body 27, target := bodyField body 35 28
    vset := bodyField body 26 15, imm := imm, priors := [], hold := false, held := 0, late := false, ord := s.pacer.ord }
  let s2 := if imm then s1 else s1.enqueue d.1 (.setpt tag)
  s2.ackAccept seq 4 tag (if !imm && d.2 then 4 else 0)

/-- A SETPOINT notice (R217, R223, R229, R230, R660). -/
def State.setptNotice (s : State) (seq : Nat) (body : BitVec 52) : State :=
  let imm := bodyBit body 5
  s.takeNotice 4 seq body (!imm) false fun s =>
    let scope := bodyBit body 27
    let n := bodyField body 35 28
    let d := if scope then n % 4 else s.domOf n
    let has := if scope then s.domRgns d ≠ [] else s.isPlaced n
    let v := bodyField body 26 15
    let lo := s.f DOM_VRANGE.VMIN d
    if (has || scope) ∧ s.spSrc d ≠ 1 then s.refuse 4 seq body 12 0
    else if !has ∨ v < lo ∨ max lo (s.f DOM_VRANGE.VMAX d) < v then s.refuse 4 seq body 2 0
    else if !imm ∧ !s.roomOut 1 then (s.refuse 4 seq body 6 0).queueFull .baton
    else s.acceptSetpt seq body

/-- SETPOINT. -/
def execSetpoint (seq : BitVec 8) (body : BitVec 52) (s : State) : Res := .next (s.setptNotice seq.toNat body)

/-- SETPOINT_IMMEDIATE: a SETPOINT with IMM = 1 (R230). -/
def execSetpointImmediate (seq : BitVec 8) (body : BitVec 52) (s : State) : Res := .next (s.setptNotice seq.toNat body)

/-- SETPOINT_TIMEOUT: 10 ms after execution (R233). -/
def execSetpointTimeout (tag : BitVec 8) (s : State) : Res :=
  let t := s.slot tag.toNat
  .next (if t.st = .MOVING ∧ t.execAt + 10000000 ≤ s.now then s.endSlot tag.toNat 9 else s)

/-- GATE_TIMEOUT: GATE_TO has passed since the due boundary (R238). -/
def execGateTimeout (tag : BitVec 8) (s : State) : Res :=
  let t := s.slot tag.toNat
  .next (if t.st = .MOVING ∧ t.hold ∧ t.execAt + 1000 * clampN 5 100 (s.f BAT_CFG.GATE_TO) ≤ s.now then s.endSlot tag.toNat 9 else s)

/-- DEFER_TIMEOUT: held at 1,024 boundaries without cause 0x3 (R235). -/
def execDeferTimeout (tag : BitVec 8) (s : State) : Res :=
  let t := s.slot tag.toNat
  .next (if t.st = .DEFERRED ∧ 1024 ≤ t.held then s.endSlot tag.toNat 9 else s)

/-! ### ABORT (R240 to R242) -/

/-- The Baton values that a transition replaced return (R231, R240). -/
def State.undoSetpt (s : State) (tag : Nat) : State :=
  s.forEach (s.slot tag).priors (fun s x => s.modRgn x.1 (fun r => { r with batonV := x.2 }))

/-- An ABORT acts on the slot it names. -/
def State.abortSlot (s : State) (tag : Nat) : State :=
  let t := s.slot tag
  let aborted := fun (s : State) => (s.modSlot tag (fun t => { t with st := .ABORTED, status := 0 })).ackAborted tag 0
  if t.ntype ≠ 4 then s.ackAborted tag 5 else
  match t.st with
  | .QUEUED | .DEFERRED => aborted (s.dequeue (fun a => a = .setpt tag))
  | .MOVING => aborted ((s.undoSetpt tag).releaseHold tag)
  | .COMPLETE => s.ackAborted tag 3
  | _ => s.ackAborted tag 5

/-- ABORT. -/
def execAbort (seq : BitVec 8) (body : BitVec 52) (s : State) : Res :=
  .next (s.takeNotice 5 seq.toNat body false false (fun s => s.abortSlot (bodyField body 51 44)))

/-! ### CONTEXT and PERIOD (R246, R247) -/

/-- An action of a tagged notice enters the queue, with its ACCEPT, or the notice finds it full (R19, R216). -/
def State.queueNotice (s : State) (typ seq : Nat) (body : BitVec 52) (due : Nat × Bool) (a : Action) : State :=
  if s.roomOut 1 then (s.enqueue due.1 a).acceptTag typ seq (noticeTag typ body) (if due.2 then 4 else 0)
  else (s.refuse typ seq body 6 0).queueFull .baton

/-- A CONTEXT notice (R246). -/
def State.contextNotice (s : State) (seq : Nat) (body : BitVec 52) : State :=
  s.takeNotice 8 seq body true false fun s =>
    let c := bodyField body 35 30
    let a : Action := match bodyField body 29 28 with
      | 0 => .ctxSwitch c false s.pacer.ord
      | 1 => .ctxSwitch c true s.pacer.ord
      | _ => .ctxClose c
    s.queueNotice 8 seq body (s.dueOf (bodyField body 51 36)) a

/-- CONTEXT_SWITCH: KIND 0. -/
def execContextSwitch (seq : BitVec 8) (body : BitVec 52) (s : State) : Res := .next (s.contextNotice seq.toNat body)

/-- CONTEXT_SWITCH_NEW_USER: KIND 1. -/
def execContextSwitchNewUser (seq : BitVec 8) (body : BitVec 52) (s : State) : Res := .next (s.contextNotice seq.toNat body)

/-- CONTEXT_CLOSE: KIND 2. -/
def execContextClose (seq : BitVec 8) (body : BitVec 52) (s : State) : Res := .next (s.contextNotice seq.toNat body)

/-- PERIOD (R247). -/
def execPeriod (seq : BitVec 8) (body : BitVec 52) (s : State) : Res :=
  .next (s.takeNotice 9 seq.toNat body true true fun s =>
    let len := bodyField body 35 12
    if 1 ≤ len ∧ len ≤ 255 then s.refuse 9 seq.toNat body 2 0
    else s.queueNotice 9 seq.toNat body (s.dueOf (bodyField body 51 36)) (.period len (bodyField body 11 4)))

/-! ### HEAT_AT_TARGET -/

/-- A heat has been at target for 8 consecutive periods (R160): AT_TARGET is set, and transitions complete. -/
def State.reachTarget (s : State) (h : Nat) : State :=
  if (s.heat h).atRun < 8 ∨ (s.heat h).atTgt then s
  else (s.modHeat h (fun t => { t with atTgt := true })).finishSlots

end Sys2Proof.Machine
end

