-- ==== Sys2Proof/Machine/Barriers.lean ====
section
/-! DEFINITION. Pacer's notices and commands (06_pacer.md): ACTIVITY, BARRIER with its slope check, pre-lift and pre-bias, CONFIRM and
CANCEL, the mismatch windows, coefficient enables, the repetitive memory. -/

namespace Sys2Proof.Machine

/-! ### ACTIVITY (R219, R254 to R261, R270, R661) -/

/-- The regions that REGION and DW name. -/
def State.namedRgns (s : State) (dw : Bool) (region : Nat) : List Nat :=
  if dw then s.domRgns (region % 4) else if s.isPlaced region then [region] else []

/-- The wake-ups of R70: a heat in burst that the full forecast takes above its burst threshold from the due step of a notice wakes `w`
steps before it; with a full queue at once (R20). -/
def State.noticeWakes (s : State) (ns : List Nat) (due : Nat) : State :=
  s.forEach (s.allHeats.filter (fun h => (s.heat h).burst && (s.members h).any ns.contains)) fun s h =>
    let ms := s.members h
    let w := max (s.step.count + 1) (due - s.wakeLead h)
    if s.linOf ms due ≤ s.cmOf ms * s.burstTh h ∨ s.step.queue.any (fun e => e.act = .wake h && decide (e.due ≤ w)) then s
    else if s.roomOwn 1 then s.enqueue w (.wake h)
    else (s.wakeHeat h).queueFull .hardware

/-- An ACTIVITY notice enters the pending table. -/
def State.enterActivity (s : State) (body : BitVec 52) : State :=
  let d := s.dueOf (bodyField body 51 36)
  let rc : Rec := ⟨bodyField body 26 23, bodyField body 22 19, bodyBit body 18, bodyField body 11 4 * 2 ^ bodyField body 3 0⟩
  let g := bodyField body 17 12
  let dw := bodyBit body 27
  let e : Pend := ⟨d.1, dw, if dw then bodyField body 35 28 % 4 else bodyField body 35 28, g, rc, s.pacer.ord⟩
  let s1 := if rc.cls = 15 ∨ 11 ≤ rc.fmt then s.countErr BAT_ERR.ENC .BAT_ENC else s
  let s2 := if d.2 then s1.bump COEF_CNT.LATE else s1
  let s3 := (({ s2 with pacer := { s2.pacer with pend := s2.pacer.pend ++ [e] } }).openGroup g d.1).ringFix d.1
  s3.noticeWakes (s3.namedRgns dw (bodyField body 35 28)) d.1

/-- ACTIVITY: a refused one is discarded and counted, without an ack (R219). -/
def execActivity (seq : BitVec 8) (body : BitVec 52) (s : State) : Res :=
  if !s.baton.up then .next s.dropNotice else
  let s1 := s.popNotice (payloadOf 2 seq.toNat body)
  .next (if noticeBad 2 body then (s1.countErr BAT_ERR.ENC .BAT_ENC).dropNotice
    else if s1.blockReset.isSome then s1.dropNotice
    else if s1.namedRgns (bodyBit body 27) (bodyField body 35 28) = [] then s1.dropNotice
    else if 4096 ≤ s1.pacer.pend.length then s1.dropNotice
    else s1.enterActivity body)

/-! ### The slope check (R286, R287) -/

/-- The state in which every close and open queued for a step at or before `t` has executed (R286): gates and heats only. -/
def State.heatsAt (s : State) (t : Nat) : State :=
  let l := (s.step.queue.filter (fun e => e.due ≤ t)).foldl (fun (acc : List QEntry) e =>
    acc.takeWhile (fun y => y.due ≤ e.due) ++ [e] ++ acc.dropWhile (fun y => y.due ≤ e.due)) []
  (l.foldl (fun (s : State) e => match e.act with
    | .close g _ => s.setGate g true
    | .openG g _ => s.setGate g false
    | _ => s) s).recompute

/-- A pending notice belongs to the release: due at `rel`, for the barrier's regions alone (R243, R244). -/
def State.ofRelease (s : State) (regions : List Nat) (rel : Nat) (p : Pend) : Bool :=
  p.due = rel && (s.namedRgns p.dw p.region).all (fun n => regions.contains n)

/-- The pending notices of a release moved to step `t` (R244). -/
def State.moveRelease (s : State) (regions : List Nat) (rel t : Nat) : State :=
  { s with pacer := { s.pacer with pend := s.pacer.pend.map (fun p => if s.ofRelease regions rel p then { p with due := t } else p) } }

/-- The rise of a release at step `t` in a heat (R286). -/
def State.rise (s : State) (ms : List Nat) (t : Nat) : Int :=
  ((max (s.linOf ms t) (s.linOf ms (t + 1)) : Nat) : Int) - ((s.linOf ms (t - 1) : Nat) : Int)

/-- The heats of a release, each as its regions, as they will stand at step `t`. -/
def State.releaseHeats (s : State) (regions : List Nat) (t : Nat) : List (List Nat) :=
  let f := s.heatsAt t
  (f.allHeats.map f.members).filter (fun ms => ms.any (fun n => regions.contains n))

/-- RISE_MAX, mA per lane. -/
def State.riseMax (s : State) (d : Nat) : Nat := 10 * clampN 10 150 (s.f DOM_PCR_CFG.RISE_MAX d)

/-- A release delayed by `k` passes for every heat (R286). -/
def State.slopeOk (s : State) (b : Barrier) (k : Nat) : Bool :=
  let t := b.due + k
  let sx := s.moveRelease b.regions b.due t
  (s.releaseHeats b.regions t).all fun ms =>
    decide (sx.rise ms t ≤ ((s.cmOf ms * s.riseMax (s.domOf (ms.headD 0)) : Nat) : Int))

/-! ### Pre-lift and pre-bias (R288 to R292) -/

/-- Change the due step of a queued action. -/
def State.requeue (s : State) (a : Action) (due : Nat) : State :=
  { s with step := { s.step with queue := s.step.queue.map (fun e => if e.act = a then { e with due := due } else e) } }

/-- Order a pre-lift for a heat, release step `t` (R288 to R290). -/
def State.orderLift (s : State) (b : Barrier) (ms : List Nat) (t : Nat) : State :=
  let h := ms.headD 0
  let p := s.profile h
  let val := s.liftUnits p
  let slew := s.liftSlewOf p
  let start := max (s.step.count + 1) (t - ceilDiv (50 * val) (slew * s.tstep))
  let end_ := t + s.f DOM_PCR_CFG.LIFT_HOLD (s.domOf h)
  match s.pacer.lifts.find? (fun l => l.regions.any (fun n => ms.contains n) && decide (start ≤ l.until_ ∧ l.at_ ≤ end_)) with
  | some l =>
    let l1 : Lift := { l with at_ := if l.executed then l.at_ else min l.at_ start, until_ := max l.until_ end_, just := l.just ++ [(b.id, b.group)] }
    (({ s with pacer := { s.pacer with lifts := s.pacer.lifts.map (fun (x : Lift) => if x.id = l.id then l1 else x) } }).requeue (.lift l.id) l1.at_).requeue
      (.liftEnd l.id) l1.until_
  | none =>
    if s.roomOwn 2 then
      let id := s.pacer.nextLift
      let l : Lift := ⟨id, ms, val, slew, start, end_, [(b.id, b.group)], false⟩
      (({ s with pacer := { s.pacer with lifts := s.pacer.lifts ++ [l], nextLift := id + 1 } }).enqueue start (.lift id)).enqueue end_ (.liftEnd id)
    else (s.bump COEF_CNT.QFULL).queueFull .hardware

/-- LIFT_MIN, mA per lane. -/
def State.liftMin (s : State) (d : Nat) : Nat := 10 * max 1 (s.f DOM_PCR_CFG.LIFT_MIN d)

/-- Prepare a release (R288, R292): lifts where the rise asks for them, pre-bias of the regions in FORECAST mode. -/
def State.prepare (s : State) (b : Barrier) : State :=
  let s1 := s.forEach (s.releaseHeats b.regions b.due) fun s ms =>
    let n := s.cmOf ms
    if 0 < n ∧ ((n * s.liftMin (s.domOf (ms.headD 0)) : Nat) : Int) ≤ s.rise ms b.due then s.orderLift b ms b.due else s
  s1.forEach b.regions fun s n =>
    if (s.rgn n).mode = .FORECAST ∧ !(s.rgn n).preb.contains b.due then s.modRgn n (fun r => { r with preb := r.preb ++ [b.due] }) else s

/-- A pre-lift executes (R158, R288). -/
def State.execLift (s : State) (id : Nat) : State :=
  match s.pacer.lifts.find? (fun l => l.id = id) with
  | none => s
  | some l =>
    let s1 := { s with pacer := { s.pacer with lifts := s.pacer.lifts.map (fun (x : Lift) => if x.id = id then { x with executed := true } else x) } }
    s1.forEach (s1.allHeats.filter (fun h => (s1.members h).any (fun n => l.regions.contains n)))
      (fun s h => s.modHeat h (fun t => { t with liftSlew := some (max l.slew (t.liftSlew.getD 0)) }))

/-! ### BARRIER (R243 to R245, R284 to R287, R293, R661) -/

/-- Replace a barrier. -/
def State.setBarrier (s : State) (b : Barrier) : State :=
  { s with pacer := { s.pacer with barriers := s.pacer.barriers.map (fun (x : Barrier) => if x.id = b.id then b else x) } }

/-- A BARRIER is taken: with 32 steps of lead its slope check starts; with less it is answered at once (R218, R293). -/
def State.enterBarrier (s : State) (seq : Nat) (body : BitVec 52) (rs : List Nat) : State :=
  let d := s.dueOf (bodyField body 51 36)
  let g := bodyField body 26 21
  let tag := bodyField body 20 13
  let lead := d.1 - s.step.count
  let full := decide (32 ≤ lead)
  let b : Barrier := ⟨s.pacer.nextBar, rs, d.1, tag, seq, g, bodyField body 12 5, full, d.1, 0, s.pacer.ord⟩
  let s1 := (({ s with pacer := { s.pacer with barriers := s.pacer.barriers ++ [b], nextBar := b.id + 1 } }).openGroup g d.1).modSlot tag
    (fun t => { t with st := .QUEUED, status := 0, ntype := 3, gate := false })
  let s1 := s1.noticeWakes rs d.1
  if full then s1 else
  let s2 := (s1.bump COEF_CNT.SHORT).acceptTag 3 seq tag (if d.2 then 4 else 0)
  if 9 ≤ lead then s2.prepare b else s2

/-- BARRIER. -/
def execBarrier (seq : BitVec 8) (body : BitVec 52) (s : State) : Res :=
  .next (s.takeNotice 3 seq.toNat body true true fun s =>
    let rs := s.namedRgns (bodyBit body 27) (bodyField body 35 28)
    if rs = [] then s.refuse 3 seq.toNat body 2 0
    else if 64 ≤ s.pacer.barriers.length then s.refuse 3 seq.toNat body 6 0
    else s.enterBarrier seq.toNat body rs)

/-- Move a barrier's release to step `t` (R244): its notices and its group. -/
def State.moveBarrier (s : State) (b : Barrier) (t k : Nat) : State :=
  let s1 := s.moveRelease b.regions b.due t
  ((s1.setBarrier { b with due := t, k := k, checking := false }).openGroup b.group t).ringFix (min b.due t)

/-- A delay order (s, K) acts on the barriers that were due at s and have not been answered with this K (R326): they move, the withdrawals of
their lifts move, STRETCH is sent. -/
def State.applyDelay (s : State) (rel k : Nat) : State :=
  s.forEach (s.pacer.barriers.filter (fun b => b.rel = rel ∧ b.k ≠ k)) fun s b =>
    let t := rel + k
    let s1 := s.moveBarrier b t k
    let hold := fun (l : Lift) => t + s.f DOM_PCR_CFG.LIFT_HOLD (s.domOf (l.regions.headD 0))
    let ls := s1.pacer.lifts.filter (fun l => l.just.any (fun x => x.1 = b.id))
    let s2 := s1.forEach ls fun s l =>
      ({ s with pacer := { s.pacer with lifts := s.pacer.lifts.map (fun (x : Lift) => if x.id = l.id then { x with until_ := hold l } else x) } }).requeue
        (.liftEnd l.id) (hold l)
    let s3 := s2.forEach b.regions (fun s n => s.modRgn n fun r =>
      if r.preb.contains b.due then { r with preb := (r.preb.filter (· ≠ b.due)) ++ [t] } else r)
    (s3.modSlot b.tag (fun x => if x.ntype = 3 then { x with st := .COMPLETE, status := 0 } else x)).ackStretch b.tag k (t % 65536)

/-- The instance reports a delay to the master of its tree (R326). -/
def State.reportDelay (s : State) (rel k : Nat) : State :=
  if !s.inCascade then s
  else if s.isMaster then
    let x := s.masterDelay rel k
    if x.2 then x.1.applyDelay rel k else x.1
  else s.postUp 0x06 (mkBody [(rel, 6), (k, 1), (s.myId, 2)])

/-- SLOPE_CHECK_DONE: the delays are tried in order, and the barrier is answered (R243, R287). -/
def execSlopeCheckDone (tag : BitVec 8) (s : State) : Res :=
  match s.pacer.barriers.find? (fun b => b.checking ∧ b.tag = tag.toNat) with
  | none => .next s
  | some b =>
    let found := (List.range (b.kmax + 1)).find? (fun k => s.slopeOk b k)
    let k := found.getD b.kmax
    let s1 := if found.isNone then s.bump COEF_CNT.SLOPE else s
    let b1 : Barrier := { b with due := b.due + k, k := k, checking := false }
    let s2 := s1.moveBarrier b (b.due + k) k
    let s3 := if k = 0 then s2.acceptTag 3 b.seq b.tag 0
      else ((s2.modSlot b.tag (fun t => { t with st := .COMPLETE, status := 0 })).ackStretch b.tag k (b1.due % 65536)).reportDelay b.rel k
    .next (s3.prepare b1)

/-- The pre-bias requests that a withdrawn barrier leaves without a barrier end. -/
def State.endPrebias (s : State) (b : Barrier) : State :=
  s.forEach b.regions fun s n =>
    if s.pacer.barriers.any (fun x => x.due = b.due && x.regions.contains n) then s
    else s.modRgn n (fun r => { r with preb := r.preb.filter (· ≠ b.due) })

/-- A BARRIER is withdrawn (R297): one whose first ack has not been sent is answered first. -/
def State.withdrawBarrier (s : State) (b : Barrier) : State :=
  let s1 := if b.checking then s.acceptTag 3 b.seq b.tag 0 else s
  (s1.dropBarrier b.id).endPrebias b

/-! ### CONFIRM and CANCEL (R222, R296, R297) -/

/-- A group is confirmed: its notices become unconditional (R258, R296). -/
def State.confirmGroup (s : State) (g : Nat) : State :=
  ({ s with pacer := { s.pacer with
    pend := s.pacer.pend.map (fun (p : Pend) => if p.group = g then { p with group := 0 } else p)
    barriers := s.pacer.barriers.map (fun (b : Barrier) => if b.group = g then { b with group := 0 } else b)
    lifts := s.pacer.lifts.map (fun (l : Lift) => { l with just := l.just.map (fun (x : Nat × Nat) => if x.2 = g then (x.1, 0) else x) })
    groups := s.pacer.groups.filter (fun x => x.1 ≠ g) } }).ringFix 0

/-- A group is cancelled: its notices are withdrawn (R258, R297). -/
def State.cancelGroup (s : State) (g : Nat) : State :=
  let s1 := ({ s with pacer := { s.pacer with
    pend := s.pacer.pend.filter (fun p => p.group ≠ g), groups := s.pacer.groups.filter (fun x => x.1 ≠ g) } }).ringFix 0
  s1.forEach (s1.pacer.barriers.filter (fun b => b.group = g)) State.withdrawBarrier

/-- CONFIRM. -/
def execConfirm (seq : BitVec 8) (body : BitVec 52) (s : State) : Res :=
  .next (s.takeNotice 6 seq.toNat body false false fun s =>
    let g := bodyField body 51 46
    if s.groupOpen g then (s.confirmGroup g).ackAccept seq.toNat 6 g 0 else s.refuse 6 seq.toNat body 5 0)

/-- CANCEL. -/
def execCancel (seq : BitVec 8) (body : BitVec 52) (s : State) : Res :=
  .next (s.takeNotice 7 seq.toNat body false false fun s =>
    let g := bodyField body 51 46
    if s.groupOpen g then (s.cancelGroup g).ackAccept seq.toNat 7 g 0 else s.refuse 7 seq.toNat body 5 0)

/-! ### Due notices at a boundary (R254, R257, R258, R297, R409) -/

/-- The pending notices due at or before step `c`: unconditional ones are applied in order, unless a scrub holds them (R409); conditional
ones are withdrawn. -/
def State.applyDue (s : State) (c : Nat) : State :=
  let hold := s.led.scrub.isSome
  let due := s.pacer.pend.filter (fun p => p.due ≤ c)
  let rest := s.pacer.pend.filter (fun p => c < p.due ∨ (hold ∧ p.group = 0))
  let s1 := { s with pacer := { s.pacer with pend := rest } }
  if hold then s1 else s1.forEach (sortPend (due.filter (fun p => p.group = 0))) State.applyRate

/-- The barriers and groups whose due step has come: a conditional barrier is withdrawn with the lift that it alone justifies (R221, R297). -/
def State.passBarriers (s : State) (c : Nat) : State :=
  let due := s.pacer.barriers.filter (fun b => b.due ≤ c)
  let s1 := s.forEach due fun s b =>
    if b.group = 0 then { s with pacer := { s.pacer with barriers := s.pacer.barriers.filter (fun x => x.id ≠ b.id) } }
    else s.withdrawBarrier b
  { s1 with pacer := { s1.pacer with groups := s1.pacer.groups.filter (fun x => c < x.2) } }

/-! ### Forgetting (R250, R405, R454) -/

/-- Delete records, pending entries, barriers, open groups and ring entries, and put every region in HELD; notices processed after place
`ord` stay (R405: the new user's). -/
def State.clearPacer (s : State) (ord : Nat) : State :=
  let pend := s.pacer.pend.filter (fun p => ord < p.ord)
  let bars := s.pacer.barriers.filter (fun b => ord < b.ord)
  let kept := pend.map (·.group) ++ bars.map (·.group)
  let s1 := { s with pacer := { s.pacer with
    rgnRec := tblEmpty, domRec := tblEmpty, pend := pend, barriers := bars, ring := [], winVoid := true
    groups := s.pacer.groups.filter (fun x => kept.contains x.1) } }
  s1.forEach s1.placed (fun s n => s.modRgn n fun r => { r with
    mode := .HELD, bad := 0, clean := 0, preb := r.preb.filter (fun t => bars.any (fun b => b.due = t && b.regions.contains n)) })

/-! ### MISMATCH_WINDOW_END (R299 to R303) -/

/-- One region's judgement of a counted window. -/
def State.judgeWindow (s : State) (n : Nat) : State :=
  let r := s.rgn n
  if r.winBad then s else
  let bad := decide (clampN 5 100 (s.f COEF_MM_CFG.THRESH) * r.sRef < 100 * r.sErr)
  let nb := if bad then r.bad + 1 else 0
  let nc := if bad then 0 else r.clean + 1
  let s1 := ((s.modRgn n (fun r => { r with bad := nb, clean := nc })).put RGN_PCR_MM.ERR n (if r.sRef = 0 then Config.errorOverZero n r.sErr % 65536 else min 65535 (1000 * r.sErr / r.sRef))).put RGN_PCR_MM.VALID n 1
  if r.mode = .FORECAST ∧ max 1 (s.f COEF_MM_CFG.DEMOTE_N) ≤ nb then
    (s1.modRgn n (fun r => { r with mode := .DEMOTED, preb := [] })).rgnEvt RGN_PCR_STATUS.DEMOTED_EVT .FCAST_MISMATCH n
  else if r.mode = .DEMOTED ∧ max 1 (s.f COEF_MM_CFG.RESTORE_N) ≤ nc then
    (s1.modRgn n (fun r => { r with mode := .FORECAST })).rgnEvt RGN_PCR_STATUS.RESTORED_EVT .FCAST_MISMATCH n
  else s1

/-- MISMATCH_WINDOW_END: at the boundary after a window of 1,024 steps (R301, R302, R303). -/
def execMismatchWindowEnd (s : State) : Res :=
  if s.step.count % 1024 ≠ 0 ∨ s.pacer.winSteps = 0 then .next s else
  let s1 := if s.pacer.winVoid ∨ s.pacer.winSteps ≠ 1024 then s else s.forEach s.placed State.judgeWindow
  let s2 := s1.forEach s1.placed (fun s n => s.modRgn n (fun r => { r with sErr := 0, sRef := 0, winBad := false }))
  .next { s2 with pacer := { s2.pacer with winSteps := 0, winVoid := false } }

/-! ### Effects of register writes -/

/-- The row-maximum table is computed from the coefficient table (R451). -/
def State.computeRowMax (s : State) : State :=
  let words := s.regs.entries.filter (fun e => 0x80000 ≤ e.1 ∧ e.1 < 0xA0000)
  let t := words.foldl (fun (t : Tbl Nat) e =>
    let row := (e.1 - 0x80000) / 32
    tblSet 0 t row (maxN [tblGet 0 t row, e.2.field 15 0, e.2.field 31 16])) tblEmpty
  { s with pacer := { s.pacer with rowMax := t } }

/-- COEF_CTRL.EN changes from 0 to 1: row maxima, every region HELD (R299, R451). -/
def State.coefEnabled (s : State) : State :=
  let s1 := s.computeRowMax
  s1.forEach s1.placed (fun s n => s.modRgn n (fun r => { r with mode := .HELD, bad := 0, clean := 0 }))

/-- Every bin becomes 0 (R279, REP_CFG.CLR). -/
def State.clearBins (s : State) : State := { s with pacer := { s.pacer with bins := tblEmpty } }

/-- A PERIOD takes effect (R279); learned profiles are held with the LEN they were saved with (R559). -/
def State.setPeriod (s : State) (len t0 : Nat) : State :=
  let held := if s.pacer.len = 0 then s.boot.learnLen else s.pacer.len
  let s1 := if len = held then s else s.clearBins
  { s1 with pacer := { s1.pacer with len := len, t0 := t0 }, boot := { s1.boot with learnLen := 0 } }

end Sys2Proof.Machine
end

