-- ==== Sys2Proof/Machine/Limits.lean ====
section
/-! DEFINITION. The Limits unit (07_power_limits.md): power figures, the cap, the power law, stretch levels and their orders, thermal
rounds, region shares, the forced lowest state, frequency points. -/

namespace Sys2Proof.Machine

/-! ### Settings -/

/-- Credit mode is configured (R458); else step mode. -/
def State.creditCfg (s : State) : Bool := s.fb RLY_CFG.CREDIT

/-- LIM_CFG.LEAD (R316). -/
def State.lead (s : State) : Nat := max (if s.inCascade then 64 else 2) (s.f LIM_CFG.LEAD)

/-- LIM_MODEL.EFF, 0.1 % (R305). -/
def State.eff (s : State) : Nat := clampN 500 1000 (s.f LIM_MODEL.EFF)

/-- LIM_MODEL.P_IDLE, mW. -/
def State.pIdle (s : State) : Nat := 1000 * s.f LIM_MODEL.P_IDLE

/-- LIM_MODEL.P_FIX, mW. -/
def State.pFix (s : State) : Nat := 1000 * s.f LIM_MODEL.P_FIX

/-- A cap of LIM_CAP_REG, W. -/
def capW (w : Nat) : Nat := clampN 400 3000 w

/-- The cap source in use (R308): 3 acts as 0. -/
def State.capSrc (s : State) : Nat := if s.f LIM_CFG.CAPSRC = 3 then 0 else s.f LIM_CFG.CAPSRC

/-- LIM_ALERT.HOLD, ns (R332, R342). -/
def State.lowHold (s : State) : Nat := 10000 * max 1 (s.f LIM_ALERT.HOLD)

/-- LIM_VT_CFG.FLOOR: a value above NOM acts as NOM. -/
def State.floorPoint (s : State) : Nat := min (s.f LIM_VT_CFG.NOM) (s.f LIM_VT_CFG.FLOOR)

/-- LIM_TH_CFG.XMAX as a level (R329). -/
def State.thClamp (s : State) : Nat := 64 * max 1 (s.f LIM_TH_CFG.XMAX)

/-! ### Power figures (R304 to R307) -/

/-- Input power for an output power in mW (R305). -/
def State.pIn (s : State) (out : Rat) : Nat := roundNat (out * 1000 / (s.eff : Rat) + (s.pFix : Rat))

/-- P_in of the running tick, mW (R304, R305); with no sample the mean is 0. -/
def State.tickPin (s : State) : Nat :=
  s.pIn (if s.lim.smpN = 0 then 0 else ((s.lim.pSum : Int) : Rat) / ((200000 * s.lim.smpN : Nat) : Rat))

/-- The unstretched demand of the tick, mW (R307). -/
def State.tickU (s : State) (pin : Nat) : Rat :=
  let x : Rat := if s.lim.lvlN = 0 then (s.step.nowX : Rat) else (s.lim.lvlSum : Rat) / (s.lim.lvlN : Rat)
  if pin ≤ s.pIdle then (pin : Rat) else (s.pIdle : Rat) + ((pin : Rat) - (s.pIdle : Rat)) * (1024 + x) / 1024

/-- The mean over the last `n` ticks; ticks before the first count as 0 (R306). -/
def meanTicks (n : Nat) (l : List Rat) : Rat := sumR (l.take n) / (n : Rat)

/-- A1 and A10 of P_in, mW. -/
def Lim.meanPin (l : Lim) (n : Nat) : Rat := meanTicks n (l.pin.map (fun (x : Nat) => (x : Rat)))

/-- A1u and A10u, mW. -/
def Lim.meanU (l : Lim) (n : Nat) : Rat := meanTicks n l.u

/-- F_in over the window of R319, mW. -/
def State.forecastIn (s : State) : Nat :=
  let t0 := s.step.count + s.lead
  maxN ((List.range 17).map fun k => s.pIn (sumR (s.placed.map fun n =>
    ((s.baseV (s.heatIx n) * s.fLin0 n (t0 + k) : Nat) : Rat) / 2000)))

/-! ### The cap (R308 to R311) -/

/-- D of a valid period, 0.1 % (R309). -/
def dutyOf (p : Nat × Nat) : Nat := if p.1 = 0 then 0 else 1000 * p.2 / p.1

/-- The CAP_ANA cap, W (R311): the raw code of 1.25 V full scale, held to 0 to 1.000 V. -/
def anaCap (r : Int) : Nat :=
  let v : Rat := (r : Rat) * 5 / (4 * 8388608)
  let v1 : Rat := if v < 0 then 0 else if 1 < v then 1 else v
  ((400 : Rat) + 2600 * v1).floor.toNat

/-- The cap that the selected source gives, and that it is the fallback cap. -/
def State.capNow (s : State) : Nat × Bool :=
  let fb := capW (s.f LIM_CAP_REG.FB)
  match s.capSrc with
  | 0 => match s.lim.pcapLost, s.lim.pcapValid with
    | false, some p => (400 + (2600 * dutyOf p + 500) / 1000, false)
    | _, _ => (fb, true)
  | 1 => match s.lim.anaStale, tblGet none s.gauge.latest 52 with
    | false, some r => (anaCap r, false)
    | _, _ => (fb, true)
  | _ => (capW (s.f LIM_CAP_REG.CAP), false)

/-- Put the cap in force; entries to the fallback cap are counted, and the level source's condition ends with it (R426). -/
def State.setCap (s : State) : State :=
  let x := s.capNow
  let was := s.fb LIM_CAP_STATUS.FALLBACK
  let s1 := (({ s with lim := { s.lim with cap := x.1 } }).put LIM_CAP_STATUS.CAP 0 x.1).put LIM_CAP_STATUS.SRC 0 s.capSrc
  let s2 := s1.put LIM_CAP_STATUS.FALLBACK 0 (if x.2 then 1 else 0)
  if x.2 ∧ !was then s2.bump LIM_CNT.CAP_LOSS else if !x.2 ∧ was then s2.condEnds .CAP_LOST else s2

/-- An edge of PCAP_IN (R309, R310). -/
def State.pcapEdge (s : State) (high : Bool) (t : Nat) : State :=
  let l := s.lim
  if !high then { s with lim := { l with pcapHigh := false, pcapFall := some t } } else
  match l.pcapRise, l.pcapFall with
  | some r, some f =>
    let p := t - r
    if 10000 ≤ p ∧ p ≤ 1000000 then
      let run := l.pcapRun + 1
      let back := l.pcapLost && decide (4 ≤ run)
      let s1 := { s with lim := { l with
        pcapHigh := true, pcapRise := some t, pcapValid := some (p, f - r), pcapAt := t, pcapRun := run
        pcapLost := l.pcapLost && !back, pcapRep := l.pcapRep && !back } }
      s1.put LIM_CAP_STATUS.DUTY 0 (dutyOf (p, f - r))
    else { s with lim := { l with pcapHigh := true, pcapRise := some t, pcapRun := 0 } }
  | _, _ => { s with lim := { l with pcapHigh := true, pcapRise := some t } }

/-- PCAP_LOST: 2 ms without a valid period, or none since power-on reset (R310). -/
def execPcapLost (s : State) : Res :=
  let none_ := s.lim.pcapValid.isNone || decide (s.lim.pcapAt + 2000000 ≤ s.now)
  if s.powered ∧ s.capSrc = 0 ∧ none_ ∧ !s.lim.pcapRep then
    let s1 := { s with lim := { s.lim with pcapLost := true, pcapRep := true, pcapRun := 0 } }
    .next ((s1.setCap.put LIM_CAP_STATUS.PCAP_LOST 0 1).raiseHw .CAP_LOST .none 0)
  else .next s

/-- CAP_ANA_STALE: the latest result of CAP_ANA is older than 2 ms (R311). -/
def execCapAnaStale (s : State) : Res :=
  let old := (tblGet none s.gauge.latest 52).isNone || decide (s.gauge.anaAt + 2000000 < s.now)
  if s.powered ∧ s.capSrc = 1 ∧ old ∧ !s.fb LIM_CAP_STATUS.ANA_STALE then
    .next (((({ s with lim := { s.lim with anaStale := true } }).setCap).put LIM_CAP_STATUS.ANA_STALE 0 1).raiseHw .CAP_LOST .none 0)
  else .next s

/-! ### The power law (R318) -/

/-- g of R318; all in mW. -/
def gLaw (idle : Nat) (a l : Rat) : Nat :=
  if a ≤ l then 0 else if l ≤ (idle : Rat) then 16320 else min 16320 (ceilNat (1024 * (a - l) / (l - (idle : Rat))))

/-- The POWER level (R318): `u` is the tick's unstretched demand. -/
def State.powerLevel (s : State) (u : Rat) : Nat :=
  let c : Rat := ((1000 * s.lim.cap : Nat) : Rat)
  let sup : Rat := ((1000 * max 400 (s.f LIM_SUP.SUP) : Nat) : Rat)
  let pk : Rat := c * ((100 + min 100 (s.f LIM_CFG.PK) : Nat) : Rat) / 100
  maxN [gLaw s.pIdle (s.lim.meanU 100) c, gLaw s.pIdle (s.lim.meanU 1000) sup, gLaw s.pIdle u pk, gLaw s.pIdle (s.lim.fin : Rat) c]

/-! ### Orders (R316, R317, R322, R350) -/

/-- Offer a level to the step action queue, or to the tree master. A refused order waits for the next tick (R317). -/
def State.offerLevel (s : State) (src : StrSrc) (level : Nat) : State :=
  let w := s.lim.waiting.filter (fun x => x.1 ≠ src)
  let s1 := { s with lim := { s.lim with waiting := w } }
  let c := s.step.count
  if s.inCascade then s1.requestLevel src (c + s.lead) level
  else if s1.roomOwn 1 then s1.enqueue (if s.creditCfg then s.stretchDue (c + 1) else c + s.lead) (.stretch src level)
  else ({ (s1.bump LIM_CNT.QFULL) with lim := { s1.lim with waiting := w ++ [(src, level)] } }).queueFull .hardware

/-- Order POWER, THERMAL or HOST when it has changed (R316). -/
def State.orderLevel (s : State) (src : StrSrc) (level : Nat) : State :=
  match src with
  | .POWER => if level = s.lim.ordPower then s else ({ s with lim := { s.lim with ordPower := level } }).offerLevel .POWER level
  | .THERMAL => if level = s.lim.ordThermal then s else ({ s with lim := { s.lim with ordThermal := level } }).offerLevel .THERMAL level
  | _ => if level = s.lim.ordHost then s else ({ s with lim := { s.lim with ordHost := level } }).offerLevel .HOST level

/-- Orders that a full queue refused are offered again at a tick (R317). -/
def State.reoffer (s : State) : State := s.forEach s.lim.waiting (fun s x => s.offerLevel x.1 x.2)

/-- HOST_STRETCH_LEVEL_WRITE: LIM_STR_HOST.LEVEL (R316); above 16,320 it acts as 16,320. -/
def State.hostLevel (s : State) : State := s.orderLevel .HOST (min 16320 (s.f LIM_STR_HOST.LEVEL))

/-! ### The level applied at a boundary (R312, R314, R315) -/

/-- The forced-merge level at a boundary, of the stretches placed. -/
def State.mergeNow (s : State) (c : Nat) : Nat :=
  maxN (s.lim.mergeStr.map fun x => if x.1 ≤ c ∧ c < x.1 + x.2.1 then x.2.2 else 0)

/-- The levels in force with their LIM_STR_STATUS.SRC codes, in the order of R315; a member of a cascade applies its EMERGENCY level and
the master's orders alone (R322). -/
def State.levels (s : State) (c : Nat) : List (Nat × Nat) :=
  if s.inCascade then [(5, s.lim.emerg), (6, s.lim.cascade)]
  else [(1, s.lim.power), (2, s.lim.thermal), (3, s.lim.host), (4, s.mergeNow c), (5, s.lim.emerg), (6, s.lim.cascade)]

/-- The highest level and its source, the first in table order on equal levels (R315). -/
def topLevel (l : List (Nat × Nat)) : Nat × Nat :=
  l.foldl (fun best x => if best.2 < min 16320 x.2 then (x.1, min 16320 x.2) else best) (0, 0)

/-- stretch_req of a level: MULT and N (R312). -/
def encodeLevel (x : Nat) : Bool × Nat := if x ≤ 255 then (false, x) else (true, ceilDiv x 64)

/-- stretch_req shows the level that stands for the next boundary: the levels in force with the orders due there (R314). -/
def State.showLevel (s : State) : State :=
  let t := s.step.count + 1
  let l := if s.inCascade then [(5, s.lim.emerg), (6, s.levelAt .CASCADE s.lim.cascade t)]
    else [(1, s.levelAt .POWER s.lim.power t), (2, s.levelAt .THERMAL s.lim.thermal t), (3, s.levelAt .HOST s.lim.host t), (4, s.mergeLevel t),
      (5, s.lim.emerg), (6, s.levelAt .CASCADE s.lim.cascade t)]
  let top := topLevel l
  let e := encodeLevel top.2
  { s with lim := { s.lim with reqMult := e.1, reqN := e.2, reqLevel := top.2, reqSrc := top.1 } }

/-- A due stretch action takes its place among the levels in force (R315). -/
def State.stretchExec (s : State) (due : Nat) (src : StrSrc) (x : Nat) : State :=
  match src with
  | .POWER => { s with lim := { s.lim with power := x } }
  | .THERMAL => { s with lim := { s.lim with thermal := x } }
  | .HOST => { s with lim := { s.lim with host := x } }
  | .CASCADE => { s with lim := { s.lim with cascade := x } }
  | .EMERGENCY => s
  | .MERGE => { s with lim := { s.lim with mergeStr := s.lim.mergeStr ++ [(due, x / 256, x % 256)] } }

/-- The level of boundary `c` is applied and reported (R315); forced-merge stretches that have ended are forgotten. -/
def State.applyLevel (s : State) : State :=
  let c := s.step.count
  let top := topLevel (s.levels c)
  let keep := s.lim.mergeStr.filter (fun x => c < x.1 + x.2.1)
  let s1 := { s with
    step := { s.step with nowX := top.2 }
    lim := { s.lim with lvlSum := s.lim.lvlSum + top.2, lvlN := s.lim.lvlN + 1, mergeStr := keep } }
  (s1.put LIM_STR_STATUS.LEVEL 0 top.2).put LIM_STR_STATUS.SRC 0 top.1

/-! ### The forced lowest state (R332, R335 to R343) -/

/-- Send FREQ_FLOOR, or keep it until READY (R336, R340). -/
def State.sendFloor (s : State) : State :=
  if !s.baton.up then s else
  let cause := if s.lim.low = .released then s.lim.lowLast else s.lim.lowFirst
  { (s.ackFloor s.lim.floorFp cause) with lim := { s.lim with floorAt := some s.now } }

/-- The causes in force: bit 0 ALERT_N, bit 1 thermal approach. -/
def State.causes (s : State) : Nat := (if s.lim.alert then 1 else 0) + (if s.lim.appr then 2 else 0)

/-- The actions of R336, for a cause of 1 or 2, but for the report to the master. -/
def State.lowEntry (s : State) (cause : Nat) : State :=
  let fp := s.floorPoint
  let s1 := { s with lim := { s.lim with
    low := .inForce, lowFirst := cause, lowLast := cause, emerg := 15360, floorFp := fp, floorAt := none, exitOk := false, endStep := none } }
  let s2 := (((s1.put LIM_STR_STATUS.LOWEST 0 1).put LIM_STR_STATUS.FLOOR_PEND 0 1).put LIM_ALERT.ALERT_EVT 0 1).bump LIM_CNT.LOWEST
  ((s2.raiseHw .LOWEST .none 0).showLevel).sendFloor

/-- Enter the forced lowest state for a cause (R336): a second cause only joins the first; during the exit the state is entered anew
(R342). -/
def State.enterLowest (s : State) (cause : Nat) (report : Bool) : State :=
  let s1 := if s.lim.low = .inForce then { s with lim := { s.lim with lowLast := cause, exitOk := false } } else s.lowEntry cause
  if report then s1.reportEmerg s1.causes 1 else s1

/-- Step 2 of R342: every heat at target, FREQ_FLOOR for NOM with the last cause. -/
def State.lowRelease (s : State) : State :=
  let hs := s.allHeats.filter (fun h => (s.rgn h).st.regulating)
  if s.lim.low = .rising ∧ hs.all (fun h => (s.heat h).atTgt) then
    let s1 := { s with lim := { s.lim with low := .released, floorFp := s.f LIM_VT_CFG.NOM, floorAt := none } }
    (s1.put LIM_STR_STATUS.FLOOR_PEND 0 1).sendFloor
  else s

/-- Step 1 of R342: the base set-points return to their sources. -/
def State.lowExit (s : State) : State :=
  let s1 := { s with lim := { s.lim with low := .rising, vtOn := false, exitOk := false } }
  let s2 := s1.forEach s1.allHeats fun s h =>
    if s.tgtOf h = (s.heat h).ref then s else s.modHeat h (fun t => { t with atRun := 0, atTgt := false })
  s2.lowRelease

/-- Every cause has cleared and stayed clear (R332, R342). -/
def State.lowClear (s : State) : Bool := !s.lim.alert && decide (s.lim.alertHigh + s.lowHold ≤ s.now) && !s.lim.appr

/-- The approach cause clears after its HOLD (R332). -/
def State.apprClear (s : State) : State :=
  match s.lim.apprBelow with
  | some t => if s.lim.appr ∧ t + s.lowHold ≤ s.now then { s with lim := { s.lim with appr := false, apprBelow := none } } else s
  | none => s

/-- ALERT_N_ASSERT: low for 50 ns (R335). -/
def execAlertNAssert (s : State) : Res :=
  if !s.powered ∨ s.lim.alert then .next s
  else .next (({ s with lim := { s.lim with alert := true } }).enterLowest 1 true)

/-- ALERT_N_DEASSERT: high for 50 ns (R335). -/
def execAlertNDeassert (s : State) : Res :=
  if s.lim.alert then .next { s with lim := { s.lim with alert := false, alertHigh := s.now } } else .next s

/-- LOWEST_STATE_HOLD_END: the causes have stayed clear (R342); in a cascade the exit waits for the master (R343). -/
def execLowestStateHoldEnd (s : State) : Res :=
  let s1 := s.apprClear
  if s1.lim.low = .inForce ∧ s1.lowClear then
    if s1.inCascade then
      let s2 := s1.reportEmerg 0 2
      .next (if s2.lim.exitOk then s2.lowExit else s2)
    else .next s1.lowExit
  else .next s1

/-- FLOOR_ACK_TIMEOUT: 1 ms after a FREQ_FLOOR (R340). -/
def execFloorAckTimeout (s : State) : Res :=
  match s.lim.floorAt with
  | some t =>
    if s.fb LIM_STR_STATUS.FLOOR_PEND ∧ t + 1000000 ≤ s.now then
      .next (((s.raise .FLOOR_TO .none 0 .hardware .notice).bump LIM_CNT.ACK_TO).sendFloor)
    else .next s
  | none => .next s

/-- Step 4 of R342 at a boundary: after the acknowledgement, in a cascade at the step the master names. -/
def State.lowEnd (s : State) : State :=
  let ok := if s.inCascade then match s.lim.endStep with
      | some e => decide (e ≤ s.step.count)
      | none => false
    else true
  if s.lim.low = .acked ∧ ok then
    ((({ s with lim := { s.lim with low := .out, emerg := 0, endStep := none } }).put LIM_STR_STATUS.LOWEST 0 0).condEnds .LOWEST)
  else s

/-! ### Thermal rounds (R329, R330, R332) -/

/-- A temperature in °C as a code of 2^-14 °C. -/
def degC (t : Nat) : Int := ((16384 * t : Nat) : Int)

/-- THR of GAU_TH_CFG as a code. -/
def State.thrT (s : State) : Int := degC (min 150 (s.f GAU_TH_CFG.THR))

/-- The thermal round (R329, R330, R332) with the die maximum and the region maxima of the evaluation. -/
def State.thermalRound (s : State) (die : Int) : State :=
  let thr := s.thrT
  let hys := degC (max 1 (s.f GAU_TH_HYS.THR_HYS))
  let k := 16 * max 1 (s.f LIM_TH_CFG.STEP)
  let l := s.lim.thLevel
  let l1 := min s.thClamp (if thr ≤ die then l + k else if die < thr - hys then l - k else l)
  let s1 := ({ s with lim := { s.lim with thLevel := l1 } }).orderLevel .THERMAL l1
  let s2 := s1.forEach s1.placed fun s n =>
    let hot := match tblGet none s.gauge.rgnT n with
      | some t => decide (thr ≤ t)
      | none => false
    s.put RGN_LIM.TCAP n (if hot then min 65534 (s.cmLanes n * 10 * max 80 (s.f LIM_TH_CFG.ICAP)) else 65535)
  let app := degC (max 100 (s.f LIM_TH_CFG.APPROACH))
  if app ≤ die then
    let s3 := { s2 with lim := { s2.lim with apprBelow := none } }
    if s3.lim.appr then s3 else ({ s3 with lim := { s3.lim with appr := true } }).enterLowest 2 true
  else if s2.lim.appr then
    (if die < app - degC 5 then { s2 with lim := { s2.lim with apprBelow := some (s2.lim.apprBelow.getD s2.now) } }
     else { s2 with lim := { s2.lim with apprBelow := none } }).apprClear
  else s2

/-- THERMAL_CAP_RUN: D_T has been selected in 20 consecutive samples; the next tick sets THERMAL to its clamp (R331). -/
def execThermalCapRun (n : Fin 256) (s : State) : Res :=
  if 20 ≤ (s.rgn n.val).dtRun ∧ !s.lim.thRun.contains n.val then .next { s with lim := { s.lim with thRun := s.lim.thRun ++ [n.val] } }
  else .next s

/-! ### Region shares (R320) and credit moves (R414, R515) -/

/-- C_out, mW (R320). -/
def State.capOut (s : State) : Nat := (s.lim.cap - s.f LIM_MODEL.P_FIX) * s.eff

/-- P_r of every region (R320). -/
def State.shares (s : State) : State :=
  let reg := s.placed.filter (fun n => (s.rgn n).st.regulating)
  let p := fun (n : Nat) => sumN (s.rgn n).pTicks
  let total := sumN (reg.map p)
  let short := decide (((1000 * s.lim.cap : Nat) : Rat) < s.lim.meanPin 100)
  s.forEach s.placed fun s n =>
    if s.relay.credit then s.put RGN_LIM.PSHARE n (min 65534 (tblGet 0 s.led.allow n))
    else if !s.creditCfg ∧ !s.running ∧ short ∧ reg.contains n then
      s.put RGN_LIM.PSHARE n (min 65534 (if total = 0 then s.capOut / reg.length else s.capOut * p n / total))
    else s.put RGN_LIM.PSHARE n 65535

/-- A credit move (R414). -/
def State.creditMove (s : State) (n : Nat) (x : Int) : State :=
  let a : Int := (tblGet 0 s.led.allow n : Nat) + x
  let pool := s.led.pool - x
  if pool < 0 ∨ a < 0 ∨ 65534 < a then s.put LED_CR_ALLOC.RES 0 2
  else ({ s with led := { s.led with pool := pool, allow := tblSet 0 s.led.allow n a.toNat } }).put LED_CR_ALLOC.RES 0 1

/-- A negative pool takes from the allowances, the largest first, until it is 0 (R515). -/
def State.refillPool : Nat → State → State
  | 0, s => s
  | k + 1, s =>
    if 0 ≤ s.led.pool then s else
    match s.led.allow.entries.foldl (fun (best : Option (Nat × Nat)) e => match best with
      | some b => if b.2 < e.2 then some e else best
      | none => some e) none with
    | none => s
    | some e =>
      let x := min e.2 (-s.led.pool).toNat
      State.refillPool k { s with led := { s.led with pool := s.led.pool + x, allow := tblSet 0 s.led.allow e.1 (e.2 - x) } }

/-- The credit ledger's part of a tick. -/
def State.creditTick (s : State) : State :=
  let s1 := ({ s with led := { s.led with moves := [] } }).forEach s.led.moves (fun s x => s.creditMove x.1 x.2)
  State.refillPool s1.led.allow.entries.length s1

/-! ### The tree master's tick (R499 to R501, R504) -/

/-- The own part of the summed report (R499). -/
def State.ownReport (s : State) : RReport :=
  ⟨1, roundNat (s.lim.meanU 100), s.pIdle, s.lim.fin, 1000 * s.lim.cap, 0, s.step.count⟩

/-- A child's part: a silent one counts with its last CAP (R500). -/
def State.childReport (s : State) (p : Nat) : RReport :=
  match (s.port p).report with
  | none => {}
  | some (r, t) => if s.isUp p ∧ s.now ≤ t + 1000000 then r else { r with a1u := r.cap, fin := r.cap, stale := r.n }

/-- Two reports added. -/
def RReport.add (a b : RReport) : RReport :=
  ⟨a.n + b.n, a.a1u + b.a1u, a.pidle + b.pidle, a.fin + b.fin, a.cap + b.cap, a.stale + b.stale, a.step⟩

/-- The report summed over the subtree (R499). -/
def State.sumReport (s : State) : RReport := s.downPorts.foldl (fun acc p => acc.add (s.childReport p)) s.ownReport

/-- The master's tick: the group-budget level, ordered where it changes (R323, R501); a refused order is repeated (R504). -/
def State.masterTick (s : State) : State :=
  if !(s.inCascade && s.isMaster) then s else
  let s1 := if s.relay.nak then
      let level := match s.relay.lastOrder with
        | some b => bf b 6 2
        | none => 0
      ({ s with relay := { s.relay with nak := false } }).sendOrder (s.step.count + 16) level
    else s
  if s.fb RLY_STATUS.ACTING then s1 else
  let t := s1.sumReport
  let b : Rat := ((1000 * s.f RLY_GRP_BUDGET.B : Nat) : Rat)
  let x := if b = 0 then 0 else max (gLaw t.pidle (t.a1u : Rat) b) (gLaw t.pidle (t.fin : Rat) b)
  let was := s1.f RLY_GRP_STATUS.LEVEL
  let s2 := (s1.put RLY_GRP_STATUS.LEVEL 0 x).put RLY_GRP_STATUS.STALE 0 (min 2047 t.stale)
  if x = was then s2 else s2.recordReq 5 0 (s2.step.count + 64) x

/-! ### LIMITS_TICK -/

/-- W of a power in mW, for a figure that saturates at 4,095 W. -/
def wattsOf (p : Rat) : Nat := min 4095 (roundNat (p / 1000))

/-- The figures of the tick (R304 to R307). -/
def State.tickFigures (s : State) : State :=
  let pin := s.tickPin
  let u := s.tickU pin
  let n := s.lim.smpN
  let s1 := { s with lim := { s.lim with
    pin := (pin :: s.lim.pin).take 1000, u := (u :: s.lim.u).take 1000, smpN := 0, pSum := 0, lvlSum := 0, lvlN := 0, fin := s.forecastIn } }
  let s2 := s1.forEach s1.placed (fun s k => s.modRgn k fun r => { r with
    pTicks := ((if n = 0 then 0 else r.pTick * 200 / n) :: r.pTicks).take 100, pTick := 0 })
  let w := wattsOf (pin : Rat)
  (((s2.put LIM_PWR0.P_TICK 0 w).put LIM_PWR0.A1 0 (wattsOf (s2.lim.meanPin 100))).put LIM_PWR1.A10 0 (wattsOf (s2.lim.meanPin 1000))).put
    LIM_PWR1.PEAK 0 (max w (s2.f LIM_PWR1.PEAK))

/-- THERMAL at a tick (R331). -/
def State.tickThermal (s : State) : State :=
  if s.lim.thRun = [] then s else
  let s1 := { s with lim := { s.lim with thLevel := s.thClamp, thRun := s.lim.thRun.filter (fun n => 20 ≤ (s.rgn n).dtRun) } }
  s1.orderLevel .THERMAL s1.lim.thLevel

/-- The tick: figures, cap, POWER level and orders, THERMAL, credit, shares, the master's part. -/
def State.limitsTick (s : State) : State :=
  let s1 := s.tickFigures.setCap
  let x := s1.powerLevel (s1.lim.u.headD 0)
  let s2 := ((s1.reoffer.put LIM_STR_SRC.POWER 0 x).orderLevel .POWER x).tickThermal
  ((s2.creditTick).shares).masterTick

/-- LIMITS_TICK (R304, R318). -/
def execLimitsTick (s : State) : Res := .next (if s.powered then s.limitsTick else s)

/-- LIM_PWR1.CLR_PEAK (R384). -/
def State.clrPeakPower (s : State) : State := s.put LIM_PWR1.PEAK 0 0

/-! ### FREQPT (R248, R337 to R339, R347, R348) -/

/-- A floor acknowledgement that is accepted (R337, R339, R342). -/
def State.floorAcked (s : State) (fp : Nat) : State :=
  let s1 := s.forEach (s.slotsIn (fun t => t.st = .MOVING)) (fun s t => s.endSlot t 10)
  let s2 := s1.put LIM_VT_CFG.CUR 0 fp
  let done := fun (s : State) => { (s.put LIM_STR_STATUS.FLOOR_PEND 0 0) with lim := { s.lim with floorAt := none } }
  match s2.lim.low with
  | .inForce =>
    let s3 := done s2
    let s4 := { s3 with lim := { s3.lim with vtOn := true } }
    s4.forEach s4.allHeats fun s h =>
      if s.tgtOf h = (s.heat h).ref then s else s.modHeat h (fun t => { t with atRun := 0, atTgt := false })
  | .released =>
    if fp = s2.f LIM_VT_CFG.NOM then
      let s3 := done s2
      ({ s3 with lim := { s3.lim with low := .acked } }).reportEmerg 0 3
    else s2
  | _ => done s2

/-- A FREQPT with FLOOR_ACK = 0 is accepted (R347, R348). -/
def State.freqOk (s : State) (fp : Nat) : Bool :=
  let nom := s.f LIM_VT_CFG.NOM
  if s.creditCfg then
    let held : Int := s.led.pool + ((sumN (s.led.allow.entries.map (·.2)) : Nat) : Int)
    (decide (fp ≤ nom) || decide (((1000 * (fp - nom) * s.f LIM_BOOST.W_PT : Nat) : Int) ≤ held)) &&
      (s.lim.low = .out || decide (fp ≤ s.lim.floorFp))
  else fp = nom

/-- A FREQPT notice. -/
def State.freqNotice (s : State) (seq : Nat) (body : BitVec 52) : State :=
  s.takeNotice 10 seq body false false fun s =>
    let fp := bodyField body 51 48
    let tag := bodyField body 46 39
    if bodyBit body 47 then
      if (!s.fb LIM_STR_STATUS.FLOOR_PEND ∧ s.lim.low = .out) ∨ s.lim.floorFp < fp then s.refuse 10 seq body 12 0
      else (s.acceptTag 10 seq tag 0).floorAcked fp
    else if s.freqOk fp then
      (s.acceptTag 10 seq tag 0).put LIM_VT_CFG.CUR 0 (if s.creditCfg ∨ s.lim.low = .out then fp else s.f LIM_VT_CFG.CUR)
    else s.refuse 10 seq body 12 0

/-- FREQPT. -/
def execFreqpt (seq : BitVec 8) (body : BitVec 52) (s : State) : Res := .next (s.freqNotice seq.toNat body)

/-- FREQPT_FLOOR_ACK: a FREQPT with FLOOR_ACK = 1. -/
def execFreqptFloorAck (seq : BitVec 8) (body : BitVec 52) (s : State) : Res := .next (s.freqNotice seq.toNat body)

/-- HEAT_AT_TARGET (R160): transitions complete; an exit from the forced lowest state goes on when every heat is at target (R342). -/
def execHeatAtTarget (h : Fin 256) (s : State) : Res := .next ((s.reachTarget h.val).lowRelease)

end Sys2Proof.Machine
end

