-- ==== Sys2Proof/Machine/Gauge.lean ====
section
/-! DEFINITION. Gauge (08_gauge_and_thermal.md): sequences, triggers, conversions, the result queue, the evaluation of rounds, telemetry. -/

namespace Sys2Proof.Machine

/-- Set an interrupt cause of both ports (R591). -/
def State.setIrq (s : State) (x : Fld) : State := (s.put x 0 1).put x 1 1

/-! ### Modulators -/

/-- A modulator. -/
def State.mod_ (s : State) (k : Nat) : Modulator := tblGet {} s.gauge.mods k

/-- Change a modulator. -/
def State.modMod (s : State) (k : Nat) (f : Modulator → Modulator) : State :=
  { s with gauge := { s.gauge with mods := tblMod {} s.gauge.mods k f } }

/-- A sensor (R358). -/
def State.sensor (s : State) (i : Nat) : Sensor := tblGet {} s.gauge.sensors i

/-- Change a sensor. -/
def State.modSensor (s : State) (i : Nat) (f : Sensor → Sensor) : State :=
  { s with gauge := { s.gauge with sensors := tblMod {} s.gauge.sensors i f } }

/-- The inputs of a housekeeping round (R361). -/
def hkList (cap : Bool) : List Nat := 50 :: (if cap then [52] else []) ++ (List.range 34).map (· + 16)

/-- The regular trigger source (R365): undefined codes act as 0. -/
def State.rsrc (s : State) (k : Nat) : Nat := if 5 < s.f GAU_MOD_CFG.RSRC k then 0 else s.f GAU_MOD_CFG.RSRC k

/-- The urgent trigger source: code 5 acts as 0 too. -/
def State.isrc (s : State) (k : Nat) : Nat := if 4 < s.f GAU_MOD_CFG.ISRC k then 0 else s.f GAU_MOD_CFG.ISRC k

/-- The regular entry in conversion or suspended; a continuous sequence runs whenever the modulator is enabled (R365, code 5). -/
def State.regNow (s : State) (k : Nat) : Option Nat :=
  match (s.mod_ k).reg with
  | some e => some e
  | none => if s.fb GAU_MOD_CFG.EN k ∧ s.rsrc k = 5 then some 0 else none

/-- Input and Q of an entry of GAU_SEQ. -/
def State.seqEntry (s : State) (k e : Nat) : Nat × Bool :=
  let i := 32 * k + e / 2
  if e % 2 = 0 then (s.f GAU_SEQ.IN_E i, s.fb GAU_SEQ.Q_E i) else (s.f GAU_SEQ.IN_O i, s.fb GAU_SEQ.Q_O i)

/-- Input and Q of an entry of GAU_INJ. -/
def State.injEntry (s : State) (k e : Nat) : Nat × Bool :=
  let i := 2 * k + e / 2
  if e % 2 = 0 then (s.f GAU_INJ.IN_E i, s.fb GAU_INJ.Q_E i) else (s.f GAU_INJ.IN_O i, s.fb GAU_INJ.Q_O i)

/-- Gauge works: powered, and no block reset in force (R387). -/
def State.gaugeOn (s : State) : Bool := s.powered && s.blockReset.isNone

/-! ### Triggers (R365 to R369) -/

/-- A regular trigger event (R366, R368). -/
def State.regEvent (s : State) (k : Nat) (noDelay : Bool) : State :=
  let m := s.mod_ k
  if !s.fb GAU_MOD_CFG.EN k then s
  else if (s.regNow k).isSome ∨ m.regDelay.isSome then
    if m.regPend then (s.bump GAU_MOD_STAT.RDROP k).raiseHw .GAUGE_DROP .channel (64 * k)
    else s.modMod k (fun m => { m with regPend := true })
  else if noDelay ∨ s.f GAU_MOD_DLY.RDLY k = 0 then s.modMod k (fun m => { m with reg := some 0 })
  else s.modMod k (fun m => { m with regDelay := some s.now })

/-- An urgent trigger event (R366, R369). -/
def State.injEvent (s : State) (k : Nat) (noDelay : Bool) : State :=
  let m := s.mod_ k
  if !s.fb GAU_MOD_CFG.EN k then s
  else if m.inj.isSome ∨ m.injDelay.isSome then (s.bump GAU_MOD_STAT.IDROP k).raiseHw .GAUGE_DROP .channel (64 * k)
  else if noDelay ∨ s.f GAU_MOD_DLY.IDLY k = 0 then s.modMod k (fun m => { m with inj := some 0 })
  else s.modMod k (fun m => { m with injDelay := some s.now })

/-- A trigger of source `c` reaches every modulator that selects it. -/
def State.fireSource (s : State) (c : Nat) (ok : State → Nat → Bool) : State :=
  if !s.gaugeOn then s else
  s.forEach (List.range 16) fun s k =>
    let s1 := if s.isrc k = c && ok s k then s.injEvent k false else s
    if s1.rsrc k = c && ok s1 k then s1.regEvent k false else s1

/-- The step triggers of a boundary (R365, R367). -/
def State.stepTriggers (s : State) : State :=
  s.fireSource 4 (fun s k => s.step.count % (s.f GAU_MOD_CFG.SDIV k + 1) = 0)

/-- PCAP_IN_EDGE (R309, R365): an edge is timed, and triggers the sequences that select it. -/
def execPcapInEdge (pinHigh : Bool) (t : Nat) (s : State) : Res :=
  if !s.powered ∨ pinHigh = s.lim.pcapHigh then .next s
  else .next (((s.advance t).pcapEdge pinHigh t).fireSource (if pinHigh then 2 else 3) (fun _ _ => true))

/-- REGULAR_TRIGGER: the modulator's timer, where RSRC selects it. -/
def execRegularTrigger (k : Fin 16) (s : State) : Res :=
  .next (if s.gaugeOn ∧ s.rsrc k.val = 1 then s.regEvent k.val false else s)

/-- URGENT_TRIGGER: the modulator's timer, where ISRC selects it. -/
def execUrgentTrigger (k : Fin 16) (s : State) : Res :=
  .next (if s.gaugeOn ∧ s.isrc k.val = 1 then s.injEvent k.val false else s)

/-- TRIGGER_DELAY_END: the delay has run (R366). -/
def execTriggerDelayEnd (k : Fin 16) (urgent : Bool) (s : State) : Res :=
  let m := s.mod_ k.val
  if urgent then match m.injDelay with
    | some t => .next (if t + 10 * s.f GAU_MOD_DLY.IDLY k.val ≤ s.now then s.modMod k.val (fun m => { m with injDelay := none, inj := some 0 }) else s)
    | none => .next s
  else match m.regDelay with
    | some t => .next (if t + 10 * s.f GAU_MOD_DLY.RDLY k.val ≤ s.now then s.modMod k.val (fun m => { m with regDelay := none, reg := some 0 }) else s)
    | none => .next s

/-- GAU_MOD_CFG.EN is cleared: the conversion in progress goes on, everything else stops (R364). `cur` is the regular entry that was in
progress. -/
def State.modStop (s : State) (k : Nat) (cur : Option Nat) : State :=
  s.modMod k fun m =>
    if m.inj.isSome then { m with reg := none, regDelay := none, injDelay := none, regPend := false }
    else if m.hk.isSome then { m with reg := none, regDelay := none, injDelay := none, regPend := false }
    else { m with reg := cur, regDelay := none, injDelay := none, regPend := false }

/-! ### The result queue (R370 to R374) -/

/-- GAU_QSTAT.WM. -/
def State.gaugeWm (s : State) : Bool := decide (s.f GAU_CFG.WM ≤ s.gauge.queue.length)

/-- The interrupt on the setting of WM, `was` being its value before. -/
def State.wmEdge (s : State) (was : Bool) : State := if s.gaugeWm && !was then s.setIrq QB_IRQ_STATUS.GAU_WM else s

/-- A result enters the queue with the time entry it needs, or both are discarded (R372, R373). -/
def State.enqueueResult (s : State) (result tag : Nat) (ovr inj hk : Bool) : State :=
  let g := s.gauge
  let c := s.step.count
  let unsync := decide (s.step.tb = .UNSYNC)
  let timed := !unsync && (g.jumped || match g.lastTime with
    | some t => t / 16 ≠ c / 16
    | none => true)
  let bit := fun (b : Bool) (i : Nat) => if b then 2 ^ i else 0
  let ent := (result % 2 ^ 24) * 2 ^ 39 + (tag % 1024) * 2 ^ 29 + bit ovr 28 + bit inj 27 + bit hk 26 + bit unsync 25 + bit g.lost 24 +
    (c % 16) * 2 ^ 20 + s.fine
  let news : List (BitVec 64) := (if timed then [BitVec.ofNat 64 (2 ^ 63 + c % 2 ^ 48)] else []) ++ [BitVec.ofNat 64 ent]
  let was := s.gaugeWm
  if g.queue.length + news.length ≤ 1024 then
    ({ s with gauge := { g with
      queue := g.queue ++ news, lastTime := if timed then some c else g.lastTime, jumped := g.jumped && !timed, lost := false } }).wmEdge was
  else
    let s1 := (s.put GAU_QSTAT.OVF 0 (satAdd 255 (s.f GAU_QSTAT.OVF) news.length))
    let s2 := { s1 with gauge := { g with lost := true, lastTime := none, ovfSeen := true } }
    if g.ovfSeen then s2 else s2.raiseHw .GAUGE_QOVF .none 0

/-- A read of GAU_QDATA_LO (R374). -/
def State.popResult (s : State) : State :=
  match s.gauge.queue with
  | [] => (s.put GAU_QDATA_LO.DATA 0 0).put GAU_QDATA_HI.DATA 0 0xC0000000
  | e :: rest =>
    let s1 := { s with gauge := { s.gauge with queue := rest, ovfSeen := s.gauge.ovfSeen && !rest.isEmpty } }
    (s1.put GAU_QDATA_LO.DATA 0 (e.toNat % 2 ^ 32)).put GAU_QDATA_HI.DATA 0 (e.toNat / 2 ^ 32)

/-- GAU_CFG.QCLR empties the queue (R372). -/
def State.clearQueue (s : State) : State :=
  { s with gauge := { s.gauge with queue := [], lastTime := none, jumped := false, ovfSeen := false } }

/-! ### Conversions (R356 to R360, R364, R377, R378) -/

/-- A value that the spec states for results not below 0; below 0 a free value (log entry 3). -/
def unsignedOr (top : Nat) (x : Int) : Nat := if 0 ≤ x then min top x.toNat else Config.belowZero x.natAbs % (top + 1)

/-- The temperature code of a result (R358). -/
def State.tempCode (s : State) (sensor : Nat) (r : Int) : Int :=
  ((625 * r * (65536 + tblGet 0 s.gauge.trimG sensor) + 2 ^ 24) / 2 ^ 25) - 4475290 + 64 * tblGet 0 s.gauge.trimO sensor

/-- A temperature code as a register value: 1/128 °C, two's complement of 16 bits. -/
def tempReg (t : Int) : Nat := unsigned 16 (clampI (-32768) 32767 (roundEven ((t : Rat) / 128)))

/-- The sensor of an input of modulator `k`, if it carries one (R352, R358). -/
def sensorOf (k i : Nat) : Option Nat :=
  if 16 ≤ i ∧ i ≤ 47 then some (32 * k + (i - 16)) else if i = 48 ∨ i = 49 then some (512 + 2 * k + (i - 48)) else none

/-- A valid temperature lies from −40 °C to +150 °C (R378). -/
def validTemp (t : Int) : Bool := decide (-40 * 16384 ≤ t ∧ t ≤ 150 * 16384)

/-- A result becomes the latest of its channel and acts on what follows it at once; an over-range result is no reading. -/
def State.takeResult (s : State) (k i : Nat) (r : Int) (ovr hk : Bool) : State :=
  if ovr then s else
  let s1 := { s with gauge := { s.gauge with latest := tblSet none s.gauge.latest (64 * k + i) (some r) } }
  match sensorOf k i with
  | some q =>
    let t := s.tempCode q r
    if validTemp t then
      let s2 := s1.modSensor q (fun x => { x with val := some t, got := x.got || hk })
      if q < 512 ∧ s.isPlaced (q / 2) then s2.put (if q % 2 = 0 then RGN_GAU_T.T0 else RGN_GAU_T.T1) (q / 2) (tempReg t) else s2
    else s1
  | none =>
    if i < 16 then
      let n := 16 * k + i
      if !s.isPlaced n then s1 else
      let v := unsignedOr 65535 (roundEven (((r * 15625 : Int) : Rat) / 2097152))
      let d := s.domOf n
      let s2 := (s1.put RGN_GAU_V.V n v).put RGN_GAU_V.V_MIN n (min v (s1.f RGN_GAU_V.V_MIN n))
      if s2.boot.pause.isSome then s2 else s2.put DOM_TEL_V.V_MIN d (min v (s2.f DOM_TEL_V.V_MIN d))
    else if k = 0 ∧ i = 52 then { s1 with gauge := { s1.gauge with anaAt := s.now }, lim := { s1.lim with anaStale := false } }
    else s1

/-- The queued form of a result (R371). -/
def State.resultField (s : State) (k i : Nat) (r : Int) (ovr : Bool) : Nat :=
  match sensorOf k i with
  | some q => unsigned 24 (if ovr then r else s.tempCode q r)
  | none => unsigned 24 r

/-- A disabled modulator stops its sequences at the end of a conversion (R364). -/
def State.stopIfOff (s : State) (k : Nat) : State :=
  if s.fb GAU_MOD_CFG.EN k then s
  else s.modMod k (fun m => { m with reg := none, inj := none, regDelay := none, injDelay := none, regPend := false })

/-- A conversion ends: its result, and the next entry of its work (R360, R364, R368). -/
def State.conversion (s : State) (k : Nat) (r : Int) (ovr : Bool) : State :=
  let m := s.mod_ k
  let take := fun (s : State) (i : Nat) (q inj hk : Bool) =>
    let s1 := s.takeResult k i r ovr hk
    if q then s1.enqueueResult (s1.resultField k i r ovr) (64 * k + i) ovr inj hk else s1
  match m.inj, m.hk, s.regNow k with
  | some e, _, _ =>
    let x := s.injEntry k e
    ((take s x.1 x.2 true false).modMod k (fun m => { m with inj := if e < s.f GAU_MOD_CFG.ILEN k then some (e + 1) else none })).stopIfOff k
  | none, some e, _ =>
    let l := hkList m.hkCap
    let last := decide (l.length ≤ e + 1)
    let s1 := ((take s (l.getD e 50) (s.fb GAU_CFG.HKQ) false true).modMod k (fun m => { m with hk := if last then none else some (e + 1) })).stopIfOff k
    if last ∧ (List.range 16).all (fun j => (s1.mod_ j).hk.isNone) then { s1 with gauge := { s1.gauge with roundDone := true } } else s1
  | none, none, some e =>
    let x := s.seqEntry k e
    ((take s x.1 x.2 false false).modMod k fun m =>
      if e < s.f GAU_MOD_CFG.RLEN k then { m with reg := some (e + 1) }
      else if m.regPend then { m with reg := some 0, regPend := false }
      else { m with reg := none }).stopIfOff k
  | none, none, none => s

/-- CONVERSION_DONE. -/
def execConversionDone (k : Fin 16) (r : Int) (ovr : Bool) (t : Nat) (s : State) : Res :=
  checked (rawOk r) "raw result" (.next (if s.gaugeOn then (s.advance t).conversion k.val r ovr else s))

/-- HOUSEKEEPING_TICK (R361 to R363). -/
def execHousekeepingTick (s : State) : Res :=
  if !s.gaugeOn then .next s
  else if (List.range 16).any (fun k => (s.mod_ k).hk.isSome) then
    .next ((s.bump GAU_STATUS.HK_OVR).raiseHw .HK_OVERRUN .none 0)
  else .next (s.forEach (List.range 16) fun s k => s.modMod k (fun m => { m with hk := some 0, hkCap := k = 0 && s.f LIM_CFG.CAPSRC = 1 }))

/-! ### The evaluation of a round (R375 to R382, R385) -/

/-- The input rail (R375, R376). -/
def State.evalVin (s : State) : State :=
  let rs := (List.range 16).filterMap (fun k => tblGet none s.gauge.latest (64 * k + 50))
  let s1 := if rs = [] then s else
    s.put GAU_VIN.VIN 0 (unsignedOr 65535 (roundEven (meanR (rs.map fun (r : Int) => ((r * 25000 : Int) : Rat) / 8388608))))
  let v := s1.f GAU_VIN.VIN
  if v < 16000 ∨ 20000 < v then
    let s2 := { s1 with gauge := { s1.gauge with vinRun := s1.gauge.vinRun + 1 } }
    if s2.gauge.vinRun = 3 then (s2.put GAU_STATUS.VIN_BAD 0 1).raiseHw .INPUT_RAIL .none 0 else s2
  else clearRun (if 0 < s1.gauge.vinRun then s1.condEnds .INPUT_RAIL else s1)
where
  /-- The run of evaluations out of range ends. -/
  clearRun (s : State) : State := { s with gauge := { s.gauge with vinRun := 0 } }

/-- The sensors that exist and are used: those of placed regions, and the enabled other diodes (R354). -/
def State.usedSensors (s : State) : List Nat :=
  s.placed.flatMap (fun n => [2 * n, 2 * n + 1]) ++ ((List.range 32).filter (fun o => (s.reg .GAU_OTH_EN).getLsbD o)).map (· + 512)

/-- The channel of a sensor for capture (R446). -/
def sensorChan (q : Nat) : Nat := if q < 512 then 64 * (q / 32) + 16 + q % 32 else 1024 + (q - 512)

/-- One sensor's round (R378). -/
def State.evalSensor (s : State) (q : Nat) : State :=
  let x := s.sensor q
  if x.got then s.modSensor q (fun x => { x with
    got := false, badRun := 0, goodRun := min 16 (x.goodRun + 1), bad := x.bad && decide (x.goodRun + 1 < 16) })
  else
    let turns := decide (3 ≤ x.badRun + 1) && !x.bad
    let s1 := s.modSensor q (fun x => { x with goodRun := 0, badRun := min 3 (x.badRun + 1), bad := x.bad || turns })
    if turns then s1.raiseHw .SENSOR_BAD .channel (sensorChan q) else s1

/-- Every used sensor; the source's condition ends with the last bad one (R426). -/
def State.evalSensors (s : State) : State :=
  let us := s.usedSensors
  let was := us.any (fun q => (s.sensor q).bad)
  let s1 := s.forEach us State.evalSensor
  if was ∧ !us.any (fun q => (s1.sensor q).bad) then s1.condEnds .SENSOR_BAD else s1

/-- The value of a good sensor. -/
def State.goodVal (s : State) (q : Nat) : Option Int := if (s.sensor q).bad then none else (s.sensor q).val

/-- The higher of two values that may be absent. -/
def maxO : Option Int → Option Int → Option Int
  | some a, some b => some (max a b)
  | some a, none => some a
  | none, b => b

/-- The greatest of a list of values that may be absent. -/
def maxList (l : List (Option Int)) : Option Int := l.foldl maxO none

/-- The region has a good sensor (R379). -/
def State.hasGood (s : State) (n : Nat) : Bool := !(s.sensor (2 * n)).bad || !(s.sensor (2 * n + 1)).bad

/-- A region's maximum from its own good sensors. -/
def State.ownMax (s : State) (n : Nat) : Option Int := maxO (s.goodVal (2 * n)) (s.goodVal (2 * n + 1))

/-- NBR_MARGIN as a code. -/
def State.nbrMargin (s : State) : Int := degC (s.f GAU_TH_HYS.NBR_MARGIN)

/-- A region's maximum by its own sensors or its neighbours' (R379). -/
def State.nearMax (s : State) (n : Nat) : Option Int :=
  if s.hasGood n then s.ownMax n
  else (maxList (((gatesOf n).filter (fun x => s.isPlaced x.2 && s.hasGood x.2)).map (fun x => s.ownMax x.2))).map (· + s.nbrMargin)

/-- The maximum of one die (R380): sensor position `a` of every region, other diodes `16 a` to `16 a + 15`; the regions whose maximum
falls back on the die maximum itself take no part. -/
def State.dieMaxOf (s : State) (a : Nat) : Option Int :=
  maxO (maxList (s.placed.map (fun n => if s.hasGood n then s.goodVal (2 * n + a) else s.nearMax n)))
    (maxList ((List.range 16).map fun o =>
      if (s.reg .GAU_OTH_EN).getLsbD (16 * a + o) then s.goodVal (512 + 16 * a + o) else none))

/-- The used sensor with the highest value (10, source table: the channel of the hottest sensor). -/
def State.hottest (s : State) : Nat :=
  ((s.usedSensors.foldl (fun (best : Option (Nat × Int)) q => match s.goodVal q, best with
    | some v, some b => if b.2 < v then some (q, v) else best
    | some v, none => some (q, v)
    | none, _ => best) none).map (fun x => sensorChan x.1)).getD 0

/-- A flag of GAU_TSTAT (R381): set at its threshold, cleared below it less the hysteresis, else as it was; the second part: it has now
been set. -/
def State.flagEval (s : State) (x : Fld) (die thr hys : Int) : State × Bool :=
  let was := s.fb x
  if thr ≤ die then (s.put x 0 1, !was) else if die < thr - hys then (s.put x 0 0, false) else (s, false)

/-- The region maxima and their registers (R379). -/
def State.evalRegions (s : State) (die : Option Int) : State :=
  let vals := s.placed.map fun n => (n, if s.hasGood n then s.ownMax n else match s.nearMax n with
    | some t => some t
    | none => die.map (· + s.nbrMargin))
  let s1 := { s with gauge := { s.gauge with rgnT := vals.foldl (fun (t : Tbl (Option Int)) (x : Nat × Option Int) => tblSet none t x.1 x.2) tblEmpty } }
  s1.forEach vals fun s x =>
    let n := x.1
    let b := fun (c : Bool) => if c then 1 else 0
    let s2 := ((s.put RGN_GAU_TM.S0_BAD n (b (s.sensor (2 * n)).bad)).put RGN_GAU_TM.S1_BAD n (b (s.sensor (2 * n + 1)).bad)).put
      RGN_GAU_TM.SUBST n (b (!s.hasGood n))
    match x.2 with
    | some t => (s2.put RGN_GAU_TM.TMAX n (tempReg t)).put RGN_GAU_TM.THROT n (b (s.thrT ≤ t))
    | none => s2

/-- The flags, the held peak and the NVM window for a die maximum (R381, R384, R385). -/
def State.evalFlags (s : State) (die : Int) : State :=
  let hot := s.hottest
  let w := s.flagEval GAU_TSTAT.WARN die (degC (min 150 (s.f GAU_TH_CFG.WARN))) (degC (max 1 (s.f GAU_TH_HYS.WARN_HYS)))
  let s1 := if w.2 then w.1.raiseHw .THERM_WARN .channel hot else w.1
  let s2 := if s.fb GAU_TSTAT.WARN ∧ !s1.fb GAU_TSTAT.WARN then s1.condEnds .THERM_WARN else s1
  let t := s2.flagEval GAU_TSTAT.THROT die s.thrT (degC (max 1 (s.f GAU_TH_HYS.THR_HYS)))
  let u := t.1.flagEval GAU_TSTAT.SHUT die (degC (min 150 (s.f GAU_TH_CFG.SD))) (degC (max 1 (s.f GAU_TH_HYS.SD_HYS)))
  let s3 := if u.2 then u.1.raiseHw .THERM_SHUT .channel hot else u.1
  let s4 := if s.fb GAU_TSTAT.SHUT ∧ !s3.fb GAU_TSTAT.SHUT then s3.condEnds .THERM_SHUT else s3
  let v := tempReg die
  let p := s4.f GAU_TSTAT.PEAK
  let s5 := if p = 0x8000 ∨ signed 16 p < signed 16 v then s4.put GAU_TSTAT.PEAK 0 v else s4
  if die < 0 ∨ degC 100 < die then s5.put GAU_TSTAT.NVM_OK 0 0
  else if degC 2 ≤ die ∧ die ≤ degC 98 then s5.put GAU_TSTAT.NVM_OK 0 1 else s5

/-- ROUND_EVALUATION: every modulator has ended its round (R382). -/
def State.roundEval (s : State) : State :=
  let s1 := ({ s with gauge := { s.gauge with roundDone := false } }).evalVin.evalSensors
  let c := s1.dieMaxOf 0
  let l := s1.dieMaxOf 1
  let die := maxO c l
  let put := fun (s : State) (x : Fld) (t : Option Int) => match t with
    | some v => s.put x 0 (tempReg v)
    | none => s
  let s2 := ((put (put (s1.evalRegions die) GAU_TMAX.CACHE c) GAU_TMAX.LOGIC l).put GAU_STATUS.EVAL 0 1)
  match die with
  | some d => (({ s2 with gauge := { s2.gauge with dieT := some d } }).evalFlags d).thermalRound d
  | none => s2

/-- ROUND_EVALUATION. -/
def execRoundEvaluation (s : State) : Res := .next (if s.gauge.roundDone then s.roundEval else s)

/-! ### Telemetry (R383, R384) -/

/-- A sample's part of the telemetry of a domain: sums over the running ms, and the held peaks over 20 samples; frozen in the ACTIVATE
pause (R544). -/
def State.telSample (s : State) (d : Nat) : State :=
  let ns := s.domRgns d
  let i := sumN (ns.map s.delivered)
  let p := sumN ((ns.filter (fun n => (s.rgn n).st.regulating)).map (fun n => s.f RGN_GAU_V.V n * s.delivered n))
  let li := (i :: tblGet [] s.gauge.lastI d).take 20
  let lp := (p :: tblGet [] s.gauge.lastP d).take 20
  let g := s.gauge
  let s1 := { s with gauge := { g with
    telI := tblSet 0 g.telI d (tblGet 0 g.telI d + i), telP := tblSet 0 g.telP d (tblGet 0 g.telP d + p)
    lastI := tblSet [] g.lastI d li, lastP := tblSet [] g.lastP d lp } }
  if li.length < 20 ∨ s.boot.pause.isSome then s1 else
  let s2 := s1.put DOM_TEL_I.I_PEAK d (max (s1.f DOM_TEL_I.I_PEAK d) (min 65535 (roundNat (((sumN li : Nat) : Rat) / 2000))))
  s2.put DOM_TEL_P.P_PEAK d (max (s2.f DOM_TEL_P.P_PEAK d) (min 65535 (roundNat (((sumN lp : Nat) : Rat) / 100000000))))

/-- A sample's part of the telemetry. -/
def State.telemetrySample (s : State) : State :=
  let s1 := s.forEach [0, 1, 2, 3] State.telSample
  { s1 with gauge := { s1.gauge with telN := s1.gauge.telN + 1 } }

/-- The mean remote voltage of a domain, 20 µV; with no regulating region the spec states no mean (log entry 3). -/
def State.vMean (s : State) (d : Nat) : Nat :=
  let ns := (s.domRgns d).filter (fun n => (s.rgn n).st.regulating)
  if ns = [] then Config.meanOfNone d s.now % 65536 else roundNat (((sumN (ns.map (fun n => s.f RGN_GAU_V.V n)) : Nat) : Rat) / (ns.length : Rat))

/-- TELEMETRY_UPDATE: over the samples of the preceding ms. -/
def execTelemetryUpdate (s : State) : Res :=
  let n := s.gauge.telN
  if n = 0 then .next s else
  let s1 := if s.boot.pause.isSome then s else s.forEach [0, 1, 2, 3] fun s d =>
    ((s.put DOM_TEL_I.I_MEAN d (min 65535 (roundNat (((tblGet 0 s.gauge.telI d : Nat) : Rat) / ((100 * n : Nat) : Rat))))).put DOM_TEL_P.P_MEAN d
      (min 65535 (roundNat (((tblGet 0 s.gauge.telP d : Nat) : Rat) / ((5000000 * n : Nat) : Rat))))).put DOM_TEL_V.V_MEAN d (s.vMean d)
  .next { s1 with gauge := { s1.gauge with telN := 0, telI := tblEmpty, telP := tblEmpty } }

/-- DOM_TEL_CTRL.CLR (R384). -/
def State.clearTel (s : State) (d : Nat) : State :=
  let s1 := ((s.put DOM_TEL_I.I_PEAK d 0).put DOM_TEL_P.P_PEAK d 0).put DOM_TEL_V.V_MIN d 0xFFFF
  s1.forEach (s1.domRgns d) (fun s n => s.put RGN_GAU_V.V_MIN n 0xFFFF)

/-- GAU_TSTAT.CLR_PEAK (R384). -/
def State.clearTempPeak (s : State) : State := s.put GAU_TSTAT.PEAK 0 0x8000

/-! ### Block reset (R387) -/

/-- The state of conversions and queue after a block reset; the registers are R652's. -/
def State.gaugeReset (s : State) : State :=
  { s with gauge := { s.gauge with
      mods := tblEmpty, roundDone := false, queue := [], lastTime := none, jumped := false, lost := false, ovfSeen := false } }

end Sys2Proof.Machine
end

