-- ==== Sys2Proof/Machine/Ledger.lean ====
section
/-! DEFINITION. The Ledger (09_ledger_and_isolation.md): metering, accounts and snapshots, contexts, the tenant view, the scrub, the
credit log. -/

namespace Sys2Proof.Machine

/-! ### Accounts and metering (R388 to R394) -/

/-- Units of 0.25 fJ in 1 µJ (R388). -/
def uj : Nat := 4000000000

/-- A_c, in units of 0.25 fJ. -/
def State.attr (s : State) (c : Nat) : Nat := tblGet 0 s.led.attr c

/-- S_c, in units of 0.25 fJ. -/
def State.spec (s : State) (c : Nat) : Nat := tblGet 0 s.led.spec c

/-- The state of a context slot. -/
def State.ctxSt (s : State) (c : Nat) : CtxState := tblGet .FREE s.led.ctx c

/-- The RUNNING context (09, Contexts). -/
def State.runCtx (s : State) : Option Nat := (s.led.ctx.entries.find? (fun e => e.2 = .RUNNING)).map (·.1)

/-- The context to which a sample is charged; none sends the whole to U (R391). -/
def State.chargeTo (s : State) : Option Nat := if s.blockReset.isSome ∨ s.led.scrub.isSome then none else s.runCtx

/-- The sum of a table of accounts. -/
def sumTbl (t : Tbl Nat) : Nat := sumN (t.entries.map (·.2))

/-- Charge the energy of a region sample: `ref` and the unconfirmed lift `u` in units, current in mA (R388, R391). -/
def Ledger.charge (l : Ledger) (c : Option Nat) (ref u i : Nat) : Ledger :=
  let v := min u ref
  match c with
  | none => { l with m := l.m + ref * i, u := l.u + ref * i }
  | some c => { l with m := l.m + ref * i, attr := tblMod 0 l.attr c (· + (ref - v) * i), spec := tblMod 0 l.spec c (· + v * i) }

/-- Meter every region in a region sample (R389, R391, R392). -/
def State.meter (s : State) : State :=
  let c := s.chargeTo
  s.forEach s.placed fun s n =>
    let h := s.heatIx n
    { s with led := s.led.charge c (s.heat h).ref (s.unconfLift h) (s.delivered n) }

/-! ### Snapshots (R395) -/

/-- LED_SNAP.SNAP is written; ignored while BUSY. -/
def State.snap (s : State) (sel : Nat) : State :=
  if s.led.snapBusy then s
  else (({ s with led := { s.led with snapBusy := true } }).put LED_SNAP.VALID 0 0).put LED_SNAP.SEL 0 sel

/-- The snapshot entries, 0 to 7. -/
def State.snapEntries (s : State) : List Nat :=
  let l := s.led
  let c := s.f LED_SNAP.SEL
  [l.m, l.u, l.ra, l.rs, sumTbl l.attr, sumTbl l.spec, s.attr c, s.spec c]

/-- SNAPSHOT_DONE: the entries are copied from one sample boundary. -/
def execSnapshotDone (s : State) : Res :=
  if !s.led.snapBusy then .next s else
  let s1 := s.forEach ((List.range 8).zip s.snapEntries) fun s x =>
    ((s.put LED_SN_LO.COUNT_LO x.1 (x.2 / uj)).put LED_SN_HI.COUNT_HI x.1 (x.2 / uj / 2 ^ 32)).put LED_SN_REM.REM x.1 (x.2 % uj)
  .next (({ s1 with led := { s1.led with snapBusy := false } }).put LED_SNAP.VALID 0 1)

/-! ### Contexts (R396 to R399) -/

/-- Set a slot's state. -/
def State.setCtx (s : State) (c : Nat) (x : CtxState) : State := { s with led := { s.led with ctx := tblSet .FREE s.led.ctx c x } }

/-- Release: the accounts move to RA and RS, the slot is FREE (R399). -/
def State.releaseCtx (s : State) (c : Nat) : State :=
  ({ s with led := { s.led with
    ra := s.led.ra + s.attr c, rs := s.led.rs + s.spec c, attr := tblSet 0 s.led.attr c 0, spec := tblSet 0 s.led.spec c 0 } }).setCtx c .FREE

/-- LED_CTX.REL is written (R399). -/
def State.releaseWrite (s : State) (c : Nat) : State := if s.ctxSt c = .CLOSED then s.releaseCtx c else s

/-- A switch of KIND 0 executes (R396). -/
def State.switchCtx (s : State) (c : Nat) : State :=
  let s0 := match s.runCtx with
    | some r => if r = c then s else s.setCtx r .OPEN
    | none => s
  match s0.ctxSt c with
  | .RUNNING => s0
  | .CLOSED => ((s0.releaseCtx c).put LED_STATUS.AUTO_REL 0 1).setCtx c .RUNNING
  | _ => s0.setCtx c .RUNNING

/-- E of the tenant view: A_c in whole 10 mJ (R401). -/
def State.tenantE (s : State) (c : Nat) : Nat := s.attr c / uj / 10000

/-- A context closes: its record, its tenant view (R397, R398, R402). -/
def State.closeCtx (s : State) (c end_ : Nat) : State :=
  let r : CloseRec := ⟨c, end_, s.step.count, s.attr c / uj, s.spec c / uj⟩
  let s1 := if s.led.recs.length < 16 then { s with led := { s.led with recs := s.led.recs ++ [r] } } else s.bump LED_REC_CTRL.OVF
  let e := s.tenantE c
  ({ s1 with led := { s1.led with tv := tblMod {} s1.led.tv c (fun v => { v with e := e, st := 3 }) } }).setCtx c .CLOSED

/-- A close of KIND 2 executes (R397). -/
def State.ctxClose (s : State) (c : Nat) : State :=
  match s.ctxSt c with
  | .OPEN | .RUNNING => s.closeCtx c 0
  | _ => s.put LED_STATUS.CTX_ERR 0 1

/-- LED_REC_CTRL.POP (R398). -/
def State.popRecord (s : State) : State :=
  let load := fun (s : State) (r : CloseRec) => ((((((s.put LED_REC0.CTX 0 r.ctx).put LED_REC0.END 0 r.by_).put LED_REC0.STEP_HI 0
    (r.step / 2 ^ 32)).put LED_REC1.STEP_LO 0 r.step).put LED_REC2.ATTR_LO 0 r.attr).put LED_REC3.ATTR_HI 0 (r.attr / 2 ^ 32) |>.put
    LED_REC4.SPEC_LO 0 r.spec).put LED_REC5.SPEC_HI 0 (r.spec / 2 ^ 32)
  match s.led.recs with
  | [] => (load s ⟨0, 0, 0, 0, 0⟩).put LED_REC_CTRL.LOADED 0 0
  | r :: rest => (load { s with led := { s.led with recs := rest } } r).put LED_REC_CTRL.LOADED 0 1

/-! ### The tenant view (R401, R402, R418) -/

/-- Both words of a pair. -/
def TView.words (v : TView) : Word × Word :=
  let hi : Word := BitVec.ofNat 32 (v.e / 2 ^ 32 % 65536)
  (BitVec.ofNat 32 v.e, Word.withField (Word.withField hi 18 16 v.st) 31 24 v.seq)

/-- A read of LED_TV_LO captures the pair (R418); the answer is its lower word. -/
def State.readTenant (s : State) (c : Nat) : State × Word :=
  let w := (tblGet {} s.led.tv c).words
  ({ s with led := { s.led with tvCap := tblSet 0 s.led.tvCap c w.2.toNat } }, w.1)

/-- TENANT_VIEW_REFRESH: every 100 ms of the local clock; frozen during an ACTIVATE pause (R544); in a scrub only SEQ moves (R402). -/
def execTenantViewRefresh (s : State) : Res :=
  if !s.powered ∨ s.boot.pause.isSome then .next s else
  .next { s with led := { s.led with tv := (List.range 64).foldl (fun (t : Tbl TView) c => tblMod {} t c (fun v =>
    let w : TView := { v with seq := (v.seq + 1) % 256 }
    if s.led.scrub.isSome then w else { w with e := s.tenantE c, st := (s.ctxSt c).code })) s.led.tv } }

/-! ### The scrub (R405 to R411) -/

/-- The writes of R406: bins, period origin and LEN, the Photo-finish buffer, the learned-profiles partition marked empty. -/
def State.scrubClear (s : State) : State :=
  { s with
    pacer := { s.pacer with bins := tblEmpty, t0 := 0, len := 0 }
    pf := { s.pf with recs := tblEmpty, post := none }
    nvm := { s.nvm with learnEmpty := true, learnA := none, learnB := none } }

/-- Pacer's part of R405: what was processed before the notice at place `ord` is deleted; a BARRIER without its first ack is answered
NACK with REFUSED_STATE; unconfirmed lifts are withdrawn. -/
def State.scrubPacer (s : State) (ord : Nat) : State :=
  let gone := s.pacer.barriers.filter (fun b => b.ord ≤ ord)
  let s1 := s.forEach (gone.filter (·.checking)) fun s b =>
    (s.modSlot b.tag (fun t => { t with st := .REFUSED, status := 12 })).ackNack b.seq 3 b.tag 12 0
  let s2 := s1.clearPacer ord
  s2.dropLifts (s2.pacer.lifts.map fun (l : Lift) =>
    if l.unconfirmed then { l with just := l.just.filter (fun x => !(gone.any (fun b => b.id = x.1))) } else l)

/-- A KIND 1 switch executes: the scrub starts (R402, R405, R406). -/
def State.startScrub (s : State) (c ord : Nat) : State :=
  let s1 := s.forEach (List.range 64) fun s k => if s.ctxSt k = .OPEN ∨ s.ctxSt k = .RUNNING then s.closeCtx k 1 else s
  let s2 := s1.forEach (List.range 64) State.releaseWrite
  let s3 := ((s2.scrubPacer ord).put PF_CTRL.ARM 0 0).scrubClear
  let tv := (List.range 64).foldl (fun (t : Tbl TView) k => tblMod {} t k (fun v => { v with st := 4, e := if k = c then 0 else v.e })) s3.led.tv
  (({ s3 with led := { s3.led with tv := tv, scrub := some ⟨c, s.now, 2, false⟩ } }).put LED_SCRUB.CTX 0 c).put LED_SCRUB.PHASE 0 2

/-- A due context switch or close; in a scrub it waits (R409). -/
def State.ctxAction (s : State) (a : Action) : State :=
  if s.led.scrub.isSome then { s with led := { s.led with waiting := s.led.waiting ++ [a] } } else
  match a with
  | .ctxSwitch c false _ => s.switchCtx c
  | .ctxSwitch c true ord => s.startScrub c ord
  | .ctxClose c => s.ctxClose c
  | _ => s

/-- The context of an ended scrub runs; what waited executes (R407, R409). -/
def State.finishScrub (s : State) : State :=
  match s.led.scrub with
  | some x =>
    if x.phase ≠ 3 then s else
    let s1 := ({ s with led := { s.led with scrub := none, waiting := [] } }).switchCtx x.ctx
    let s2 := ((s1.put LED_SCRUB.PHASE 0 0).put LED_SCRUB.DONE_EVT 0 1).setIrq QB_IRQ_STATUS.SCRUB_DONE
    s2.forEach s.led.waiting State.ctxAction
  | none => s

/-- SCRUB_END: the read-back has passed; words that it found wrong twice raise INIT_FAIL (R407, R457). -/
def execScrubEnd (bad : List (Nat × Nat)) (s : State) : Res :=
  match s.led.scrub with
  | none => .next s
  | some x =>
    if x.phase ≠ 2 ∨ s.blockReset.isSome then .next s else
    let s1 := ({ s with badWords := s.badWords ++ bad }).forEach bad fun s w => s.raise .INIT_FAIL .table (w.1 * 2 ^ 24 + w.2) .hardware .table
    let s2 := (({ s1 with led := { s1.led with scrub := some { x with phase := 3 } } }).put LED_SCRUB.PHASE 0 3).put LED_SCRUB.TIME 0
      (min 4095 ((s.now - x.start) / 1000))
    if s2.running then .next s2
    else
      let s3 := s2.finishScrub
      .next (if s3.led.scrub.isSome then s3 else s3.applyDue s3.step.count)

/-- SCRUB_OVERRUN: 2 ms after the start (R408). -/
def execScrubOverrun (s : State) : Res :=
  match s.led.scrub with
  | none => .next s
  | some x =>
    if x.phase = 3 ∨ x.overran ∨ s.now < x.start + 2000000 then .next s
    else .next (({ s with led := { s.led with scrub := some { x with overran := true } } }).put LED_SCRUB.OVERRUN 0 1 |>.raise .SCRUB_OVERRUN .none 0
      .marshal .table)

/-! ### Credit (R412 to R417) -/

/-- LED_CR_ALLOC.GO (R414); step mode refuses it. -/
def State.creditAlloc (s : State) (n : Nat) (x : Int) : State :=
  let s1 := (s.put LED_CR_ALLOC.REGION 0 n).put LED_CR_ALLOC.AMOUNT 0 (unsigned 17 x)
  if s.relay.credit then { s1 with led := { s1.led with moves := s1.led.moves ++ [(n, x)] } } else s1.put LED_CR_ALLOC.RES 0 2

/-- The entry to credit mode (R412). -/
def State.enterCredit (s : State) : State :=
  if s.relay.credit then s
  else { s with relay := { s.relay with credit := true }, led := { s.led with pool := (s.f LED_CR_GRANT.GRANT : Nat) } }

/-- A log entry's transfer is open: prepared, and neither committed nor aborted (LED_CR_LOG.OPEN). -/
def CrEntry.open_ (e : CrEntry) : Bool := e.phase = .prepared

/-- Drop the oldest entry whose transfer is closed. -/
def dropOldest : List CrEntry → List CrEntry
  | [] => []
  | e :: t => if e.closed then t else e :: dropOldest t

/-- The log has room for a new transfer (R416). -/
def Ledger.logRoom (l : Ledger) : Bool := decide (l.log.length < 256) || l.log.any (·.closed)

/-- A transfer enters the log (R416). -/
def Ledger.logNew (l : Ledger) (e : CrEntry) : Ledger :=
  { l with log := (if l.log.length < 256 then l.log else dropOldest l.log) ++ [e] }

/-- The log entry of a transfer. -/
def State.crEntry (s : State) (tid : Nat) (lend : Bool) : Option CrEntry := s.led.log.find? (fun e => e.tid = tid ∧ e.lend = lend)

/-- Change the log entry of a transfer. -/
def State.modEntry (s : State) (tid : Nat) (lend : Bool) (f : CrEntry → CrEntry) : State :=
  { s with led := { s.led with log := s.led.log.map (fun e => if e.tid = tid ∧ e.lend = lend then f e else e) } }

/-- A phase of a transfer takes effect after it is logged (R415). -/
def State.crPhase (s : State) (e : CrEntry) (ph : CrPhase) (closed : Bool) : State :=
  let s1 := s.modEntry e.tid e.lend (fun x => { x with phase := ph, step := s.step.count, closed := closed })
  let l := s1.led
  match ph, e.lend with
  | .committed, true => { s1 with led := { l with escOut := l.escOut - e.x, net := l.net - e.x } }
  | .committed, false => { s1 with led := { l with escIn := l.escIn - e.x, pool := l.pool + e.x, net := l.net + e.x } }
  | .aborted, true => { s1 with led := { l with escOut := l.escOut - e.x, pool := l.pool + e.x } }
  | .aborted, false => { s1 with led := { l with escIn := l.escIn - e.x } }
  | .prepared, _ => s1

/-- A transfer is prepared (R415, R416). -/
def State.crPrepare (s : State) (e : CrEntry) : State :=
  let l := s.led.logNew e
  if e.lend then { s with led := { l with pool := l.pool - e.x, escOut := l.escOut + e.x } }
  else { s with led := { l with escIn := l.escIn + e.x } }

end Sys2Proof.Machine
end

