-- ==== Sys2Proof/Machine/Reset.lean ====
section
/-! DEFINITION. Block reset (R30 to R32, R652): what it clears, its release, the resets that clear nothing. -/

namespace Sys2Proof.Machine

/-- Return every element of the listed registers to its reset value. -/
def State.resetRegs (s : State) (l : List Reg) : State :=
  { s with regs := ⟨s.regs.entries.filter fun e => match Reg.ofOffset e.1 with
    | some (r, _) => !l.contains r
    | none => true⟩ }

/-- The registers that a block reset returns to their reset values as a whole (R652). -/
def blockResetRegs : List Reg :=
  [.QB_MBX_DATA, .QB_MBX_CTRL, .QB_MBX_STATUS, .GAU_CFG, .GAU_MOD_CFG, .GAU_MOD_TIM, .GAU_MOD_DLY, .GAU_MOD_STAT, .GAU_SEQ, .GAU_INJ,
   .GAU_QDATA_LO, .GAU_QDATA_HI]

/-- The fields that R652 names of other registers, with their elements; those that only show a state are not held as register fields. -/
def blockResetFields : List (Fld × List Nat) :=
  [(QB_SEM.OWNER, List.range 16), (QB_SEM.TAG, List.range 16), (BOOT_UPD_STATUS.RES, [0]), (BOOT_UPD_STATUS.KIND, [0]),
   (BOOT_UPD_STATUS.NEXT, [0]), (PF_CTRL.ARM, [0]), (TST_STATUS.RIGHTS, [0]), (TST_STATUS.LIFE_LEFT, [0])]

/-- The register fields return to their reset values (R652). -/
def State.resetFields (s : State) : State :=
  (s.resetRegs blockResetRegs).forEach blockResetFields (fun s x => s.forEach x.2 (fun s i => s.rst x.1 i))

/-- A running lane self-test is aborted (R608). -/
def State.abortSelfTest (s : State) : State :=
  if s.test.lst.isSome then ({ s with test := { s.test with lst := none } }).put TST_LST_RES.STATUS 0 5 else s

/-- The rights of a token end: the selects return to 0x00 (R616). -/
def State.endRights (s : State) : State :=
  let s1 := ((s.put TST_STATUS.RIGHTS 0 0).put TST_STATUS.LIFE_LEFT 0 0).put TST_OBS_A.SEL 0 0
  let s2 := s1.put TST_OBS_B.SEL 0 0
  { s2 with boot := { s2.boot with rightsEnd := none } }

/-- Pacer's part: a BARRIER whose check has not completed is answered NACK with RETRY_AFTER; lifts stand to their ordered ends
(06, A block reset falls between a BARRIER and its ack). -/
def State.resetPacer (s : State) : State :=
  let s1 := s.forEach (s.pacer.barriers.filter (·.checking)) fun s b =>
    let s1 := (s.modSlot b.tag (fun t => { t with st := .REFUSED, status := 1 })).ackNack b.seq 3 b.tag 1 s.timeToExit
    { s1 with freeCtr := s1.freeCtr + 1 }
  let s3 := s1.clearPacer s1.pacer.ord
  let s2 := if s3.pacer.loading.isNone then s3
    else ({ s3 with boot := { s3.boot with modelEn := false, modelPort := none } }).put COEF_MODEL.STATUS 0 0
  { s2 with pacer := { s2.pacer with
    loading := none, lifts := s2.pacer.lifts.map (fun (l : Lift) => { l with just := l.just.map (fun x => (x.1, 0)) }) } }

/-- Stride's part: i_H and i_P become 0 (R191). -/
def State.resetStride (s : State) : State :=
  (s.forEach s.allHeats (fun s h => s.modHeat h (fun t => { t with iH := 0, atRun := 0, atTgt := false }))).forEach s.placed
    (fun s n => s.modRgn n (fun r => { r with iP := 0, swings := [], swingSign := 0, dtRun := 0 }))

/-- Marshal's part: it stops, its trap handler with it; boot lock clears (R8); the update session closes (R542), a pause ends, a token's
rights end (R616); mailbox commands are discarded (R590). -/
def State.resetMarshal (s : State) : State :=
  let b := s.boot
  let s1 := { s with
    boot := { b with
      marshal := false, codeOk := b.codeOk && b.pause.isNone, pause := none, updOpen := false, updPages := 0, staging := tblEmpty
      stageIx := 0, nonce := none, token := tblEmpty }
    host := { s.host with busy := [] }
    coll := { s.coll with trapAt := none, trapHeld := false } }
  let s2 := ((s1.put QB_STATUS.LOCK 0 0).put BOOT_STATUS.LOCK 0 0).endRights
  if 7 ≤ s2.f BOOT_STATUS.STAGE ∧ s2.f BOOT_STATUS.STAGE ≤ 9 then s2.put BOOT_STATUS.STAGE 0 8 else s2

/-- A block reset begins, unless one is in force (R30, R434); RESET_ENTER (R248). -/
def State.enterBlockReset (s : State) (reaction : Bool) : State :=
  if s.blockReset.isSome then s else
  let s1 := ((((s.abortSelfTest.resetFields).gaugeReset).resetPacer).resetStride).resetMarshal
  ({ s1 with blockReset := some s1.now, resume := none, brReaction := reaction, boot := { s1.boot with warmAt := s1.now } }).ackState 2

/-- BLOCK_RESET_RELEASE (R31): Stride takes its first period; not while the partner's fence holds the instance (R486). -/
def execBlockResetRelease (s : State) : Res :=
  .next (if s.blockReset.isNone ∨ s.relay.fenced then s else
    { s with blockReset := none, resume := some 0
             coll := { s.coll with brRelease := if s.brReaction then some s.now else s.coll.brRelease } })

/-- CACHE_DIE_RESET: it resets no part of the block (R27). -/
def execCacheDieReset (s : State) : Res := .next s

/-- TEST_RESET: TRST_N resets the test logic only (R30). -/
def execTestReset (s : State) : Res := .next { s with test := { s.test with ir := 2, wir := 0, refused := false } }

/-- POWER_ON_RESET: everything; fuses, flash and what lies outside the block stay (R30). -/
def execPowerOnReset (s : State) : Res :=
  .next { State.reset with pending := s.pending, opal := s.opal, nvm := s.nvm, out := s.out, freeCtr := s.freeCtr }

end Sys2Proof.Machine
end

