-- ==== Sys2Proof/Machine/Faults.lean ====
section
/-! DEFINITION. The fault collector (10_faults.md): processing, classification, reactions, capture, the event log, recovery, the
watchdog, and the table patrol with its replacements. -/

namespace Sys2Proof.Machine

/-! ### Level sources and FAULT_N (R426, R438, R439, R532) -/

/-- The condition of a level source persists (R426). -/
def State.levelActive (s : State) (x : Src) : Bool :=
  match x with
  | .REFCLK_LOST => s.refLost
  | .OVERLOAD => s.placed.any (fun n => (s.rgn n).ovFlag)
  | .THERM_WARN => s.fb GAU_TSTAT.WARN
  | .THERM_SHUT => s.fb GAU_TSTAT.SHUT
  | .SENSOR_BAD => s.usedSensors.any (fun q => (s.sensor q).bad)
  | .INPUT_RAIL => decide (s.f GAU_VIN.VIN < 16000 ∨ 20000 < s.f GAU_VIN.VIN)
  | .CAP_LOST => s.fb LIM_CAP_STATUS.FALLBACK
  | .LOWEST => s.lim.low != .out
  | _ => false

/-- FAULT_N is asserted: before the first boot lock, and while a source holds it (R438, R532). -/
def State.faultN (s : State) : Bool := !s.boot.lockedOnce || Src.all.any (fun x => s.fb FLT_CNT.FHOLD x.id)

/-- A source takes hold of FAULT_N (R438, R440). -/
def State.holdFaultN (s : State) (i : Nat) : State :=
  let s1 := if s.faultN then s else (s.put FLT_PIN.SRC 0 i).put FLT_PIN.VALID 0 1
  s1.put FLT_CNT.FHOLD i 1

/-- FLT_CTRL.FN_REL (R439). -/
def State.fnRel (s : State) : State :=
  s.forEach Src.all (fun s x => if s.levelActive x then s else s.put FLT_CNT.FHOLD x.id 0)

/-! ### The event log (R447, R448, R560) -/

/-- Write a record; a full ring loses its oldest. -/
def State.logWrite (s : State) (r : LogRec) : State :=
  match s.coll.log with
  | o :: rest =>
    if 256 ≤ s.coll.log.length then
      ({ s with coll := { s.coll with log := rest ++ [r], fresh := s.coll.fresh.erase o ++ [r] } }).bump FLT_LOG_CTRL.OVW
    else { s with coll := { s.coll with log := s.coll.log ++ [r], fresh := s.coll.fresh ++ [r] } }
  | [] => { s with coll := { s.coll with log := [r], fresh := s.coll.fresh ++ [r] } }

/-- Put a record's fields into FLT_LOG0 to FLT_LOG4. -/
def State.loadLog (s : State) (r : LogRec) : State :=
  let w := fun (b : Bool) => if b then 1 else 0
  let s1 := (((((s.put FLT_LOG0.SRC 0 r.src).put FLT_LOG0.SEV 0 (w r.sev)).put FLT_LOG0.MASTER 0 r.master).put FLT_LOG0.ACCESS 0 r.access).put
    FLT_LOG0.AKIND 0 r.akind).put FLT_LOG0.MERGED 0 r.merge
  (((((s1.put FLT_LOG0.RECOVERY 0 (w r.recovery)).put FLT_LOG1.ADDR 0 r.addr).put FLT_LOG2.STEP_LO 0 r.step).put FLT_LOG3.STEP_HI 0
    (r.step / 2 ^ 32)).put FLT_LOG4.FINE 0 r.fine).put FLT_LOG4.NOTIME 0 (w r.notime)

/-- FLT_LOG_CTRL.POP. -/
def State.popLog (s : State) : State :=
  match s.coll.log with
  | [] => (s.loadLog ⟨0, false, false, 0, 0, 0, 0, 0, 0, 0, false⟩).put FLT_LOG_CTRL.LOADED 0 0
  | r :: rest => (({ s with coll := { s.coll with log := rest } }).loadLog r).put FLT_LOG_CTRL.LOADED 0 1

/-- Marshal firmware runs and serves its tasks: it is in no reset, not halted and in no ACTIVATE pause. -/
def State.marshalOn (s : State) : Bool := s.boot.marshal && !s.coll.halted && s.boot.pause.isNone

/-- The log ring's oldest sector is erased when a sector more is needed (R560). -/
def Nvm.trimLog (v : Nvm) (sectors : Nat) : Nvm :=
  let per := max 1 Config.logPerSector
  if v.log.length ≤ per * sectors then v else { v with log := v.log.drop per, logFirst := v.logFirst + per }

/-- The number of 64 KiB sectors of the LOG partition (R523). -/
def State.logSectors (s : State) : Nat :=
  match s.boot.parts.find? (fun x => x.1 = 10) with
  | some x => x.2.2 / 65536
  | none => 64

/-- Append to the log partition. -/
def State.logAppend (s : State) (l : List LogEnt) : State :=
  s.forEach l fun s e => { s with nvm := ({ s.nvm with log := s.nvm.log ++ [e] }).trimLog s.logSectors }

/-- LOG_COPY: once per second, while NVM_OK is 1 (R448, R560). -/
def execLogCopy (s : State) : Res :=
  if !s.marshalOn ∨ !s.fb GAU_TSTAT.NVM_OK ∨ s.now < s.boot.copyAt + 1000000000 then .next s else
  let take := s.coll.fresh.filter (fun r => r.src ≤ 0x1F || r.sev || r.recovery)
  let boot := s.f BOOT_COUNT.COLD
  let s1 := s.logAppend (take.map (fun r => LogEnt.stored r boot))
  let ovw := s1.f FLT_LOG_CTRL.OVW
  let s2 := if ovw = 0 then s1 else (s1.logAppend [.loss ovw]).put FLT_LOG_CTRL.OVW 0 0
  .next { s2 with coll := { s2.coll with fresh := [] }, boot := { s2.boot with copyAt := s2.now } }

/-! ### Capture (R445, R446) -/

/-- FLT_CTRL.FE_ARM. -/
def State.feArm (s : State) : State := (s.put FLT_FE0.VALID 0 0).put FLT_FE0.MULTI 0 0

/-- The first event with reactions is captured; later ones are counted (R445). -/
def State.capture (s : State) (i : Nat) (e : Evt) (sev : Bool) : State :=
  if s.fb FLT_FE0.VALID then s.bump FLT_FE0.MULTI else
  let s1 := ((((s.put FLT_FE0.SRC 0 i).put FLT_FE0.VALID 0 1).put FLT_FE0.MASTER 0 e.master.code).put FLT_FE0.ACCESS 0 e.access.code).put
    FLT_FE0.AKIND 0 e.akind.code
  (((((s1.put FLT_FE0.SEV 0 (if sev then 1 else 0)).put FLT_FE1.ADDR 0 e.addr).put FLT_FE2.STEP_LO 0 e.step).put FLT_FE3.STEP_HI 0
    (e.step / 2 ^ 32)).put FLT_FE4.FINE 0 e.fine).put FLT_FE4.NOTIME 0 (if e.notime then 1 else 0)

/-! ### Reactions (R430 to R436) -/

/-- C: chip_rst_req (R436). -/
def State.reactC (s : State) : State :=
  ({ s with coll := { s.coll with crstAt := some s.now } }).put FLT_STATUS.CRST 0 1

/-- chip_rst_req is asserted: until cleared, and for at least 1 µs (R436). -/
def State.chipRst (s : State) : Bool := s.fb FLT_STATUS.CRST || s.coll.crstAt.any (fun t => s.now < t + 1000)

/-- I: the source's pending bit (R431). -/
def State.reactI (s : State) (i : Nat) : State :=
  s.setReg .FLT_IPEND (i / 32) (s.reg .FLT_IPEND (i / 32) ||| BitVec.ofNat 32 (2 ^ (i % 32)))

/-- T: the trap handler is entered, or the trap is held while the handler runs or Marshal does not (R432, R433, R544). -/
def State.reactT (s : State) : State :=
  if s.coll.trapAt.isNone ∧ s.marshalOn then { s with coll := { s.coll with trapAt := some s.now, trapLate := false } }
  else { s with coll := { s.coll with trapHeld := true } }

/-- A held trap is delivered (R433). -/
def State.deliverTrap (s : State) : State :=
  if s.coll.trapHeld then ({ s with coll := { s.coll with trapHeld := false } }).reactT else s

/-- B: a block reset, or within 100 ms of the release of one that a reaction caused, F and C with Marshal halted (R434, R435). -/
def State.reactB (s : State) (i : Nat) : State :=
  if s.blockReset.isSome then s
  else if s.coll.brRelease.any (fun t => s.now < t + 100000000) then
    let s1 := (s.holdFaultN i).reactC
    ({ s1 with coll := { s1.coll with halted := true, trapAt := none, trapHeld := false } }).put FLT_STATUS.RST_STORM 0 1
  else s.enterBlockReset true

/-- The reactions of a set, in the order F, C, I, T, B (R430). -/
def State.react (s : State) (i set : Nat) : State :=
  let s1 := if set.testBit 4 then s.holdFaultN i else s
  let s2 := if set.testBit 3 then s1.reactC else s1
  let s3 := if set.testBit 0 then s2.reactI i else s2
  let s4 := if set.testBit 1 then s3.reactT else s3
  if set.testBit 2 then s4.reactB i else s4

/-! ### FAULT_PROCESS (R424, R425, R429, R442) -/

/-- What the collector keeps of a source. -/
def State.src (s : State) (i : Nat) : SrcState := tblGet {} s.coll.srcs i

/-- Change it. -/
def State.modSrc (s : State) (i : Nat) (f : SrcState → SrcState) : State :=
  { s with coll := { s.coll with srcs := tblMod {} s.coll.srcs i f } }

/-- W of a source, ns; N; Q, ns (FLT_CLS, FLT_RCT). -/
def State.fltW (s : State) (i : Nat) : Nat := 1000000 * clampN 1 16000 (s.f FLT_CLS.W i)

/-- N: 0 acts as 1. -/
def State.fltN (s : State) (i : Nat) : Nat := max 1 (s.f FLT_CLS.N i)

/-- Q in ns: 0 acts as 1 ms. -/
def State.fltQ (s : State) (i : Nat) : Nat := 1000000 * max 1 (s.f FLT_RCT.Q i)

/-- Classify an event (R424): the count of the window and the severity. -/
def State.classify (s : State) (i : Nat) (e : Evt) : State :=
  let wc := s.f FLT_CNT.WCOUNT i
  let anew := decide (wc = 0 ∨ (s.src i).winStart + s.fltW i < e.at_)
  let n := if anew then e.merge else satAdd 255 wc e.merge
  let s1 := (if anew then s.modSrc i (fun t => { t with winStart := e.at_ }) else s).put FLT_CNT.WCOUNT i n
  if s.fltN i ≤ n then s1.put FLT_CNT.SEV i 1 else s1

/-- Process one source's pending event. -/
def State.processSrc (s : State) (x : Src) (e : Evt) : State :=
  let i := x.id
  let force := (s.src i).force
  let s0 := ({ s with coll := { s.coll with last := i } }).modSrc i (fun t => { t with pend := none, lastEvent := s.now, force := false })
  let s1 := s0.put FLT_CNT.TOTAL i (satAdd 65535 (s0.f FLT_CNT.TOTAL i) e.merge)
  let en := s.fb FLT_RCT.EN i
  let s2 := if en then s1.classify i e else s1
  let sev := en && (force || s2.fb FLT_CNT.SEV i)
  let set := (if !en then 0 else if sev then s.f FLT_RCT.SEV i else s.f FLT_RCT.NORM i) ||| (if x = .THERM_SHUT then 16 else 0)
  let s3 := if set = 0 then s2 else s2.capture i e sev
  let s4 := s3.logWrite ⟨i, false, sev, e.merge, e.akind.code, e.addr, e.master.code, e.access.code, e.step, e.fine, e.notime⟩
  let w := i + (if sev then 128 else 0) + 256 * e.akind.code + 2048 * e.master.code + 16384 * e.access.code
  let s5 := if s4.fb PF_CFG.FLT_EN then s4.pfRecord 4 [w, e.addr] else s4
  let s6 := if (s5.fb PF_TRIG.FLT ∧ s5.f PF_TRIG.SRC = i) ∨ (s5.fb PF_TRIG.ANY_SEV ∧ sev) then s5.pfTrigger 1 else s5
  s6.react i set

/-- A source's configuration or count word that is uncorrectable is an error in the collector itself (R443, R457), here within the source's
reaction interval (R444). -/
def State.selfCheck (s : State) (x : Src) : State := if s.badWords.contains (14, x.id) then s.put FLT_STATUS.LOST 0 1 else s

/-- The next pending source in round-robin order of ID (R442). -/
def State.nextSrc (s : State) : Option (Src × Evt) :=
  let pend := Src.all.filterMap (fun x => ((s.src x.id).pend).map (fun e => (x, e)))
  match pend.find? (fun p => s.coll.last < p.1.id) with
  | some p => some p
  | none => pend.head?

/-- FAULT_PROCESS. -/
def execFaultProcess (s : State) : Res :=
  .next (match s.nextSrc with
    | some p => (s.processSrc p.1 p.2).selfCheck p.1
    | none => s)

/-- FAULT_RECOVERY: the quiet period of a severe source has passed (R427, R428). What the record holds in place of an event's address,
master, access and merge count the spec does not say: none, and free values (log entry 3). -/
def execFaultRecovery (i : Fin 128) (s : State) : Res :=
  match Src.ofId i.val with
  | none => .next s
  | some x =>
    let k := i.val
    let since := max (s.src k).lastEvent (s.src k).condEnd
    if !s.fb FLT_CNT.SEV k ∨ s.levelActive x ∨ s.now < since + s.fltQ k then .next s else
    let s1 := (((s.put FLT_CNT.SEV k 0).put FLT_CNT.WCOUNT k 0).put FLT_CNT.FHOLD k 0).bump FLT_CNT.RECOV k
    let s2 := s1.bump FLT_RECOV.RECOV
    let un := s.step.tb = .UNSYNC
    let free := fun (j : Nat) => Config.recordValue (s.freeCtr + j)
    .next { (s2.logWrite ⟨k, true, false, free 0 % 256, 0, 0, free 1 % 6, free 2 % 6, if un then 0 else s.step.count, s.fine, un⟩) with
      freeCtr := s2.freeCtr + 3 }

/-! ### Watchdog and trap handler (R423, R432, R433) -/

/-- WATCHDOG: 10 ms without a heartbeat, while Marshal is neither held in reset nor halted by the guard. -/
def execWatchdog (s : State) : Res :=
  .next (if !s.boot.marshal ∨ s.coll.halted ∨ s.blockReset.isSome ∨ s.now < s.coll.hb + 10000000 then s
    else ({ s with coll := { s.coll with hb := s.now } }).raise .WATCHDOG .none 0 .marshal .fetch)

/-- MARSHAL_HEARTBEAT: Marshal firmware writes FLT_CTRL.HB. -/
def execMarshalHeartbeat (s : State) : Res := .next (if s.boot.marshal ∧ !s.coll.halted then { s with coll := { s.coll with hb := s.now } } else s)

/-- TRAP_HANDLER_TIMEOUT: 1 ms after entry. -/
def execTrapHandlerTimeout (s : State) : Res :=
  match s.coll.trapAt with
  | some t =>
    if s.coll.trapLate ∨ s.now < t + 1000000 then .next s
    else .next (({ s with coll := { s.coll with trapLate := true } }).raise .WATCHDOG .none 0 .marshal .fetch)
  | none => .next s

/-- TRAP_RETURN. -/
def execTrapReturn (s : State) : Res :=
  .next (if s.coll.trapAt.isSome then ({ s with coll := { s.coll with trapAt := none } }).deliverTrap else s)

/-! ### The clock reference (R28, R29, R426) -/

/-- REFCLK_LOST. -/
def execRefclkLost (s : State) : Res :=
  .next (if !s.powered ∨ s.refLost then s else ({ s with refLost := true, backup := true }).raiseHw .REFCLK_LOST .none 0)

/-- REFCLK_RETURN. -/
def execRefclkReturn (s : State) : Res :=
  .next (if s.refLost then ({ s with refLost := false, backup := false }).condEnds .REFCLK_LOST else s)

/-! ### Replacements (R451 to R457) -/

/-- Write the elements of a register array. -/
def State.setRegs (s : State) (r : Reg) (is : List Nat) (w : Word) : State := s.forEach is (fun s i => s.setReg r i w)

/-- `k` consecutive numbers from `a`. -/
def span (a k : Nat) : List Nat := (List.range k).map (· + a)

/-- A table's address of capture (R655). -/
def tableAddr (tid index : Nat) : Nat := tid * 2 ^ 24 + index % 2 ^ 24

/-- The registers of a profile in the settings: Marshal firmware rewrites it (R452). -/
def State.rewriteProfile (s : State) (p : Nat) : State :=
  let seg := span (32 * p) 32
  let ws := Config.settingsWords s.boot.settings
  let s1 := s.forEach seg (fun s i => s.setReg .STR_SEG i ((ws.find? (fun x => x.1 = Reg.offset .STR_SEG i)).elim (Reg.resetWord .STR_SEG i) (·.2)))
  s1.setReg .STR_PHDR p ((ws.find? (fun x => x.1 = Reg.offset .STR_PHDR p)).elim (Reg.resetWord .STR_PHDR p) (·.2))

/-- An uncorrectable profile word (R452): the heats that use the profile take its fall-back, or, with the header or a fall-back lost, the
built-in profile; Marshal firmware rewrites it if it runs. -/
def State.loseProfile (s : State) (p : Nat) (header : Bool) : State :=
  let s2 := s.forEach s.allHeats fun s' h =>
    if s.profile h ≠ p then s' else
    let built := header || (s.members h).any (fun n => (s.rgn n).fb)
    s'.forEach (s.members h) (fun s n => s.modRgn n (fun r => { r with fb := true, builtIn := r.builtIn || built }))
  if s.marshalOn then s2.rewriteProfile p else s2

/-- Delete the records of a region, which enters HELD (R454). -/
def State.dropRgnRecs (s : State) (n : Nat) : State :=
  ({ s with pacer := { s.pacer with rgnRec := tblSet [] s.pacer.rgnRec n [] } }).modRgn n (fun r => { r with mode := .HELD, bad := 0, clean := 0 })

/-- Delete the records of a domain, whose regions enter HELD (R454). -/
def State.dropDomRecs (s : State) (d : Nat) : State :=
  ({ s with pacer := { s.pacer with domRec := tblSet [] s.pacer.domRec d [] } }).forEach (s.domRgns d)
    (fun s n => s.modRgn n (fun r => { r with mode := .HELD, bad := 0, clean := 0 }))

/-- A word of Pacer's records, pending table and ring is lost (R454, R655). -/
def State.losePacer (s : State) (i : Nat) : State :=
  if i < 512 then s.dropRgnRecs (i / 2)
  else if i < 528 then s.dropDomRecs ((i - 512) / 4)
  else if i < 2576 then
    let e := 2 * (i - 528)
    let l := s.pacer.pend
    let gone := ((l.drop e).take 2).length
    let s1 := { s with pacer := { s.pacer with pend := l.take e ++ l.drop (e + 2) } }
    s1.forEach (List.range gone) (fun s _ => s.countErr BAT_ERR.DROP .BAT_DROP)
  else if i < 2704 then
    let k := i - 2576
    { s with pacer := { s.pacer with ring := s.pacer.ring.map fun (e : RingEnt) =>
        if e.t % 8 = k / 16 ∧ e.n / 16 = k % 16 then s.ringEnt e.n e.t else e } }
  else s

/-- A queue entry lost in both copies: it is discarded, and every lift in force is withdrawn (R453). -/
def State.loseEntry (s : State) (i : Nat) : State :=
  let q := s.step.queue
  if q.length ≤ i then s else
  let s1 := { s with step := { s.step with queue := q.take i ++ q.drop (i + 1) } }
  s1.forEach ((s1.pacer.lifts.filter (·.executed)).map (·.id)) State.withdrawLift

/-- The voltage-table codes of a region become those of VMAX (R451). -/
def State.loseVt (s : State) (n : Nat) : State :=
  if !s.isPlaced n then s else
  let c := clampN 0 1023 ((s.vrange (s.domOf n)).2 / 100 - 800)
  s.setRegs .RGN_VT (span (8 * n) 8) (BitVec.ofNat 32 (c + c * 65536))

/-- The replacement of an uncorrectable word and its source (R451). -/
def State.replaceWord (s : State) (tid index : Nat) : State × Option Src :=
  match tid with
  | 0 =>
    let m := tblGet 0 s.pacer.rowMax index
    (s.setRegs .COEF_M (span (8 * index) 8) (BitVec.ofNat 32 (m + m * 65536)), some .UNC_COEF)
  | 1 => (s.setRegs .COEF_X (span (8 * index) 8) 0x0F0F0F0F#32, some .UNC_COEF)
  | 2 => ({ s with pacer := { s.pacer with
      rowMax := (span (16 * index) 16).foldl (fun (t : Tbl Nat) i => tblSet 0 t i 65535) s.pacer.rowMax } }, some .UNC_COEF)
  | 3 => ({ s with pacer := { s.pacer with
      bins := (span (16 * index) 16).foldl (fun (t : Tbl Int) i => tblSet 0 t i 0) s.pacer.bins } }, some .UNC_REP)
  | 4 => (s.loseVt index, some .UNC_VTABLE)
  | 5 => (s.loseProfile (index / 5) (index % 5 = 4), some .UNC_PROFILE)
  | 6 => ({ s with gauge := { s.gauge with
      trimG := (span (8 * index) 8).foldl (fun (t : Tbl Int) i => tblSet 0 t i 0) s.gauge.trimG
      trimO := (span (8 * index) 8).foldl (fun (t : Tbl Int) i => tblSet 0 t i 1024) s.gauge.trimO } }, some .UNC_TRIM)
  | 8 => (s.losePacer index, some .UNC_PACER)
  | 9 => (({ s with pacer := { s.pacer with model := none } }).put COEF_MODEL.STATUS 0 0, some .UNC_PACER)
  | 10 => ({ s with boot := { s.boot with codeOk := false } }, some .UNC_MCODE)
  | 11 => (s, some .UNC_MDATA)
  | 13 => ({ s with pf := { s.pf with recs := tblMod [] s.pf.recs index (fun l => match l with
      | h :: t => (if h.testBit 3 then h - 8 else h) :: t
      | [] => []) } }, some .UNC_TRACE)
  | 14 => (((s.setReg .FLT_CLS index (Reg.resetWord .FLT_CLS index)).setReg .FLT_RCT index (Reg.resetWord .FLT_RCT index)).setReg .FLT_CNT index
      (Reg.resetWord .FLT_CNT index), some .COLLECTOR_SELF)
  | _ => (s, none)

/-- Raise a table's source with the master and access of R422. -/
def State.raiseTable (s : State) (x : Src) (tid index : Nat) : State :=
  match x with
  | .UNC_MCODE => s.raise x .table (tableAddr tid index) .marshal .fetch
  | .UNC_MDATA => s.raise x .table (tableAddr tid index) .marshal .read
  | .COLLECTOR_SELF => s.raise x .none 0 .hardware .table
  | _ => s.raise x .table (tableAddr tid index) .hardware .table

/-- A word is uncorrectable (R451). -/
def State.uncorrectable (s : State) (tid index : Nat) : State :=
  let x := s.replaceWord tid index
  match x.2 with
  | some src => x.1.raiseTable src tid index
  | none => x.1

/-- Both copies of a word are lost (R453, R455): a queue entry is discarded; a Ledger word keeps its exact or last good value, and with more
than one lost the severe reactions are taken. -/
def State.lostBoth (s : State) (tid index : Nat) (others : List Nat) : State :=
  match tid with
  | 7 => (s.loseEntry index).raiseTable .UNC_QUEUE tid index
  | 12 =>
    let s1 := s.raiseTable .UNC_LEDGER tid (others.foldl min index)
    if others = [] then s1 else s1.modSrc Src.UNC_LEDGER.id (fun t => { t with force := true })
  | _ => s.uncorrectable tid index

/-- PATROL_READ (R449, R450); a word whose second read-back failed is uncorrectable at every read (R457). -/
def execPatrolRead (tid : Fin 16) (index : Nat) (o : PatrolOutcome) (s : State) : Res :=
  checked (wordOk tid.val index) "table word" <|
  if !s.tablesInit then .next s else
  .next (match if s.badWords.contains (tid.val, index) ∧ (o = .clean ∨ o = .corrected) then PatrolOutcome.uncorrectable else o with
    | .clean => s
    | .corrected => s.raise .ECC_CORR .table (tableAddr tid.val index) .hardware .table
    | .uncorrectable => s.uncorrectable tid.val index
    | .lostBoth others => s.lostBoth tid.val index others)

end Sys2Proof.Machine
end

