-- ==== Sys2Proof/Machine/Relay.lean ====
section
/-! DEFINITION. Relay (11_scale_out.md): keys, links and frames, and the messages of cascade and credit mode. The messages of pair mode
stand in Pair.lean. -/

namespace Sys2Proof.Machine

/-! ### Opal and keys (R516, R517, R526, R469) -/

/-- An Opal word: the OR of its two copies (R516). -/
def State.opalWord (s : State) (i : Nat) : Word := tblGet 0#32 s.opal.a i ||| tblGet 0#32 s.opal.b i

/-- Opal words as bytes, lowest byte of the first word first. -/
def State.opalBytes (s : State) (i n : Nat) : List Byte := (List.range n).flatMap (fun k => leBytes 4 (s.opalWord (i + k)).toNat)

/-- K_ROOT (R517, R519). -/
def State.kRoot (s : State) : BitVec 256 := BitVec.ofNat 256 (ofLe (s.opalBytes 39 8))

/-- The page key and K_G of a slot that is LIVE or RETIRING (R526). -/
def State.slotKeys (s : State) (k : KeySlot) : Option (BitVec 256 × BitVec 256) :=
  if k.st = 2 ∨ k.st = 3 then Config.keyUnwrap s.kRoot k.wrapped else none

/-- The group keys in use, the LIVE slot's first (R557). -/
def State.groupKeys (s : State) : List (BitVec 256) :=
  let l := [s.nvm.key0, s.nvm.key1]
  ((l.filter (fun k => k.st = 2) ++ l.filter (fun k => k.st = 3)).filterMap s.slotKeys).map (·.2)

/-- Draw from the DRBG (R468). -/
def State.draw (s : State) : BitVec 128 × State := (Config.nonce128 s.freeCtr, { s with freeCtr := s.freeCtr + 1 })

/-! ### Ports and link states (R458, R474 to R477) -/

/-- A port's pair links (R458). -/
def State.pairPorts (s : State) : List Nat := if s.f RLY_CFG.MODE = 1 ∨ s.f RLY_CFG.MODE = 3 then [1, 2] else []

/-- The port is enabled and the mode uses it (R458). -/
def State.portOn (s : State) (p : Nat) : Bool :=
  (s.f RLY_CFG.PORT_EN).testBit p && (s.pairPorts.contains p || s.downPorts.contains p || (p = 0 && s.hasParent))

/-- This end is the upper end of the link: the parent, or PAIR_POS 0 (R469). -/
def State.upper (s : State) (p : Nat) : Bool := if s.pairPorts.contains p then s.f RLY_CFG.PAIR_POS = 0 else p ≠ 0

/-- A port that agrees with the own HELLO (R476). On a cascade link MODE 2 and MODE 3 are one mode (log entry 25). -/
def State.helloAgrees (s : State) (p : Nat) (h : RHello) : Bool :=
  let mode := s.f RLY_CFG.MODE
  let peer := h.flags % 4
  let same := mode = peer || (!s.pairPorts.contains p && 2 ≤ mode && 2 ≤ peer)
  h.id = s.f RLY_PPEER.PEER p && same && ((h.flags.testBit 2) = s.fb RLY_CFG.CREDIT) &&
    (s.pairPorts.contains p || !s.upper p || !h.flags.testBit 3)

/-- The session key of epoch `e` (R469). -/
def sessionKey (kg : BitVec 256) (nUp nLow : BitVec 128) (idUp idLow port e : Nat) : BitVec 256 :=
  Config.hkdf kg (leBytes 16 nUp.toNat ++ leBytes 16 nLow.toNat) (leBytes 2 idUp ++ leBytes 2 idLow ++ leBytes 2 port ++ leBytes 4 e)

/-- The session key of a link whose ends have shown nonces `own` and `peer`. -/
def State.linkKey (s : State) (p : Nat) (h : RHello) (own peer : BitVec 128) (e : Nat) : BitVec 256 :=
  let kg := (s.port p).kg
  if s.upper p then sessionKey kg own peer s.myId h.id p e else sessionKey kg peer own h.id s.myId h.port e

/-- Send a HELLO (R467, R468). -/
def State.sendHello (s : State) (p : Nat) (kg : BitVec 256) : State :=
  let r := (Config.nonce64 s.freeCtr).toNat
  let n := Config.nonce128 s.freeCtr
  let boot := s.f BOOT_COUNT.COLD % 65536
  let flags := s.f RLY_CFG.MODE + 4 * s.f RLY_CFG.CREDIT + 8 * s.f RLY_CFG.ROLE
  let aad := [0x02#8, 0#8, 0#8, 0#8] ++ leBytes 4 0 ++ leBytes 8 r ++ leBytes 16 n.toNat ++ leBytes 2 s.myId ++ leBytes 2 boot ++ leBytes 1 flags ++
    List.replicate 11 0#8
  let c := Config.gcmSeal kg (frameIv (linkId s.myId (s.f RLY_PPEER.PEER p) p) r) aad []
  let s1 := s.modPort p (fun x => { x with own := some ⟨r, n, s.myId, boot, flags, p⟩, kg := kg, lastSent := s.now })
  { s1 with freeCtr := s1.freeCtr + 1, out := s1.out ++ [Output.relay p (aad ++ beBytes 16 c.2.toNat)] }

/-! ### Requests and reports sent at an entry to UP (R480, R498, R507, R562) -/

/-- The body of the summed report (R481, R499). -/
def State.reportBody (s : State) : Nat :=
  let t := s.sumReport
  mkBody [(t.n, 2), (t.a1u, 4), (t.pidle, 4), (t.fin, 4), (t.cap, 4), (t.stale, 2), (t.step, 6)]

/-- Send the report up. -/
def State.sendReport (s : State) : State := (s.postUp 0x02 s.reportBody).put RLY_STATUS.MEMBERS 0 (min 1024 s.sumReport.n)

/-- The body of the own JOIN (R481). -/
def State.joinBody (s : State) : Nat := mkBody [(s.myId, 2), (s.f BOOT_COUNT.COLD % 65536, 2), (s.f RLY_CR_CFG.WEIGHT, 1)]

/-- A REQUEST for a source whose highest level in the subtree is not 0 (R562). -/
def State.sendRequest (s : State) (src : Nat) : State :=
  let x := s.subLevel src s.step.count
  if x = 0 then s else s.postUp 0x03 (mkBody [(src, 1), (s.step.count, 6), (x, 2), (s.myId, 2)])

/-- What an instance sends as its up port enters UP. -/
def State.upRejoin (s : State) : State :=
  let s1 := s.put RLY_STATUS.ACTING 0 0
  let s2 := { s1 with relay := { s1.relay with joinq := [5] } }
  let s3 := (s2.postUp 0x0F s2.joinBody).sendReport
  if s3.inCascade then s3.forEach [1, 2, 3, 4] State.sendRequest else s3

/-- What a parent resends to a child (R507). -/
def State.downRejoin (s : State) (p : Nat) : State :=
  let s1 := match s.relay.lastOrder with
    | some b => s.post p 0x04 b.toNat
    | none => s
  match s1.relay.lastEmerg with
  | some b => s1.post p 0x09 b.toNat
  | none => s1

/-- Credit messages are rebuilt from the log (R480). -/
def State.rebuildCredit (s : State) (p : Nat) : State :=
  s.forEach (s.led.log.filter (fun e => e.port = p ∧ !e.closed)) fun s e =>
    let body := mkBody [(e.tid, 4), (e.x, 4)]
    match e.phase, e.lend with
    | .prepared, true => s.post p 0x12 body
    | .prepared, false => s.post p 0x13 body
    | .committed, true => s.post p 0x14 body
    | _, _ => s

/-! ### Restart of a neighbour (R514) -/

/-- LNET of a port, signed. -/
def State.lnet (s : State) (p : Nat) : Int := signed 32 (s.f RLY_CR_LNET.LNET p)

/-- Add to LNET. -/
def State.addLnet (s : State) (p : Nat) (x : Int) : State := s.put RLY_CR_LNET.LNET p (unsigned 32 (s.lnet p + x))

/-- The peer on a port has restarted: its open transfers are aborted and LNET is taken back (R514). -/
def State.peerRestarted (s : State) (p : Nat) : State :=
  let s1 := s.forEach (s.led.log.filter (fun e => e.port = p ∧ !e.closed)) fun s e =>
    if e.open_ then s.crPhase e .aborted true else s.modEntry e.tid e.lend (fun x => { x with closed := true })
  let x := s1.lnet p
  ({ s1 with led := { s1.led with pool := s1.led.pool - x, net := s1.led.net - x } }).put RLY_CR_LNET.LNET p 0

/-- The BOOT that a peer shows: a change marks a restart. -/
def State.peerBoot (s : State) (p boot : Nat) : State :=
  let was := (s.port p).lastBoot
  let s1 := s.modPort p (fun x => { x with lastBoot := some boot })
  if was.isSome ∧ was ≠ some boot then s1.peerRestarted p else s1

/-! ### Link transitions -/

/-- A port enters UP (R470, R474, R480). -/
def State.portUp (s : State) (p : Nat) (own peer : RHello) : State :=
  let key := s.linkKey p peer own.n peer.n 0
  let s1 := s.modPort p fun x => { x with
    st := .UP, since := s.now, keys := [(0, key)], txE := 0, txSeq := 0, rx := {}, old := none, rekey := none, lastData := s.now, lastSent := s.now
    waiting := [], unacked := [], txM := 0, rxM := 0, ackAt := s.now }
  let s2 := (s1.peerBoot p peer.boot).rebuildCredit p
  if s2.pairPorts.contains p then s2 else if p = 0 then s2.upRejoin else s2.downRejoin p

/-- HELLOs have been exchanged: they agree, or they do not (R474, R476); not while the entropy source has failed (R534). -/
def State.judgeHello (s : State) (p : Nat) : State :=
  let x := s.port p
  match x.own, x.peer with
  | some own, some peer =>
    if x.st ≠ .HELLO ∨ s.fb BOOT_STATUS.ENT_FAIL then s
    else if s.helloAgrees p peer then s.portUp p own peer
    else s.modPort p (fun x => { x with st := .REFUSED, since := s.now })
  | _, _ => s

/-- A port in HELLO sends its own HELLO: the upper end at once, the lower end in answer (R557). -/
def State.offerHello (s : State) (p : Nat) : State :=
  let x := s.port p
  if x.st ≠ .HELLO ∨ x.own.isSome ∨ s.fb BOOT_STATUS.ENT_FAIL then s
  else if s.upper p then match s.groupKeys with
    | kg :: _ => (s.sendHello p kg).judgeHello p
    | [] => s
  else if x.peer.isSome then (s.sendHello p x.kg).judgeHello p
  else s

/-- A port goes DOWN; from UP that is a link loss (R475, R480). -/
def State.portDown (s : State) (p : Nat) : State :=
  let was := (s.port p).st
  let s1 := s.modPort p fun x => { x with
    st := .DOWN, since := s.now, own := none, peer := none, keys := [], old := none, rekey := none, waiting := [], unacked := [] }
  let s2 := if p = 0 then { s1 with relay := { s1.relay with joinq := [] } } else s1
  if was = .UP then s2.raise .RELAY_DOWN .port p .relay .notice else s2

/-- PORT_ALIGNED. -/
def execPortAligned (p : Fin 5) (s : State) : Res :=
  let k := p.val
  if !s.powered ∨ !s.portOn k then .next s else
  .next (s.modPort k fun x => if x.st = .DOWN then { x with st := .TRAIN, since := s.now, aligned := true } else { x with aligned := true })

/-- TRAIN_END: aligned for 10 µs. -/
def execTrainEnd (p : Fin 5) (s : State) : Res :=
  let x := s.port p.val
  .next (if x.st = .TRAIN ∧ x.aligned ∧ x.since + 10000 ≤ s.now then
    (s.modPort p.val (fun x => { x with st := .HELLO, since := s.now, own := none })).offerHello p.val else s)

/-- HELLO_TIMEOUT: 1 ms in HELLO. -/
def execHelloTimeout (p : Fin 5) (s : State) : Res :=
  let x := s.port p.val
  .next (if x.st = .HELLO ∧ x.since + 1000000 ≤ s.now ∧ !s.fb BOOT_STATUS.ENT_FAIL then s.portDown p.val else s)

/-- REFUSED_TIMEOUT: 10 ms in REFUSED. -/
def execRefusedTimeout (p : Fin 5) (s : State) : Res :=
  let x := s.port p.val
  .next (if x.st = .REFUSED ∧ x.since + 10000000 ≤ s.now then s.portDown p.val else s)

/-- ALIGNMENT_LOSS (R462, R474). -/
def execAlignmentLoss (p : Fin 5) (s : State) : Res :=
  let x := s.port p.val
  if !x.aligned then .next s else
  let s1 := (s.modPort p.val (fun x => { x with aligned := false, lostAt := s.now })).bump RLY_PERR.ALIGN p.val
  .next (if x.st = .TRAIN then s1.portDown p.val else s1)

/-- LINK_LOSS: out of alignment for 1 µs, or no DATA frame for 16 µs (R475). -/
def execLinkLoss (p : Fin 5) (s : State) : Res :=
  let x := s.port p.val
  .next (if x.st = .UP ∧ ((!x.aligned ∧ x.lostAt + 1000 ≤ s.now) ∨ x.lastData + 16000 ≤ s.now) then s.portDown p.val else s)

/-- SEQ_EXHAUSTED (R473). -/
def execSeqExhausted (p : Fin 5) (s : State) : Res :=
  let x := s.port p.val
  .next (if x.st = .UP ∧ (2 ^ 32 - 65536 ≤ x.txSeq ∨ 2 ^ 32 - 65536 ≤ x.rx.high.getD 0) then s.portDown p.val else s)

/-! ### Frames received (R464, R466, R470, R472, R479) -/

/-- A frame fails its tag, or its replay check. -/
def State.badFrame (s : State) (x : Fld) (p : Nat) : State :=
  if 255 ≤ s.f x p then s else (s.bump x p).raise .RELAY_AUTH .port p .relay .notice

/-- The frame has 64 bytes, an FTYPE of R463 and no reserved bit set. -/
def frameOk (f : List Byte) : Bool :=
  f.length = 64 && (byteAt f 0 = 1 || byteAt f 0 = 2) && byteAt f 2 = 0 && byteAt f 3 = 0 &&
  (byteAt f 0 = 1 || (byteAt f 36 < 16 && leAt f 37 11 = 0))

/-- The HELLO that a frame shows, its sending port and the group key that authenticates it. -/
def State.openHello (s : State) (f : List Byte) : Option (RHello × BitVec 256) :=
  let r := leAt f 8 8
  let id := leAt f 32 2
  let tag := BitVec.ofNat 128 (ofBe (f.drop 48))
  s.groupKeys.findSome? fun kg => (List.range 5).findSome? fun port =>
    match Config.gcmOpen kg (frameIv (linkId id s.myId port) r) (f.take 48) [] tag with
    | some _ => some (⟨r, BitVec.ofNat 128 (leAt f 16 16), id, leAt f 34 2, byteAt f 36, port⟩, kg)
    | none => none

/-- A HELLO frame arrives (R474, R476, R557). -/
def State.recvHello (s : State) (p : Nat) (f : List Byte) : State :=
  match s.openHello f with
  | none => s.badFrame RLY_PERR.TAG p
  | some (h, kg) =>
    let x := s.port p
    if x.st = .TRAIN ∨ x.st = .HELLO then
      let s1 := s.modPort p (fun x => { x with peer := some h, kg := if s.upper p then x.kg else kg })
      (s1.offerHello p).judgeHello p
    else s

/-- The window accepts a SEQ (R470). -/
def RWindow.accepts (w : RWindow) (q : Nat) : Bool :=
  match w.high with
  | none => true
  | some h => h < q || (h ≤ q + 64 && q ≠ h && !w.seen.contains q)

/-- The window after a SEQ. -/
def RWindow.take (w : RWindow) (q : Nat) : RWindow :=
  let h := max q (w.high.getD 0)
  { w with high := some h, seen := (q :: w.seen).filter (fun k => h ≤ k + 64) }

/-- The receiving side after a frame of epoch `e` and SEQ `q`; none when it is not accepted (R470, R472). -/
def RPort.accept (x : RPort) (e q now : Nat) : Option RPort :=
  if e = x.rx.epoch then if x.rx.accepts q then some { x with rx := x.rx.take q } else none
  else if e = x.rx.epoch + 1 then
    some { x with old := some (x.rx, 64, now + 100000), rx := ({ epoch := e } : RWindow).take q }
  else match x.old with
    | some (w, left, fin) =>
      if e = w.epoch ∧ 0 < left ∧ now ≤ fin ∧ w.accepts q then some { x with old := some (w.take q, left - 1, fin) } else none
    | none => none

/-- What MACK acknowledges is forgotten, and what waits goes out (R479). -/
def State.takeAck (s : State) (p mack : Nat) : State :=
  let x := s.port p
  if x.unacked.any (fun u => u.1 = mack) then
    let rest := (x.unacked.dropWhile (fun u => u.1 ≠ mack)).drop 1
    let s1 := s.modPort p (fun x => { x with unacked := rest, ackAt := s.now })
    State.drain p (s1.port p).waiting.length s1
  else s

/-- An authentic message is taken: a reliable one only in MSEQ order; an undefined one is counted (R479, R481). -/
def State.takeMessage (s : State) (p : Nat) (m : List Byte) : State :=
  let t := byteAt m 0
  let rel := byteAt m 1 % 2 = 1
  let s1 := s.takeAck p (leAt m 4 2)
  if 8 ≤ byteAt m 1 then s1.bump RLY_PERR.UNDEF p
  else if rel ∧ leAt m 2 2 ≠ (s1.port p).rxM then s1
  else
    let s2 := if rel then s1.modPort p (fun x => { x with rxM := (x.rxM + 1) % 65536 }) else s1
    if t = 0 ∨ 0x16 < t then s2.bump RLY_PERR.UNDEF p
    else { s2 with relay := { s2.relay with rxq := s2.relay.rxq ++ [(p, t, BitVec.ofNat 272 (leAt m 6 34))] } }

/-- A DATA frame arrives (R464, R470, R475, R495). -/
def State.recvData (s : State) (p : Nat) (f : List Byte) : State :=
  let x := s.port p
  match x.peer with
  | none => s
  | some h =>
    if x.st ≠ .UP then s else
    match x.keys.find? (fun k => k.1 % 256 = byteAt f 1) with
    | none => s.badFrame RLY_PERR.TAG p
    | some k =>
      let q := leAt f 4 4
      let iv := frameIv (linkId h.id s.myId h.port) (k.1 * 2 ^ 32 + q)
      match Config.gcmOpen k.2 iv (f.take 8) ((f.drop 8).take 40) (BitVec.ofNat 128 (ofBe (f.drop 48))) with
      | none => s.badFrame RLY_PERR.TAG p
      | some m =>
        match x.accept k.1 q s.now with
        | none => s.badFrame RLY_PERR.REPLAY p
        | some y =>
          let s1 := s.modPort p (fun _ => { y with lastData := s.now })
          let s2 := if !s1.pairPorts.contains p then s1 else
              let s2 := { s1 with relay := { s1.relay with waitFrame := false, hbLost := false } }
              if s1.relay.waitFrame then s2.post p 0x0C 0 else s2
          s2.takeMessage p m

/-- A frame arrives on a port. -/
def State.recvFrame (s : State) (p : Nat) (f : List Byte) : State :=
  if !s.powered ∨ !s.portOn p then s
  else if !frameOk f then s.bump RLY_PERR.UNDEF p
  else if byteAt f 0 = 2 then s.recvHello p f
  else s.recvData p f

/-- HELLO. -/
def execHello (p : Fin 5) (frame : List Byte) (s : State) : Res := .next (s.recvFrame p.val frame)

/-- DATA_FRAME. -/
def execDataFrame (p : Fin 5) (frame : List Byte) (s : State) : Res := .next (s.recvFrame p.val frame)

/-! ### Frames sent by time (R477, R479) -/

/-- The body of a HEARTBEAT (R481). -/
def State.heartbeatBody (s : State) : Nat :=
  mkBody [(s.myId, 2), (s.f RLY_STATUS.PAIR, 1), (s.step.count, 6), (s.step.tb.code, 1), (s.f BOOT_COUNT.COLD % 65536, 2)]

/-- FRAME_SEND_DUE: 500 ns without a frame. -/
def execFrameSendDue (p : Fin 5) (s : State) : Res :=
  let x := s.port p.val
  .next (if x.st = .UP ∧ x.lastSent + 500 ≤ s.now then s.sendFrame p.val 0x01 0 (BitVec.ofNat 272 s.heartbeatBody) else s)

/-- RELIABLE_RESEND: MACK has not advanced for 4 µs. -/
def execReliableResend (p : Fin 5) (s : State) : Res :=
  let x := s.port p.val
  .next (if x.st = .UP ∧ x.unacked ≠ [] ∧ x.ackAt + 4000 ≤ s.now then
    (s.forEach x.unacked (fun s u => s.sendFrame p.val u.2.mtype u.1 u.2.body)).modPort p.val (fun y => { y with ackAt := s.now }) else s)

/-! ### Rekeying (R469, R471, R472) -/

/-- The upper end starts a rekey. -/
def State.startRekey (s : State) (p : Nat) : State :=
  if !(s.isUp p && s.upper p && (s.port p).rekey.isNone) then s else
  let d := s.draw
  let s1 := d.2.modPort p (fun x => { x with rekey := some d.1 })
  s1.post p 0x0D (mkBody [(d.1.toNat, 16), ((s1.port p).txE + 1, 4)])

/-- REKEY_START: SEQ of either direction has reached 2^31. -/
def execRekeyStart (p : Fin 5) (s : State) : Res :=
  let x := s.port p.val
  .next (if 2 ^ 31 ≤ x.txSeq ∨ 2 ^ 31 ≤ x.rx.high.getD 0 then s.startRekey p.val else s)

/-- EPOCH_GRACE_END: 64 frames or 100 µs. -/
def execEpochGraceEnd (p : Fin 5) (s : State) : Res :=
  match (s.port p.val).old with
  | some (_, left, fin) =>
    .next (if left = 0 ∨ fin ≤ s.now then
      s.modPort p.val (fun x => { x with old := none, keys := x.keys.filter (fun k => x.rx.epoch ≤ k.1) }) else s)
  | none => .next s

/-- A message leaves the queue of accepted ones. -/
def State.popMsg (s : State) (p t : Nat) (body : BitVec 272) : State :=
  { s with relay := { s.relay with rxq := match s.relay.rxq with
    | x :: rest => if x = (p, t, body) then rest else x :: rest
    | [] => [] } }

/-- REKEY: the lower end answers and sends under E + 1 from then on (R471). -/
def execRekey (p : Fin 5) (body : BitVec 272) (s : State) : Res :=
  let k := p.val
  let s1 := s.popMsg k 0x0D body
  let e := bf body 16 4
  match (s1.port k).peer with
  | none => .next s1
  | some h =>
    if s1.upper k ∨ !s1.isUp k ∨ e ≠ (s1.port k).txE + 1 then .next s1 else
    let d := s1.draw
    let key := d.2.linkKey k h d.1 (BitVec.ofNat 128 (bf body 0 16)) e
    let s2 := (d.2.modPort k (fun x => { x with keys := x.keys ++ [(e, key)] })).post k 0x0E (mkBody [(d.1.toNat, 16), (e, 4)])
    .next (s2.modPort k (fun x => { x with txE := e, txSeq := 0 }))

/-- REKEY_ACK: the upper end sends under E + 1. -/
def execRekeyAck (p : Fin 5) (body : BitVec 272) (s : State) : Res :=
  let k := p.val
  let s1 := s.popMsg k 0x0E body
  let e := bf body 16 4
  match (s1.port k).peer, (s1.port k).rekey with
  | some h, some n =>
    if !s1.isUp k ∨ e ≠ (s1.port k).txE + 1 then .next s1 else
    let key := s1.linkKey k h n (BitVec.ofNat 128 (bf body 0 16)) e
    .next (s1.modPort k (fun x => { x with keys := x.keys ++ [(e, key)], txE := e, txSeq := 0, rekey := none }))
  | _, _ => .next s1

/-! ### Cascade messages -/

/-- REPORT (R499). -/
def execReport (p : Fin 5) (body : BitVec 272) (s : State) : Res :=
  let r : RReport := ⟨bf body 0 2, bf body 2 4, bf body 6 4, bf body 10 4, bf body 14 4, bf body 18 2, bf body 20 6⟩
  .next (((s.popMsg p.val 0x02 body).modPort p.val (fun x => { x with report := some (r, s.now) })).put RLY_STATUS.MEMBERS 0 (min 1024 r.n))

/-- REPORT_DUE: every 100 µs. -/
def execReportDue (s : State) : Res := .next (if s.hasParent ∧ s.isUp 0 then s.sendReport else s)

/-- REQUEST (R502, R323). -/
def execRequest (p : Fin 5) (body : BitVec 272) (s : State) : Res :=
  .next ((s.popMsg p.val 0x03 body).recordReq p.val (bf body 0 1) (bf body 1 6) (bf body 7 2))

/-- ORDER (R503, R324). -/
def execOrder (p : Fin 5) (body : BitVec 272) (s : State) : Res :=
  let s1 := s.popMsg p.val 0x04 body
  let s2 := ({ s1 with relay := { s1.relay with lastOrder := some body } }).postDown 0x04 body.toNat
  .next (s2.takeOrder (bf body 0 6) (bf body 6 2) (bf body 8 2))

/-- ORDER_NAK (R504): the master repeats at its ticks; others forward. -/
def execOrderNak (p : Fin 5) (body : BitVec 272) (s : State) : Res :=
  let s1 := s.popMsg p.val 0x05 body
  .next (if s1.isMaster then { s1 with relay := { s1.relay with nak := true } } else s1.postUp 0x05 body.toNat)

/-- DELAY (R326, R505). -/
def execDelay (p : Fin 5) (body : BitVec 272) (s : State) : Res :=
  let s1 := s.popMsg p.val 0x06 body
  let rel := bf body 0 6
  let k := bf body 6 1
  if s1.isMaster then
    let x := s1.masterDelay rel k
    .next (if x.2 then x.1.applyDelay rel k else x.1)
  else .next (s1.postUp 0x06 body.toNat)

/-- DELAY_ORDER (R326). -/
def execDelayOrder (p : Fin 5) (body : BitVec 272) (s : State) : Res :=
  .next (((s.popMsg p.val 0x07 body).postDown 0x07 body.toNat).applyDelay (bf body 0 6) (bf body 6 1))

/-- The master's order for an emergency acts on an instance (R343): it enters with the cause, exits, or learns the end step. -/
def State.obeyEmerg (s : State) (kind cause step : Nat) : State :=
  match kind with
  | 1 => s.enterLowest cause false
  | 2 => if s.lim.low = .inForce ∧ s.causes = 0 then s.lowExit else { s with lim := { s.lim with exitOk := true } }
  | 3 => { s with lim := { s.lim with endStep := some step } }
  | _ => s

/-- EMERG (R343, R505): the master acts; others forward. -/
def execEmerg (p : Fin 5) (body : BitVec 272) (s : State) : Res :=
  let s1 := s.popMsg p.val 0x08 body
  if !s1.isMaster then .next (s1.postUp 0x08 body.toNat) else
  let causes := bf body 2 1
  let s2 := s1.masterEmerg (bf body 0 2) causes (bf body 3 1) (bf body 4 6)
  let s3 := if bf body 3 1 = 1 then s2.enterLowest (if causes % 2 = 1 then 1 else 2) false else s2
  .next (if s3.lim.exitOk ∧ s3.lim.low = .inForce then s3.lowExit else s3)

/-- EMERG_ORDER (R343, R505). -/
def execEmergOrder (p : Fin 5) (body : BitVec 272) (s : State) : Res :=
  let s1 := s.popMsg p.val 0x09 body
  let s2 := ({ s1 with relay := { s1.relay with lastEmerg := some body } }).postDown 0x09 body.toNat
  .next (s2.obeyEmerg (bf body 0 1) (bf body 1 1) (bf body 2 6))

/-- ACTING_MASTER: the up port has been DOWN for 100 µs (R506). -/
def execActingMaster (s : State) : Res :=
  let x := s.port 0
  .next (if s.hasParent ∧ s.powered ∧ x.st = .DOWN ∧ x.since + 100000 ≤ s.now ∧ !s.fb RLY_STATUS.ACTING then
    let s1 := s.put RLY_STATUS.ACTING 0 1
    if s1.inCascade then s1.masterOrders (s1.step.count + 16) else s1
  else s)

/-! ### Grants (R508, R509) -/

/-- The grant of an instance: what is recorded for its ID, or a new one within the budget (R508, R509). -/
def State.grantFor (s : State) (id weight : Nat) : Nat × State :=
  match s.relay.granted.find? (fun x => x.1 = id) with
  | some x => (x.2, s)
  | none =>
    let g := weight * s.f RLY_CR_CFG.UNIT
    let sum := sumN (s.relay.granted.map (·.2))
    if 1000 * s.f RLY_GRP_BUDGET.B < sum + g then (0, s)
    else (g, { s with relay := { s.relay with granted := s.relay.granted ++ [(id, g)] } })

/-- A JOIN reaches the master (R498, R507, R508). -/
def State.masterJoin (s : State) (p id boot weight : Nat) : State :=
  let s1 := { s with relay := { s.relay with joined := s.relay.joined.filter (fun (x : Nat × Nat) => x.1 ≠ id) ++ [(id, boot)] } }
  if s1.creditCfg then
    let g := s1.grantFor id weight
    g.2.post p 0x10 (mkBody [(g.1, 4), (if g.1 = 0 then 1 else 0, 1)])
  else s1.sendOrder (s1.step.count + 64) (standing s1.relay.ordered s1.step.count)

/-- JOIN (R498, R514). -/
def execJoin (p : Fin 5) (body : BitVec 272) (s : State) : Res :=
  let k := p.val
  let s1 := s.popMsg k 0x0F body
  let id := bf body 0 2
  let boot := bf body 2 2
  let s2 := if id = s1.f RLY_PPEER.PEER k then s1.peerBoot k boot else s1
  if s2.f RLY_CFG.ROLE = 1 then .next (s2.masterJoin k id boot (bf body 4 1))
  else .next (({ s2 with relay := { s2.relay with joinq := s2.relay.joinq ++ [k] } }).postUp 0x0F body.toNat)

/-- GRANT (R509): the instance's own, or one that follows a forwarded JOIN down. -/
def execGrant (p : Fin 5) (body : BitVec 272) (s : State) : Res :=
  let s1 := s.popMsg p.val 0x10 body
  match s1.relay.joinq with
  | k :: rest =>
    let s2 := { s1 with relay := { s1.relay with joinq := rest } }
    .next (if k < 5 then s2.post k 0x10 body.toNat
      else if s2.relay.credit ∨ !s2.creditCfg then s2
      else (s2.put LED_CR_GRANT.GRANT 0 (bf body 0 4)).enterCredit)
  | [] => .next (if s1.relay.credit ∨ !s1.creditCfg then s1 else (s1.put LED_CR_GRANT.GRANT 0 (bf body 0 4)).enterCredit)

/-! ### Transfers (R510 to R512) -/

/-- CR_REQ: the lender prepares. -/
def execCrReq (p : Fin 5) (body : BitVec 272) (s : State) : Res :=
  let s1 := s.popMsg p.val 0x11 body
  let spare := (s1.led.pool - 1000 * (s1.f RLY_CR_CFG.RESERVE : Int)).toNat
  let x := min (bf body 0 4) spare
  if !s1.relay.credit ∨ x = 0 ∨ !s1.led.logRoom then .next s1 else
  let tid := s1.myId * 2 ^ 22 + s1.relay.tids % 2 ^ 22
  let s2 := { s1 with relay := { s1.relay with tids := (s1.relay.tids + 1) % 2 ^ 22 } }
  .next ((s2.crPrepare ⟨tid, true, p.val, .prepared, x, s2.step.count, false, s2.now⟩).post p.val 0x12 (mkBody [(tid, 4), (x, 4)]))

/-- Send CR_PREP_ACK of a prepared transfer. -/
def State.prepAck (s : State) (e : CrEntry) : State :=
  (s.modEntry e.tid false (fun x => { x with at_ := s.now })).post e.port 0x13 (mkBody [(e.tid, 4), (e.x, 4)])

/-- CR_PREP: the borrower prepares. -/
def execCrPrep (p : Fin 5) (body : BitVec 272) (s : State) : Res :=
  let s1 := s.popMsg p.val 0x12 body
  let tid := bf body 0 4
  if !s1.relay.credit then .next s1 else
  match s1.crEntry tid false with
  | some e => .next (if e.open_ then s1.prepAck e else s1)
  | none =>
    if !s1.led.logRoom then .next s1 else
    let e : CrEntry := ⟨tid, false, p.val, .prepared, bf body 4 4, s1.step.count, false, s1.now⟩
    .next ((s1.crPrepare e).prepAck e)

/-- CR_PREP_ACK: the lender commits, or answers from its log. -/
def execCrPrepAck (p : Fin 5) (body : BitVec 272) (s : State) : Res :=
  let s1 := s.popMsg p.val 0x13 body
  match s1.crEntry (bf body 0 4) true with
  | none => .next s1
  | some e =>
    let msg := mkBody [(e.tid, 4), (e.x, 4)]
    match e.phase with
    | .prepared => .next (((s1.crPhase e .committed false).addLnet p.val (-(e.x : Int))).post p.val 0x14 msg)
    | .committed => .next (s1.post p.val 0x14 msg)
    | .aborted => .next (s1.post p.val 0x16 msg)

/-- CR_COMMIT: the borrower commits. -/
def execCrCommit (p : Fin 5) (body : BitVec 272) (s : State) : Res :=
  let s1 := s.popMsg p.val 0x14 body
  match s1.crEntry (bf body 0 4) false with
  | none => .next s1
  | some e =>
    let msg := mkBody [(e.tid, 4)]
    match e.phase with
    | .prepared => .next (((s1.crPhase e .committed true).addLnet p.val (e.x : Int)).post p.val 0x15 msg)
    | .committed => .next (s1.post p.val 0x15 msg)
    | .aborted => .next s1

/-- CR_DONE: the transfer is finished (R512). -/
def execCrDone (p : Fin 5) (body : BitVec 272) (s : State) : Res :=
  .next ((s.popMsg p.val 0x15 body).modEntry (bf body 0 4) true (fun e => { e with closed := e.closed || e.phase = .committed }))

/-- CR_ABORT: the borrower aborts a prepared transfer. -/
def execCrAbort (p : Fin 5) (body : BitVec 272) (s : State) : Res :=
  let s1 := s.popMsg p.val 0x16 body
  match s1.crEntry (bf body 0 4) false with
  | some e => .next (if e.open_ then s1.crPhase e .aborted true else s1)
  | none => .next s1

/-- CR_PREP_TIMEOUT: 1 ms without CR_PREP_ACK. -/
def execCrPrepTimeout (tid : Nat) (s : State) : Res :=
  match s.crEntry tid true with
  | some e =>
    .next (if e.open_ ∧ e.at_ + 1000000 ≤ s.now then (s.crPhase e .aborted true).post e.port 0x16 (mkBody [(e.tid, 4), (e.x, 4)]) else s)
  | none => .next s

/-- CR_PREP_ACK_RESEND: every 100 µs (R511). -/
def execCrPrepAckResend (s : State) : Res :=
  .next (s.forEach (s.led.log.filter (fun e => !e.lend && e.open_ && e.at_ + 100000 ≤ s.now)) State.prepAck)

end Sys2Proof.Machine
end

