-- ==== Sys2Proof/Machine/Pair.lean ====
section
/-! DEFINITION. Pair mode (11_scale_out.md, R483 to R496): roles, heartbeat and fail-over, digest, resync, the planned switch at a
boundary. MIRROR stands with the register writes in Ports.lean. -/

namespace Sys2Proof.Machine

/-- An item of the state that a RESYNC loads (R487, R489). -/
inductive ShadowItem where
  | reg (off : Nat) (w : Word)
  | heat (h : Nat) (x : Heat)
  | slot (t : Nat) (x : Slot)
  | baton (x : BatonLink)
  | pacer (x : Pacer)
  | lim (x : Lim)
  | ledger (x : Ledger)
  | queue (l : List QEntry)
  deriving DecidableEq, Repr

/-- The 128-bit digest of a state: the spec names no digest function and no encoding (R488, log entry 8). -/
opaque Config.shadowDigest : State → BitVec 128

/-- The chunks of 24 bytes that a RESYNC streams: the spec gives no layout (R489, log entry 8). -/
opaque Config.resyncChunks : State → List Nat

/-- What received chunks (offset, data) load. -/
opaque Config.resyncItems : List (Nat × Nat) → List ShadowItem

/-- The step that the final RESYNC message names, ahead of the present one: the spec gives no figure. -/
opaque Config.resyncLead : Nat → Nat

/-! ### Roles (R478, R484) -/

/-- The instance is one of a pair (R458). -/
def State.inPair (s : State) : Bool := s.f RLY_CFG.MODE = 1 || s.f RLY_CFG.MODE = 3

/-- RLY_STATUS.PAIR. -/
def State.pairSt (s : State) : Nat := s.f RLY_STATUS.PAIR

/-- The instance is a standby. -/
def State.standby (s : State) : Bool := s.pairSt = 2 || s.pairSt = 3

/-- pair_act is asserted: the active role, and no reset (R484). -/
def State.pairAct (s : State) : Bool := s.powered && s.pairSt = 1 && s.blockReset.isNone

/-- Send on the first pair link that is UP. -/
def State.pairPost (s : State) (t body : Nat) : State :=
  match s.pairPorts.find? s.isUp with
  | some p => s.post p t body
  | none => s

/-- The standby requests a RESYNC. -/
def State.askResync (s : State) : State := s.pairPost 0x0C 0

/-! ### Messages -/

/-- HEARTBEAT: on a pair link it shows the partner's pair state. -/
def execHeartbeat (p : Fin 5) (body : BitVec 272) (s : State) : Res :=
  let s1 := s.popMsg p.val 0x01 body
  .next (if s1.pairPorts.contains p.val then { s1 with relay := { s1.relay with peerSt := bf body 2 1 } } else s1)

/-- What R487 marks shadow or MIRROR: the rest of the state takes no part in the digest. -/
def State.shadow (s : State) : State :=
  { State.reset with
    regs := s.regs, step := s.step, lanes := s.lanes, rgns := s.rgns, heats := s.heats, heatOf := s.heatOf, gates := s.gates, merges := s.merges
    domV := s.domV, baton := { s.baton with unacked := [] }, slots := s.slots, pacer := s.pacer, lim := s.lim, led := s.led }

/-- The digest at a boundary whose count is a multiple of 1,024 (R488). -/
def State.takeDigest (s : State) : State :=
  if s.inPair ∧ s.step.count % 1024 = 0 then
    { s with relay := { s.relay with digest := Config.shadowDigest s.shadow, digestAt := s.step.count } }
  else s

/-- DIGEST_DUE: the active instance sends its digest (R488). -/
def execDigestDue (s : State) : Res :=
  .next (if s.inPair ∧ s.pairSt = 1 then s.pairPost 0x0B (mkBody [(s.relay.digestAt, 6), (s.relay.digest.toNat, 16)]) else s)

/-- DIGEST: the standby compares; a second differing digest in a row asks for a RESYNC (R488). -/
def execDigest (p : Fin 5) (body : BitVec 272) (s : State) : Res :=
  let s1 := s.popMsg p.val 0x0B body
  if !(s1.inPair && s1.standby) ∨ bf body 0 6 ≠ s1.relay.digestAt then .next s1
  else if BitVec.ofNat 128 (bf body 6 16) = s1.relay.digest then .next { s1 with relay := { s1.relay with differ := 0 } }
  else if s1.relay.differ = 0 then .next { s1 with relay := { s1.relay with differ := 1 } }
  else .next ((({ s1 with relay := { s1.relay with differ := 0 } }).put RLY_STATUS.PAIR 0 3).askResync)

/-- The active instance streams its state, and names the step at which it loads (R489). -/
def State.streamResync (s : State) : State :=
  let l := Config.resyncChunks s.shadow
  let s1 := s.forEach ((List.range l.length).zip l) (fun s x => s.pairPost 0x0C (mkBody [(1, 1), (24 * x.1, 4), (x.2, 24)]))
  { s1.pairPost 0x0C (mkBody [(2, 1), (0, 4), (s1.step.count + 1 + Config.resyncLead s1.freeCtr, 24)]) with freeCtr := s1.freeCtr + 1 }

/-- RESYNC: a request (PHASE 0), a chunk (1), or the step of the load (2). -/
def execResync (p : Fin 5) (body : BitVec 272) (s : State) : Res :=
  let s1 := s.popMsg p.val 0x0C body
  if !s1.inPair then .next s1 else
  match bf body 0 1 with
  | 0 => .next (if s1.pairSt = 1 then s1.streamResync else s1)
  | 1 => .next (if s1.standby then { s1 with relay := { s1.relay with chunks := s1.relay.chunks ++ [(bf body 1 4, bf body 5 24)] } } else s1)
  | 2 => .next (if s1.standby then { s1 with relay := { s1.relay with resyncAt := some (bf body 5 24) } } else s1)
  | _ => .next s1

/-- Load one item of a RESYNC. -/
def State.loadItem (s : State) (x : ShadowItem) : State :=
  match x with
  | .reg off w => match Reg.ofOffset off with
    | some (r, i) => s.setReg r i w
    | none => s
  | .heat h x => s.modHeat h (fun _ => x)
  | .slot t x => s.modSlot t (fun _ => x)
  | .baton x => { s with baton := x }
  | .pacer x => { s with pacer := x }
  | .lim x => { s with lim := x }
  | .ledger x => { s with led := x }
  | .queue l => { s with step := { s.step with queue := l } }

/-- At the named boundary the standby loads the state and is STANDBY_SYNC (R489). -/
def State.resyncLoad (s : State) : State :=
  match s.relay.resyncAt with
  | some t =>
    if t ≤ s.step.count ∧ s.standby then
      let s1 := s.forEach (Config.resyncItems s.relay.chunks) State.loadItem
      ({ s1 with relay := { s1.relay with resyncAt := none, chunks := [], differ := 0 } }).put RLY_STATUS.PAIR 0 2
    else s
  | none => s

/-- The planned switch at a boundary (R496): the roles change. -/
def State.planSwitch (s : State) : State :=
  if !s.relay.switching then s else
  let s1 := { s with relay := { s.relay with switching := false } }
  match s.pairSt with
  | 1 => s1.put RLY_STATUS.PAIR 0 2
  | 2 => s1.put RLY_STATUS.PAIR 0 1
  | _ => s1

/-! ### Heartbeat and fail-over (R491 to R495) -/

/-- HB_TO in ns. -/
def State.hbTo (s : State) : Nat := 1000 * clampN 1 4 (s.f RLY_CFG.HB_TO)

/-- The latest acks of the slots that are busy or COMPLETE, of the last 10 ms (R249). -/
def State.resendAcks (s : State) : State :=
  let due := s.slotsIn (fun t => (t.busy || t.st = .COMPLETE) && s.now ≤ t.ackAt + 10000000)
  s.forEach due fun s t => match (s.slot t).lastAck with
    | some a => s.sendAck a.1 a.2
    | none => s

/-- The standby takes the active role (R492, R493): the fence, FAILOVER, the acks that may be lost. -/
def State.failOver (s : State) : State :=
  let s1 := if s.pairSt = 3 then s.put RLY_STATUS.UNSYNC_TKO 0 1 else s
  let s2 := if s.relay.switching then s1.put RLY_STATUS.SW_REF 0 1 else s1
  let s3 := ({ s2 with relay := { s2.relay with fence := some s.now, switching := false, resyncAt := none, chunks := [] } }).put RLY_STATUS.PAIR 0 1
  (s3.ackState 4).resendAcks

/-- HEARTBEAT_LOST: no DATA frame on either pair link for HB_TO (R491); the active instance only raises it (R494). -/
def execHeartbeatLost (s : State) : Res :=
  let last := maxN (s.pairPorts.map (fun p => (s.port p).lastData))
  if !s.inPair ∨ !s.powered ∨ s.relay.hbLost ∨ s.relay.waitFrame ∨ s.relay.fenced ∨ s.now < last + s.hbTo then .next s
  else if s.pairSt = 1 ∨ s.standby then
    let s1 := ({ s with relay := { s.relay with hbLost := true } }).raise .HEARTBEAT_LOST .port 1 .relay .notice
    .next (if s.standby then s1.failOver else s1)
  else .next s

/-- PAIR_FENCE: the partner asserts pair_fence_n (R486). -/
def execPairFence (s : State) : Res :=
  .next (if !s.inPair ∨ !s.powered ∨ s.relay.fenced then s
    else (({ s with relay := { s.relay with fenced := true, fence := none, switching := false } }).put RLY_STATUS.PAIR 0 4).enterBlockReset false)

/-- FENCE_RELEASE: the new active instance releases the fence 1 µs after it has asserted pair_act; the fenced one goes on as a standby that
waits for a DATA frame (R486, R495). -/
def execFenceRelease (s : State) : Res :=
  match s.relay.fence with
  | some t => .next (if t + 1000 ≤ s.now then { s with relay := { s.relay with fence := none } } else s)
  | none =>
    .next (if s.relay.fenced then ({ s with relay := { s.relay with fenced := false, waitFrame := true } }).put RLY_STATUS.PAIR 0 3 else s)

end Sys2Proof.Machine
end

