-- ==== Sys2Proof/Machine/Regions.lean ====
section
/-! DEFINITION. The commands of regions and heats (03_regions_and_heats.md) and the effects of the region commands, mesh changes and
set-point writes. -/

namespace Sys2Proof.Machine

/-- A delay of `k` steps that began at boundary `b` and at time `t` is over: by boundaries while the time base counts them, by k × TSTEP ns
while it is UNSYNC (R536). -/
def State.stepsPassed (s : State) (b t k : Nat) : Bool :=
  match s.step.tb with
  | .UNSYNC => decide (t + k * s.tstep ≤ s.now)
  | _ => decide (b + k ≤ s.step.count)

/-! ### Loss of regulation -/

/-- REGULATION_LOSS: 400 samples at current limit and 50 mV low (R102 to R105). -/
def execRegulationLoss (h : Fin 256) (s : State) : Res :=
  let ms := s.members h.val
  if !(ms.any fun n => (s.rgn n).st.regulating && decide (400 ≤ (s.rgn n).lossRun)) then .next s
  else if ms.length = 1 then .next (s.loseRegulation h.val 2)
  else match argMin (fun n => ((s.outNow n : Int) : Rat)) ms with
    | none => .next s
    | some n =>
      let gs := ((gatesOf n).map (·.1)).filter s.closed
      let s1 := (s.emergOpen gs).forEach ms (fun s k => s.modRgn k (fun r => { r with lossRun := 0 }))
      .next (s1.loseRegulation n 2)

/-- The pending close, or open, of a gate. -/
def State.pendingOf (s : State) (g : Nat) (close : Bool) : Option PMerge := s.merges.find? (fun x => x.gate = g ∧ x.close = close)

/-- MERGE_VOLTAGE_TIMEOUT: 64 boundaries (R109); while the time base is UNSYNC, 64 × TSTEP (R536). -/
def execMergeVoltageTimeout (g : Fin 512) (s : State) : Res :=
  match s.pendingOf g.val true with
  | none => .next s
  | some x =>
    let past := match s.step.tb, x.vfailNs with
      | .UNSYNC, some t => decide (t + 64 * s.tstep ≤ s.now)
      | _, _ => decide (64 ≤ x.vfail)
    if past then .next (s.endMerge x 9) else .next s

/-- FORCED_MERGE_STRETCH_ORDER: the merge waits at step f − 64 (R115); refused by a full queue it is offered again at each boundary until f
(R20). -/
def execForcedMergeStretchOrder (g : Fin 512) (s : State) : Res :=
  match s.pendingOf g.val true with
  | none => .next s
  | some x => match x.f, gateEnds g.val with
    | some f, some (a, _) =>
      if !x.ordered ∧ f ≤ s.step.count + 64 ∧ s.step.count < f ∧ s.running then
        match s.orderMergeStretch (s.domOf a) f with
        | some s1 => .next (s1.setMerge { x with ordered := true })
        | none => .next (s.queueFull .hardware)
      else .next s
    | _, _ => .next s

/-- FORCED_MERGE_DUE: at or after step f the deferral no longer holds; the merge executes when the other conditions hold, DONE_FORCED
(R116). -/
def execForcedMergeDue (g : Fin 512) (s : State) : Res :=
  match s.pendingOf g.val true with
  | none => .next s
  | some x => match x.f, gateEnds g.val with
    | some f, some (a, b) =>
      if f ≤ s.step.count ∧ s.running ∧ x.vfail < 64 ∧ s.closeReady a b ∧ s.closeVolt a b ∧ !s.specOf (s.heatIx a) ∧ !s.specOf (s.heatIx b) then
        .next (s.closeGate x true)
      else .next s
    | _, _ => .next s

/-- SPLIT_REFUSED_LOAD: DEFER_MAX boundaries of deferral (R120). -/
def execSplitRefusedLoad (g : Fin 512) (s : State) : Res :=
  match s.pendingOf g.val false, gateEnds g.val with
  | some x, some (a, _) => if s.deferMax (s.domOf a) ≤ x.dcount then .next (s.endMerge x 10) else .next s
  | _, _ => .next s

/-- SPLITTING_END: one step after the gate opened (R96, R97). -/
def execSplittingEnd (n : Fin 256) (s : State) : Res :=
  let r := s.rgn n.val
  if r.st = .SPLITTING ∧ s.stepsPassed r.splitAt r.splitNs 1 then .next (s.settle n.val (s.settled n.val)) else .next s

/-- NO_LANE_DARK: an islanded region with no current-mode lane and no rescue for 64 steps (R125). -/
def execNoLaneDark (n : Fin 256) (s : State) : Res :=
  let r := s.rgn n.val
  let past : Bool := match r.noLane with
    | none => false
    | some k => if s.step.tb = .UNSYNC then decide (r.noLaneNs + 64 * s.tstep ≤ s.now) else decide (64 ≤ k)
  if past ∧ (r.st = .ISLAND ∨ r.st = .DEGRADED) ∧ s.members (s.heatIx n.val) = [n.val] then .next (s.goDark n.val 4) else .next s

/-! ### Retention (R126 to R129) -/

/-- A retention entry executes; `none` when it is refused (R126). -/
def State.retEntry (s : State) (n : Nat) : Option State :=
  let h := s.heatIx n
  let ms := s.members h
  let ok := fun (k : Nat) =>
    let st := (s.rgn k).st
    s.fb RGN_CTRL.RET_CAP k && (st = .ISLAND || st = .MERGED || st = .DEGRADED)
  if ms = [] ∨ !ms.all ok then none else
  let c := s.f RGN_RETAIN.SETUP h
  let s1 := s.forEach ms (fun s k => s.modRgn k (fun r => { r with before := r.st, st := .RETAIN, ret := true }))
  some (s1.modHeat h (fun t => { t with retDue := some (s.step.count + (if c = 0 then 1 else c)), retNs := s.now, retOp := s.baseV h,
                                         retLow := false, retOut := false }))

/-- A retention exit executes; `none` when the heat is not in RETAIN (R128). -/
def State.retExit (s : State) (n : Nat) : Option State :=
  let h := s.heatIx n
  if (s.rgn n).st = .RETAIN then some (s.modHeat h (fun t => { t with retOut := true, retDue := none })) else none

/-- RETENTION_SETUP_END: SETUP steps after ret_strobe the set-point slews to VRET (R127). -/
def execRetentionSetupEnd (h : Fin 256) (s : State) : Res :=
  let t := s.heat h.val
  match t.retDue with
  | none => .next s
  | some b =>
    let c := s.f RGN_RETAIN.SETUP h.val
    let k := if c = 0 then 1 else c
    if s.stepsPassed (b - k) t.retNs k then .next (s.modHeat h.val (fun t => { t with retDue := none, retLow := true })) else .next s

/-- The sender gives the command in the sample of a step boundary; while the time base is not RUNNING any sample serves (log entry 6). -/
def State.boundaryNow (s : State) : Bool :=
  match s.step.lastEdge with
  | some e => !s.running || decide (s.now < e + 50)
  | none => true

/-- RETENTION_EXIT_DONE: at the first boundary at which the output is within ±5 mV of the operating set-point held at entry (R128): ret_strobe falls, the regions return to
their states before RETAIN. -/
def execRetentionExitDone (h : Fin 256) (s : State) : Res :=
  let t := s.heat h.val
  let ms := s.members h.val
  if t.retOut ∧ s.boundaryNow ∧ ms.all (fun n => decide ((s.outNow n - 100 * ((t.retOp : Nat) : Int)).natAbs ≤ 1000)) then
    let s1 := s.forEach ms (fun s n => s.modRgn n (fun r => if r.st = .RETAIN then { r with st := r.before, ret := false } else r))
    .next (s1.modHeat h.val (fun t => { t with retOut := false, retLow := false, retDue := none }))
  else .next s

/-! ### Vertical groups -/

/-- One group's measurement (R131, R132): its run of low measurements, and whether it has now failed. -/
def State.vgGroup (s : State) (n g : Nat) (cur count sum : Nat) : State × Bool :=
  let low := decide (3 * cur * count < sum)
  let k := tblGet 0 (s.rgn n).vgLow g
  if !low then (s.modRgn n (fun r => { r with vgLow := tblSet 0 r.vgLow g 0 }), false)
  else if k + 1 < 4 then (s.modRgn n (fun r => { r with vgLow := tblSet 0 r.vgLow g (k + 1) }), false)
  else ((s.modRgn n fun r => { r with
      vgLow := tblSet 0 r.vgLow g 0, vgFailed := insertN g r.vgFailed, vgLast := g
      vgKind := if 100 * cur * count < 5 * sum then 0 else 1 }).rgnEvt RGN_EVT.VG_FAIL .VG_FAIL n, true)

/-- Spares not yet used nor promised to a queued mapping. -/
def State.freeSpares (s : State) (n : Nat) : Nat :=
  let r := s.rgn n
  ((List.range 8).filter (fun i => r.vgMap.getD i 127 = 127 && !r.vgFailed.contains (96 + i))).length -
  (s.step.queue.filter (fun e => match e.act with
    | .spareMap k _ => k = n
    | _ => false)).length

/-- A failed group is mapped (R133): queued for the next boundary; at once while the time base is not RUNNING, or when the queue is full
(R20). -/
def State.orderSpare (s : State) (n g : Nat) : State :=
  if s.freeSpares n = 0 then s.groupLost n
  else if !s.running then s.mapSpare n g
  else if s.roomOwn 1 then s.enqueue (s.step.count + 1) (.spareMap n g)
  else (s.mapSpare n g).queueFull .hardware

/-- VG_SCAN: the 1 ms measurement of a region's groups, in the order of their index (R131 to R137). -/
def State.vgScan (s : State) (n : Nat) (currents : List Nat) : State :=
  if s.delivered n < 2400 then s else
  let gs := s.inService n
  let count := gs.length
  let sum := sumN (gs.map (fun g => currents.getD g 0))
  s.forEach gs fun s g =>
    let x := s.vgGroup n g (currents.getD g 0) count sum
    if x.2 then x.1.orderSpare n g else x.1

/-- SPARE_MAPPING: the mapping of a failed group that is queued or not yet mapped (R133). -/
def execSpareMapping (n : Fin 256) (group : Fin 104) (s : State) : Res :=
  let q := s.step.queue.any (fun e => e.act = .spareMap n.val group.val)
  let r := s.rgn n.val
  if q ∧ !s.running then .next ((s.dequeue (fun a => a = .spareMap n.val group.val)).mapSpare n.val group.val)
  else if !q ∧ r.vgFailed.contains group.val ∧ group.val < 96 ∧ !r.vgMap.contains group.val ∧ 0 < s.freeSpares n.val then
    .next (s.orderSpare n.val group.val)
  else .next s

/-- GRACE_PERIOD_END: all the region's gates open and iso_strobe is asserted, whatever state it has reached (R138). -/
def execGracePeriodEnd (n : Fin 256) (s : State) : Res :=
  let r := s.rgn n.val
  match r.graceEnd with
  | none => .next s
  | some e =>
    let g := max 16 (s.f RGN_CTRL.GRACE n.val)
    let past := match s.step.tb with
      | .UNSYNC => decide (r.graceNs + g * s.tstep ≤ s.now)
      | _ => decide (e ≤ s.step.count)
    if !past ∨ r.darkAt.isSome then .next s
    else if r.st = .OFF ∨ r.st = .DARK then .next (s.modRgn n.val (fun r => { r with graceEnd := none }))
    else
      let s1 := (s.refuseMerges n.val).openGates (((gatesOf n.val).map (·.1)).filter s.closed)
      .next (s1.modRgn n.val (fun r => { r with iso := true, darkAt := some s.step.count, darkNs := s.now }))

/-- GRACE_DARK_ENTRY: one step later the lanes are off and the region is DARK, cause 5 (R138). -/
def execGraceDarkEntry (n : Fin 256) (s : State) : Res :=
  let r := s.rgn n.val
  match r.darkAt with
  | none => .next s
  | some b => if s.stepsPassed b r.darkNs 1 then .next (s.goDark n.val 5) else .next s

/-- ISO_STROBE_DEASSERT: TSTEP ns after the entry into ISLAND or DEGRADED while the time base is not RUNNING (R95, R536). -/
def execIsoStrobeDeassert (n : Fin 256) (s : State) : Res :=
  match (s.rgn n.val).isoDue with
  | none => .next s
  | some t => if t ≤ s.now then .next (s.modRgn n.val (fun r => { r with iso := if r.st = .OFF ∨ r.st = .DARK ∨ r.st = .STARTING then r.iso else false, isoDue := none }))
    else .next s

/-! ### Start and stop (R99, R140, R95) -/

/-- A start executes; `none` when it is refused (R99, R140). -/
def State.startRgn (s : State) (n : Nat) : Option State :=
  let r := s.rgn n
  if r.st = .OFF ∧ s.allOpen n ∧ 48 ≤ r.working then some (s.beginAttempt n true) else none

/-- A stop executes; `none` when it is refused (R96): iso_strobe rises, the lanes go off one step later. -/
def State.stopRgn (s : State) (n : Nat) : Option State :=
  let r := s.rgn n
  if (r.st = .ISLAND ∨ r.st = .MERGED ∨ r.st = .DEGRADED) ∧ s.allOpen n then
    some ((s.modRgn n (fun r => { r with st := .OFF, iso := true, ret := false, stopAt := some s.step.count, stopNs := s.now, regSince := none,
                                          graceEnd := none, noLane := none, falseRun := 0, lossRun := 0 })).loseTargets n)
  else none

/-- The lanes of a stopped region go off (R95). -/
def State.stopLanes (s : State) (n : Nat) : State :=
  let r := s.rgn n
  match r.stopAt with
  | none => s
  | some b => if s.stepsPassed b r.stopNs 1 then (s.lanesOff n).modRgn n (fun r => { r with stopAt := none }) else s

/-- CLR_DARK takes effect (R96, R101). -/
def State.darkToOff (s : State) (n : Nat) : State :=
  if (s.rgn n).st = .DARK then s.modRgn n (fun r => { r with st := .OFF, iso := true, attempts := 0, clrDark := false }) else s.modRgn n (fun r => { r with clrDark := false })

/-- RGN_CTRL.CLR_DARK is written. -/
def State.clrDarkWrite (s : State) (n : Nat) : State :=
  if (s.rgn n).st ≠ .DARK then s else
  let s1 := s.modRgn n (fun r => { r with attempts := 0, clrDark := true })
  if s.step.tb = .UNSYNC then s1.darkToOff n else s1

/-! ### Region commands (R143, R659) -/

/-- The due step of DOM_RCMD_STEP; at or below the present count it is the next boundary (R143). -/
def State.rcmdDue (s : State) (d : Nat) : Nat :=
  max (s.step.count + 1) (s.f DOM_RCMD_STEP_LO.STEP_LO d + 2 ^ 32 * s.f DOM_RCMD_STEP_HI.STEP_HI d)

/-- The wake-ups of R111 for a merge due at `due`: of each heat in burst that the gate joins to another. -/
def State.mergeWakes (s : State) (g due : Nat) : State :=
  match gateEnds g with
  | none => s
  | some (a, b) =>
    if s.heatIx a = s.heatIx b then s else
    s.forEach [s.heatIx a, s.heatIx b] fun s h =>
      if (s.heat h).burst then
        let w := max (s.step.count + 1) (due - s.wakeLead h)
        if s.roomOwn 1 then s.enqueue w (.wake h) else (s.wakeHeat h).queueFull .hardware
      else s

/-- A command's outcome on DOM_RCMD_RES: DONE, or REFUSED_STATE where it was refused. -/
def State.rcmdEnd (s : State) (d : Nat) (x : Option State) : State :=
  match x with
  | some t => t.put DOM_RCMD_RES.STATUS d 4
  | none => s.put DOM_RCMD_RES.STATUS d 7

/-- GO is written to DOM_RCMD[d] with its TARGET and OP (R143, R659). -/
def State.rcmdGo (s : State) (p : FMaster) (d : Nat) : State :=
  let st := s.f DOM_RCMD_RES.STATUS d
  if st = 1 ∨ st = 2 ∨ st = 3 then s.put DOM_RCMD_RES.BUSY_ERR d 1 else
  let tgt := s.f DOM_RCMD.TARGET d
  let n := tgt % 256
  let due := s.rcmdDue d
  let s0 := s.put DOM_RCMD_RES.WAITED d 0
  let inDom := s.isPlaced n && s.domOf n = d
  let okGate := s.gateOk tgt && match gateEnds tgt with
    | some (a, _) => s.domOf a = d
    | none => false
  let queue := fun (a : Action) =>
    if s0.roomOut 1 then (s0.enqueue due a).put DOM_RCMD_RES.STATUS d 1
    else (s0.put DOM_RCMD_RES.STATUS d 8).queueFull p
  let now := s.step.tb = .UNSYNC
  match s.f DOM_RCMD.OP d with
  | 0 => if !okGate then s0.put DOM_RCMD_RES.STATUS d 6
    else if s0.roomOut 1 then (queue (.close tgt (.cmd d))).mergeWakes tgt due else queue (.close tgt (.cmd d))
  | 1 => if !okGate then s0.put DOM_RCMD_RES.STATUS d 6 else queue (.openG tgt (.cmd d))
  | 2 => if !inDom then s0.put DOM_RCMD_RES.STATUS d 7 else if now then s0.rcmdEnd d (s0.startRgn n) else queue (.start n d)
  | 3 => if !inDom then s0.put DOM_RCMD_RES.STATUS d 7 else if now then s0.rcmdEnd d (s0.stopRgn n) else queue (.stop n d)
  | 4 => if !inDom then s0.put DOM_RCMD_RES.STATUS d 7 else if now then s0.rcmdEnd d (s0.retEntry n) else queue (.retIn n d)
  | 5 => if !inDom then s0.put DOM_RCMD_RES.STATUS d 7 else if now then s0.rcmdEnd d (s0.retExit n) else queue (.retOut n d)
  | _ => s0.put DOM_RCMD_RES.STATUS d 7

/-! ### Mesh and set-point writes (R121, R595, R596) -/

/-- The closed gates of a domain. -/
def State.domGates (s : State) (d : Nat) : List Nat :=
  (s.gates.entries.map (·.1)).filter fun g => match gateEnds g with
    | some (a, _) => s.isPlaced a && s.domOf a = d
    | none => false

/-- The heat-plan gates of a domain. -/
def State.planGates (s : State) (d : Nat) : List Nat :=
  s.plan.filter fun g => match gateEnds g with
    | some (a, _) => s.isPlaced a && s.domOf a = d
    | none => false

/-- DOM_CTRL.MESH is written (R595). -/
def State.meshWrite (s : State) (p : FMaster) (d : Nat) (mesh : Bool) : State :=
  if s.fb DOM_CTRL.MESH d = mesh then s
  else if s.roomOut 1 then
    (((s.put DOM_CTRL.MESH d (if mesh then 1 else 0)).put DOM_STATUS.MESH_PEND d 1)).enqueue (s.rcmdDue d) (.mesh d (!mesh))
  else (s.put DOM_STATUS.QFULL d 1).queueFull p

/-- A mesh change executes (R121): to islanded mode every closed gate of the domain opens, R120 applying to each; to domain mode the regions
slew to the domain set-point and the plan's gates close when they have reached it. -/
def State.meshExec (s : State) (d : Nat) (domain : Bool) : State :=
  let s1 := (s.put DOM_STATUS.MESH_PEND d 0).put DOM_STATUS.MESH d (if domain then 0 else 1)
  if domain then { s1 with planLeft := s1.planLeft.filter (· ≠ d) ++ [d] }
  else
    let s2 := { s1 with planLeft := s1.planLeft.filter (· ≠ d) }
    s2.forEach (s2.domGates d) (fun s g => s.openDue g (.plan d))

/-- The plan's gates of a domain close once every heat of the domain that regulates is at target (R121). -/
def State.planClose (s : State) (d : Nat) : State :=
  let hs := s.allHeats.filter (fun h => s.domOf h = d && (s.rgn h).st.regulating)
  if hs.all (fun h => (s.heat h).atTgt) then
    let s1 := { s with planLeft := s.planLeft.filter (· ≠ d) }
    s1.forEach (s1.planGates d) (fun s g => s.closeDue g (.plan d))
  else s

/-- DOM_SETPT is written (R596). -/
def State.domSetptWrite (s : State) (p : FMaster) (d v : Nat) (sched : Bool) : State :=
  if sched then
    if s.roomOut 1 then ((s.put DOM_SETPT.VSET d v).put DOM_SETPT.SCHED d 1).enqueue (s.rcmdDue d) (.domSetpt d v)
    else (s.put DOM_STATUS.QFULL d 1).queueFull p
  else { ((s.put DOM_SETPT.VSET d v).put DOM_SETPT.SCHED d 0) with domV := tblSet 1600 s.domV d v }

/-- RGN_SETPT is written (R596). -/
def State.rgnSetptWrite (s : State) (p : FMaster) (n v : Nat) (sched : Bool) : State :=
  let d := s.domOf n
  if sched then
    if s.roomOut 1 then ((s.put RGN_SETPT.VSET n v).put RGN_SETPT.SCHED n 1).enqueue (s.rcmdDue d) (.rgnSetpt n v)
    else (s.put DOM_STATUS.QFULL d 1).queueFull p
  else ((s.put RGN_SETPT.VSET n v).put RGN_SETPT.SCHED n 0).modRgn n (fun r => { r with hostV := v })

end Sys2Proof.Machine
end

