-- ==== Sys2Proof/Machine/Sample.lean ====
section
/-! DEFINITION. SAMPLE_PERIOD: one period of 50 ns (R147): what every unit does in it. -/

namespace Sys2Proof.Machine

/-! ### Pending merges -/

/-- Judge every pending close, and while the time base is RUNNING every pending open (R108, R118, R536). -/
def State.judgeMerges (s : State) (running : Bool) : State :=
  s.forEach s.merges fun s x =>
    if !s.merges.contains x then s
    else if x.close then s.judgeClose x running
    else if running then s.judgeOpen x else s

/-! ### The domain start (R535) -/

/-- The start order: an ORDER that is no permutation acts as 2, 3, 1, 0. -/
def State.startOrder (s : State) : List Nat :=
  let o := s.f BOOT_CFG.ORDER
  let l := [o % 4, o / 4 % 4, o / 16 % 4, o / 64 % 4]
  if [0, 1, 2, 3].all l.contains then l else [2, 3, 1, 0]

/-- Every region of a domain has ended its start: it regulates, or is DARK or OFF. -/
def State.domSettled (s : State) (d : Nat) : Bool := (s.domRgns d).all (fun n => (s.rgn n).st != .STARTING)

/-- The heat plan of the domain that starts is closed once its regions have started; then the gap runs. -/
def State.bootTrack (s : State) : State :=
  if s.f BOOT_STATUS.STAGE ≠ 6 ∨ s.boot.domPos = 0 then s else
  let d := s.startOrder.getD (s.boot.domPos - 1) 0
  if !s.domSettled d then { s with boot := { s.boot with domSettled := none } }
  else
    let s1 := if s.boot.planDone then s else
      let s1 := { s with boot := { s.boot with planDone := true } }
      if s.fb DOM_STATUS.MESH d then s1 else s1.forEach (s1.planGates d) (fun s g => s.closeDue g (.plan d))
    let left := s1.merges.any (fun x => x.origin = .plan d)
    { s1 with boot := { s1.boot with domSettled := if left then none else some (s1.boot.domSettled.getD s1.now) } }

/-! ### Transitions off a boundary (R536) -/

/-- What a region does at a sample while the time base is UNSYNC. -/
def State.unsyncRgn (s : State) (n : Nat) : State :=
  let s1 := s.stopLanes n
  let s2 := if (s1.rgn n).st = .STARTING ∧ (s1.rgn n).rampDone then s1.islandEntry n else s1
  let s3 := s2.degrade n
  if (s3.rgn n).clrDark then s3.darkToOff n else s3

/-- The transitions of R96 and the heat-plan closes, at a sample while the time base is UNSYNC. -/
def State.unsyncSample (s : State) : State :=
  if s.step.tb = .UNSYNC then (s.forEach s.placed State.unsyncRgn).judgeMerges false else s

/-! ### The Limits unit's and Pacer's parts -/

/-- Output power of regulating regions (R304), in units of 5 nW, without the unconfirmed lift. -/
def State.limitsSample (s : State) : State :=
  let p := fun (n : Nat) =>
    let h := s.heatIx n
    if (s.rgn n).st.regulating then ((s.heat h).ref - s.unconfLift h) * s.delivered n else 0
  let s1 := s.forEach s.placed (fun s n => s.modRgn n (fun r => { r with pTick := r.pTick + p n }))
  { s1 with lim := { s1.lim with smpN := s1.lim.smpN + 1, pSum := s1.lim.pSum + ((sumN (s.placed.map p) : Nat) : Int) } }

/-- What stops every region's learning, or voids the mismatch window, in this sample (R282, R303). -/
def State.pacerSample (s : State) : State :=
  let off := s.boot.pause.isSome || s.led.scrub.isSome || s.blockReset.isSome || !s.running
  { s with pacer := { s.pacer with
    stepVoid := s.pacer.stepVoid || off || !s.fb REP_CFG.LEARN || s.pacer.len = 0
    winVoid := s.pacer.winVoid || off || !s.fb COEF_CTRL.EN } }

/-! ### STRIDE records (R617, R619) -/

/-- A stage value as a record holds it: mantissa and exponent. -/
def stageWord (x : Stage) : Nat := unsigned 18 x.m + 2 ^ 18 * unsigned 6 x.e

/-- The words of a region's STRIDE record. -/
def State.strideWords (s : State) (n : Nat) : List Nat :=
  let r := s.rgn n
  let t := s.heat (s.heatIx n)
  let peak := maxN ((lanesOf n).map (fun m => (s.lane m).peak))
  [n + 256 * r.win + 1024 * t.seg + (if r.spec then 32768 else 0), unsigned 18 r.er, unsigned 18 t.eH, stageWord t.dv, stageWord r.ur,
    unsigned 32 t.iH, peak + 512 * r.nShare + 8192 * (r.nFoll % 8)]

/-- The regions that PF_RGN names: a byte equal to the one below it is not traced again. -/
def State.tracedRgns (s : State) : List Nat :=
  let w := (s.reg .PF_RGN).toNat
  let b := fun (i : Nat) => w / 256 ^ i % 256
  (List.range 4).filterMap fun i => if i ≠ 0 ∧ b i = b (i - 1) then none else some (b i)

/-- STRIDE records of a sample, every 2^DEC-th. -/
def State.pfSample (s : State) : State :=
  if !s.fb PF_CTRL.ARM then s else
  let s1 := { s with pf := { s.pf with smp := s.pf.smp + 1 } }
  if s.fb PF_CFG.STR_EN ∧ s.pf.smp % 2 ^ min 12 (s.f PF_CFG.DEC) = 0 then
    s1.forEach s1.tracedRgns (fun s n => s.pfRecord 2 (s.strideWords n))
  else s1

/-! ### SAMPLE_PERIOD -/

/-- The trial clock stands still while its firmware does not run or NVM_OK is 0 (R547, R550). -/
def State.trialClock (s : State) : State :=
  if s.fb BOOT_STATUS.TRIAL ∧ !(s.marshalOn && s.fb GAU_TSTAT.NVM_OK) then { s with boot := { s.boot with minuteAt := s.boot.minuteAt + 50 } } else s

/-- One period. Region samples are taken at the multiples of 50 ns of local time; the period ends at the next. -/
def State.samplePeriod (s : State) (rs : List (Nat × RgnRead)) : State :=
  let s1 := (s.immSetpts).stride rs
  let s2 := if s.resume = some 1 ∧ s1.resume = none then s1.ackState 3 else s1
  let s3 := (s2.unsyncSample.bootTrack).finishSlots.lowRelease
  let s4 := (s3.limitsSample.meter).telemetrySample.pacerSample.pfSample
  let s5 := if s4.running ∧ s4.fine ≤ 300 then s4.showLevel else s4
  { s5.trialClock with now := (s5.now / 50 + 1) * 50 }

/-- SAMPLE_PERIOD. -/
def execSamplePeriod (rs : List (Nat × RgnRead)) (s : State) : Res :=
  checked (readsOk rs) "reads" (.next (if s.powered then s.samplePeriod rs else s))

end Sys2Proof.Machine
end

