-- ==== Sys2Proof/Machine/Boundary.lean ====
section
/-! DEFINITION. STEP_BOUNDARY and the time base (R21, R24, R25, R193 to R203, R653): what every unit does at a step boundary. -/

namespace Sys2Proof.Machine

/-! ### The step that ends (R267, R281 to R283, R301) -/

/-- The update of one bin (R281). -/
def binUpdate (s : State) (r b : Nat) (x : Int) : State :=
  let top : Int := (4 * max 1 (s.f REP_CFG.CLAMP) : Nat)
  { s with pacer := { s.pacer with bins := tblMod 0 s.pacer.bins (256 * r + b) (fun v => clampI (-top) top (v + x)) } }

/-- A region learns from the step that ends (R281). -/
def State.learn (s : State) (n t m : Nat) : State :=
  let err : Int := 4 * ((m : Int) - (s.fFull n t : Nat)) - s.qRep n t
  let pos := s.phaseAt t * 65536 / s.pacer.len
  let b := pos / 256
  let fr : Int := ((pos % 256 : Nat) : Int)
  let rg := s.f REP_CFG.RG
  let part := fun (k : Int) => (err * k + 2 ^ (rg + 7)) / (2 ^ (rg + 8) : Int)
  let x0 := part (256 - fr)
  let x1 := part fr
  binUpdate (binUpdate s n b x0) n ((b + 1) % 256) x1

/-- A region's part of the end of step `t`: M_r, learning, the mismatch sums (in 0.25 mA). -/
def State.endStepRgn (s : State) (t n : Nat) : State :=
  let r := s.rgn n
  let m := if r.stepN = 0 then 0 else roundNat ((r.stepSum : Rat) / (r.stepN : Rat))
  let p : Int := 4 * ((s.fFull n t : Nat) : Int) + s.qRep n t
  let good := !s.pacer.stepVoid && !r.stepBad && r.st.regulating && decide (r.mode = .FORECAST) && s.fb REP_CFG.LEARN && s.pacer.len != 0
  let s1 := if good then s.learn n t m else s
  s1.modRgn n fun r => { r with
    mLast := m, stepSum := 0, stepN := 0, stepBad := false
    sErr := r.sErr + (p - 4 * (m : Int)).natAbs, sRef := r.sRef + 4 * max m (s.f COEF_MM_CFG.FLOOR)
    winBad := r.winBad || decide (r.mode = .HELD) || !r.st.regulating }

/-- A window that began without its predecessor's judgement starts afresh. -/
def State.windowStart (s : State) : State :=
  if s.step.count % 1024 = 0 ∧ s.pacer.winSteps ≠ 0 then
    let s1 := s.forEach s.placed (fun s n => s.modRgn n (fun r => { r with sErr := 0, sRef := 0 }))
    { s1 with pacer := { s1.pacer with winSteps := 0 } }
  else s

/-- The running step ends at time `t` (R267, R283). -/
def State.endStep (s : State) (t : Nat) : State :=
  let s0 := s.windowStart
  let s1 := s0.forEach s0.placed (fun s n => s.endStepRgn s0.step.count n)
  { s1 with
    pacer := { s1.pacer with winSteps := s1.pacer.winSteps + 1, stepVoid := false }
    step := { s1.step with lenNs := min 1048575 (t - s1.step.lastEdge.getD t), openX := s1.step.nowX } }

/-! ### The queue at a boundary (R21, R25) -/

/-- Stable insertion by due step. -/
def insertDue (a : QEntry) : List QEntry → List QEntry
  | [] => [a]
  | b :: t => if a.due < b.due then a :: b :: t else b :: insertDue a t

/-- Due-step order, entries of one step in the order in which they entered the queue. -/
def sortDue (l : List QEntry) : List QEntry := l.foldl (fun acc a => insertDue a acc) []

/-- An action executes at the boundary. -/
def State.execAction (s : State) (e : QEntry) : State :=
  match e.act with
  | .ctxSwitch .. | .ctxClose .. => s.ctxAction e.act
  | .stretch src x => s.stretchExec e.due src x
  | .mesh d dom => s.meshExec d dom
  | .close g o => s.closeDue g o
  | .openG g o => s.openDue g o
  | .spareMap n g => s.mapSpare n g
  | .stop n d => s.rcmdEnd d (s.stopRgn n)
  | .start n d => s.rcmdEnd d (s.startRgn n)
  | .retIn n d => s.rcmdEnd d (s.retEntry n)
  | .retOut n d => s.rcmdEnd d (s.retExit n)
  | .setpt tag => s.setptDue tag (decide (e.due < s.step.count))
  | .lift id => s.execLift id
  | .liftEnd id => s.endLift id
  | .domSetpt d v => { s with domV := tblSet 1600 s.domV d v }
  | .rgnSetpt n v => s.modRgn n (fun r => { r with hostV := v })
  | .wake h => s.wakeHeat h
  | .laneWake m => s.wakeLane m
  | .burst h => s.enterBurst h
  | .laneOff m => s.laneOffAt m
  | .laneRetire m => s.retireLane m 7
  | .period len _ => s.setPeriod len e.due

/-- Execute the due actions of one type in the order of R21 that a test picks. -/
def State.runRank (s : State) (k : Nat) (pick : QEntry → Bool) : State :=
  s.forEach (sortDue (s.step.queue.filter (fun e => e.act.rank = k && decide (e.due ≤ s.step.count) && pick e))) fun s e =>
    if s.step.queue.contains e then ({ s with step := { s.step with queue := s.step.queue.erase e } }).execAction e else s

/-- All due actions of one type. -/
def State.runAll (s : State) (k : Nat) : State := s.runRank k (fun _ => true)

/-! ### Regions at a boundary (R95, R96, R122, R125) -/

/-- A region's transitions that take effect at the boundary. -/
def State.boundaryRgn (s : State) (n : Nat) : State :=
  let s1 := s.stopLanes n
  let s2 := if (s1.rgn n).st = .STARTING ∧ (s1.rgn n).rampDone then s1.islandEntry n else s1
  let s3 := s2.degrade n
  let s4 := if (s3.rgn n).clrDark then s3.darkToOff n else s3
  s4.modRgn n (fun r => { r with noLane := r.noLane.map (· + 1) })

/-- A rescue that the queue refused is offered again (R20). -/
def State.reofferRescue (s : State) (n : Nat) : State :=
  match (s.rgn n).rescueWait with
  | some g => if (s.rgn n).st.regulating ∧ s.members (s.heatIx n) = [n] then s.scheduleRescue n g
    else s.modRgn n (fun r => { r with rescueWait := none })
  | none => s

/-- Steps 1 and 2 of R21: contexts, with an ended scrub first; stretches, of which those made late apply from the next boundary (R314). -/
def State.boundaryTime (s : State) : State :=
  let s1 := (s.finishScrub).runAll 1
  let c := s1.step.count
  let s2 := ((s1.runRank 2 (fun e => e.due = c)).applyLevel).runAll 2
  if s2.f LIM_STR_STATUS.SRC = 5 then { s2 with pacer := { s2.pacer with winVoid := true } } else s2

/-- Steps 3 to 8: gates, spares, stops, starts, retention. -/
def State.boundaryRegions (s : State) : State :=
  let s1 := (s.forEach s.placed State.boundaryRgn).runAll 3
  let s2 := (s1.forEach s1.planLeft State.planClose).forEach s1.placed State.reofferRescue
  let s3 := ((s2.runAll 4).judgeMerges true).splitRuns
  (((s3.runAll 5).runAll 6).runAll 7).runAll 8

/-- Steps 9 to 12: set-points, the deferred ones first; the end of the forced lowest state; wake-ups, sheds, periods. -/
def State.boundaryMoves (s : State) : State :=
  let s1 := (s.forEach s.deferredSlots State.setptRetry).runAll 9
  (((s1.lowEnd).runAll 10).runAll 11).runAll 12

/-! ### Pacer at a boundary (R257, R268, R292) -/

/-- The ring holds steps c to c + 8: what it lacks is computed now (R268). -/
def State.ringStep (s : State) : State :=
  let c := s.step.count
  let keep := s.pacer.ring.filter (fun e => c ≤ e.t && e.t < c + 8)
  let news : List RingEnt := s.placed.flatMap fun n => ((List.range 9).map (· + c)).filterMap fun t =>
    if keep.any (fun (e : RingEnt) => e.n = n && e.t = t) then none else some (s.ringEnt n t)
  { s with pacer := { s.pacer with ring := keep ++ news } }

/-- Pre-bias requests end at their step. -/
def State.prebStep (s : State) : State :=
  s.forEach s.placed (fun s' n => s'.modRgn n (fun r => { r with preb := r.preb.filter (fun t => s.step.count < t) }))

/-! ### A recognised boundary -/

/-- The count at a boundary (R193, R199): an applied frame sets it; a jump is reported except at the end of UNSYNC. -/
def State.countStep (s : State) (t : Nat) (frame : Option Nat) : State :=
  let own := (s.step.count + 1) % 2 ^ 48
  let c := frame.getD own
  let un := decide (s.step.tb = .UNSYNC)
  let jump := !un && c != own
  let s1 := { s with step := { s.step with
    count := c, lastEdge := some t, edge := some t, tb := .RUNNING, bcast := if frame.isSome then none else s.step.bcast
    sinceFrame := s.step.sinceFrame + 1 } }
  if !jump then s1 else
    let s2 := { s1 with pacer := { s1.pacer with winVoid := true }, gauge := { s1.gauge with jumped := true } }
    (s2.put STP_STATUS.JUMP 0 1).raiseHw .STEP_JUMP .none 0

/-- Photo-finish's step trigger (R620). -/
def State.pfStep (s : State) : State :=
  if s.fb PF_TRIG.STEP ∧ s.step.count = (s.reg .PF_TRIG_STEP_LO).toNat + 2 ^ 32 * ((s.reg .PF_TRIG_STEP_HI).toNat % 65536) then s.pfTrigger 2 else s

/-- A DOM_RCMD command that has not ended has waited at this boundary (DOM_RCMD_RES.WAITED). -/
def State.rcmdWait (s : State) (d : Nat) : State :=
  let st := s.f DOM_RCMD_RES.STATUS d
  if st = 1 ∨ st = 2 ∨ st = 3 then s.bump DOM_RCMD_RES.WAITED d else s

/-- Every unit's work at the boundary, in the order of R21. -/
def State.atBoundary (s : State) : State :=
  let s1 := s.boundaryTime
  let s2 := (s1.applyDue s1.step.count).passBarriers s1.step.count
  let s3 := (s2.boundaryRegions).boundaryMoves
  let s4 := (((s3.forEach (List.range 4) State.rcmdWait).ringStep).prebStep).showLevel
  let s5 := (s4.planSwitch).resyncLoad
  ((s5.stepTriggers).takeDigest).pfStep

/-- A rising edge of step_pulse at time `t` (R193, R194, R197, R202, R203, R653). -/
def State.stepEdge (s0 : State) (t : Nat) : State :=
  let s := s0.advance t
  if s.step.edge.any (fun e => t < e + 400) then (s.put STP_STATUS.SHORT_STEP 0 1).raiseHw .SHORT_STEP .none 0
  else
    let frame : Option Nat := match s.step.bcast with
      | some (c, stop) => if stop + 20 ≤ t then some c else none
      | none => none
    let was := s.step.tb
    if was = .UNSYNC ∧ frame.isNone then { s with step := { s.step with edge := some t } }
    else
      let s1 := if was = .UNSYNC then { s with pacer := { s.pacer with stepVoid := true } } else s.endStep t
      let s2 := s1.countStep t frame
      let s3 := if was = .RUNNING then s2 else s2.ackState 8
      s3.atBoundary

/-- STEP_BOUNDARY. -/
def execStepBoundary (t : Nat) (s : State) : Res := .next (if s.powered then s.stepEdge t else s)

/-! ### The time base -/

/-- A gating hold is in force (STP_STATUS.GATE_HOLD). -/
def State.gateHold (s : State) : Bool := s.slots.entries.any (fun e => e.2.hold)

/-- TIME_BASE_IDLE: step_pulse absent for more than 100 µs from the last boundary or the end of the last gating hold (R24, R203). -/
def execTimeBaseIdle (s : State) : Res :=
  if s.running ∧ !s.gateHold ∧ max (s.step.lastEdge.getD 0) s.step.holdEnd + 100000 < s.now then
    .next (({ s with step := { s.step with tb := .IDLE }, pacer := { s.pacer with stepVoid := true, winVoid := true } }).ackState 7)
  else .next s

/-- The fields of a step_bcast frame are right (R196, R197). -/
def frameGood (f : BitVec 64) (stop : Bool) : Bool := stop && f.toNat / 2 ^ 56 = 0xB5 && crc8 f = f.toNat % 256

/-- STEP_BCAST_FRAME: its stop bit ends at `t` (R197, R201). -/
def execStepBcastFrame (frame : BitVec 64) (stop : Bool) (t : Nat) (s : State) : Res :=
  if !s.powered then .next s else
  let s1 := s.advance t
  if frameGood frame stop then
    .next { s1 with step := { s1.step with bcast := some (frame.toNat / 256 % 2 ^ 48, t), sinceFrame := 0, missRep := false } }
  else if 255 ≤ s1.f BAT_ERR2.BCAST then .next s1
  else .next ((s1.bump BAT_ERR2.BCAST).raise .BCAST_FRAME .none 0 .hardware .notice)

/-- BCAST_MISS: 4,096 boundaries without an accepted frame (R201). -/
def execBcastMiss (s : State) : Res :=
  if 4096 ≤ s.step.sinceFrame ∧ !s.step.missRep then
    .next ((({ s with step := { s.step with missRep := true } }).put STP_STATUS.BCAST_MISS 0 1).raiseHw .BCAST_MISS .none 0)
  else .next s

/-- VG_SCAN (R131): the measurement of a loaded region's groups. -/
def execVgScan (n : Fin 256) (currents : List Nat) (s : State) : Res := checked (currentsOk currents) "currents" (.next (s.vgScan n.val currents))

end Sys2Proof.Machine
end

