-- ==== Sys2Proof/Machine/Flash.lean ====
section
/-! DEFINITION. The flash (12_startup_and_update.md): partitions, pages, key slots, the check of an image, boot records, the Pacer model
image. -/

namespace Sys2Proof.Machine

/-! ### Partitions and pages (R522 to R525) -/

/-- The reference layout: ID, offset, bytes. -/
def refParts : List (Nat × Nat × Nat) :=
  [(0, 0x000000, 0x40000), (1, 0x040000, 0x20000), (2, 0x060000, 0x20000), (3, 0x080000, 0x100000), (4, 0x180000, 0x100000),
   (5, 0x280000, 0x80000), (6, 0x300000, 0x80000), (7, 0x380000, 0x40000), (8, 0x3C0000, 0x100000), (9, 0x4C0000, 0x100000),
   (10, 0x5C0000, 0x400000)]

/-- Two ranges overlap. -/
def overlap (a b : Nat × Nat × Nat) : Bool := decide (a.2.1 < b.2.1 + b.2.2 ∧ b.2.1 < a.2.1 + a.2.2)

/-- No two of the partitions overlap. -/
def noOverlap : List (Nat × Nat × Nat) → Bool
  | [] => true
  | a :: t => t.all (fun b => !overlap a b) && noOverlap t

/-- A partition table passes R523 on a flash of `size` bytes; it names every partition. -/
def partsOk (size : Nat) (l : List (Nat × Nat × Nat)) : Bool :=
  l.all (fun x => x.2.1 % 65536 = 0 && x.2.2 % 65536 = 0 && decide (x.2.1 + x.2.2 ≤ size)) && noOverlap l &&
    refParts.all (fun r => l.any (fun x => x.1 = r.1 && decide (r.2.2 ≤ x.2.2)))

/-- A partition's first page and its number of pages; before the table is verified, of the reference layout. -/
def State.part (s : State) (id : Nat) : Nat × Nat :=
  let l := if s.boot.parts = [] then refParts else s.boot.parts
  ((l.find? (fun x => x.1 = id)).map (fun x => (x.2.1 / 4096, x.2.2 / 4096))).getD (0, 0)

/-- An erased page. -/
def blankPage : List Byte := List.replicate 4096 0xFF#8

/-- The bytes of a page of the flash. -/
def State.page (s : State) (k : Nat) : List Byte := tblGet blankPage s.nvm.pages k

/-- Program a page. -/
def State.setPage (s : State) (k : Nat) (b : List Byte) : State := { s with nvm := { s.nvm with pages := tblSet blankPage s.nvm.pages k b } }

/-- The pages of a partition. -/
def State.partPages (s : State) (id : Nat) : List (List Byte) :=
  (List.range (s.part id).2).map (fun j => s.page ((s.part id).1 + j))

/-- The page key of an epoch (R526). -/
def State.epochKey (s : State) (e : Nat) : Option (BitVec 256) :=
  [s.nvm.key0, s.nvm.key1].findSome? fun k => if k.epoch = e then (s.slotKeys k).map (·.1) else none

/-- The IV of a page: header bytes 2 to 11 and two zero bytes (R524). -/
def pageIv (b : List Byte) : BitVec 96 := BitVec.ofNat 96 (ofBe ((b.drop 2).take 10 ++ [0#8, 0#8]))

/-- The payload of a page, or why it is not read (R524, R525). -/
def State.openPage (s : State) (b : List Byte) : Except Src (List Byte) :=
  match s.epochKey (byteAt b 3) with
  | none => .error .KEY_EPOCH
  | some k =>
    if leAt b 0 2 ≠ 0x5150 ∨ 4064 < leAt b 12 2 then .error .PAGE_TAG else
    match Config.gcmOpen k (pageIv b) (b.take 16) ((b.drop 16).take 4064) (BitVec.ofNat 128 (ofBe ((b.drop 4080).take 16))) with
    | some p => .ok (p.take (leAt b 12 2))
    | none => .error .PAGE_TAG

/-- The payloads of pages one after another, or why the first unread one is not read. -/
def State.openPages (s : State) : List (List Byte) → Except Src (List Byte)
  | [] => .ok []
  | b :: t => match s.openPage b with
    | .error x => .error x
    | .ok p => match s.openPages t with
      | .error x => .error x
      | .ok q => .ok (p ++ q)

/-- Report a page or an image that fails, with the master and access of R422: a flash address. -/
def State.raiseNvm (s : State) (x : Src) (addr : Nat) : State := s.raise x .nvm addr .marshal .read

/-! ### Images (R517, R527, R528) -/

/-- The manifest in page 0. -/
def manifestOf (p : List Byte) : Manifest :=
  { kind := byteAt p 4, flags := byteAt p 5, format := leAt p 6 2, version := leAt p 8 4, svn := byteAt p 12, epoch := byteAt p 13
    setMin := byteAt p 14, setCur := byteAt p 15, len := leAt p 0x20 4 }

/-- Check 1: MAGIC, KIND, the reserved bytes, and LEN against `n` pages. -/
def manifestOk (kind n : Nat) (p : List Byte) : Bool :=
  let zero := fun (o k : Nat) => leAt p o k = 0
  leAt p 0 4 = 0x5142494D && byteAt p 4 = kind && zero 0x24 12 && zero 0xC1 63 && zero 0x160 160 && decide (512 ≤ p.length) &&
    decide (512 + leAt p 0x20 4 ≤ 4064 * n)

/-- The Opal security version: consecutive ones from bit 0 of word 62 (R517). -/
def State.opalSvn (s : State) : Nat :=
  let v := (s.opalWord 62).toNat + 2 ^ 32 * (s.opalWord 63).toNat
  ((List.range 64).takeWhile (fun i => v.testBit i)).length

/-- Check 3: PUBKEY hashes to an unrevoked root, and SIG verifies. -/
def State.imageAuth (s : State) (p : List Byte) : Bool :=
  let key := (p.drop 0x60).take 97
  let h := (Config.sha384 key).toNat
  let root := fun (w bit : Nat) => h = ofLe (s.opalBytes w 12) && !(s.opalWord 61).getLsbD bit
  (root 3 0 || root 15 1) && Config.ecdsaOk key ((p.drop 0x100).take 96) (p.take 0x100)

/-- Check 4: BLOCK, CHIP and UNIT. -/
def State.imageBound (s : State) (p : List Byte) : Bool :=
  let unit := leAt p 0x18 8
  leAt p 0x10 4 = 0x0B202048 && leAt p 0x14 4 = (s.opalWord 0).toNat &&
    (if unit = 0 then !(byteAt p 4 = 1 && (s.opalWord 59).getLsbD 1) else unit = (s.opalWord 1).toNat + 2 ^ 32 * (s.opalWord 2).toNat)

/-- The checks of R528 in their order: the manifest and the payload after it, or the result code and the fault source. -/
def State.checkImage (s : State) (kind : Nat) (pages : List (List Byte)) : Except (Nat × Src) (Manifest × List Byte) :=
  match s.openPage (pages.headD blankPage) with
  | .error x => .error (if x = .KEY_EPOCH then 0x9 else 0x5, x)
  | .ok p =>
    let m := manifestOf p
    if !manifestOk kind pages.length p then .error (0xB, .IMAGE_AUTH)
    else if (s.epochKey m.epoch).isNone then .error (0x9, .KEY_EPOCH)
    else if !s.imageAuth p then .error (0x6, .IMAGE_AUTH)
    else if !s.imageBound p then .error (0x7, .IMAGE_BINDING)
    else if m.svn < s.opalSvn then .error (0x8, .IMAGE_AUTH)
    else match s.openPages (pages.take (ceilDiv (512 + m.len) 4064)) with
      | .error x => .error (0x5, x)
      | .ok all =>
        let body := (all.drop 512).take m.len
        if (Config.sha384 body).toNat = ofLe ((p.drop 0x30).take 48) then .ok (m, body) else .error (0x5, .IMAGE_AUTH)

/-- Check the image in a partition. -/
def State.checkPart (s : State) (kind id : Nat) : Except (Nat × Src) (Manifest × List Byte) := s.checkImage kind (s.partPages id)

/-- The partition of a firmware slot; of a settings slot. -/
def fwPart (slot : Nat) : Nat := 3 + slot
def setPart (slot : Nat) : Nat := 5 + slot

/-- The byte address of a partition. -/
def State.partAddr (s : State) (id : Nat) : Nat := 4096 * (s.part id).1

/-! ### Boot records (R543, R547 to R549) -/

/-- A trial: its firmware slot, the settings slot it uses, its boots and minutes (R547). -/
structure Trial where
  slot : Nat
  set : Nat
  boots : Nat
  minutes : Nat
  deriving DecidableEq, Repr

/-- One record's part in the replay. -/
def trialStep (t : Option Trial) (r : BootRec) : Option Trial :=
  match r with
  | .trialStart slot set => some ⟨slot, set, 1, 0⟩
  | .trialBoot => t.map (fun x => { x with boots := x.boots + 1 })
  | .trialMinute => t.map (fun x => { x with minutes := x.minutes + 1 })
  | .setUse set => t.map (fun x => { x with set := set })
  | .commit | .rollback => none
  | _ => t

/-- The trial that the boot records show. -/
def Nvm.trial (v : Nvm) : Option Trial := v.recs.foldl trialStep none

/-- Append a boot record. -/
def State.record (s : State) (r : BootRec) : State := { s with nvm := { s.nvm with recs := s.nvm.recs ++ [r] } }

/-- The settings slot in use that the boot records name. -/
def Nvm.setInUse (v : Nvm) : Nat := (v.trial.map (·.set)).getD v.setCommitted

/-- A settings slot comes into use: of the trial, or committed. -/
def State.useSet (s : State) (set : Nat) : State :=
  let s1 := s.record (.setUse set)
  if s.nvm.trial.isSome then s1 else { s1 with nvm := { s1.nvm with setCommitted := set } }

/-- What firmware has written to a settings slot. -/
def Nvm.setRec (v : Nvm) (slot : Nat) : SetRec := if slot = 0 then v.set0 else v.set1

/-- Change it. -/
def State.modSetRec (s : State) (slot : Nat) (f : SetRec → SetRec) : State :=
  { s with nvm := if slot = 0 then { s.nvm with set0 := f s.nvm.set0 } else { s.nvm with set1 := f s.nvm.set1 } }

/-- A key slot. -/
def Nvm.key (v : Nvm) (slot : Nat) : KeySlot := if slot = 0 then v.key0 else v.key1

/-- Change it. -/
def State.modKey (s : State) (slot : Nat) (f : KeySlot → KeySlot) : State :=
  { s with nvm := if slot = 0 then { s.nvm with key0 := f s.nvm.key0 } else { s.nvm with key1 := f s.nvm.key1 } }

/-- A rotation has begun and is not complete (R552, R556). -/
def Nvm.rotating (v : Nvm) : Bool := v.recs.foldl (fun b r => if r = .rotBegin then true else if r = .rotComplete then false else b) false

/-! ### The Pacer model image (R274 to R277) -/

/-- The integer of an FP8-E4M3 weight code: its exact value × 512 (R275). -/
def fp8Int (c : Nat) : Int :=
  let e := c / 8 % 16
  let m := c % 8
  let v : Int := if e = 0 then (m : Int) else ((8 + m) * 2 ^ (e - 1) : Nat)
  if c / 128 % 2 = 1 then -v else v

/-- A weight code's integer. -/
def weightInt (fmt c : Nat) : Int := if fmt = 0 then signed 8 c else fp8Int c

/-- `k` signed 32-bit numbers from offset `o`. -/
def biases (b : List Byte) (o k : Nat) : List Int := (List.range k).map (fun i => signed 32 (leAt b (o + 4 * i) 4))

/-- The checks of R276 in their order: the model, or the status code. -/
def modelCheck (chip : Nat) (b : List Byte) : Except Nat Model :=
  let fmt := byteAt b 6
  let loc := byteAt b 7
  let nIn := byteAt b 8
  let nHid := byteAt b 9
  let nOut := leAt b 0x0A 2
  let w := nIn * nHid + nOut * nHid + 16 * nOut * loc
  let oLs := 4 * nIn
  let oW1 := oLs + 16 * loc
  let oB1 := oW1 + nHid * nIn
  let oW2 := oB1 + 4 * nHid
  let oW3 := oW2 + nOut * nHid
  let oB2 := oW3 + 16 * nOut * loc
  let blen := oB2 + 4 * nOut
  let body := b.drop 64
  let codes := fun (o k : Nat) => (List.range k).map (fun i => byteAt body (o + i))
  let dsc := (List.range nIn).map (fun i => leAt body (4 * i) 4)
  let sl := codes oLs (16 * loc)
  let nan := fun (l : List Nat) => fmt = 1 && l.any (fun c => c % 128 = 127)
  if leAt b 0 4 ≠ 0x51434E31 ∨ leAt b 4 2 ≠ 1 ∨ 1 < fmt ∨ 1 < loc ∨ leAt b 0x12 2 ≠ 0 ∨ leAt b 0x24 28 ≠ 0 ∨ nIn = 0 ∨ nHid = 0 ∨ nOut = 0 then
    .error 4
  else if leAt b 0x14 4 ≠ 0x0B202048 ∨ (leAt b 0x18 4 ≠ 0 ∧ leAt b 0x18 4 ≠ chip) then .error 6
  else if 64 < nIn ∨ 64 < nHid ∨ 256 < nOut ∨ 24576 < w then .error 3
  else if leAt b 0x0C 4 ≠ w ∨ leAt b 0x1C 4 ≠ blen then .error 4
  else if crc32 (body.take blen) ≠ leAt b 0x20 4 ∨ body.length < blen then .error 5
  else if nan (codes oW1 (nHid * nIn)) || nan (codes oW2 (nOut * nHid)) || nan (codes oW3 (16 * nOut * loc)) || dsc.any (fun d => 8192 ≤ d) ||
      sl.any (fun x => 31 < x) then .error 4
  else .ok
    { nIn := nIn, nHid := nHid, nOut := nOut, local_ := loc = 1, r1 := byteAt b 0x10, r2 := byteAt b 0x11, inputs := dsc, sl := sl
      w1 := (codes oW1 (nHid * nIn)).map (weightInt fmt), b1 := biases body oB1 nHid, w2 := (codes oW2 (nOut * nHid)).map (weightInt fmt)
      w3 := (codes oW3 (16 * nOut * loc)).map (weightInt fmt), b2 := biases body oB2 nOut }

/-- A load's image is checked: the model comes into use or none does (R276, R277); COEF_MODEL shows what was checked. -/
def State.checkModel (s : State) (b : List Byte) : State :=
  let r := modelCheck (s.opalWord 0).toNat b
  let s1 := (((s.put COEF_MODEL.N_IN 0 (min 127 (byteAt b 8))).put COEF_MODEL.N_HID 0 (min 127 (byteAt b 9))).put COEF_MODEL.N_OUT 0
    (min 511 (leAt b 0x0A 2))).put COEF_MODEL.WFMT 0 (byteAt b 6 % 2)
  match r with
  | .ok m => ({ s1 with pacer := { s1.pacer with model := some m, loading := none } }).put COEF_MODEL.STATUS 0 2
  | .error c => ({ s1 with pacer := { s1.pacer with model := none, loading := none } }).put COEF_MODEL.STATUS 0 c

end Sys2Proof.Machine
end

