-- ==== Sys2Proof/Machine/Boot.lean ====
section
/-! DEFINITION. Cold boot and warm boot (12_startup_and_update.md, R516 to R539): the stages, the choice of firmware and settings, the
domain start, RECOVERY; the rewriting of a voltage-table word. -/

namespace Sys2Proof.Machine

/-! ### RECOVERY and the stages (R529, R531) -/

/-- BOOT_STATUS.STAGE: the stage in progress. -/
def State.stage (s : State) : Nat := s.f BOOT_STATUS.STAGE

/-- Enter a stage. -/
def State.toStage (s : State) (k : Nat) : State := s.put BOOT_STATUS.STAGE 0 k

/-- Enter RECOVERY: the boot ROM serves the mailbox (R531). -/
def State.recovery (s : State) : State :=
  (({ s with boot := { s.boot with marshal := false } }).toStage 10).put QB_STATUS.RECOVERY 0 1

/-- The Opal identity registers (12, Boot and key registers). -/
def State.showOpal (s : State) : State :=
  let s1 := ((s.setReg .BOOT_CHIP 0 (s.opalWord 0)).setReg .BOOT_UNIT_LO 0 (s.opalWord 1)).setReg .BOOT_UNIT_HI 0 (s.opalWord 2)
  ((s1.put KEY_SVN.SVN 0 s.opalSvn).put KEY_SVN.REVOKE 0 ((s.opalWord 61).toNat % 4)).put KEY_SVN.OBS_LOCK 0 ((s.opalWord 59).toNat % 2)

/-- OPAL: hardware reads and checks Opal, the DRBG is seeded (R518, R534); then TABLE_INIT. -/
def State.opalStage (s : State) : State :=
  let s1 := s.showOpal
  if !(s.opalWord 59).getLsbD 31 then s1.recovery
  else if crc32 (s.opalBytes 0 60) ≠ (s.opalWord 60).toNat then (s1.raise .OPAL .none 0 .hardware .read).recovery
  else s1.toStage 2

/-- POR_RELEASE. -/
def execPorRelease (entropyOk : Bool) (s : State) : Res :=
  if s.powered then .next s else
  let s1 := { s with powered := true, boot := { s.boot with porAt := s.now, seeded := entropyOk } }
  .next ((s1.put BOOT_STATUS.ENT_FAIL 0 (if entropyOk then 0 else 1)).opalStage)

/-- BOOT_TABLE_INIT_DONE: every table word is written and read back; words whose second read-back failed are uncorrectable (R18, R457). -/
def execBootTableInitDone (bad : List (Nat × Nat)) (s : State) : Res :=
  if !s.powered ∨ s.tablesInit then .next s else
  let s1 := { s with tablesInit := true, badWords := bad }
  let s2 := s1.forEach bad (fun s x => s.raise .INIT_FAIL .table (tableAddr x.1 x.2) .hardware .table)
  .next (if s2.stage = 2 then s2.toStage 3 else s2)

/-! ### HEADER (R522, R523, R526, R555) -/

/-- The flash page that the last rotation record has copied and not switched, if any (R555). -/
def lastCopied : List BootRec → Option Nat
  | [] => none
  | .rotCopied k :: t => match lastCopied t with
    | some j => some j
    | none => if t.contains (.rotSwitched k) then none else some k
  | _ :: t => lastCopied t

/-- Rotation records are replayed: a page copied and not switched is written from its scratch copy. -/
def State.rotReplay (s : State) : State :=
  match lastCopied s.nvm.recs with
  | some k => (s.setPage k (s.page (s.part 2).1)).record (.rotSwitched k)
  | none => s

/-- BOOT_HEADER_DONE. -/
def execBootHeaderDone (s : State) : Res :=
  if s.stage ≠ 2 ∧ s.stage ≠ 3 then .next s
  else if !s.nvm.sfdpOk then .next ((s.raiseNvm .QSPI 0).recovery)
  else match s.checkImage 5 [s.page 0] with
    | .error x => .next ((s.raiseNvm x.2 0).recovery)
    | .ok x =>
      let parts := Config.partTable x.2
      if !partsOk s.nvm.size parts then .next ((s.raiseNvm .IMAGE_AUTH 0).recovery) else
      let s1 := ({ s with boot := { s.boot with parts := parts } }).rotReplay
      let s2 := { s1 with nvm := { s1.nvm with cold := satAdd 16777215 s1.nvm.cold 1 } }
      .next ((s2.put BOOT_COUNT.COLD 0 s2.nvm.cold).toStage 4)

/-! ### The firmware (R530, R547, R549) -/

/-- A firmware slot's manifest if its image passes; a failure is reported. -/
def State.tryFw (s : State) (slot : Nat) : State × Option Manifest :=
  match s.checkPart 1 (fwPart slot) with
  | .ok x => (s, some x.1)
  | .error x => (s.raiseNvm x.2 (s.partAddr (fwPart slot)), none)

/-- The choice of R530, with the trial's records: a boot that would be trial boot 4 boots the old slot. -/
def State.pickFw (s : State) : State × Option (Nat × Manifest) :=
  let t := s.nvm.trial
  let late := t.any (fun x => decide (3 ≤ x.boots))
  let on := t.isSome && !late
  let s0 := if late then s.record .rollback else s
  let slot := if on then (t.map (·.slot)).getD 0 else s.nvm.committed
  let a := s0.tryFw slot
  match a.2 with
  | some m => (if on then a.1.record .trialBoot else a.1, some (slot, m))
  | none =>
    let b := (if on then a.1.record .rollback else a.1).tryFw (1 - slot)
    (b.1, b.2.map (fun m => (1 - slot, m)))

/-- Marshal starts in a firmware: its registers, the heartbeat, the trial (R538, R543). -/
def State.startFw (s : State) (slot : Nat) (m : Manifest) : State :=
  let s1 := { s with
    boot := { s.boot with fw := m, codeOk := true, marshal := true, minuteAt := s.now, saveAt := s.now, copyAt := s.now }
    coll := { s.coll with hb := s.now, trapAt := none } }
  let alt := match s.checkPart 1 (fwPart (1 - slot)) with
    | .ok x => x.1.version
    | .error _ => 0
  let s2 := (s1.put BOOT_STATUS.FW_SLOT 0 slot).put BOOT_STATUS.TRIAL 0 (if s.nvm.trial.isSome then 1 else 0)
  (s2.put BOOT_FW_VER.VERSION 0 m.version).put BOOT_FW_ALT.VERSION 0 alt

/-! ### Settings (R533, R539, R546) -/

/-- FORMAT and payload of a settings slot, or why it is not read. -/
def State.setImage (s : State) (slot : Nat) : Except Src (Nat × List Byte) :=
  match (s.nvm.setRec slot).payload with
  | some x => .ok x
  | none => match s.checkPart 2 (setPart slot) with
    | .ok x => .ok (x.1.format, x.2)
    | .error x => .error x.2

/-- The running firmware's payload. -/
def State.fwBody (s : State) : List Byte :=
  match s.checkPart 1 (fwPart (s.f BOOT_STATUS.FW_SLOT)) with
  | .ok x => x.2
  | .error _ => []

/-- The firmware reads the settings slot in use, or runs on its defaults and writes them to the other slot, which is then in use (R546). -/
def State.pickSettings (s : State) : State :=
  let slot := s.nvm.setInUse
  let use := fun (s : State) (k d : Nat) (b : List Byte) =>
    (({ s with boot := { s.boot with settings := b } }).put BOOT_STATUS.SET_SLOT 0 k).put BOOT_STATUS.DEFAULTS 0 d
  let dflt := fun (s : State) =>
    let b := Config.defaultSettings s.fwBody
    let s1 := (s.modSetRec (1 - slot) (fun _ => { payload := some (s.boot.fw.setCur, b) })).useSet (1 - slot)
    use s1 (1 - slot) 1 b
  match s.setImage slot with
  | .ok x => if s.boot.fw.setMin ≤ x.1 ∧ x.1 ≤ s.boot.fw.setCur then use s slot 0 x.2 else dflt s
  | .error x => dflt (s.raiseNvm x (s.partAddr (setPart slot)))

/-- ORDER is a permutation of 0 to 3 (R535). -/
def permOrder (o : Nat) : Bool := [0, 1, 2, 3].all [o % 4, o / 4 % 4, o / 16 % 4, o / 64 % 4].contains

/-- A stored value that Quebire reports as a configuration error (R535 and the field tables). -/
def badConfig (x : Fld) (v : Nat) : Bool :=
  if x = QB_LANE_CFG.FSW then decide (8 < v) else if x = LANE_CFG.FAST_LIM then decide (24 < v)
  else if x = DOM_SP_CFG.SRC || x = LIM_CFG.CAPSRC then decide (v = 3)
  else if x = GAU_SEQ.OSR_E || x = GAU_SEQ.OSR_O || x = GAU_INJ.OSR_E || x = GAU_INJ.OSR_O then decide (4 < v)
  else if x = GAU_MOD_CFG.RSRC then decide (5 < v) else if x = GAU_MOD_CFG.ISRC then decide (4 < v)
  else if x = BOOT_CFG.ORDER then !permOrder v else false

/-- Report CONFIG for a write of element `i` of a register by a master, if a field that it stored is such a value. -/
def State.configErr (s : State) (m : FMaster) (r : Reg) (i : Nat) (l : List Fld) : State :=
  if l.any (fun x => badConfig x (s.f x i)) then s.raise .CONFIG .register (r.offset i) m .write else s

/-- The access of a field of element `i`: NORM, SEV and EN of FLT_RCT of the sources 0x50 to 0x56 are lk (10, the fields of FLT_RCT). -/
def Fld.accAt (x : Fld) (i : Nat) : Access :=
  if 0x50 ≤ i && i ≤ 0x56 && (x = FLT_RCT.NORM || x = FLT_RCT.SEV || x = FLT_RCT.EN) then .lk else x.acc

/-- Write the fields of some access codes of a word of the settings. -/
def State.applyWord (s : State) (ks : List Access) (x : Nat × Word) : State :=
  match Reg.ofOffset x.1 with
  | none => s
  | some (r, i) =>
    let l := r.fields.filter (fun f => ks.contains (f.accAt i))
    (s.forEach l (fun s f => s.put f i (x.2.field f.hi f.lo))).configErr .marshal r i l

/-- Write the settings' words that a test of their offset picks. -/
def State.applyWords (s : State) (ks : List Access) (pick : Nat → Bool) : State :=
  s.forEach ((Config.settingsWords s.boot.settings).filter (fun x => pick x.1)) (fun s x => s.applyWord ks x)

/-- A register offset of the Gauge group. -/
def gaugeOffset (o : Nat) : Bool := match Reg.ofOffset o with
  | some (r, _) => [Reg.GAU_CFG, .GAU_TH_CFG, .GAU_TH_HYS, .GAU_OTH_EN, .GAU_MOD_CFG, .GAU_MOD_TIM, .GAU_MOD_DLY, .GAU_SEQ, .GAU_INJ].contains r
  | none => false

/-- The domain map of the settings (R3). -/
def placeOf (l : List (Nat × Nat)) : Tbl Nat :=
  (l.filter (fun x => x.1 < 256 && decide (x.2 < 4))).foldl (fun (t : Tbl Nat) x => tblSet 0 t x.1 (x.2 + 1)) tblEmpty

/-- The source values of the host registers (R155, R596). -/
def State.loadSetpts (s : State) : State :=
  let s1 := s.forEach (List.range 4) (fun s d => { s with domV := tblSet 1600 s.domV d (s.f DOM_SETPT.VSET d) })
  s1.forEach s1.placed (fun s n => s.modRgn n (fun r => { r with hostV := s.f RGN_SETPT.VSET n }))

/-- The rw fields, the gates and the heat plan of the settings in use, and the FSW that firmware has stored. -/
def State.applySettings (s : State) : State :=
  let b := s.boot.settings
  let s1 := ({ s with gatesOk := Config.settingsGates b, plan := Config.settingsPlan b }).applyWords [.rw] (fun _ => true)
  let s2 := s1.loadSetpts
  let s3 : State := match (s.nvm.setRec (s.f BOOT_STATUS.SET_SLOT)).fsw with
    | some c => (s2.put QB_LANE_CFG.FSW 0 c).configErr .marshal .QB_LANE_CFG 0 [QB_LANE_CFG.FSW]
    | none => s2
  if s3.f LIM_STR_HOST.LEVEL = 0 then s3 else s3.hostLevel

/-- At cold boot the settings place the regions as well (R3), and set each domain's mode. -/
def State.coldSettings (s : State) : State :=
  let s1 := ({ s with place := placeOf (Config.settingsPlace s.boot.settings) }).applySettings
  s1.forEach (List.range 4) (fun s d => s.put DOM_STATUS.MESH d (s.f DOM_CTRL.MESH d))

/-! ### Calibration, model, learned profiles (R345, R359, R529, R559) -/

/-- The voltage-table words of a region. -/
def State.writeVt (s : State) (n : Nat) (codes : List Nat) : State :=
  s.forEach (List.range 8) fun s k =>
    (s.put RGN_VT.V_EVEN (8 * n + k) (codes.getD (2 * k) 0)).put RGN_VT.V_ODD (8 * n + k) (codes.getD (2 * k + 1) 0)

/-- The calibration payload when the partition is accepted, or what to report. -/
def State.calibration (s : State) : Except Src (List Byte) :=
  match s.checkPart 6 7 with
  | .error x => .error x.2
  | .ok x => if (Config.sha384 (Config.calVtBytes x.2)).toNat = ofLe (s.opalBytes 27 12) then .ok x.2 else .error .VT_HASH

/-- The calibration's tables are written. -/
def State.loadCal (s : State) (b : List Byte) : State :=
  let s1 := s.forEach (Config.calVt b) (fun s x => if x.1 < 256 then s.writeVt x.1 x.2 else s)
  s1.forEach (Config.calTrims b) fun s x =>
    { s with gauge := { s.gauge with trimG := tblSet 0 s.gauge.trimG x.1 x.2.1, trimO := tblSet 0 s.gauge.trimO x.1 x.2.2 } }

/-- The coefficient and exponent tables of a model image; a table that fails its checks leaves COEF_CTRL.EN at 0 (R529). -/
def State.loadTables (s : State) (b : List Byte) (en : Bool) : State :=
  match Config.modelTables b with
  | none => s.put COEF_CTRL.EN 0 0
  | some ws =>
    let s1 := s.forEach ws fun s x => match Reg.ofOffset x.1 with
      | some (.COEF_M, i) => s.setReg .COEF_M i x.2
      | some (.COEF_X, i) => s.setReg .COEF_X i (x.2 &&& 0x1F1F1F1F#32)
      | _ => s
    if en then (s1.put COEF_CTRL.EN 0 1).coefEnabled else s1.put COEF_CTRL.EN 0 0

/-- At cold boot the model partition is loaded whole. -/
def State.bootModel (s : State) : State :=
  match s.checkPart 3 8 with
  | .error x => (s.raiseNvm x.2 (s.partAddr 8)).put COEF_CTRL.EN 0 0
  | .ok x =>
    let img := Config.modelImage x.2
    let s1 := s.loadTables x.2 (s.fb COEF_CTRL.EN)
    if img = [] then s1 else s1.checkModel img

/-- The learned copy with the higher sequence number (R559). -/
def Nvm.learned (v : Nvm) : Option LearnCopy :=
  if v.learnEmpty then none else
  match v.learnA, v.learnB with
  | some a, some b => some (if b.seq < a.seq then a else b)
  | some a, none => some a
  | none, b => b

/-- The learned profiles are loaded. -/
def State.loadLearned (s : State) : State :=
  match s.nvm.learned with
  | some c => { s with pacer := { s.pacer with bins := c.bins }, boot := { s.boot with learnLen := c.len } }
  | none => s

/-- LOAD, once the firmware is chosen; a calibration that is not accepted ends in RECOVERY (R529). -/
def State.loadStage (s : State) (slot : Nat) (m : Manifest) : State :=
  let s1 := ((s.startFw slot m).pickSettings).coldSettings
  match s1.calibration with
  | .error x =>
    let s2 := if x = .VT_HASH then s1 else s1.raiseNvm x (s1.partAddr 7)
    (s2.raiseNvm .VT_HASH (s2.partAddr 7)).recovery
  | .ok b => (((s1.loadCal b).bootModel).loadLearned).toStage 5

/-- BOOT_LOAD_DONE. -/
def execBootLoadDone (s : State) : Res :=
  if s.stage ≠ 4 then .next s else
  let a := s.pickFw
  match a.2 with
  | none => .next a.1.recovery
  | some x => .next (a.1.loadStage x.1 x.2)

/-! ### LOCKED (R34, R86, R87, R412, R458, R508, R533) -/

/-- Set boot lock (R533). -/
def State.setLock (s : State) : State :=
  let s1 := (s.put BOOT_STATUS.LOCK 0 1).put QB_STATUS.LOCK 0 1
  { s1 with boot := { s1.boot with lockedOnce := true } }

/-- The retire list in force: as firmware has changed it, else the settings'. -/
def State.retireList (s : State) : List Nat :=
  (s.nvm.setRec (s.f BOOT_STATUS.SET_SLOT)).retire.getD (Config.settingsRetire s.boot.settings)

/-- The retire list is applied; entries beyond the 128th and of lanes not present are ignored and reported (R86, R87). -/
def State.applyRetire (s : State) : State :=
  let l := s.retireList
  s.forEach ((List.range l.length).zip l) fun s x =>
    if x.1 < 128 ∧ x.2 < 2048 ∧ s.isPlaced (x.2 / 8) then s.retireLane x.2 6 else s.raise .CONFIG .lane (x.2 % 2 ^ 32) .marshal .read

/-- The pair role at boot: position 0 starts active (RLY_CFG). -/
def State.startPair (s : State) : State :=
  if !s.inPair then s
  else if s.f RLY_CFG.PAIR_POS = 0 then s.put RLY_STATUS.PAIR 0 1
  else ({ s with relay := { s.relay with waitFrame := true } }).put RLY_STATUS.PAIR 0 3

/-- The entry to credit mode at boot lock (R412, R508): a cascade's master grants itself; a member waits for its GRANT (R509). -/
def State.startCredit (s : State) : State :=
  if !s.creditCfg then s
  else if s.f RLY_CFG.MODE = 2 ∧ s.f RLY_CFG.ROLE = 1 then
    let g := s.grantFor s.myId (s.f RLY_CR_CFG.WEIGHT)
    (g.2.put LED_CR_GRANT.GRANT 0 g.1).enterCredit
  else if s.inTree then s
  else s.enterCredit

/-- BOOT_LOCKED. -/
def execBootLocked (s : State) : Res :=
  if s.stage ≠ 5 ∨ !s.tablesInit ∨ !s.marshalOn ∨ s.blockReset.isSome then .next s else
  let s1 := s.applyWords [.lk] (fun _ => true)
  let s2 := (s1.put QB_LANE_CFG.FSW_RUN 0 (s1.f QB_LANE_CFG.FSW)).applyRetire
  .next ((((s2.setLock).startPair).startCredit).toStage 6)

/-! ### DOMAINS and READY (R535, R537) -/

/-- The places in the start order from the next on whose domains have regions. -/
def State.domsLeft (s : State) : List Nat :=
  ((List.range 4).filter (fun k => s.boot.domPos ≤ k)).filter (fun k => s.domRgns (s.startOrder.getD k 0) ≠ [])

/-- GAP in ns (R535). -/
def State.gapNs (s : State) : Nat := 100000 * min 100 (s.f BOOT_CFG.GAP)

/-- DOMAIN_START_NEXT: after the gap that follows the end of the previous domain's start. -/
def execDomainStartNext (s : State) : Res :=
  let ready := s.boot.domPos = 0 || s.boot.domSettled.any (fun t => decide (t + s.gapNs ≤ s.now))
  match s.domsLeft with
  | [] => .next s
  | k :: _ =>
    if s.stage ≠ 6 ∨ !ready then .next s else
    let s1 := { s with boot := { s.boot with domPos := k + 1, domSettled := none, planDone := false } }
    .next (s1.forEach (s1.domRgns (s1.startOrder.getD k 0)) (fun s n => (s.startRgn n).getD s))

/-- The domains whose every region is DARK (R537). -/
def State.domFail (s : State) : Nat :=
  sumN ((List.range 4).map fun d =>
    let l := s.domRgns d
    if l ≠ [] ∧ l.all (fun n => (s.rgn n).st = .DARK) then 2 ^ d else 0)

/-- BOOT_READY: STATE READY, then RGNSTAT of the DARK regions, and the FREQ_FLOOR that waits (R249, R340, R537). -/
def execBootReady (s : State) : Res :=
  if s.stage ≠ 6 ∨ s.domsLeft ≠ [] ∨ (s.boot.domPos ≠ 0 ∧ s.boot.domSettled.isNone) then .next s else
  let s1 := ((s.toStage 7).put QB_STATUS.READY 0 1).put BOOT_STATUS.DOM_FAIL 0 s.domFail
  let s2 := (s1.put BOOT_TIME.COLD_T 0 (min 65535 ((s.now - s.boot.porAt) / 10000))).setIrq QB_IRQ_STATUS.READY
  let s3 := ({ s2 with baton := { s2.baton with up := true } }).ackState 1
  let s4 := s3.forEach (s3.placed.filter (fun n => (s3.rgn n).st = .DARK)) (fun s n => s.ackRgnStat n 2 0)
  .next (if s4.fb LIM_STR_STATUS.FLOOR_PEND then s4.sendFloor else s4)

/-! ### The DRBG (R534) -/

/-- DRBG_RESEED: a health failure keeps every port in HELLO; the first seeding that passes lets them go on. -/
def execDrbgReseed (healthOk : Bool) (s : State) : Res :=
  if !s.powered then .next s
  else if !healthOk then .next (s.put BOOT_STATUS.ENT_FAIL 0 1)
  else
    let s1 := ({ s with boot := { s.boot with seeded := true } }).put BOOT_STATUS.ENT_FAIL 0 0
    .next (s1.forEach [0, 1, 2, 3, 4] (fun s p => (s.offerHello p).judgeHello p))

/-! ### Warm boot (R538, R539) -/

/-- The code is checked, or the firmware chosen and loaded again; a warm boot into trial firmware counts (R538, R547, R549). `none`:
no firmware passes. -/
def State.warmCode (s : State) : State × Option Bool :=
  let t := s.nvm.trial
  if !s.boot.codeOk || t.any (fun x => decide (3 ≤ x.boots)) then
    let was := s.f BOOT_STATUS.FW_SLOT
    let a := s.pickFw
    match a.2 with
    | some x => (a.1.startFw x.1 x.2, some (x.1 ≠ was))
    | none => (a.1, none)
  else
    let s1 := if t.isSome then s.record .trialBoot else s
    ({ s1 with
      boot := { s1.boot with marshal := true, minuteAt := s1.now, saveAt := s1.now, copyAt := s1.now }, coll := { s1.coll with hb := s1.now } },
      some false)

/-- The settings are rewritten: whole when another slot has come into use, else lk and Gauge registers (R539, R540). -/
def State.warmSettings (s : State) (all : Bool) : State :=
  let s1 := if all || s.boot.setNew then ({ s.pickSettings with boot := { s.pickSettings.boot with setNew := false } }).applySettings
    else s.applyWords [.rw] gaugeOffset
  if s1.stage = 5 then s1 else s1.applyWords [.lk] (fun _ => true)

/-- What ends a warm boot: boot lock, an interrupted scrub's writes, the interrupt, the counts, a held trap. -/
def State.warmEnd (s : State) : State :=
  let s1 := if s.led.scrub.any (fun x => x.phase = 2) then s.scrubClear else s
  let s2 := if s1.stage = 5 then s1 else s1.setLock
  let s3 := if s2.stage = 8 then s2.toStage (if s2.fb QB_STATUS.READY then 7 else 6) else s2
  let s4 := ((s3.bump BOOT_COUNT.WARM).put BOOT_TIME.WARM_T 0 (min 65535 ((s.now - s.boot.warmAt) / 10000))).setIrq QB_IRQ_STATUS.WARM
  s4.deliverTrap

/-- WARM_BOOT_END. -/
def execWarmBootEnd (s : State) : Res :=
  let stageOk := s.stage = 5 || s.stage = 6 || s.stage = 8
  if !s.powered ∨ s.blockReset.isSome ∨ s.boot.marshal ∨ s.coll.halted ∨ !stageOk then .next s else
  let a := s.rotReplay.warmCode
  match a.2 with
  | none => .next a.1.recovery
  | some fresh => .next ((a.1.warmSettings fresh).warmEnd)

/-! ### A voltage-table word (R662) -/

/-- VT_WORD_REWRITE: Marshal firmware, outside the trap handler, rewrites a region's words from the checked calibration partition. -/
def execVtWordRewrite (n : Fin 256) (s : State) : Res :=
  if !s.marshalOn ∨ s.coll.trapAt.isSome ∨ !s.isPlaced n.val then .next s else
  match s.calibration with
  | .error x =>
    let s1 := if x = .VT_HASH then s else s.raiseNvm x (s.partAddr 7)
    .next (s1.raiseNvm .VT_HASH (s1.partAddr 7))
  | .ok b => .next (match (Config.calVt b).find? (fun x => x.1 = n.val) with
    | some x => s.writeVt n.val x.2
    | none => s)

end Sys2Proof.Machine
end

