-- ==== Sys2Proof/Machine/Update.lean ====
section
/-! DEFINITION. The mailboxes (R584 to R590) and the commands of Marshal firmware: updates, trials, key rotation, the retire list, learned
profiles, the model load, the logs (12_startup_and_update.md, R540 to R560; 13_host_ports_and_registers.md, R586, R587). -/

namespace Sys2Proof.Machine

/-! ### Serving a mailbox (R585, R586, R589) -/

/-- A word of a port's mailbox. -/
def State.mbxWord (s : State) (p : Port) (w : Nat) : Nat := (s.reg .QB_MBX_DATA (16 * p.ix + w)).toNat

/-- CMD of the command in it. -/
def State.mbxCmd (s : State) (p : Port) : Nat := s.mbxWord p 0 % 256

/-- Answer a port's command: STATUS, RA, the result words; DONE and the interrupt (R585, R586). Words that carry no result keep what they
hold (log entry 41). -/
def State.answer (s : State) (p status ra : Nat) (results : List (Nat × Nat)) : State :=
  let w := fun (s : State) (k v : Nat) => s.setReg .QB_MBX_DATA (16 * p + k) (BitVec.ofNat 32 v)
  let s1 := s.setReg .QB_MBX_DATA (16 * p) (Word.withField (s.reg .QB_MBX_DATA (16 * p)) 15 8 status)
  let s2 := (w s1 1 (ra % 65536)).forEach results (fun s x => w s x.1 x.2)
  let s3 := ((s2.put QB_MBX_STATUS.STATE p 2).put QB_MBX_STATUS.STATUS p status).put QB_IRQ_STATUS.MBX p 1
  { s3 with host := { s3.host with busy := s3.host.busy.erase p } }

/-- What becomes of a command (R589). -/
inductive Gate where
  | perform
  | refuse (status ra : Nat)
  /-- Neither Marshal firmware nor its boot ROM serves the mailbox now: the command stays BUSY. -/
  | wait
  deriving DecidableEq, Repr

/-- The time left of a span of `k` ns that began at `t`, µs. -/
def State.left (s : State) (t k : Nat) : Nat := (t + k - s.now) / 1000

/-- The time left in a pause or a scrub, µs (STATUS word 5). -/
def State.timeLeft (s : State) : Nat :=
  match s.boot.pause, s.led.scrub with
  | some x, _ => s.left x.since 35000000
  | none, some x => s.left x.start 2000000
  | none, none => 0

/-- The table of R589. -/
def State.mbxGate (s : State) (p : Port) (cmd : Nat) : Gate :=
  let status := cmd = 1
  let kind1 := (cmd = 0x10 && s.mbxWord p 1 % 8 = 1) || (decide (0x11 ≤ cmd ∧ cmd ≤ 0x14) && s.f BOOT_UPD_STATUS.KIND = 1)
  if !s.powered then .wait
  else if s.stage = 10 then if status || cmd = 2 || kind1 then .perform else .refuse 4 0
  else if s.blockReset.isSome || s.stage = 8 then if status then .perform else .refuse 1 25000
  else if !s.boot.marshal || s.coll.halted || decide (s.stage < 6) then .wait
  else if status then .perform
  else if s.boot.pause.isSome then .refuse 1 s.timeLeft
  else if s.coll.trapAt.isSome then .refuse 1 1000
  else if s.led.scrub.isSome then .refuse 1 s.timeLeft
  else if s.standby then .refuse 4 0
  else .perform

/-- Marshal takes the command of a port: the mailbox is BUSY, its GO came first, and the command is of the kind asked for. -/
def State.serve (s : State) (p : Port) (ok : Nat → Bool) (act : State → State) : State :=
  if s.host.busy.head? ≠ some p.ix ∨ s.f QB_MBX_STATUS.STATE p.ix ≠ 1 ∨ !ok (s.mbxCmd p) then s else
  match s.mbxGate p (s.mbxCmd p) with
  | .wait => s
  | .refuse st ra => s.answer p.ix st ra []
  | .perform => act s

/-- A command guarded by a semaphore (R581); `own`: only its owner may issue it (R582). -/
def State.guarded (s : State) (p : Port) (sem : Nat) (own : Bool) (act : State → State) : State :=
  let o := s.f QB_SEM.OWNER sem
  if o = p.ix + 1 ∨ (o = 0 ∧ !own) then act s
  else (if o = 0 then s else s.bump QB_PORT_ERR.SEM p.ix).answer p.ix 5 0 []

/-- A command that writes the flash (R588). -/
def State.nvmCmd (s : State) (p : Port) (act : State → State) : State :=
  if s.fb GAU_TSTAT.NVM_OK then act s else s.answer p.ix 6 0 []

/-! ### STATUS, ECHO, unknown commands -/

/-- Where Marshal is (R587): 0 boot ROM, 1 firmware, 2 trap handler, 3 pause. -/
def State.marshalIn (s : State) : Nat :=
  if !s.boot.marshal then 0 else if s.boot.pause.isSome then 3 else if s.coll.trapAt.isSome then 2 else 1

/-- STATUS. -/
def execStatus (p : Port) (s : State) : Res :=
  .next (s.serve p (· = 0x01) fun s =>
    s.answer p.ix 0 0 [(2, (s.reg .BOOT_STATUS).toNat), (3, (s.reg .BOOT_FW_VER).toNat), (4, s.marshalIn), (5, s.timeLeft)])

/-- ECHO: argument words 1 to 14 return in words 2 to 15. -/
def execEcho (p : Port) (s : State) : Res :=
  .next (s.serve p (· = 0x02) fun s => s.answer p.ix 0 0 ((List.range 14).map fun k => (k + 2, s.mbxWord p (k + 1))))

/-- The command codes that R587 and the test chapter define. -/
def mbxCodes : List Nat :=
  [0x01, 0x02, 0x10, 0x11, 0x12, 0x13, 0x14, 0x15, 0x20, 0x21, 0x22, 0x30, 0x31, 0x40, 0x41, 0x42, 0x60, 0x61, 0x62, 0x63]

/-- UNKNOWN_CMD. -/
def execUnknownCmd (p : Port) (s : State) : Res := .next (s.serve p (fun c => !mbxCodes.contains c) fun s => s.answer p.ix 2 0 [])

/-! ### The update session (R540 to R542, R563) -/

/-- The key slot that a package is written to: one that is neither LIVE nor RETIRING (R526, R540). -/
def State.freeKeySlot (s : State) : Option Nat := [0, 1].find? fun k => (s.slotKeys (s.nvm.key k)).isNone

/-- The first page and the pages of what a session of a kind writes; `none` where nothing may be written now. -/
def State.updTarget (s : State) (kind : Nat) : Option (Nat × Nat) :=
  match kind with
  | 1 => some (s.part (fwPart (1 - s.f BOOT_STATUS.FW_SLOT)))
  | 2 => if s.nvm.trial.any (fun t => t.set ≠ s.nvm.setCommitted) then none else some (s.part (setPart (1 - s.f BOOT_STATUS.SET_SLOT)))
  | 3 => some (s.part 8)
  | 4 => if s.nvm.rotating then none else s.freeKeySlot.map (fun k => ((s.part 1).1 + 16 * k, 16))
  | _ => none

/-- RES of the session. -/
def State.updRes (s : State) (r : Nat) : State := s.put BOOT_UPD_STATUS.RES 0 r

/-- The result is set and the command ends with FAILED. -/
def State.updFail (s : State) (p : Port) (r : Nat) (res : List (Nat × Nat)) : State := (s.updRes r).answer p.ix 7 0 res

/-- UPD_OPEN's effect; like UPD_PAGE it resets the staging index whatever it answers (R563). -/
def State.updOpen (s0 : State) (p : Port) : State :=
  let kind := s0.mbxWord p 1 % 8
  let pages := s0.mbxWord p 1 / 65536 % 1024 + 1
  let s := { s0 with boot := { s0.boot with stageIx := 0 } }
  if s.boot.updOpen then s.answer p.ix 4 0 []
  else if kind = 0 ∨ 4 < kind then s.updFail p 0xA []
  else match s.updTarget kind with
    | none => s.answer p.ix 4 0 []
    | some t =>
      if t.2 < pages then s.answer p.ix 3 0 [] else
      let s1 := { s with boot := { s.boot with updOpen := true, updPages := pages } }
      let s2 := ((s1.updRes 1).put BOOT_UPD_STATUS.KIND 0 kind).put BOOT_UPD_STATUS.NEXT 0 0
      (s2.put BOOT_UPD_STATUS.PORT 0 p.ix).answer p.ix 0 0 []

/-- UPD_OPEN. -/
def execUpdOpen (p : Port) (s : State) : Res := .next (s.serve p (· = 0x10) fun s => s.guarded p 0 true fun s => s.updOpen p)

/-- The staged page. -/
def State.staged (s : State) : List Byte := (List.range 1024).flatMap fun i => leBytes 4 (tblGet 0 s.boot.staging i)

/-- The LIVE epoch. -/
def State.liveEpoch (s : State) : Option Nat := ([s.nvm.key0, s.nvm.key1].find? (fun k => k.st = 2)).map (·.epoch)

/-- A page encrypted again under an epoch, with the next write count (R524, R552). -/
def State.reseal (s : State) (b : List Byte) (e : Nat) : Option (List Byte) :=
  match s.epochKey (byteAt b 3), s.epochKey e with
  | some k, some k' =>
    match Config.gcmOpen k (pageIv b) (b.take 16) ((b.drop 16).take 4064) (BitVec.ofNat 128 (ofBe ((b.drop 4080).take 16))) with
    | some p =>
      let hd := b.take 3 ++ leBytes 1 e ++ (b.drop 4).take 4 ++ leBytes 4 (leAt b 8 4 + 1) ++ (b.drop 12).take 4
      let c := Config.gcmSeal k' (pageIv hd) hd p
      some (hd ++ c.1 ++ beBytes 16 c.2.toNat)
    | none => none
  | _, _ => none

/-- The page as Quebire writes it: during a rotation under the new epoch (R552). -/
def State.pageToWrite (s : State) (b : List Byte) : List Byte :=
  match s.liveEpoch with
  | some e => if s.nvm.rotating ∧ byteAt b 3 ≠ e then (s.reseal b e).getD b else b
  | none => b

/-- What the programming of a page of an image makes void: the other slot's version, what firmware had written to the settings slot. -/
def State.overwritten (s : State) (kind : Nat) : State :=
  if kind = 1 then s.put BOOT_FW_ALT.VERSION 0 0
  else if kind = 2 then s.modSetRec (1 - s.f BOOT_STATUS.SET_SLOT) (fun _ => {}) else s

/-- UPD_PAGE's effect; NVM_OK 0 stops the session, which stays open (R542). -/
def State.updPage (s0 : State) (p : Port) : State :=
  let kind := s0.f BOOT_UPD_STATUS.KIND
  let next := s0.f BOOT_UPD_STATUS.NEXT
  let s := { s0 with boot := { s0.boot with stageIx := 0 } }
  if !s.boot.updOpen then s.answer p.ix 4 0 []
  else match s.updTarget kind with
    | none => s.answer p.ix 4 0 []
    | some t =>
      let k := t.1 + next
      if !s.fb GAU_TSTAT.NVM_OK then ((s.updRes 2).raise .NVM_TEMP .nvm (4096 * k) .marshal .write).answer p.ix 6 0 []
      else if s.mbxWord p 1 % 1024 ≠ next ∨ s.boot.updPages ≤ next then s.updFail p 0xB []
      else match s.openPage s.staged with
        | .error x => (s.raiseNvm x (4096 * k)).updFail p (if x = .KEY_EPOCH then 0x9 else 0x5) []
        | .ok _ =>
          let s1 := (s.setPage k (s.pageToWrite s.staged)).overwritten kind
          ((s1.updRes 1).put BOOT_UPD_STATUS.NEXT 0 (next + 1)).answer p.ix 0 0 []

/-- UPD_PAGE. -/
def execUpdPage (p : Port) (s : State) : Res := .next (s.serve p (· = 0x11) fun s => s.guarded p 0 true fun s => s.updPage p)

/-- A verified image: a key package is STAGED, a firmware shows its version. -/
def State.verified (s : State) (kind : Nat) (m : Manifest) (body : List Byte) : State :=
  if kind = 1 then s.put BOOT_FW_ALT.VERSION 0 m.version
  else if kind = 4 then match s.freeKeySlot with
    | some k => s.modKey k (fun _ => ⟨(Config.keyPackage body).1 % 256, 1, (Config.keyPackage body).2⟩)
    | none => s
  else s

/-- UPD_CLOSE's effect: the check of the whole image; the session closes. -/
def State.updClose (s : State) (p : Port) : State :=
  let kind := s.f BOOT_UPD_STATUS.KIND
  if !s.boot.updOpen then s.answer p.ix 4 0 [] else
  let s1 := { s with boot := { s.boot with updOpen := false } }
  match s1.updTarget kind with
  | none => s.answer p.ix 4 0 []
  | some t =>
    if s1.f BOOT_UPD_STATUS.NEXT ≠ s1.boot.updPages then (s1.raiseNvm .IMAGE_AUTH (4096 * t.1)).updFail p 0xB [(2, 0xB)]
    else match s1.checkImage kind ((List.range s1.boot.updPages).map (fun j => s1.page (t.1 + j))) with
      | .error x => (s1.raiseNvm x.2 (4096 * t.1)).updFail p x.1 [(2, x.1)]
      | .ok x => ((s1.verified kind x.1 x.2).updRes 3).answer p.ix 0 0 [(2, 3)]

/-- UPD_CLOSE. -/
def execUpdClose (p : Port) (s : State) : Res := .next (s.serve p (· = 0x12) fun s => s.guarded p 0 true fun s => s.updClose p)

/-- UPD_ABORT. -/
def execUpdAbort (p : Port) (s : State) : Res :=
  .next (s.serve p (· = 0x13) fun s => s.guarded p 0 true fun s =>
    if !s.boot.updOpen ∧ s.f BOOT_UPD_STATUS.RES = 0 then s.answer p.ix 4 0 []
    else (({ s with boot := { s.boot with updOpen := false } }).updRes 0).answer p.ix 0 0 [])

/-! ### ACTIVATE (R540, R543 to R546, R552) -/

/-- The pause begins (R543): UPDATE_START; the slot is checked, and only if it passes the record is written. -/
def State.beginPause (s : State) (slot set : Nat) (rollback : Bool) (port : Option Nat) : State :=
  let c := s.checkPart 1 (fwPart slot)
  let s1 := s.ackState 5
  let s2 := match c with
    | .ok _ => s1.record (if rollback then .rollback else .trialStart slot set)
    | .error x => s1.raiseNvm x.2 (s1.partAddr (fwPart slot))
  let ok := match c with
    | .ok _ => true
    | .error _ => false
  ({ s2 with boot := { s2.boot with pause := some ⟨s2.now, slot, set, rollback, ok, port⟩ } }).toStage 9

/-- A restart from the OPAL stage that is equivalent to power-on (R531). -/
def State.restart (s : State) : State :=
  let r : State := { State.reset with pending := s.pending, opal := s.opal, nvm := s.nvm, out := s.out, freeCtr := s.freeCtr, powered := true }
  let ok := !s.fb BOOT_STATUS.ENT_FAIL
  (({ r with boot := { r.boot with seeded := ok } }).put BOOT_STATUS.ENT_FAIL 0 (if ok then 0 else 1)).opalStage

/-- ACTIVATE of a firmware: in RECOVERY the block restarts; else the pause begins, and its end answers the command. -/
def State.activateFw (s : State) (p : Port) : State :=
  let slot := 1 - s.f BOOT_STATUS.FW_SLOT
  if s.stage = 10 then match s.checkPart 1 (fwPart slot) with
    | .ok _ => (s.record (.trialStart slot s.nvm.setInUse)).restart
    | .error x => (s.raiseNvm x.2 (s.partAddr (fwPart slot))).updFail p 0xC [(2, 0xC)]
  else
    let s1 := s.beginPause slot s.nvm.setInUse false (some p.ix)
    { s1 with host := { s1.host with busy := s1.host.busy.erase p.ix } }

/-- ACTIVATE of settings: the slot comes into use, and the warm boot that applies it begins. -/
def State.activateSet (s : State) : State :=
  let k := 1 - s.f BOOT_STATUS.SET_SLOT
  let s1 := (s.useSet k).put BOOT_STATUS.SET_SLOT 0 k
  ({ s1 with boot := { s1.boot with setNew := true } }).enterBlockReset false

/-- A model image's load begins (R278). -/
def State.beginLoad (s : State) (img : List Byte) (en : Bool) (port : Option Nat) : State :=
  ({ s with pacer := { s.pacer with loading := some img, model := none }, boot := { s.boot with modelEn := en, modelPort := port } }).put
    COEF_MODEL.STATUS 0 1

/-- ACTIVATE of a Pacer model: EN is 0 during the load. -/
def State.activateModel (s : State) (p : Port) : State :=
  match s.checkPart 3 8 with
  | .error x => (s.raiseNvm x.2 (s.partAddr 8)).updFail p 0xC [(2, 0xC)]
  | .ok x =>
    if (Config.modelTables x.2).isNone then (s.put COEF_CTRL.EN 0 0).updFail p 0xC [(2, 0xC)] else
    (((s.loadTables x.2 false).beginLoad (Config.modelImage x.2) (s.fb COEF_CTRL.EN) none).updRes 4).answer p.ix 0 0 [(2, 4)]

/-- ACTIVATE of a key package: its slot is LIVE, the previous one RETIRING, the rotation begins (R552). -/
def State.activateKey (s : State) (p : Port) : State :=
  match [0, 1].find? (fun k => (s.nvm.key k).st = 1) with
  | none => s.answer p.ix 4 0 []
  | some k =>
    let s1 := (s.modKey k (fun x => { x with st := 2 })).modKey (1 - k) (fun x => { x with st := if x.st = 2 then 3 else x.st })
    let s2 := { (s1.record .rotBegin) with boot := { s1.boot with rotDone := 0, rotNext := 0 } }
    (s2.updRes 4).answer p.ix 0 0 [(2, 4)]

/-- ACTIVATE's effect. -/
def State.activate (s : State) (p : Port) : State :=
  if s.f BOOT_UPD_STATUS.RES ≠ 3 then s.answer p.ix 4 0 [(2, s.f BOOT_UPD_STATUS.RES)] else
  match s.f BOOT_UPD_STATUS.KIND with
  | 1 => s.activateFw p
  | 2 => s.activateSet
  | 3 => s.activateModel p
  | _ => if s.nvm.rotating then s.answer p.ix 4 0 [] else s.activateKey p

/-- ACTIVATE. -/
def execActivate (p : Port) (s : State) : Res :=
  .next (s.serve p (· = 0x14) fun s => s.guarded p 0 true fun s => s.nvmCmd p fun s => s.activate p)

/-- ACTIVATE_PAUSE_END: the new firmware runs with its settings, or the old one goes on (R543, R549). -/
def execActivatePauseEnd (s : State) : Res :=
  match s.boot.pause with
  | none => .next s
  | some x =>
    let s0 := { s with boot := { s.boot with pause := none } }
    let s1 := if !x.ok then s0 else match s0.checkPart 1 (fwPart x.slot) with
      | .ok m => ((s0.startFw x.slot m.1).pickSettings).applySettings
      | .error _ => s0
    let s2 := (s1.ackState 6).toStage (if s.fb QB_STATUS.READY then 7 else 6)
    let r := if x.ok then 4 else 0xC
    let s3 : State := match x.port with
      | some p => (s2.updRes r).answer p (if x.ok then 0 else 7) 0 [(2, r)]
      | none => if s2.f QB_SEM.OWNER 0 = 3 then s2.put QB_SEM.OWNER 0 0 else s2
    .next { s3 with coll := { s3.coll with hb := s3.now } }.deliverTrap

/-- MODEL_LOAD_DONE: the image is checked; EN returns to what it was, the command is answered (R276 to R278, R587). -/
def execModelLoadDone (s : State) : Res :=
  match s.pacer.loading with
  | none => .next s
  | some img =>
    let s1 := s.checkModel img
    let s2 := if s1.boot.modelEn then (s1.put COEF_CTRL.EN 0 1).coefEnabled else s1
    let s3 := { s2 with boot := { s2.boot with modelEn := false, modelPort := none } }
    let st := s3.f COEF_MODEL.STATUS
    .next (match s.boot.modelPort with
      | some p => s3.answer p (if st = 2 then 0 else 7) 0 [(2, st)]
      | none => s3)

/-- MODEL_LOAD: the image of the MODEL partition. -/
def execModelLoad (p : Port) (s : State) : Res :=
  .next (s.serve p (· = 0x31) fun s => s.guarded p 8 false fun s =>
    if s.pacer.loading.isSome then s.answer p.ix 4 0 [] else
    match s.checkPart 3 8 with
    | .error x => (s.raiseNvm x.2 (s.partAddr 8)).answer p.ix 7 0 [(2, s.f COEF_MODEL.STATUS)]
    | .ok x =>
      let s1 := s.beginLoad (Config.modelImage x.2) false (some p.ix)
      { s1 with host := { s1.host with busy := s1.host.busy.erase p.ix } })

/-! ### Trials (R547 to R550) -/

/-- Blow fuses of an Opal word, in both copies (R516). -/
def State.blow (s : State) (i : Nat) (w : Word) : State :=
  { s with opal := { a := tblSet 0#32 s.opal.a i (tblGet 0#32 s.opal.a i ||| w), b := tblSet 0#32 s.opal.b i (tblGet 0#32 s.opal.b i ||| w) } }

/-- The fuses that a committed image asks for (R520, R548): never the second REVOKE. -/
def State.blowFuses (s : State) (m : Manifest) : State :=
  let th := 2 ^ min 64 m.svn - 1
  let s1 := if m.flags.testBit 0 then (s.blow 62 (BitVec.ofNat 32 th)).blow 63 (BitVec.ofNat 32 (th / 2 ^ 32)) else s
  let s2 := if m.flags.testBit 1 ∧ !(s1.opalWord 61).getLsbD 1 then s1.blow 61 1#32 else s1
  let s3 := if m.flags.testBit 2 ∧ !(s2.opalWord 61).getLsbD 0 then s2.blow 61 2#32 else s2
  s3.showOpal

/-- COMMIT's effect. -/
def State.commit (s : State) (p : Port) : State :=
  match s.nvm.trial with
  | none => s.answer p.ix 4 0 []
  | some t =>
    let s1 := s.record .commit
    let s2 := { s1 with nvm := { s1.nvm with committed := t.slot, setCommitted := t.set } }
    ((s2.put BOOT_STATUS.TRIAL 0 0).blowFuses s2.boot.fw).answer p.ix 0 0 []

/-- COMMIT. -/
def execCommit (p : Port) (s : State) : Res :=
  .next (s.serve p (· = 0x15) fun s => s.guarded p 0 true fun s => s.nvmCmd p fun s => s.commit p)

/-- TRIAL_MINUTE: a further minute of trial time has run (R547, R550). -/
def execTrialMinute (s : State) : Res :=
  .next (if s.fb BOOT_STATUS.TRIAL ∧ s.marshalOn ∧ s.fb GAU_TSTAT.NVM_OK ∧ s.boot.minuteAt + 60000000000 ≤ s.now then
    { (s.record .trialMinute) with boot := { s.boot with minuteAt := s.boot.minuteAt + 60000000000 } } else s)

/-- TRIAL_ROLLBACK: 10 minutes of trial time; Marshal takes semaphore 0 and activates the old slot (R549, R550, R582). -/
def execTrialRollback (s : State) : Res :=
  let due := s.nvm.trial.any (fun t => decide (10 ≤ t.minutes))
  .next (if due ∧ s.marshalOn ∧ s.coll.trapAt.isNone ∧ s.fb GAU_TSTAT.NVM_OK ∧ s.f QB_SEM.OWNER 0 = 0 then
    (s.put QB_SEM.OWNER 0 3).beginPause s.nvm.committed s.nvm.setCommitted true none else s)

/-! ### Key rotation (R553 to R556) -/

/-- The pages of every partition but ROT, in partition and page order. -/
def State.rotOrder (s : State) : List Nat :=
  [0, 1, 3, 4, 5, 6, 7, 8, 9, 10].flatMap fun id => (List.range (s.part id).2).map (· + (s.part id).1)

/-- The key slot that retires. -/
def State.retiring (s : State) : Option Nat := [0, 1].find? fun k => (s.nvm.key k).st = 3

/-- The next page of the retiring epoch: its place in the order, its number. -/
def State.rotPage (s : State) (e : Nat) : Option (Nat × Nat) :=
  let l := s.rotOrder
  ((List.range l.length).zip l).find? fun x =>
    s.boot.rotNext ≤ x.1 && leAt (s.page x.2) 0 2 = 0x5150 && byteAt (s.page x.2) 3 = e

/-- ROTATION_PAGE: the five steps of one page, or the end of the rotation; a page whose tag fails stays as it is and is reported. -/
def execRotationPage (s : State) : Res :=
  if !s.nvm.rotating ∨ !s.marshalOn ∨ !s.fb GAU_TSTAT.NVM_OK then .next s else
  match s.retiring, s.liveEpoch with
  | some r, some e => match s.rotPage (s.nvm.key r).epoch with
    | none => .next ((s.record .rotComplete).modKey r (fun _ => {}))
    | some x => match s.reseal (s.page x.2) e with
      | none => .next { (s.raiseNvm .PAGE_TAG (4096 * x.2)) with boot := { s.boot with rotNext := x.1 + 1 } }
      | some b =>
        let s1 := ((s.setPage (s.part 2).1 b).record (.rotCopied x.2)).setPage x.2 b
        .next { (s1.record (.rotSwitched x.2)) with boot := { s1.boot with rotNext := x.1 + 1, rotDone := satAdd 2047 s1.boot.rotDone 1 } }
  | _, _ => .next (s.record .rotComplete)

/-! ### The retire list (R86, R87, R587) -/

/-- The lane indices of a RETIRE command; `none` where an argument is out of range. -/
def State.retireArgs (s : State) (p : Port) : Option (List Nat) :=
  let n := s.mbxWord p 1 % 16
  let l := (List.range n).map (fun k => s.mbxWord p (k + 2))
  if n = 0 ∨ 14 < n ∨ l.any (fun x => 2047 < x) then none else some l

/-- Store a retire list in the settings slot in use. -/
def State.storeRetire (s : State) (p : Port) (l : List Nat) : State :=
  (s.modSetRec (s.f BOOT_STATUS.SET_SLOT) (fun x => { x with retire := some l })).answer p.ix 0 0 [(2, l.length)]

/-- RETIRE_ADD. -/
def execRetireAdd (p : Port) (s : State) : Res :=
  .next (s.serve p (· = 0x20) fun s => s.guarded p 14 false fun s => s.nvmCmd p fun s =>
    match s.retireArgs p with
    | none => s.answer p.ix 3 0 []
    | some l =>
      let all := l.foldl (fun (acc : List Nat) x => if acc.contains x then acc else acc ++ [x]) s.retireList
      if 128 < all.length then s.answer p.ix 4 0 [] else s.storeRetire p all)

/-- RETIRE_REMOVE. -/
def execRetireRemove (p : Port) (s : State) : Res :=
  .next (s.serve p (· = 0x21) fun s => s.guarded p 14 false fun s => s.nvmCmd p fun s =>
    match s.retireArgs p with
    | none => s.answer p.ix 3 0 []
    | some l => s.storeRetire p (s.retireList.filter (fun x => !l.contains x)))

/-- RETIRE_READ. -/
def execRetireRead (p : Port) (s : State) : Res :=
  .next (s.serve p (· = 0x22) fun s =>
    let l := s.retireList
    let first := s.mbxWord p 1 % 128
    s.answer p.ix 0 0 ((2, l.length) :: (List.range 13).map (fun k => (k + 3, l.getD (first + k) 0xFFFF))))

/-! ### Learned profiles (R558) -/

/-- Save the bins to the older copy. -/
def State.saveLearned (s : State) : State :=
  let seqOf := fun (c : Option LearnCopy) => (c.map (·.seq + 1)).getD 0
  let a := seqOf s.nvm.learnA
  let b := seqOf s.nvm.learnB
  let c : LearnCopy := ⟨max a b, if s.pacer.len = 0 then s.boot.learnLen else s.pacer.len, s.pacer.bins⟩
  let nvm := if a ≤ b then { s.nvm with learnA := some c, learnEmpty := false } else { s.nvm with learnB := some c, learnEmpty := false }
  { s with nvm := nvm, boot := { s.boot with saveAt := s.now } }

/-- LEARN_SAVE. -/
def execLearnSave (p : Port) (s : State) : Res :=
  .next (s.serve p (· = 0x30) fun s => s.guarded p 14 false fun s => s.nvmCmd p fun s => s.saveLearned.answer p.ix 0 0 [])

/-- LEARN_SAVE_TIMER: Marshal takes semaphore 0 for the save and releases it (R558, R582). -/
def execLearnSaveTimer (s : State) : Res :=
  let k := s.f BOOT_CFG.LP_SAVE
  .next (if k ≠ 0 ∧ s.marshalOn ∧ s.coll.trapAt.isNone ∧ s.led.scrub.isNone ∧ s.fb GAU_TSTAT.NVM_OK ∧ s.f QB_SEM.OWNER 0 = 0 ∧
    s.boot.saveAt + 60000000000 * k ≤ s.now then s.saveLearned else s)

/-! ### The logs (R448, R560, R587) -/

/-- LOG_INFO; of an empty partition the spec states no indices: free values. -/
def execLogInfo (p : Port) (s : State) : Res :=
  .next (s.serve p (· = 0x40) fun s =>
    let n := s.nvm.log.length
    let s1 := { s with freeCtr := s.freeCtr + 2 }
    if n = 0 then s1.answer p.ix 0 0 [(2, 0), (3, Config.recordValue s.freeCtr), (4, Config.recordValue (s.freeCtr + 1))]
    else s.answer p.ix 0 0 [(2, n), (3, s.nvm.logFirst), (4, s.nvm.logFirst + n - 1)])

/-- The six words of a stored record: the 20 bytes of the ring record and the boot count (R448); a LOSS record has no layout in the spec. -/
def State.logWords (s : State) (e : LogEnt) : List Nat :=
  match e with
  | .stored r boot =>
    let t := s.loadLog r
    [(t.reg .FLT_LOG0).toNat, (t.reg .FLT_LOG1).toNat, (t.reg .FLT_LOG2).toNat, (t.reg .FLT_LOG3).toNat, (t.reg .FLT_LOG4).toNat, boot]
  | .loss n => (List.range 6).map (fun k => Config.lossWord n k)

/-- LOG_READ. -/
def execLogRead (p : Port) (s : State) : Res :=
  .next (s.serve p (· = 0x41) fun s =>
    let i := s.mbxWord p 1
    let l := if i < s.nvm.logFirst then [] else (s.nvm.log.drop (i - s.nvm.logFirst)).take 2
    let ws := l.flatMap s.logWords
    if l = [] then s.answer p.ix 8 0 []
    else s.answer p.ix 0 0 (((List.range ws.length).zip ws).map (fun x => (x.1 + 2, x.2)) ++ [(14, l.length)]))

/-- CREDIT_LOG_READ. -/
def execCreditLogRead (p : Port) (s : State) : Res :=
  .next (s.serve p (· = 0x42) fun s =>
    if !s.creditCfg then s.answer p.ix 4 0 [] else
    match s.led.log[s.mbxWord p 1 % 256]? with
    | none => s.answer p.ix 8 0 []
    | some e =>
      let ph := match e.phase with
        | .prepared => 0
        | .committed => 1
        | .aborted => 2
      s.answer p.ix 0 0 [(2, e.tid), (3, ph + (if e.lend then 4 else 0)), (4, e.x), (5, e.step), (6, e.step / 2 ^ 32)])

end Sys2Proof.Machine
end

