-- ==== Sys2Proof/Machine/Test.lean ====
section
/-! DEFINITION. Test, trace and debug access (14_test_and_debug.md): the test access port and the wrapper, the lane self-test, the
observation selects, debug tokens, Photo-finish's controls. -/

namespace Sys2Proof.Machine

/-! ### The test access port and the wrapper (R598 to R604) -/

/-- A region is regulating or STARTING (R600). -/
def State.anyLive (s : State) : Bool := s.placed.any (fun n => (s.rgn n).st.regulating || (s.rgn n).st = .STARTING)

/-- An instruction is loaded that is always executed. -/
def State.loadIr (s : State) (code : Nat) : State := { s with test := { s.test with ir := code, refused := false } }

/-- An instruction is loaded that R600 bars while a region is live: it then acts as BYPASS, and JREF is set. -/
def State.loadBarred (s : State) (code : Nat) : State :=
  if s.anyLive then ({ s with test := { s.test with ir := code, refused := true } }).put TST_STATUS.JREF 0 1 else s.loadIr code

/-- The same of a wrapper instruction. -/
def State.loadWir (s : State) (code : Nat) : State := { s with test := { s.test with wir := code, refused := false } }

/-- WS_EXTEST and WS_INTEST (R603). -/
def State.loadWirBarred (s : State) (code : Nat) : State :=
  if s.anyLive then ({ s with test := { s.test with wir := code, refused := true } }).put TST_STATUS.JREF 0 1 else s.loadWir code

/-- A command of the test port, which power-on reset holds. -/
def State.tap (s : State) (act : State → State) : Res := .next (if s.powered then act s else s)

/-- The identification register (R599). -/
def idWord : Nat := Config.version.field 27 24 * 2 ^ 28 + 0x2048 * 2 ^ 12 + Config.jedecId.toNat * 2 + 1

/-- What a selected data register shifts out. -/
def State.shiftOut (s : State) (v : Nat) : State := { s with out := s.out ++ [Output.tdo v] }

/-- EXTEST. -/
def execExtest (s : State) : Res := s.tap (·.loadBarred 0x00)

/-- SAMPLE/PRELOAD, with the cells it loads. -/
def execSamplePreload (cells : BitVec 23) (s : State) : Res :=
  s.tap fun s => { (s.loadIr 0x01) with test := { (s.loadIr 0x01).test with cells := cells } }

/-- IDCODE. -/
def execIdcode (s : State) : Res := s.tap fun s => (s.loadIr 0x02).shiftOut idWord

/-- CLAMP. -/
def execClamp (s : State) : Res := s.tap (·.loadBarred 0x03)

/-- HIGHZ. -/
def execHighz (s : State) : Res := s.tap (·.loadBarred 0x04)

/-- WRAP_SEL. -/
def execWrapSel (s : State) : Res := s.tap (·.loadIr 0x08)

/-- WRAP_DR. -/
def execWrapDr (s : State) : Res := s.tap (·.loadIr 0x09)

/-- PRIV_DBG: without the PRIV right it acts as BYPASS (R598, R616); what the register holds the spec does not say: a free value. -/
def execPrivDbg (s : State) : Res :=
  s.tap fun s =>
    if !(s.f TST_STATUS.RIGHTS).testBit 2 then { s with test := { s.test with ir := 0x10, refused := true } }
    else if s.anyLive then s.loadBarred 0x10
    else { ((s.loadBarred 0x10).shiftOut (Config.privDebug s.freeCtr).toNat) with freeCtr := s.freeCtr + 1 }

/-- BYPASS, and every code that is not defined. -/
def execBypass (s : State) : Res := s.tap (·.loadIr 0x1F)

/-- WS_BYPASS. -/
def execWsBypass (s : State) : Res := s.tap (·.loadWir 0)

/-- WS_PRELOAD, with the cells it loads. -/
def execWsPreload (cells : BitVec 1142) (s : State) : Res :=
  s.tap fun s => { (s.loadWir 1) with test := { (s.loadWir 1).test with wcells := cells } }

/-- WS_EXTEST. -/
def execWsExtest (s : State) : Res := s.tap (·.loadWirBarred 2)

/-- WS_INTEST. -/
def execWsIntest (s : State) : Res := s.tap (·.loadWirBarred 3)

/-! ### Lane analog self-test (R605 to R608) -/

/-- The lane may be tested (R605). -/
def State.testable (s : State) (m : Nat) : Bool :=
  let l := (s.lane m).st
  let r := (s.rgn (m / 8)).st
  (l = .DISABLED || l = .FAILED || l = .FOLLOWER || l = .RETIRED) && (!s.fb LANE_CTRL.EN m || r = .OFF || r = .DARK)

/-- A self-test is asked for; while another runs it is refused (log entry 60). The lane's macro is reset (R30). -/
def State.startSelfTest (s : State) (m : Nat) : State :=
  if !s.testable m ∨ s.test.lst.isSome then s.put TST_LST_RES.STATUS 0 4 else
  let s1 := (s.put TST_LST_RES.STATUS 0 1).put TST_LST_RES.LANE 0 m
  ({ s1 with test := { s1.test with lst := some (m, s1.now, (s1.rgn (m / 8)).st) } }).modLane m
    (fun l => { l with fastRun := 0, deLeft := 0, de := false, openNs := 0 })

/-- The running test's region has left the state it had, or a block reset is in force (R608). -/
def State.testBroken (s : State) (x : Nat × Nat × RgnState) : Bool := s.blockReset.isSome || decide ((s.rgn (x.1 / 8)).st ≠ x.2.2)

/-- WS_LANE_ST: the data register is TST_LST_CTRL, and update-DR starts the test (R602). -/
def execWsLaneSt (m : Fin 2048) (s : State) : Res :=
  s.tap fun s => ((s.loadWir 4).put TST_LST_CTRL.LANE 0 m.val).startSelfTest m.val

/-- SELF_TEST_DONE with the steps that failed, bit s for step s (R606, R607). -/
def execSelfTestDone (failed : BitVec 8) (s : State) : Res :=
  checked (stepsOk failed) "self-test steps" <| match s.test.lst with
  | none => .next s
  | some x =>
    if s.testBroken x then .next s.abortSelfTest else
    let fail := failed.toNat
    let s1 := ({ s with test := { s.test with lst := none } }).put TST_LST_RES.FAIL 0 fail
    let s2 := s1.put TST_LST_RES.STATUS 0 (if fail = 0 then 2 else 3)
    let l := (s.lane x.1).st
    .next (if fail ≠ 0 ∧ (l = .DISABLED ∨ l = .FOLLOWER) then s2.failLane x.1 5 else s2)

/-- SELF_TEST_ABORT (R608). -/
def execSelfTestAbort (s : State) : Res :=
  match s.test.lst with
  | none => .next s
  | some x => .next (if s.testBroken x then s.abortSelfTest else s)

/-! ### Observation selects (R609 to R612, R616) -/

/-- A select may be written: the fixed level always, any while OBS_LOCK is 0, else one that a token's right grants (R611). -/
def State.obsAllowed (s : State) (sel : Nat) : Bool :=
  sel = 0 || !(s.opalWord 59).getLsbD 0 || (s.f TST_STATUS.RIGHTS).testBit (if sel < 256 then 0 else 1)

/-- The signal that a select names: a select with no signal acts as the fixed level (R609, R610). -/
def obsSignal (sel : Nat) : Nat :=
  let c := sel % 256
  let inside := fun (l : List (Nat × Nat)) => l.any (fun r => decide (r.1 ≤ c ∧ c ≤ r.2))
  if sel < 256 then if inside [(0x00, 0x0D), (0x10, 0x1F), (0x20, 0x27), (0x80, 0x85)] then sel else 0
  else if inside [(0x00, 0x04), (0x08, 0x0B), (0x0C, 0x10), (0x20, 0x2F), (0x30, 0x32)] then sel else 256

/-- What a pin carries now: the fixed level during a scrub without the matching right (R612). -/
def State.obsPin (s : State) (pin : Nat) : Nat :=
  let sel := s.f (if pin = 0 then TST_OBS_A.SEL else TST_OBS_B.SEL)
  if s.led.scrub.isSome && !(s.f TST_STATUS.RIGHTS).testBit (if sel < 256 then 0 else 1) then 0 else obsSignal sel

/-! ### Debug tokens (R613 to R616) -/

/-- The staged token. -/
def State.tokenBytes (s : State) : List Byte := (List.range 288).map fun i => BitVec.ofNat 8 (tblGet 0 s.boot.token i)

/-- TOKEN_CHALLENGE: a fresh nonce. -/
def execTokenChallenge (p : Port) (s : State) : Res :=
  .next (s.serve p (· = 0x60) fun s =>
    let x := s.draw
    let n := x.1.toNat
    ({ x.2 with boot := { x.2.boot with nonce := some (x.1, x.2.now) } }).answer p.ix 0 0
      ((List.range 4).map fun k => (k + 2, n / 2 ^ (32 * k) % 2 ^ 32)))

/-- TOKEN_DATA: 52 bytes from word 2 on; the last 24 of 312 are padding (R614). -/
def execTokenData (p : Port) (s : State) : Res :=
  .next (s.serve p (· = 0x61) fun s =>
    let o := s.mbxWord p 1 % 512
    if o % 52 ≠ 0 ∨ 260 < o then s.answer p.ix 3 0 [] else
    let put := fun (t : Tbl Nat) (i : Nat) => if o + i < 288 then tblSet 0 t (o + i) (s.mbxWord p (2 + i / 4) / 256 ^ (i % 4) % 256) else t
    ({ s with boot := { s.boot with token := (List.range 52).foldl put s.boot.token } }).answer p.ix 0 0 [])

/-- The fields of a token match (R613). -/
def State.tokenFields (s : State) (b : List Byte) : Bool :=
  let zero := fun (o k : Nat) => leAt b o k = 0
  leAt b 0 4 = 0x51544B31 && leAt b 4 4 = 0x0B202048 && leAt b 8 4 = (s.opalWord 0).toNat &&
    leAt b 0x0C 8 = (s.opalWord 1).toNat + 2 ^ 32 * (s.opalWord 2).toNat && decide (byteAt b 0x24 < 8) &&
    decide (1 ≤ leAt b 0x25 2 ∧ leAt b 0x25 2 ≤ 1440) && zero 0x27 25 && zero 0xA1 31

/-- The conditions of R615. -/
def State.tokenOk (s : State) (b : List Byte) : Bool :=
  let key := (b.drop 0x40).take 97
  let fresh := s.boot.nonce.any (fun x => x.1.toNat = leAt b 0x14 16 && decide (s.now ≤ x.2 + 600000000000))
  s.tokenFields b && (Config.sha384 key).toNat = ofLe (s.opalBytes 47 12) && Config.ecdsaOk key ((b.drop 0xC0).take 96) (b.take 0xC0) && fresh

/-- TOKEN_CHECK: the challenge is used up; an accepted token's rights begin (R615, R616). -/
def execTokenCheck (p : Port) (s : State) : Res :=
  .next (s.serve p (· = 0x62) fun s =>
    let b := s.tokenBytes
    let s1 := { s with boot := { s.boot with nonce := none } }
    if s.tokenOk b then
      let r := byteAt b 0x24
      ({ (s1.put TST_STATUS.RIGHTS 0 r) with boot := { s1.boot with rightsEnd := some (s.now + 60000000000 * leAt b 0x25 2) } }).answer p.ix 0 0 [(2, r)]
    else (s1.raise .TOKEN .none 0 p.fm .write).answer p.ix 7 0 [])

/-- TOKEN_REVOKE. -/
def execTokenRevoke (p : Port) (s : State) : Res := .next (s.serve p (· = 0x63) fun s => s.endRights.answer p.ix 0 0 [])

/-- TOKEN_EXPIRY: LIFE has passed (R616). -/
def execTokenExpiry (s : State) : Res :=
  .next (match s.boot.rightsEnd with
    | some t => if t ≤ s.now then s.endRights else s
    | none => s)

/-- Minutes left of the token, begun ones counted. -/
def State.lifeLeft (s : State) : Nat :=
  match s.boot.rightsEnd with
  | some t => ceilDiv (t - s.now) 60000000000
  | none => 0

/-! ### Photo-finish's controls (R620, R621) -/

/-- A write of 1 to PF_CTRL.ARM. -/
def State.pfArm (s : State) : State :=
  let s1 := (((s.put PF_STATUS.FROZEN 0 0).put PF_STATUS.TRIG 0 0).put PF_STATUS.WRAP 0 0).put PF_STATUS.WPTR 0 0
  { s1 with pf := { s1.pf with lastTime := none, post := none } }

/-- PF_FREEZE: POST records have followed the trigger. -/
def execPfFreeze (s : State) : Res :=
  .next (if s.fb PF_CTRL.ARM ∧ s.pf.post = some 0 then (s.put PF_CTRL.ARM 0 0).put PF_STATUS.FROZEN 0 1 else s)

end Sys2Proof.Machine
end

