-- ==== Sys2Proof/Machine/Flags.lean ====
section
/-! DEFINITION. Flags and pins: what the fields that report a present state read, register by register; the word that a register reads; the
interrupt lines and the other outputs. -/

namespace Sys2Proof.Machine

/-- A Bool as a field value. -/
def bitOf (b : Bool) : Nat := if b then 1 else 0

/-! ### Fields that report a present state -/

/-- The fault collector requests an interrupt of port `p` (R431). -/
def State.fltIrq (s : State) (p : Nat) : Bool :=
  [0, 1, 2, 3].any fun k => decide (s.reg .FLT_IPEND k &&& s.reg .FLT_IEN (4 * p + k) ≠ 0#32)

/-- Severe sources (FLT_STATUS.SEV_N). -/
def State.severeCount (s : State) : Nat := (Src.all.filter (fun x => s.fb FLT_CNT.SEV x.id)).length

/-- Global, fault and step registers. -/
def State.liveBase (s : State) (r : Reg) (i : Nat) : List (Fld × Nat) :=
  match r with
  | .QB_STATUS =>
    [(QB_STATUS.TB_IDLE, bitOf (s.step.tb = .IDLE)), (QB_STATUS.MARSHAL_RUN, bitOf (s.marshalOn && s.coll.trapAt.isNone)),
     (QB_STATUS.PAUSE, bitOf s.boot.pause.isSome), (QB_STATUS.SCRUB, bitOf s.led.scrub.isSome),
     (QB_STATUS.ACTIVE, bitOf (s.powered && s.activeHead))]
  | .QB_IRQ_STATUS => [(QB_IRQ_STATUS.FLT, bitOf (s.fltIrq i))]
  | .FLT_STATUS =>
    [(FLT_STATUS.FAULTN, bitOf s.faultN), (FLT_STATUS.TRAP, bitOf s.coll.trapAt.isSome), (FLT_STATUS.SEV_N, s.severeCount)]
  | .FLT_LOG_CTRL => [(FLT_LOG_CTRL.LEVEL, s.coll.log.length)]
  | .FLT_CNT => [(FLT_CNT.PEND, bitOf (s.src i).pend.isSome)]
  | .STP_COUNT_LO => [(STP_COUNT_LO.COUNT_LO, s.step.capCount)]
  | .STP_COUNT_HI => [(STP_COUNT_HI.COUNT_HI, s.step.capCount / 2 ^ 32)]
  | .STP_FINE => [(STP_FINE.FINE, s.step.capFine)]
  | .STP_STATUS =>
    [(STP_STATUS.TB, s.step.tb.code), (STP_STATUS.GATE_HOLD, bitOf s.gateHold), (STP_STATUS.QUEUE_USED, s.queueUsed)]
  | .BAT_STATUS =>
    [(BAT_STATUS.UP, bitOf s.baton.up), (BAT_STATUS.RSEQ, s.baton.lastRx), (BAT_STATUS.TSEQ, s.baton.lastTx),
     (BAT_STATUS.UNACK, s.baton.unacked.length)]
  | .BAT_TXN =>
    let t := s.slot i
    [(BAT_TXN.STATE, t.st.code), (BAT_TXN.DONE, bitOf t.latch), (BAT_TXN.STATUS, t.status), (BAT_TXN.GATE, bitOf t.gate),
     (BAT_TXN.NTYPE, t.ntype), (BAT_TXN.PREV, t.prev)]
  | _ => []

/-- The sensor that GAU_TRIM_SEL names; values above 543 act as 543. -/
def State.trimSensor (s : State) : Nat := min 543 (s.f GAU_TRIM_SEL.SENSOR)

/-- What a modulator converts: 0 idle, 1 regular, 2 housekeeping, 3 injected, and the entry. -/
def State.modActive (s : State) (k : Nat) : Nat × Nat :=
  match (s.mod_ k).inj, (s.mod_ k).hk, s.regNow k with
  | some e, _, _ => (3, e)
  | none, some e, _ => (2, e)
  | none, none, some e => (1, e)
  | none, none, none => (0, 0)

/-- Limits, Gauge and Ledger registers. -/
def State.liveUnits (s : State) (r : Reg) (i : Nat) : List (Fld × Nat) :=
  match r with
  | .LIM_STR_SRC => [(LIM_STR_SRC.THERMAL, s.lim.thermal)]
  | .LIM_ALERT => [(LIM_ALERT.ALERT, bitOf s.lim.alert), (LIM_ALERT.APPR, bitOf s.lim.appr)]
  | .GAU_QSTAT => [(GAU_QSTAT.LEVEL, s.gauge.queue.length), (GAU_QSTAT.WM, bitOf s.gaugeWm)]
  | .GAU_TRIM =>
    let q := s.trimSensor
    [(GAU_TRIM.G, unsigned 12 (tblGet 0 s.gauge.trimG q)), (GAU_TRIM.O, unsigned 12 (tblGet 0 s.gauge.trimO q)),
     (GAU_TRIM.VALID, bitOf (!(s.sensor q).bad && (s.sensor q).val.isSome))]
  | .GAU_MOD_STAT => [(GAU_MOD_STAT.ACT, (s.modActive i).1), (GAU_MOD_STAT.ENTRY, (s.modActive i).2)]
  | .LED_STATUS =>
    [(LED_STATUS.RUN_CTX, s.runCtx.getD 0), (LED_STATUS.RUN_VALID, bitOf s.runCtx.isSome), (LED_STATUS.SCRUB, bitOf s.led.scrub.isSome)]
  | .LED_SNAP => [(LED_SNAP.BUSY, bitOf s.led.snapBusy)]
  | .LED_REC_CTRL => [(LED_REC_CTRL.LEVEL, s.led.recs.length)]
  | .LED_CTX => [(LED_CTX.STATE, (s.ctxSt i).code)]
  | .LED_CR_POOL => [(LED_CR_POOL.POOL, unsigned 32 s.led.pool)]
  | .LED_CR_ESC_OUT => [(LED_CR_ESC_OUT.ESC_OUT, s.led.escOut)]
  | .LED_CR_ESC_IN => [(LED_CR_ESC_IN.ESC_IN, s.led.escIn)]
  | .LED_CR_NET => [(LED_CR_NET.NET, unsigned 32 s.led.net)]
  | .LED_CR_LOG => [(LED_CR_LOG.USED, s.led.log.length), (LED_CR_LOG.OPEN, (s.led.log.filter CrEntry.open_).length)]
  | .LED_TV_LO => [(LED_TV_LO.E_LO, (tblGet {} s.led.tv i).words.1.toNat)]
  | .LED_TV_HI =>
    let w : Word := BitVec.ofNat 32 (tblGet 0 s.led.tvCap i)
    [(LED_TV_HI.E_HI, w.field 15 0), (LED_TV_HI.STATE, w.field 18 16), (LED_TV_HI.SEQ, w.field 31 24)]
  | _ => []

/-- Relay, boot, key and test registers. -/
def State.liveSystem (s : State) (r : Reg) (i : Nat) : List (Fld × Nat) :=
  match r with
  | .RLY_PSTAT =>
    let x := s.port i
    [(RLY_PSTAT.STATE, x.st.code), (RLY_PSTAT.EPOCH, x.txE), (RLY_PSTAT.REKEY_PEND, bitOf x.rekey.isSome),
     (RLY_PSTAT.PEER_ID, (x.peer.map (·.id)).getD 0), (RLY_PSTAT.UNACK, x.unacked.length)]
  | .RLY_PSEQ_TX => [(RLY_PSEQ_TX.SEQ, (s.port i).txSeq - 1)]
  | .RLY_PSEQ_RX => [(RLY_PSEQ_RX.SEQ, (s.port i).rx.high.getD 0)]
  | .BOOT_TRIAL =>
    match s.nvm.trial with
    | some t => [(BOOT_TRIAL.BOOTS, min 3 t.boots), (BOOT_TRIAL.MINUTES, min 10 t.minutes), (BOOT_TRIAL.WAIT_TEMP, bitOf (!s.fb GAU_TSTAT.NVM_OK))]
    | none => []
  | .KEY_STATUS =>
    [(KEY_STATUS.EPOCH0, s.nvm.key0.epoch), (KEY_STATUS.STATE0, s.nvm.key0.st), (KEY_STATUS.EPOCH1, s.nvm.key1.epoch),
     (KEY_STATUS.STATE1, s.nvm.key1.st), (KEY_STATUS.ROT, bitOf s.nvm.rotating), (KEY_STATUS.DONE, s.boot.rotDone)]
  | .TST_STATUS => [(TST_STATUS.LIFE_LEFT, s.lifeLeft)]
  | .COEF_STATUS =>
    [(COEF_STATUS.NET_ACTIVE, bitOf (s.pacer.model.isSome && s.fb COEF_CTRL.NET_EN && s.f COEF_MODEL.STATUS = 2)),
     (COEF_STATUS.PEND_USED, s.pacer.pend.length)]
  | .REP_PERIOD => [(REP_PERIOD.LEN, s.pacer.len)]
  | .REP_PHASE => [(REP_PHASE.PHASE, s.phaseAt s.step.count)]
  | .REP_BIN =>
    let b := 256 * s.f REP_SEL.REGION + 2 * i
    [(REP_BIN.BIN_EVEN, unsigned 16 (tblGet 0 s.pacer.bins b)), (REP_BIN.BIN_ODD, unsigned 16 (tblGet 0 s.pacer.bins (b + 1)))]
  | _ => []

/-- The heats that hold regions of a domain. -/
def State.domHeats (s : State) (d : Nat) : List Nat := s.allHeats.filter (fun h => (s.members h).any (fun n => s.domOf n = d))

/-- The base set-point of the heat of a domain's lowest region (DOM_SETPT.BASE). -/
def State.domBase (s : State) (d : Nat) : Nat :=
  match s.domRgns d with
  | n :: _ => s.baseV (s.heatIx n)
  | [] => 0

/-- A close or open of one of the region's gates is deferred (RGN_STATUS.DEFER). -/
def State.mergeDeferred (s : State) (n : Nat) : Bool :=
  s.merges.any fun x => x.deferred && match gateEnds x.gate with
    | some (a, b) => a = n || b = n
    | none => false

/-- Bits 0 to 31 of a bitmap of group indices from `k` × 32 on. -/
def groupBits (l : List Nat) (k : Nat) : Nat :=
  sumN ((List.range 32).map (fun j => if l.contains (32 * k + j) then 2 ^ j else 0))

/-- Domain, region and lane registers. -/
def State.liveRails (s : State) (r : Reg) (i : Nat) : List (Fld × Nat) :=
  match r with
  | .DOM_STATUS =>
    let hs := s.domHeats i
    [(DOM_STATUS.HEATS, hs.length), (DOM_STATUS.AT_TARGET, bitOf (!hs.isEmpty && hs.all s.atTarget))]
  | .DOM_SETPT => [(DOM_SETPT.BASE, s.domBase i)]
  | .RGN_STATUS =>
    let x := s.rgn i
    [(RGN_STATUS.STATE, x.st.code), (RGN_STATUS.HEAT, s.heatIx i), (RGN_STATUS.CAUSE, x.cause), (RGN_STATUS.ATTEMPT, x.attempts),
     (RGN_STATUS.DEFER, bitOf (s.mergeDeferred i))]
  | .RGN_SETPT => [(RGN_SETPT.BASE, s.baseV (s.heatIx i))]
  | .RGN_VG_STATUS =>
    let x := s.rgn i
    [(RGN_VG_STATUS.WORKING, x.working), (RGN_VG_STATUS.SPARES_USED, (x.vgMap.filter (· ≠ 127)).length),
     (RGN_VG_STATUS.LAST_GROUP, x.vgLast), (RGN_VG_STATUS.LAST_KIND, x.vgKind)]
  | .RGN_VG_FAIL => [(RGN_VG_FAIL.BITS, groupBits (s.rgn (i / 4)).vgFailed (i % 4))]
  | .RGN_VG_MAP =>
    let g := fun (k : Nat) => (s.rgn (i / 2)).vgMap.getD (4 * (i % 2) + k) 127
    [(RGN_VG_MAP.S0, g 0), (RGN_VG_MAP.S1, g 1), (RGN_VG_MAP.S2, g 2), (RGN_VG_MAP.S3, g 3)]
  | .RGN_STR_STATUS =>
    let x := s.rgn i
    let h := s.heat (s.heatIx i)
    [(RGN_STR_STATUS.WIN, x.win), (RGN_STR_STATUS.FB_ACTIVE, bitOf x.fb), (RGN_STR_STATUS.SPEC_ACTIVE, bitOf x.spec),
     (RGN_STR_STATUS.AT_TARGET, bitOf h.atTgt), (RGN_STR_STATUS.SEG, h.seg)]
  | .RGN_STR_ERR => [(RGN_STR_ERR.ERR, unsigned 18 (s.rgn i).er)]
  | .RGN_PCR_STATUS =>
    let x := s.rgn i
    [(RGN_PCR_STATUS.MODE, x.mode.code), (RGN_PCR_STATUS.BAD, min 7 x.bad), (RGN_PCR_STATUS.CLEAN, min 127 x.clean),
     (RGN_PCR_STATUS.PREBIAS, bitOf (!x.preb.isEmpty))]
  | .RGN_PCR_FCAST => [(RGN_PCR_FCAST.CONF, s.fConf i s.step.count), (RGN_PCR_FCAST.MEAS, min 65535 (s.rgn i).mLast)]
  | .LANE_STATUS =>
    let l := s.lane i
    [(LANE_STATUS.STATE, l.st.code), (LANE_STATUS.CAUSE, l.cause), (LANE_STATUS.RETRY, l.retry), (LANE_STATUS.DE, bitOf l.de),
     (LANE_STATUS.OVL, bitOf (s.rgn (i / 8)).ovFlag)]
  | .LANE_CTRL => [(LANE_CTRL.RETIRE, bitOf ((s.lane i).st = .RETIRED))]
  | .LANE_CMD => if (s.lane i).st = .FOLLOWER then [(LANE_CMD.PEAK, 0), (LANE_CMD.TRIM, 0)] else
    [(LANE_CMD.PEAK, (s.lane i).peak), (LANE_CMD.TRIM, unsigned 7 (s.lane i).trim)]
  | .LANE_SENSE => [(LANE_SENSE.I_PRI, min 4095 (s.lane i).iPri), (LANE_SENSE.I_SEC, min 4095 (s.lane i).iSec)]
  | .LANE_COUNT => [(LANE_COUNT.FAST_CYC, (s.lane i).fastCyc), (LANE_COUNT.LATCHES, (s.lane i).latches)]
  | _ => []

/-- A word of the Photo-finish window: 0 while ARM is 1 (R621). -/
def State.pfRead (s : State) (i : Nat) : List (Fld × Nat) :=
  [(PF_WIN.WORD, if s.fb PF_CTRL.ARM then 0 else (tblGet [] s.pf.recs (i / 8)).getD (i % 8) 0)]

/-- What the fields of a register that report a present state show. -/
def State.live (s : State) (r : Reg) (i : Nat) : List (Fld × Nat) :=
  if r = .PF_WIN then s.pfRead i else s.liveBase r i ++ s.liveUnits r i ++ s.liveSystem r i ++ s.liveRails r i

/-- The word that element `i` of a register reads: what the register file holds, under the fields that show a present state. -/
def State.view (s : State) (r : Reg) (i : Nat) : Word :=
  (s.live r i).foldl (fun (w : Word) x => w.withField x.1.hi x.1.lo x.2) (s.reg r i)

/-! ### Outputs -/

/-- qb_irq[p] (R591). -/
def State.irq (s : State) (p : Nat) : Bool := (s.view .QB_IRQ_STATUS p).field 5 0 &&& s.f QB_IRQ_EN.EN p ≠ 0

/-- region_gate[g]: the gate is closed (R90, R93). -/
def State.gatePin (s : State) (g : Nat) : Bool := s.closed g

end Sys2Proof.Machine
end

