-- ==== Sys2Proof/Machine/Ports.lean ====
section
/-! DEFINITION. The host ports (13_host_ports_and_registers.md): what a write and a read of a register do, the semaphores and their guard,
the mailboxes' registers, the mirroring of a pair; Port B's transactions. -/

namespace Sys2Proof.Machine

/-! ### Where an access goes (R566, R567, R592) -/

/-- A register of the fault collector for an ID that no source has: its offset is reserved. -/
def noSource (r : Reg) (i : Nat) : Bool := (r = .FLT_CLS || r = .FLT_RCT || r = .FLT_CNT) && (Src.ofId i).isNone

/-- The register and element at an offset; `none` where the offset is reserved. -/
def regAt (off : Nat) : Option (Reg × Nat) :=
  match Reg.ofOffset (off / 4 * 4) with
  | some (r, i) => if noSource r i then none else some (r, i)
  | none => none

/-- The region of a region or lane register. -/
def Reg.region (r : Reg) (i : Nat) : Option Nat :=
  let b := r.place.base
  if 0x20000 ≤ b ∧ b < 0x30000 then some (i / r.place.n2) else if 0x40000 ≤ b ∧ b < 0x60000 then some (i / 8) else none

/-- A register of a region or lane that the integration does not place (R592). -/
def State.absent (s : State) (r : Reg) (i : Nat) : Bool := (r.region i).any (fun n => !s.isPlaced n)

/-- The ports are served from the OPAL stage on (R567). -/
def State.serving (s : State) : Bool := s.powered && s.stage ≠ 0

/-- Add 1 to a counter of the accessing port; Marshal has none. -/
def State.countPort (s : State) (x : Master) (c : Fld) : State :=
  match x with
  | .portA => s.bump c 0
  | .portB => s.bump c 1
  | .marshal => s

/-! ### The semaphore guard (R581) -/

/-- A register of the Limits group. -/
def Reg.isLim (r : Reg) : Bool := 0x3000 ≤ r.place.base && r.place.base < 0x4000

/-- A register of the test and trace group or a word of its window. -/
def Reg.isTest (r : Reg) : Bool := (0x8000 ≤ r.place.base && r.place.base < 0x10000) || r = .PF_WIN

/-- Some bit of a field is written as 1. -/
def sets (act : Word) (x : Fld) : Bool := act.field x.hi x.lo ≠ 0

/-- The semaphore that guards a write, `act` being the bits written as 1. -/
def State.semOf (s : State) (r : Reg) (i : Nat) (act : Word) : Option Nat :=
  let when_ := fun (b : Bool) (k : Nat) => if b then some k else none
  match r with
  | .BOOT_UPD_DATA => some 0
  | .GAU_CFG => when_ (sets act GAU_CFG.QCLR) 1
  | .LED_SNAP | .LED_CR_ALLOC => some 2
  | .LED_REC_CTRL => when_ (sets act LED_REC_CTRL.POP) 2
  | .LED_CTX => when_ (sets act LED_CTX.REL) 2
  | .FLT_CTRL => when_ (sets act FLT_CTRL.FE_ARM || sets act FLT_CTRL.FN_REL) 3
  | .FLT_LOG_CTRL => when_ (sets act FLT_LOG_CTRL.POP) 3
  | .DOM_CTRL | .DOM_SETPT | .DOM_RCMD | .DOM_RCMD_STEP_LO | .DOM_RCMD_STEP_HI | .DOM_RCMD_RES => some (4 + i)
  | .RGN_SETPT => some (4 + s.domOf i)
  | .COEF_M | .COEF_X | .COEF_CTRL => some 8
  | .REP_CFG | .REP_SEL | .REP_BIN => some 9
  | .GAU_TRIM_SEL => some 10
  | .RLY_CTRL | .RLY_GRP_BUDGET | .RLY_CR_CFG => some 11
  | .LANE_CTRL => some 14
  | _ => if r.isTest then some 13 else if r.isLim then when_ (r.fields.any (fun f => (f.acc = .rw || f.acc = .wo) && sets act f)) 12 else none

/-- Semaphore `k` is held by another master. -/
def State.heldBy (s : State) (x : Master) (k : Nat) : Bool := s.f QB_SEM.OWNER k ≠ 0 && s.f QB_SEM.OWNER k ≠ x.owner

/-! ### The plain effect of a write (00, Registers; R6, R571) -/

/-- A register word after a write: rw fields, lk fields before boot lock, w1c fields. -/
def storeWord (l : List Fld) (locked : Bool) (old v m : Word) : Word :=
  l.foldl (fun (w : Word) f => match f.acc with
    | .rw => w.withField f.hi f.lo ((Word.merge old v m).field f.hi f.lo)
    | .lk => if locked then w else w.withField f.hi f.lo ((Word.merge old v m).field f.hi f.lo)
    | .w1c => w &&& ~~~(v &&& m &&& Word.mask f.hi f.lo)
    | _ => w) old

/-- Boot lock is set (R8). -/
def State.locked (s : State) : Bool := s.fb BOOT_STATUS.LOCK

/-- The fields of a register that a write with byte mask `m` sets. -/
def State.written (s : State) (r : Reg) (m : Word) : List Fld :=
  r.fields.filter (fun f => (f.acc = .rw || (f.acc = .lk && !s.locked)) && Word.mask f.hi f.lo &&& m ≠ 0#32)

/-- The bits of mask `m` that a write may store where an element's access is not its register's (`Fld.accAt`). -/
def State.openBits (s : State) (r : Reg) (i : Nat) (m : Word) : Word :=
  if r = .FLT_RCT && s.locked then r.fields.foldl (fun m f => if f.accAt i = .lk then m &&& ~~~(Word.mask f.hi f.lo) else m) m else m

/-- The plain effect, with the report of a configuration error. -/
def State.plain (s : State) (x : Master) (r : Reg) (i : Nat) (v m : Word) : State :=
  (s.setReg r i (storeWord r.fields s.locked (s.reg r i) v (s.openBits r i m))).configErr x.fm r i (s.written r (s.openBits r i m))

/-! ### Registers with effects of their own -/

/-- Do something when a bit is written as 1. -/
def State.onSet (s : State) (act : Word) (x : Fld) (f : State → State) : State := if sets act x then f s else s

/-- QB_CTRL (R593, R435). -/
def State.ctrlWrite (s : State) (x : Master) (act : Word) : State :=
  if !sets act QB_CTRL.SOFT_RST then s
  else if act.field 31 16 = 0x0B20 then
    let s1 := s.enterBlockReset false
    { s1 with coll := { s1.coll with halted := false } }
  else s.countPort x QB_PORT_ERR.RSVD

/-- QB_SEM (R580); a take or a release in a block reset is lost (R567). -/
def State.semWrite (s : State) (x : Master) (i : Nat) (v m : Word) : State :=
  let act := v &&& m
  let s1 := s.onSet act QB_SEM.FORCED (fun s => s.put QB_SEM.FORCED i 0)
  if s.blockReset.isSome then s1 else
  let s2 := s1.onSet act QB_SEM.TAKE fun s =>
    if s.f QB_SEM.OWNER i = 0 then (s.put QB_SEM.OWNER i x.owner).put QB_SEM.TAG i ((Word.merge (s.reg .QB_SEM i) v m).field 15 8) else s
  s2.onSet act QB_SEM.REL fun s => if s.f QB_SEM.OWNER i = x.owner then s.put QB_SEM.OWNER i 0 else s

/-- QB_SEM_FORCE (R583); a wrong key is counted (QB_PORT_ERR.RSVD). -/
def State.semForceWrite (s : State) (x : Master) (act : Word) : State :=
  let k := act.field 3 0
  if act.field 31 16 = 0x0B20 then (s.put QB_SEM.OWNER k 0).put QB_SEM.FORCED k 1 else s.countPort x QB_PORT_ERR.RSVD

/-- A write of a mailbox: of the other port's it is ignored and sets XPORT, of a BUSY one it is ignored and sets OVR (R584, R585). -/
def State.mbxWrite (s : State) (x : Master) (p : Nat) (act : State → State) : State :=
  if x.owner ≠ p + 1 then
    match x with
    | .portA => s.put QB_MBX_STATUS.XPORT 0 1
    | .portB => s.put QB_MBX_STATUS.XPORT 1 1
    | .marshal => s
  else if s.f QB_MBX_STATUS.STATE p = 1 then s.put QB_MBX_STATUS.OVR p 1
  else act s

/-- GO: the mailbox is BUSY (R585). -/
def State.mbxGo (s : State) (p : Nat) : State :=
  { (s.put QB_MBX_STATUS.STATE p 1) with host := { s.host with busy := s.host.busy ++ [p] } }

/-- FSW after the lane PLL has been programmed: Marshal firmware stores it in the settings slot in use (R594, R588). -/
def State.fswStored (s : State) : State :=
  if s.boot.lockedOnce ∧ s.marshalOn ∧ s.fb GAU_TSTAT.NVM_OK then
    s.modSetRec (s.f BOOT_STATUS.SET_SLOT) (fun r => { r with fsw := some (s.f QB_LANE_CFG.FSW) })
  else s

/-- GAU_MOD_CFG: a regular sequence in progress goes on to its next end; EN cleared stops the modulator (R364, R366). -/
def State.modCfgWrite (s : State) (x : Master) (k : Nat) (v m : Word) : State :=
  let act := v &&& m
  let cur := s.regNow k
  let s1 := (s.plain x .GAU_MOD_CFG k v m).modMod k (fun t => { t with reg := cur })
  let s2 := if s.fb GAU_MOD_CFG.EN k && !s1.fb GAU_MOD_CFG.EN k then s1.modStop k cur else s1
  if !s2.gaugeOn then s2 else (s2.onSet act GAU_MOD_CFG.RSW (·.regEvent k true)).onSet act GAU_MOD_CFG.ISW (·.injEvent k true)

/-- RLY_CTRL.SWITCH (R496): on the active instance with its standby STANDBY_SYNC, at the next boundary. -/
def State.switchWrite (s : State) : State :=
  if s.pairSt = 1 ∧ s.relay.peerSt = 2 then { s with relay := { s.relay with switching := true } } else s.put RLY_STATUS.SW_REF 0 1

/-- RLY_CTRL (R471, R489, R496). -/
def State.rlyCtrlWrite (s : State) (act : Word) : State :=
  let s1 := s.onSet act RLY_CTRL.SWITCH State.switchWrite
  let s2 := s1.onSet act RLY_CTRL.RESYNC (fun s => if s.standby then s.askResync else s)
  s2.forEach [0, 1, 2, 3, 4] (fun s p => if act.getLsbD (2 + p) then s.startRekey p else s)

/-- BOOT_UPD_DATA (R563). -/
def State.stageWrite (s : State) (w : Word) : State :=
  if 1023 < s.boot.stageIx then s.put BOOT_UPD_STATUS.OVR 0 1
  else { s with boot := { s.boot with staging := tblSet 0 s.boot.staging s.boot.stageIx w.toNat, stageIx := s.boot.stageIx + 1 } }

/-- TST_OBS_A and TST_OBS_B (R611). -/
def State.obsWrite (s : State) (x : Master) (r : Reg) (v m : Word) : State :=
  if s.obsAllowed ((Word.merge (s.reg r 0) v m).field 8 0) then s.plain x r 0 v m else s.put TST_STATUS.OBS_REF 0 1

/-- PF_CTRL (R567, R620, R621): ARM does not take a write in a block reset; a software trigger written to an armed recording does not arm
it again (log entry 61). -/
def State.pfCtrlWrite (s : State) (x : Master) (v m : Word) : State :=
  let act := v &&& m
  let s1 := if s.blockReset.isSome then s
    else if sets act PF_CTRL.SWTRIG && s.fb PF_CTRL.ARM then s.plain x .PF_CTRL 0 v m
    else (s.plain x .PF_CTRL 0 v m).onSet act PF_CTRL.ARM State.pfArm
  s1.onSet act PF_CTRL.SWTRIG (·.pfTrigger 4)

/-- COEF_M and COEF_X (R264). -/
def State.coefWrite (s : State) (x : Master) (r : Reg) (i : Nat) (v m : Word) : State :=
  if s.fb COEF_CTRL.EN then s.put COEF_STATUS.WR_REF 0 1 else s.plain x r i v m

/-- REP_BIN: two bins of the region that REP_SEL names, while LEARN is 0. -/
def State.binWrite (s : State) (i : Nat) (v m : Word) : State :=
  if s.fb REP_CFG.LEARN then s else
  let w := Word.merge (s.view .REP_BIN i) v m
  let b := 256 * s.f REP_SEL.REGION + 2 * i
  { s with pacer := { s.pacer with
    bins := tblSet 0 (tblSet 0 s.pacer.bins b (signed 16 (w.field 15 0))) (b + 1) (signed 16 (w.field 31 16)) } }

/-- LANE_CTRL (R40, R88). -/
def State.laneCtrlWrite (s : State) (x : Master) (k : Nat) (v m : Word) : State :=
  let act := v &&& m
  let s1 := s.laneEn x.fm k (sets (Word.merge (s.reg .LANE_CTRL k) v m) LANE_CTRL.EN)
  (s1.onSet act LANE_CTRL.CLR_FAIL (·.laneClrFail x.fm k)).onSet act LANE_CTRL.RETIRE (·.laneRetire x.fm k)

/-- Registers outside the rails with effects of their own; `none` for the others. -/
def State.systemWrite (s : State) (x : Master) (r : Reg) (i : Nat) (v m : Word) : Option State :=
  let act := v &&& m
  let pl := s.plain x r i v m
  match r with
  | .QB_CTRL => some (s.ctrlWrite x act)
  | .QB_LANE_CFG => some (if m.field 3 0 = 0 then s else pl.fswStored)
  | .QB_SEM => some (s.semWrite x i v m)
  | .QB_SEM_FORCE => some (s.semForceWrite x act)
  | .QB_MBX_DATA => some (s.mbxWrite x (i / 16) (·.plain x r i v m))
  | .QB_MBX_CTRL => some (s.mbxWrite x i (fun s => s.onSet act QB_MBX_CTRL.GO (·.mbxGo i)))
  | .FLT_CTRL =>
    let s1 := (s.onSet act FLT_CTRL.FE_ARM State.feArm).onSet act FLT_CTRL.FN_REL State.fnRel
    some (if x = .marshal ∧ sets act FLT_CTRL.HB ∧ s.boot.marshal ∧ !s.coll.halted then { s1 with coll := { s1.coll with hb := s1.now } } else s1)
  | .FLT_LOG_CTRL => some (pl.onSet act FLT_LOG_CTRL.POP State.popLog)
  | .LIM_PWR1 => some (pl.onSet act LIM_PWR1.CLR_PEAK State.clrPeakPower)
  | .LIM_STR_HOST => some pl.hostLevel
  | .GAU_CFG => some ((pl.onSet act GAU_CFG.QCLR State.clearQueue).wmEdge s.gaugeWm)
  | .GAU_TSTAT => some (pl.onSet act GAU_TSTAT.CLR_PEAK State.clearTempPeak)
  | .GAU_MOD_CFG => some (s.modCfgWrite x i v m)
  | .LED_SNAP => some (pl.onSet act LED_SNAP.SNAP (fun s => s.snap (s.f LED_SNAP.SEL)))
  | .LED_REC_CTRL => some (pl.onSet act LED_REC_CTRL.POP State.popRecord)
  | .LED_CTX => some (s.onSet act LED_CTX.REL (·.releaseWrite i))
  | .LED_CR_ALLOC => some (pl.onSet act LED_CR_ALLOC.GO (fun s => s.creditAlloc (s.f LED_CR_ALLOC.REGION) (signed 17 (s.f LED_CR_ALLOC.AMOUNT))))
  | .RLY_CTRL => some (s.rlyCtrlWrite act)
  | .BOOT_UPD_DATA => some (s.stageWrite act)
  | .TST_OBS_A | .TST_OBS_B => some (s.obsWrite x r v m)
  | .TST_LST_CTRL => some (pl.onSet act TST_LST_CTRL.GO (fun s => s.startSelfTest (s.f TST_LST_CTRL.LANE)))
  | .PF_CTRL => some (s.pfCtrlWrite x v m)
  | .COEF_M | .COEF_X => some (s.coefWrite x r i v m)
  | .COEF_CTRL => some (if !s.fb COEF_CTRL.EN && pl.fb COEF_CTRL.EN then pl.coefEnabled else pl)
  | .REP_CFG => some (pl.onSet act REP_CFG.CLR State.clearBins)
  | .REP_BIN => some (s.binWrite i v m)
  | _ => none

/-- The registers of domains, regions and lanes with effects of their own. -/
def State.railWrite (s : State) (x : Master) (r : Reg) (i : Nat) (v m : Word) : Option State :=
  let act := v &&& m
  let new := Word.merge (s.reg r i) v m
  let pl := s.plain x r i v m
  match r with
  | .DOM_CTRL => some (s.meshWrite x.fm i (sets new DOM_CTRL.MESH))
  | .DOM_SETPT => some (s.domSetptWrite x.fm i (new.field 11 0) (sets new DOM_SETPT.SCHED))
  | .RGN_SETPT => some (s.rgnSetptWrite x.fm i (new.field 11 0) (sets new RGN_SETPT.SCHED))
  | .DOM_RCMD => some (pl.onSet act DOM_RCMD.GO (·.rcmdGo x.fm i))
  | .DOM_TEL_CTRL => some (s.onSet act DOM_TEL_CTRL.CLR (·.clearTel i))
  | .RGN_CTRL => some (pl.onSet act RGN_CTRL.CLR_DARK (·.clrDarkWrite i))
  | .RGN_STR_CFG => some (pl.onSet act RGN_STR_CFG.CLR_FB (·.modRgn i (fun t => { t with clrFb := true })))
  | .LANE_CTRL => some (s.laneCtrlWrite x i v m)
  | _ => none

/-- What a write of the bytes in `m` does to a register (R6). -/
def State.regWrite (s : State) (x : Master) (r : Reg) (i : Nat) (v m : Word) : State :=
  if s.blockReset.isSome && blockResetRegs.contains r then s else
  match s.systemWrite x r i v m with
  | some t => t
  | none => match s.railWrite x r i v m with
    | some t => t
    | none => s.plain x r i v m

/-! ### Mirroring (R487, R490) -/

/-- The body of a MIRROR for a register write, and for an entry of the step action queue: the spec gives the fields of the message and not
how they carry either. -/
opaque Config.mirrorWriteBody : Master → Nat → BitVec 4 → Word → Nat
opaque Config.mirrorEntryBody : QEntry → Nat

/-- What a received body spells: a write, an entry, or nothing. -/
opaque Config.mirrorWrite : BitVec 272 → Option (Master × Nat × BitVec 4 × Word)
opaque Config.mirrorEntry : BitVec 272 → Option QEntry

/-- Writes of the fault collector, of Marshal's units, of the mailboxes and of the test unit, and of RLY_CTRL but for SWITCH, stay with
their instance. -/
def Reg.mirrored (r : Reg) (act : Word) : Bool :=
  let b := r.place.base
  if r = .RLY_CTRL then sets act RLY_CTRL.SWITCH
  else !(r.isTest || (b < 0x2000 && r != .QB_SEM && r != .QB_SEM_FORCE && r != .QB_LANE_CFG) || (0x7000 ≤ b && b < 0x8000) ||
    (0x6000 ≤ b && b < 0x7000))

/-- The active instance of a pair mirrors a write of its host ports and the entries that it has placed. -/
def State.mirror (s before : State) (x : Master) (r : Reg) (off : Nat) (be : BitVec 4) (v act : Word) : State :=
  if !s.inPair ∨ s.pairSt ≠ 1 ∨ x = .marshal ∨ !r.mirrored act ∨ (r = .RLY_CTRL ∧ !s.relay.switching) then s else
  let s1 := s.pairPost 0x0A (Config.mirrorWriteBody x off be v)
  s1.forEach (s.step.queue.drop before.step.queue.length) (fun s e => s.pairPost 0x0A (Config.mirrorEntryBody e))

/-- A standby's ports take writes to the Relay group, and to the mailboxes, whose commands R589 answers there; every other is ignored
(R490). -/
def State.standbyRefuses (s : State) (r : Reg) : Bool :=
  let b := r.place.base
  s.standby && !((0x6000 ≤ b && b < 0x7000) || r = .QB_MBX_DATA || r = .QB_MBX_CTRL || r = .QB_MBX_STATUS)

/-! ### One access -/

/-- A write of a master to a byte offset with byte enables: the state after it, and that it was refused under R566 or R581. -/
def State.write (s : State) (x : Master) (off : Nat) (be : BitVec 4) (v : Word) : State × Bool :=
  let m := Word.byteMask be
  if !s.serving then (s, false) else
  match regAt off with
  | none => (s.countPort x QB_PORT_ERR.RSVD, true)
  | some (r, i) =>
    if s.absent r i ∨ be = 0#4 then (s, false)
    else if x ≠ .marshal ∧ s.standbyRefuses r then (s.put RLY_STATUS.STBY_WR 0 1, false)
    else if (s.semOf r i (v &&& m)).any (s.heldBy x) then (s.countPort x QB_PORT_ERR.SEM, true)
    else ((s.regWrite x r i v m).mirror s x r off be v (v &&& m), false)

/-- A read of a master: the state after it and the word (R253, R374, R418, R566, R581). -/
def State.read (s : State) (x : Master) (off : Nat) : State × Word :=
  if !s.serving then (s, 0#32) else
  match regAt off with
  | none => (s.countPort x QB_PORT_ERR.RSVD, 0#32)
  | some (r, i) =>
    if s.absent r i then (s, 0#32) else
    match r with
    | .GAU_QDATA_LO => if s.heldBy x 1 then (s.countPort x QB_PORT_ERR.SEM, 0#32) else (s.popResult, s.popResult.view r i)
    | .STP_COUNT_LO =>
      let t := { s with step := { s.step with capCount := s.step.count, capFine := s.fine } }
      (t, t.view r i)
    | .LED_TV_LO => s.readTenant i
    | _ => (s, s.view r i)

/-- A whole-word write through a port. -/
def State.hostWrite (s : State) (p : Port) (r : Reg) (i : Nat) (v : Word) : Res := .next (s.write p.master (r.offset i) 0xF#4 v).1

/-- A single read through a port. -/
def State.hostRead (s : State) (p : Port) (r : Reg) (i : Nat) : Res :=
  let t := s.read p.master (r.offset i)
  .next { t.1 with host := { t.1.host with rdata := t.2, err := if p = .A then false else t.1.host.err } }

/-- The word that leaves the rw and lk fields of a register as they are. -/
def State.keep (s : State) (r : Reg) (i : Nat) : Word :=
  r.fields.foldl (fun (w : Word) f => match f.acc with
    | .rw | .lk => w.withField f.hi f.lo (s.f f i)
    | _ => w) 0#32

/-- A whole-word write through a port that sets one field and leaves the rw and lk fields as they are. -/
def State.hostPut (s : State) (p : Port) (x : Fld) (i v : Nat) : Res := s.hostWrite p x.reg i ((s.keep x.reg i).withField x.hi x.lo v)

/-! ### Writes of registers -/

/-- REGISTER_WRITE. -/
def execRegisterWrite (p : Port) (off : BitVec 20) (be : BitVec 4) (v : Word) (s : State) : Res :=
  .next (s.write p.master off.toNat be v).1

/-- RESERVED_ACCESS (R566). -/
def execReservedAccess (p : Port) (off : BitVec 20) (write : Bool) (s : State) : Res :=
  .next (if (regAt off.toNat).isSome then s
    else if write then (s.write p.master off.toNat 0xF#4 0#32).1
    else
      let t := s.read p.master off.toNat
      { t.1 with host := { t.1.host with rdata := t.2 } })

/-- SOFT_RST (R593). -/
def execSoftRst (p : Port) (key : BitVec 16) (s : State) : Res :=
  s.hostWrite p .QB_CTRL 0 (BitVec.ofNat 32 (key.toNat * 65536 + 1))

/-- FSW_WRITE (R594). -/
def execFswWrite (p : Port) (code : BitVec 4) (s : State) : Res := s.hostWrite p .QB_LANE_CFG 0 (BitVec.ofNat 32 code.toNat)

/-- LANE_EN_WRITE. -/
def execLaneEnWrite (p : Port) (m : Fin 2048) (en : Bool) (s : State) : Res := s.hostWrite p .LANE_CTRL m.val (BitVec.ofNat 32 (bitOf en))

/-- LANE_CLR_FAIL. -/
def execLaneClrFail (p : Port) (m : Fin 2048) (s : State) : Res := s.hostPut p LANE_CTRL.CLR_FAIL m.val 1

/-- LANE_RETIRE. -/
def execLaneRetire (p : Port) (m : Fin 2048) (s : State) : Res := s.hostPut p LANE_CTRL.RETIRE m.val 1

/-- GO with a target and an operation to DOM_RCMD (R143). -/
def State.rcmdWrite (s : State) (p : Port) (d op tgt : Nat) : Res :=
  s.hostWrite p .DOM_RCMD d (BitVec.ofNat 32 (tgt % 512 + op * 512 + 4096))

/-- CLOSE_GATE_CMD. -/
def execCloseGateCmd (p : Port) (d : Fin 4) (g : Fin 512) (s : State) : Res := s.rcmdWrite p d.val 0 g.val

/-- OPEN_GATE_CMD. -/
def execOpenGateCmd (p : Port) (d : Fin 4) (g : Fin 512) (s : State) : Res := s.rcmdWrite p d.val 1 g.val

/-- START_REGION_CMD. -/
def execStartRegionCmd (p : Port) (d : Fin 4) (n : Fin 256) (s : State) : Res := s.rcmdWrite p d.val 2 n.val

/-- STOP_REGION_CMD. -/
def execStopRegionCmd (p : Port) (d : Fin 4) (n : Fin 256) (s : State) : Res := s.rcmdWrite p d.val 3 n.val

/-- RETENTION_ENTRY_CMD. -/
def execRetentionEntryCmd (p : Port) (d : Fin 4) (n : Fin 256) (s : State) : Res := s.rcmdWrite p d.val 4 n.val

/-- RETENTION_EXIT_CMD. -/
def execRetentionExitCmd (p : Port) (d : Fin 4) (n : Fin 256) (s : State) : Res := s.rcmdWrite p d.val 5 n.val

/-- CLR_DARK. -/
def execClrDark (p : Port) (n : Fin 256) (s : State) : Res := s.hostPut p RGN_CTRL.CLR_DARK n.val 1

/-- DOM_CTRL_MESH_WRITE. -/
def execDomCtrlMeshWrite (p : Port) (d : Fin 4) (mesh : Bool) (s : State) : Res := s.hostWrite p .DOM_CTRL d.val (BitVec.ofNat 32 (bitOf mesh))

/-- The word of a set-point write. -/
def setptWord (vset : BitVec 12) (sched : Bool) : Word := BitVec.ofNat 32 (vset.toNat + bitOf sched * 2 ^ 28)

/-- DOM_SETPT_WRITE. -/
def execDomSetptWrite (p : Port) (d : Fin 4) (vset : BitVec 12) (sched : Bool) (s : State) : Res :=
  s.hostWrite p .DOM_SETPT d.val (setptWord vset sched)

/-- RGN_SETPT_WRITE. -/
def execRgnSetptWrite (p : Port) (n : Fin 256) (vset : BitVec 12) (sched : Bool) (s : State) : Res :=
  s.hostWrite p .RGN_SETPT n.val (setptWord vset sched)

/-- CLR_FB. -/
def execClrFb (p : Port) (n : Fin 256) (s : State) : Res := s.hostPut p RGN_STR_CFG.CLR_FB n.val 1

/-- COEF_TABLE_WRITE: an offset of the two windows. -/
def execCoefTableWrite (p : Port) (off : BitVec 20) (be : BitVec 4) (v : Word) (s : State) : Res :=
  checked (coefOffset off) "coefficient offset" (.next (s.write p.master off.toNat be v).1)

/-- COEF_CTRL_EN_WRITE. -/
def execCoefCtrlEnWrite (p : Port) (v : Word) (s : State) : Res := s.hostWrite p .COEF_CTRL 0 v

/-- REP_CLEAR. -/
def execRepClear (p : Port) (s : State) : Res := s.hostPut p REP_CFG.CLR 0 1

/-- HOST_STRETCH_LEVEL_WRITE. -/
def execHostStretchLevelWrite (p : Port) (level : BitVec 14) (s : State) : Res :=
  s.hostWrite p .LIM_STR_HOST 0 (BitVec.ofNat 32 level.toNat)

/-- CLR_PEAK_POWER. -/
def execClrPeakPower (p : Port) (s : State) : Res := s.hostPut p LIM_PWR1.CLR_PEAK 0 1

/-- GAU_RSW. -/
def execGauRsw (p : Port) (k : Fin 16) (s : State) : Res := s.hostPut p GAU_MOD_CFG.RSW k.val 1

/-- GAU_ISW. -/
def execGauIsw (p : Port) (k : Fin 16) (s : State) : Res := s.hostPut p GAU_MOD_CFG.ISW k.val 1

/-- QCLR. -/
def execQclr (p : Port) (s : State) : Res := s.hostPut p GAU_CFG.QCLR 0 1

/-- DOM_TEL_CLR. -/
def execDomTelClr (p : Port) (d : Fin 4) (s : State) : Res := s.hostPut p DOM_TEL_CTRL.CLR d.val 1

/-- CLR_PEAK_TEMP. -/
def execClrPeakTemp (p : Port) (s : State) : Res := s.hostPut p GAU_TSTAT.CLR_PEAK 0 1

/-- SNAP, with the context to show. -/
def execSnap (p : Port) (sel : BitVec 8) (s : State) : Res := s.hostWrite p .LED_SNAP 0 (BitVec.ofNat 32 (sel.toNat % 64 * 4 + 1))

/-- CONTEXT_RELEASE. -/
def execContextRelease (p : Port) (c : Fin 64) (s : State) : Res := s.hostPut p LED_CTX.REL c.val 1

/-- RECORD_POP. -/
def execRecordPop (p : Port) (s : State) : Res := s.hostPut p LED_REC_CTRL.POP 0 1

/-- CREDIT_ALLOC. -/
def execCreditAlloc (p : Port) (n : Fin 256) (amount : BitVec 17) (s : State) : Res :=
  s.hostWrite p .LED_CR_ALLOC 0 (BitVec.ofNat 32 (n.val + amount.toNat * 256 + 2 ^ 25))

/-- FE_ARM. -/
def execFeArm (p : Port) (s : State) : Res := s.hostPut p FLT_CTRL.FE_ARM 0 1

/-- FN_REL. -/
def execFnRel (p : Port) (s : State) : Res := s.hostPut p FLT_CTRL.FN_REL 0 1

/-- CRST_CLEAR. -/
def execCrstClear (p : Port) (s : State) : Res := s.hostPut p FLT_STATUS.CRST 0 1

/-- LOG_POP. -/
def execLogPop (p : Port) (s : State) : Res := s.hostPut p FLT_LOG_CTRL.POP 0 1

/-- RLY_REKEY_WRITE. -/
def execRlyRekeyWrite (port : Port) (p : Fin 5) (s : State) : Res := s.hostWrite port .RLY_CTRL 0 (BitVec.ofNat 32 (2 ^ (2 + p.val)))

/-- RLY_RESYNC_WRITE. -/
def execRlyResyncWrite (p : Port) (s : State) : Res := s.hostPut p RLY_CTRL.RESYNC 0 1

/-- PLANNED_SWITCH. -/
def execPlannedSwitch (p : Port) (s : State) : Res := s.hostPut p RLY_CTRL.SWITCH 0 1

/-- BOOT_UPD_DATA_WRITE. -/
def execBootUpdDataWrite (p : Port) (w : Word) (s : State) : Res := s.hostWrite p .BOOT_UPD_DATA 0 w

/-- SEM_TAKE. -/
def execSemTake (x : Master) (i : Fin 16) (tag : BitVec 8) (s : State) : Res :=
  .next (s.write x (Reg.offset .QB_SEM i.val) 0xF#4 (BitVec.ofNat 32 (tag.toNat * 256 + 2 ^ 16))).1

/-- SEM_REL. -/
def execSemRel (x : Master) (i : Fin 16) (s : State) : Res :=
  .next (s.write x (Reg.offset .QB_SEM i.val) 0xF#4 (BitVec.ofNat 32 (2 ^ 17))).1

/-- SEM_FORCE. -/
def execSemForce (p : Port) (i : Fin 16) (key : BitVec 16) (s : State) : Res :=
  s.hostWrite p .QB_SEM_FORCE 0 (BitVec.ofNat 32 (i.val + key.toNat * 65536))

/-- LANE_SELF_TEST. -/
def execLaneSelfTest (p : Port) (m : Fin 2048) (s : State) : Res := s.hostWrite p .TST_LST_CTRL 0 (BitVec.ofNat 32 (m.val + 2048))

/-- OBS_SELECT_WRITE. -/
def execObsSelectWrite (p : Port) (pin : Fin 2) (v : Word) (s : State) : Res :=
  s.hostWrite p (if pin = 0 then .TST_OBS_A else .TST_OBS_B) 0 v

/-- PF_ARM. -/
def execPfArm (p : Port) (s : State) : Res := s.hostPut p PF_CTRL.ARM 0 1

/-- PF_SWTRIG: ARM keeps its value. -/
def execPfSwtrig (p : Port) (s : State) : Res := s.hostPut p PF_CTRL.SWTRIG 0 1

/-! ### Reads with side effects -/

/-- GAU_QDATA_READ (R374). -/
def execGauQdataRead (p : Port) (s : State) : Res := s.hostRead p .GAU_QDATA_LO 0

/-- TENANT_VIEW_READ (R418). -/
def execTenantViewRead (p : Port) (c : Fin 64) (s : State) : Res := s.hostRead p .LED_TV_LO c.val

/-- STEP_COUNT_READ (R253). -/
def execStepCountRead (p : Port) (s : State) : Res := s.hostRead p .STP_COUNT_LO 0

/-! ### MIRROR (R487) -/

/-- MIRROR: the standby applies the write, whose queue entries come in messages of their own, or enters the entry. -/
def execMirror (p : Fin 5) (body : BitVec 272) (s : State) : Res :=
  let s1 := s.popMsg p.val 0x0A body
  if !(s1.inPair && s1.standby) then .next s1 else
  match Config.mirrorWrite body with
  | some (x, off, be, v) => .next (match regAt off with
    | some (r, i) =>
      if s1.absent r i then s1
      else if r = .RLY_CTRL then { s1 with relay := { s1.relay with switching := s1.relay.switching || s1.pairSt = 2 } }
      else
        let t := s1.regWrite x r i v (Word.byteMask be)
        { t with step := { t.step with queue := s1.step.queue } }
    | none => s1)
  | none => match Config.mirrorEntry body with
    | some e => .next { s1 with step := { s1.step with queue := s1.step.queue ++ [e] } }
    | none => .next s1

/-! ### Port A's time-out; Port B (R570, R575 to R579) -/

/-- PORT_A_TIMEOUT: a write is discarded, a read returns 0. -/
def execPortATimeout (write : Bool) (s : State) : Res :=
  .next (if !s.powered then s else
    let s1 := s.bump QB_PORT_ERR.TMO 0
    { s1 with host := { s1.host with err := true, rdata := if write then s1.host.rdata else 0#32 } })

/-- A Block Write with a wrong PEC: nothing is applied (R576). -/
def State.badPec (s : State) : State :=
  let s1 := (s.bump QB_PORT_ERR.PEC 1).raise .SMBUS_PEC .none 0 .portB .write
  { s1 with host := { s1.host with pecBad := true } }

/-- SET_WIN; a non-zero reserved byte discards it. -/
def execSetWin (w : Word) (pecOk : Bool) (s : State) : Res :=
  .next (if !s.serving then s
    else if !pecOk then s.badPec
    else if w.field 31 24 ≠ 0 then s
    else { s with host := { s.host with winOff := 4 * w.field 19 2, winCount := w.field 22 20, winInc := w.getLsbD 23 } })

/-- The window pointer after `k` words. -/
def HostPorts.moved (h : HostPorts) (k : Nat) : HostPorts := if h.winInc then { h with winOff := (h.winOff + 4 * k) % 2 ^ 20 } else h

/-- One word of a WR: the access, its refusal, the pointer (R578). -/
def State.wrWord (s : State) (w : Word) : State :=
  let t := s.write .portB s.host.winOff 0xF#4 w
  { t.1 with host := { t.1.host.moved 1 with refused := t.1.host.refused || t.2 } }

/-- WR of 1 to 8 words. -/
def execWr (ws : List Word) (pecOk : Bool) (s : State) : Res :=
  .next (if !s.serving then s
    else if !pecOk then { s.badPec with host := { s.badPec.host with applied := false, refused := false } }
    else if ws = [] ∨ 8 < ws.length then s
    else
      let s1 := { s with host := { s.host with applied := true, refused := false } }
      s1.forEach ws State.wrWord)

/-- One word of a RD. -/
def State.rdWord (s : State) : State :=
  let t := s.read .portB s.host.winOff
  { t.1 with host := { t.1.host.moved 1 with replay := t.1.host.replay ++ [t.2] } }

/-- The replay buffer is sent with its byte count (R577). -/
def State.sendReplay (s : State) : State :=
  { s with out := s.out ++ [Output.smbus (BitVec.ofNat 8 (4 * s.host.replay.length) :: s.host.replay.flatMap (fun w => leBytes 4 w.toNat))] }

/-- RD: RCOUNT + 1 words. -/
def execRd (s : State) : Res :=
  .next (if !s.serving then s else
    (({ s with host := { s.host with replay := [] } }).forEach (List.range (s.host.winCount + 1)) (fun s _ => s.rdWord)).sendReplay)

/-- RE_RD. -/
def execReRd (s : State) : Res := .next (if !s.serving then s else s.sendReplay)

/-- STAT: the status byte; bit 2 clears. -/
def execStat (s : State) : Res :=
  .next (if !s.serving then s else
    let h := s.host
    { s with host := { h with pecBad := false },
             out := s.out ++ [Output.smbus [BitVec.ofNat 8 (bitOf h.applied + 2 * bitOf h.refused + 4 * bitOf h.pecBad)]] })

/-- SMB_UNDEFINED_COMMAND: not acknowledged, discarded. -/
def execSmbUndefinedCommand (code : BitVec 8) (s : State) : Res := checked (codeUndefined code) "command code" (.next s)

/-- SMBUS_TIMEOUT (R579). -/
def execSmbusTimeout (s : State) : Res := .next (if !s.serving then s else s.bump QB_PORT_ERR.TMO 1)

end Sys2Proof.Machine
end

