-- ==== Sys2Proof/Machine/Dispatch.lean ====
section
/-! DEFINITION. The dispatch: one arm per command. -/

namespace Sys2Proof.Machine

/-- The effect of a command on everything but the queue of waiting commands. -/
def exec (i : Instr) (s : State) : Host.Outcome State Fault Refusal :=
  match i with

  | .powerOnReset => Sys2Proof.Machine.execPowerOnReset s
  | .porRelease entropyOk => Sys2Proof.Machine.execPorRelease entropyOk s
  | .bootTableInitDone bad => Sys2Proof.Machine.execBootTableInitDone bad s
  | .bootHeaderDone => Sys2Proof.Machine.execBootHeaderDone s
  | .bootLoadDone => Sys2Proof.Machine.execBootLoadDone s
  | .bootLocked => Sys2Proof.Machine.execBootLocked s
  | .domainStartNext => Sys2Proof.Machine.execDomainStartNext s
  | .bootReady => Sys2Proof.Machine.execBootReady s
  | .drbgReseed healthOk => Sys2Proof.Machine.execDrbgReseed healthOk s
  | .softRst p key => Sys2Proof.Machine.execSoftRst p key s
  | .blockResetRelease => Sys2Proof.Machine.execBlockResetRelease s
  | .warmBootEnd => Sys2Proof.Machine.execWarmBootEnd s
  | .testReset => Sys2Proof.Machine.execTestReset s
  | .cacheDieReset => Sys2Proof.Machine.execCacheDieReset s
  | .refclkLost => Sys2Proof.Machine.execRefclkLost s
  | .stepBoundary t => Sys2Proof.Machine.execStepBoundary t s
  | .timeBaseIdle => Sys2Proof.Machine.execTimeBaseIdle s
  | .stepBcastFrame frame stop t => Sys2Proof.Machine.execStepBcastFrame frame stop t s
  | .bcastMiss => Sys2Proof.Machine.execBcastMiss s
  | .samplePeriod rs => Sys2Proof.Machine.execSamplePeriod rs s
  | .heatAtTarget h => Sys2Proof.Machine.execHeatAtTarget h s
  | .balancePass => Sys2Proof.Machine.execBalancePass s
  | .fastLimitLatch m => Sys2Proof.Machine.execFastLimitLatch m s
  | .latchEnd m => Sys2Proof.Machine.execLatchEnd m s
  | .retryCountClear m => Sys2Proof.Machine.execRetryCountClear m s
  | .startMeasurementDone n code => Sys2Proof.Machine.execStartMeasurementDone n code s
  | .rampEnd n => Sys2Proof.Machine.execRampEnd n s
  | .falseStart n => Sys2Proof.Machine.execFalseStart n s
  | .falseStartRetry n => Sys2Proof.Machine.execFalseStartRetry n s
  | .attemptCountClear n => Sys2Proof.Machine.execAttemptCountClear n s
  | .overloadFlagSet n => Sys2Proof.Machine.execOverloadFlagSet n s
  | .overloadFlagClear n => Sys2Proof.Machine.execOverloadFlagClear n s
  | .regionOverloadFault n => Sys2Proof.Machine.execRegionOverloadFault n s
  | .capacityExceeded n => Sys2Proof.Machine.execCapacityExceeded n s
  | .burstEntryTest h => Sys2Proof.Machine.execBurstEntryTest h s
  | .keeperEntry n => Sys2Proof.Machine.execKeeperEntry n s
  | .keeperTimeout n => Sys2Proof.Machine.execKeeperTimeout n s
  | .openPhase m => Sys2Proof.Machine.execOpenPhase m s
  | .senseMismatch m => Sys2Proof.Machine.execSenseMismatch m s
  | .regulationLoss h => Sys2Proof.Machine.execRegulationLoss h s
  | .mergeVoltageTimeout g => Sys2Proof.Machine.execMergeVoltageTimeout g s
  | .forcedMergeStretchOrder g => Sys2Proof.Machine.execForcedMergeStretchOrder g s
  | .forcedMergeDue g => Sys2Proof.Machine.execForcedMergeDue g s
  | .splitRefusedLoad g => Sys2Proof.Machine.execSplitRefusedLoad g s
  | .splittingEnd n => Sys2Proof.Machine.execSplittingEnd n s
  | .noLaneDark n => Sys2Proof.Machine.execNoLaneDark n s
  | .retentionSetupEnd h => Sys2Proof.Machine.execRetentionSetupEnd h s
  | .retentionExitDone h => Sys2Proof.Machine.execRetentionExitDone h s
  | .vgScan n currents => Sys2Proof.Machine.execVgScan n currents s
  | .spareMapping n group => Sys2Proof.Machine.execSpareMapping n group s
  | .gracePeriodEnd n => Sys2Proof.Machine.execGracePeriodEnd n s
  | .graceDarkEntry n => Sys2Proof.Machine.execGraceDarkEntry n s
  | .laneEnWrite p m en => Sys2Proof.Machine.execLaneEnWrite p m en s
  | .laneClrFail p m => Sys2Proof.Machine.execLaneClrFail p m s
  | .laneRetire p m => Sys2Proof.Machine.execLaneRetire p m s
  | .closeGateCmd p d g => Sys2Proof.Machine.execCloseGateCmd p d g s
  | .openGateCmd p d g => Sys2Proof.Machine.execOpenGateCmd p d g s
  | .startRegionCmd p d n => Sys2Proof.Machine.execStartRegionCmd p d n s
  | .stopRegionCmd p d n => Sys2Proof.Machine.execStopRegionCmd p d n s
  | .retentionEntryCmd p d n => Sys2Proof.Machine.execRetentionEntryCmd p d n s
  | .retentionExitCmd p d n => Sys2Proof.Machine.execRetentionExitCmd p d n s
  | .clrDark p n => Sys2Proof.Machine.execClrDark p n s
  | .domCtrlMeshWrite p d mesh => Sys2Proof.Machine.execDomCtrlMeshWrite p d mesh s
  | .domSetptWrite p d vset sched => Sys2Proof.Machine.execDomSetptWrite p d vset sched s
  | .rgnSetptWrite p n vset sched => Sys2Proof.Machine.execRgnSetptWrite p n vset sched s
  | .clrFb p n => Sys2Proof.Machine.execClrFb p n s
  | .batonPacket bits edges => Sys2Proof.Machine.execBatonPacket bits edges s
  | .batonLinkAckDue => Sys2Proof.Machine.execBatonLinkAckDue s
  | .batonResendTimeout => Sys2Proof.Machine.execBatonResendTimeout s
  | .nop seq body => Sys2Proof.Machine.execNop seq body s
  | .link seq body => Sys2Proof.Machine.execLink seq body s
  | .linkReset seq body => Sys2Proof.Machine.execLinkReset seq body s
  | .activity seq body => Sys2Proof.Machine.execActivity seq body s
  | .barrier seq body => Sys2Proof.Machine.execBarrier seq body s
  | .slopeCheckDone tag => Sys2Proof.Machine.execSlopeCheckDone tag s
  | .setpoint seq body => Sys2Proof.Machine.execSetpoint seq body s
  | .setpointImmediate seq body => Sys2Proof.Machine.execSetpointImmediate seq body s
  | .setpointTimeout tag => Sys2Proof.Machine.execSetpointTimeout tag s
  | .gateTimeout tag => Sys2Proof.Machine.execGateTimeout tag s
  | .deferTimeout tag => Sys2Proof.Machine.execDeferTimeout tag s
  | .abort seq body => Sys2Proof.Machine.execAbort seq body s
  | .confirm seq body => Sys2Proof.Machine.execConfirm seq body s
  | .cancel seq body => Sys2Proof.Machine.execCancel seq body s
  | .contextSwitch seq body => Sys2Proof.Machine.execContextSwitch seq body s
  | .contextSwitchNewUser seq body => Sys2Proof.Machine.execContextSwitchNewUser seq body s
  | .contextClose seq body => Sys2Proof.Machine.execContextClose seq body s
  | .period seq body => Sys2Proof.Machine.execPeriod seq body s
  | .freqpt seq body => Sys2Proof.Machine.execFreqpt seq body s
  | .freqptFloorAck seq body => Sys2Proof.Machine.execFreqptFloorAck seq body s
  | .noticeUndefined ntype seq body => Sys2Proof.Machine.execNoticeUndefined ntype seq body s
  | .mismatchWindowEnd => Sys2Proof.Machine.execMismatchWindowEnd s
  | .coefTableWrite p off be v => Sys2Proof.Machine.execCoefTableWrite p off be v s
  | .coefCtrlEnWrite p v => Sys2Proof.Machine.execCoefCtrlEnWrite p v s
  | .repClear p => Sys2Proof.Machine.execRepClear p s
  | .modelLoadDone => Sys2Proof.Machine.execModelLoadDone s
  | .limitsTick => Sys2Proof.Machine.execLimitsTick s
  | .pcapInEdge pinHigh t => Sys2Proof.Machine.execPcapInEdge pinHigh t s
  | .pcapLost => Sys2Proof.Machine.execPcapLost s
  | .capAnaStale => Sys2Proof.Machine.execCapAnaStale s
  | .thermalCapRun n => Sys2Proof.Machine.execThermalCapRun n s
  | .hostStretchLevelWrite p level => Sys2Proof.Machine.execHostStretchLevelWrite p level s
  | .clrPeakPower p => Sys2Proof.Machine.execClrPeakPower p s
  | .alertNAssert => Sys2Proof.Machine.execAlertNAssert s
  | .alertNDeassert => Sys2Proof.Machine.execAlertNDeassert s
  | .lowestStateHoldEnd => Sys2Proof.Machine.execLowestStateHoldEnd s
  | .floorAckTimeout => Sys2Proof.Machine.execFloorAckTimeout s
  | .housekeepingTick => Sys2Proof.Machine.execHousekeepingTick s
  | .conversionDone k r ovr t => Sys2Proof.Machine.execConversionDone k r ovr t s
  | .roundEvaluation => Sys2Proof.Machine.execRoundEvaluation s
  | .regularTrigger k => Sys2Proof.Machine.execRegularTrigger k s
  | .urgentTrigger k => Sys2Proof.Machine.execUrgentTrigger k s
  | .triggerDelayEnd k urgent => Sys2Proof.Machine.execTriggerDelayEnd k urgent s
  | .gauRsw p k => Sys2Proof.Machine.execGauRsw p k s
  | .gauIsw p k => Sys2Proof.Machine.execGauIsw p k s
  | .gauQdataRead p => Sys2Proof.Machine.execGauQdataRead p s
  | .qclr p => Sys2Proof.Machine.execQclr p s
  | .telemetryUpdate => Sys2Proof.Machine.execTelemetryUpdate s
  | .domTelClr p d => Sys2Proof.Machine.execDomTelClr p d s
  | .clrPeakTemp p => Sys2Proof.Machine.execClrPeakTemp p s
  | .snap p sel => Sys2Proof.Machine.execSnap p sel s
  | .snapshotDone => Sys2Proof.Machine.execSnapshotDone s
  | .contextRelease p c => Sys2Proof.Machine.execContextRelease p c s
  | .recordPop p => Sys2Proof.Machine.execRecordPop p s
  | .tenantViewRead p c => Sys2Proof.Machine.execTenantViewRead p c s
  | .tenantViewRefresh => Sys2Proof.Machine.execTenantViewRefresh s
  | .scrubEnd bad => Sys2Proof.Machine.execScrubEnd bad s
  | .scrubOverrun => Sys2Proof.Machine.execScrubOverrun s
  | .creditAlloc p n amount => Sys2Proof.Machine.execCreditAlloc p n amount s
  | .stepCountRead p => Sys2Proof.Machine.execStepCountRead p s
  | .faultProcess => Sys2Proof.Machine.execFaultProcess s
  | .faultRecovery x => Sys2Proof.Machine.execFaultRecovery x s
  | .watchdog => Sys2Proof.Machine.execWatchdog s
  | .marshalHeartbeat => Sys2Proof.Machine.execMarshalHeartbeat s
  | .trapHandlerTimeout => Sys2Proof.Machine.execTrapHandlerTimeout s
  | .trapReturn => Sys2Proof.Machine.execTrapReturn s
  | .feArm p => Sys2Proof.Machine.execFeArm p s
  | .fnRel p => Sys2Proof.Machine.execFnRel p s
  | .crstClear p => Sys2Proof.Machine.execCrstClear p s
  | .logPop p => Sys2Proof.Machine.execLogPop p s
  | .logCopy => Sys2Proof.Machine.execLogCopy s
  | .patrolRead tid index o => Sys2Proof.Machine.execPatrolRead tid index o s
  | .vtWordRewrite n => Sys2Proof.Machine.execVtWordRewrite n s
  | .portAligned p => Sys2Proof.Machine.execPortAligned p s
  | .trainEnd p => Sys2Proof.Machine.execTrainEnd p s
  | .hello p frame => Sys2Proof.Machine.execHello p frame s
  | .helloTimeout p => Sys2Proof.Machine.execHelloTimeout p s
  | .refusedTimeout p => Sys2Proof.Machine.execRefusedTimeout p s
  | .linkLoss p => Sys2Proof.Machine.execLinkLoss p s
  | .dataFrame p frame => Sys2Proof.Machine.execDataFrame p frame s
  | .frameSendDue p => Sys2Proof.Machine.execFrameSendDue p s
  | .reliableResend p => Sys2Proof.Machine.execReliableResend p s
  | .seqExhausted p => Sys2Proof.Machine.execSeqExhausted p s
  | .rekeyStart p => Sys2Proof.Machine.execRekeyStart p s
  | .rlyRekeyWrite port p => Sys2Proof.Machine.execRlyRekeyWrite port p s
  | .epochGraceEnd p => Sys2Proof.Machine.execEpochGraceEnd p s
  | .heartbeat p body => Sys2Proof.Machine.execHeartbeat p body s
  | .report p body => Sys2Proof.Machine.execReport p body s
  | .reportDue => Sys2Proof.Machine.execReportDue s
  | .request p body => Sys2Proof.Machine.execRequest p body s
  | .order p body => Sys2Proof.Machine.execOrder p body s
  | .orderNak p body => Sys2Proof.Machine.execOrderNak p body s
  | .delay p body => Sys2Proof.Machine.execDelay p body s
  | .delayOrder p body => Sys2Proof.Machine.execDelayOrder p body s
  | .emerg p body => Sys2Proof.Machine.execEmerg p body s
  | .emergOrder p body => Sys2Proof.Machine.execEmergOrder p body s
  | .mirror p body => Sys2Proof.Machine.execMirror p body s
  | .digest p body => Sys2Proof.Machine.execDigest p body s
  | .digestDue => Sys2Proof.Machine.execDigestDue s
  | .resync p body => Sys2Proof.Machine.execResync p body s
  | .rlyResyncWrite p => Sys2Proof.Machine.execRlyResyncWrite p s
  | .rekey p body => Sys2Proof.Machine.execRekey p body s
  | .rekeyAck p body => Sys2Proof.Machine.execRekeyAck p body s
  | .join p body => Sys2Proof.Machine.execJoin p body s
  | .grant p body => Sys2Proof.Machine.execGrant p body s
  | .crReq p body => Sys2Proof.Machine.execCrReq p body s
  | .crPrep p body => Sys2Proof.Machine.execCrPrep p body s
  | .crPrepAck p body => Sys2Proof.Machine.execCrPrepAck p body s
  | .crCommit p body => Sys2Proof.Machine.execCrCommit p body s
  | .crDone p body => Sys2Proof.Machine.execCrDone p body s
  | .crAbort p body => Sys2Proof.Machine.execCrAbort p body s
  | .crPrepTimeout tid => Sys2Proof.Machine.execCrPrepTimeout tid s
  | .crPrepAckResend => Sys2Proof.Machine.execCrPrepAckResend s
  | .heartbeatLost => Sys2Proof.Machine.execHeartbeatLost s
  | .pairFence => Sys2Proof.Machine.execPairFence s
  | .fenceRelease => Sys2Proof.Machine.execFenceRelease s
  | .plannedSwitch p => Sys2Proof.Machine.execPlannedSwitch p s
  | .actingMaster => Sys2Proof.Machine.execActingMaster s
  | .status p => Sys2Proof.Machine.execStatus p s
  | .echo p => Sys2Proof.Machine.execEcho p s
  | .updOpen p => Sys2Proof.Machine.execUpdOpen p s
  | .updPage p => Sys2Proof.Machine.execUpdPage p s
  | .updClose p => Sys2Proof.Machine.execUpdClose p s
  | .updAbort p => Sys2Proof.Machine.execUpdAbort p s
  | .activate p => Sys2Proof.Machine.execActivate p s
  | .commit p => Sys2Proof.Machine.execCommit p s
  | .retireAdd p => Sys2Proof.Machine.execRetireAdd p s
  | .retireRemove p => Sys2Proof.Machine.execRetireRemove p s
  | .retireRead p => Sys2Proof.Machine.execRetireRead p s
  | .learnSave p => Sys2Proof.Machine.execLearnSave p s
  | .learnSaveTimer => Sys2Proof.Machine.execLearnSaveTimer s
  | .modelLoad p => Sys2Proof.Machine.execModelLoad p s
  | .logInfo p => Sys2Proof.Machine.execLogInfo p s
  | .logRead p => Sys2Proof.Machine.execLogRead p s
  | .creditLogRead p => Sys2Proof.Machine.execCreditLogRead p s
  | .unknownCmd p => Sys2Proof.Machine.execUnknownCmd p s
  | .tokenChallenge p => Sys2Proof.Machine.execTokenChallenge p s
  | .tokenData p => Sys2Proof.Machine.execTokenData p s
  | .tokenCheck p => Sys2Proof.Machine.execTokenCheck p s
  | .tokenRevoke p => Sys2Proof.Machine.execTokenRevoke p s
  | .tokenExpiry => Sys2Proof.Machine.execTokenExpiry s
  | .bootUpdDataWrite p w => Sys2Proof.Machine.execBootUpdDataWrite p w s
  | .trialMinute => Sys2Proof.Machine.execTrialMinute s
  | .trialRollback => Sys2Proof.Machine.execTrialRollback s
  | .rotationPage => Sys2Proof.Machine.execRotationPage s
  | .portATimeout write => Sys2Proof.Machine.execPortATimeout write s
  | .setWin w pecOk => Sys2Proof.Machine.execSetWin w pecOk s
  | .wr ws pecOk => Sys2Proof.Machine.execWr ws pecOk s
  | .rd => Sys2Proof.Machine.execRd s
  | .reRd => Sys2Proof.Machine.execReRd s
  | .stat => Sys2Proof.Machine.execStat s
  | .smbUndefinedCommand code => Sys2Proof.Machine.execSmbUndefinedCommand code s
  | .smbusTimeout => Sys2Proof.Machine.execSmbusTimeout s
  | .semTake x sem tag => Sys2Proof.Machine.execSemTake x sem tag s
  | .semRel x sem => Sys2Proof.Machine.execSemRel x sem s
  | .semForce p sem key => Sys2Proof.Machine.execSemForce p sem key s
  | .reservedAccess p off write => Sys2Proof.Machine.execReservedAccess p off write s
  | .fswWrite p code => Sys2Proof.Machine.execFswWrite p code s
  | .registerWrite p off be v => Sys2Proof.Machine.execRegisterWrite p off be v s
  | .extest => Sys2Proof.Machine.execExtest s
  | .samplePreload cells => Sys2Proof.Machine.execSamplePreload cells s
  | .idcode => Sys2Proof.Machine.execIdcode s
  | .clamp => Sys2Proof.Machine.execClamp s
  | .highz => Sys2Proof.Machine.execHighz s
  | .wrapSel => Sys2Proof.Machine.execWrapSel s
  | .wrapDr => Sys2Proof.Machine.execWrapDr s
  | .privDbg => Sys2Proof.Machine.execPrivDbg s
  | .bypass => Sys2Proof.Machine.execBypass s
  | .wsBypass => Sys2Proof.Machine.execWsBypass s
  | .wsPreload cells => Sys2Proof.Machine.execWsPreload cells s
  | .wsExtest => Sys2Proof.Machine.execWsExtest s
  | .wsIntest => Sys2Proof.Machine.execWsIntest s
  | .wsLaneSt m => Sys2Proof.Machine.execWsLaneSt m s
  | .laneSelfTest p m => Sys2Proof.Machine.execLaneSelfTest p m s
  | .selfTestDone failed => Sys2Proof.Machine.execSelfTestDone failed s
  | .selfTestAbort => Sys2Proof.Machine.execSelfTestAbort s
  | .obsSelectWrite p pin v => Sys2Proof.Machine.execObsSelectWrite p pin v s
  | .pfArm p => Sys2Proof.Machine.execPfArm p s
  | .pfSwtrig p => Sys2Proof.Machine.execPfSwtrig p s
  | .pfFreeze => Sys2Proof.Machine.execPfFreeze s
  | .alignmentLoss p => Sys2Proof.Machine.execAlignmentLoss p s
  | .refclkReturn => Sys2Proof.Machine.execRefclkReturn s
  | .isoStrobeDeassert n => Sys2Proof.Machine.execIsoStrobeDeassert n s
  | .activatePauseEnd => Sys2Proof.Machine.execActivatePauseEnd s

end Sys2Proof.Machine
end

