-- ==== Sys2Proof/WellFormed.lean ====
section
/-! DEFINITION. Which commands are well formed: those whose operands some event of the hardware has. -/

namespace Sys2Proof

open Machine

/-- The check that a command's operands fail, if they fail one. -/
def Instr.failedCheck : Instr → Option String
  | .samplePeriod rs => if readsOk rs then none else some "reads"
  | .vgScan _ l => if currentsOk l then none else some "currents"
  | .conversionDone _ r _ _ => if rawOk r then none else some "raw result"
  | .selfTestDone b => if stepsOk b then none else some "self-test steps"
  | .patrolRead t i _ => if wordOk t.val i then none else some "table word"
  | .noticeUndefined t _ _ => if typeUndefined t then none else some "notice type"
  | .smbUndefinedCommand c => if codeUndefined c then none else some "command code"
  | .coefTableWrite _ o _ _ => if coefOffset o then none else some "coefficient offset"
  | _ => none

/-- A well-formed command. -/
def Instr.wellFormed (i : Instr) : Bool := i.failedCheck.isNone

end Sys2Proof
end

