-- ==== Sys2Proof/Safety.lean ====
section
/-! DEFINITION. What the statements speak of: a command that completes, frames over registers and records, the canonical form of the
state's tables. -/

namespace Sys2Proof.Machine

/-- The command completes from this state: it answers a next state, of which `P` holds. -/
def Completes (c : Instr) (s : State) (P : State → Prop) : Prop := ∃ t, exec c s = .next t ∧ P t

/-- A field of the register map and one of its elements. -/
def Fld.has (x : Fld) (i : Nat) : Prop := x ∈ x.reg.fields ∧ i < x.reg.count

/-- Every field of every register but the named ones reads as it did. -/
def fieldsKept (s t : State) (but : List (Fld × Nat)) : Prop := ∀ x i, Fld.has x i → (x, i) ∉ but → t.f x i = s.f x i

/-- Every word of the register file but the named ones is as it was. -/
def regsKept (s t : State) (but : List (Reg × Nat)) : Prop := ∀ r i, i < r.count → (r, i) ∉ but → t.reg r i = s.reg r i

/-- Every lane but the named ones is as it was. -/
def lanesKept (s t : State) (but : List Nat) : Prop := ∀ m, m ∉ but → t.lane m = s.lane m

/-- Every region's record but the named ones is as it was. -/
def rgnsKept (s t : State) (but : List Nat) : Prop := ∀ n, n ∉ but → t.rgn n = s.rgn n

/-- Every heat's record but the named ones is as it was. -/
def heatsKept (s t : State) (but : List Nat) : Prop := ∀ h, h ∉ but → t.heat h = s.heat h

/-- Every transaction slot but the named ones is as it was. -/
def slotsKept (s t : State) (but : List Nat) : Prop := ∀ k, k ∉ but → t.slot k = s.slot k

/-- What the block has sent since `s`, oldest first, when nothing sent is taken back. -/
def sent (s t : State) : List Output := t.out.drop s.out.length

/-- The time base: the step count, its state, the edges, the broadcast frames (R193 to R203). -/
def StepUnit.base (u : StepUnit) : Nat × TimeBase × Option Nat × Option Nat × Option (Nat × Nat) × Nat × Bool :=
  (u.count, u.tb, u.lastEdge, u.edge, u.bcast, u.sinceFrame, u.missRep)

/-- The parts of the state but for the register file; of `step`, the time base is also a part by itself. -/
inductive Part where
  | pending | now | powered | blockReset | resume | brReaction | refLost | backup | tablesInit | badWords | step
  | balCtr | lanes | rgns | heats | heatOf | gates | merges | domV | place | gatesOk | plan | planLeft | baton | slots
  | pacer | coll | lim | gauge | led | relay | opal | nvm | boot | host | test | pf | out | freeCtr | clock
  deriving DecidableEq, Repr

/-- A part is the same in two states. -/
def Part.same (p : Part) (s t : State) : Prop :=
  match p with
  | .pending => t.pending = s.pending
  | .now => t.now = s.now
  | .powered => t.powered = s.powered
  | .blockReset => t.blockReset = s.blockReset
  | .resume => t.resume = s.resume
  | .brReaction => t.brReaction = s.brReaction
  | .refLost => t.refLost = s.refLost
  | .backup => t.backup = s.backup
  | .tablesInit => t.tablesInit = s.tablesInit
  | .badWords => t.badWords = s.badWords
  | .step => t.step = s.step
  | .balCtr => t.balCtr = s.balCtr
  | .lanes => t.lanes = s.lanes
  | .rgns => t.rgns = s.rgns
  | .heats => t.heats = s.heats
  | .heatOf => t.heatOf = s.heatOf
  | .gates => t.gates = s.gates
  | .merges => t.merges = s.merges
  | .domV => t.domV = s.domV
  | .place => t.place = s.place
  | .gatesOk => t.gatesOk = s.gatesOk
  | .plan => t.plan = s.plan
  | .planLeft => t.planLeft = s.planLeft
  | .baton => t.baton = s.baton
  | .slots => t.slots = s.slots
  | .pacer => t.pacer = s.pacer
  | .coll => t.coll = s.coll
  | .lim => t.lim = s.lim
  | .gauge => t.gauge = s.gauge
  | .led => t.led = s.led
  | .relay => t.relay = s.relay
  | .opal => t.opal = s.opal
  | .nvm => t.nvm = s.nvm
  | .boot => t.boot = s.boot
  | .host => t.host = s.host
  | .test => t.test = s.test
  | .pf => t.pf = s.pf
  | .out => t.out = s.out
  | .freeCtr => t.freeCtr = s.freeCtr
  | .clock => t.step.base = s.step.base

/-- From `s` to `t` no part has changed but the named ones, and no register but the named ones. -/
def Touches (s t : State) (ps : List Part) (rs : List Reg) : Prop :=
  (∀ p, p ∉ ps → p.same s t) ∧ ∀ r i, i < r.count → r ∉ rs → t.reg r i = s.reg r i

/-- From `s` to `t` no part has changed but the named ones, no field of a register but the named ones, and no word but theirs. -/
def Changes (s t : State) (ps : List Part) (fs : List (Fld × Nat)) : Prop :=
  (∀ p, p ∉ ps → p.same s t) ∧ fieldsKept s t fs ∧ regsKept s t (fs.map fun x => (x.1.reg, x.2))

/-- A command, whenever it answers a next state, changes only the named parts and registers. -/
def Footprint (c : Instr) (ps : List Part) (rs : List Reg) : Prop := ∀ s t, exec c s = .next t → Touches s t ps rs

/-- An event of a source is pending. -/
def pends (s : State) (x : Src) : Prop := (s.src x.id).pend.isSome = true

/-- The collector is as it was but for what it keeps of the named sources. -/
def srcsKept (s t : State) (but : List Src) : Prop :=
  t.coll = { s.coll with srcs := t.coll.srcs } ∧ ∀ i, (∀ x ∈ but, x.id ≠ i) → t.src i = s.src i

/-- A write through a port reaches its register (R567, R581, R590, R592): the ports are served, the register is there, neither a standby nor
a block reset holds the write off, and no other master owns the semaphore that guards it. -/
def State.takes (s : State) (p : Port) (r : Reg) (i : Nat) (sem : Option Nat) : Prop :=
  s.serving = true ∧ s.absent r i = false ∧ s.standbyRefuses r = false ∧ (s.blockReset.isSome && blockResetRegs.contains r) = false ∧
    sem.any (s.heldBy p.master) = false

/-- A notice is taken to its own rules (R217, R219, R220, R223, R249): Baton is up, nothing in it is badly encoded, the time base is not UNSYNC
where it is time-based, no block reset stands where that defers it, and the tag that it carries is not busy. -/
def State.takesNotice (s : State) (typ : Nat) (body : BitVec 52) (timed retry : Bool) : Prop :=
  s.baton.up = true ∧ noticeBad typ body = false ∧ (timed = true → s.step.tb ≠ .UNSYNC) ∧ (retry = true → s.blockReset = none) ∧
    (holdsTag typ = true → (s.slot (noticeTag typ body)).busy = false)

/-- The sequenced packet that carries an ack of a type with a body (R209). -/
def ackPacket (s : State) (typ body : Nat) : BitVec 64 :=
  BitVec.ofNat 64 ((typ % 16) * 2 ^ 60 + (s.baton.txNext % 256) * 2 ^ 52 + body % 2 ^ 52)

/-- Between `s` and `t` one ack has gone out, from an active head, or waits behind the others (R209, R212, R487). -/
def acked (s t : State) (typ body : Nat) : Prop :=
  if s.baton.unacked.length < 128 ∧ s.baton.wait = [] then
    t.baton.unacked = s.baton.unacked ++ [(ackPacket s typ body, s.now)] ∧ t.baton.wait = [] ∧ t.baton.txNext = (s.baton.txNext + 1) % 256 ∧
      t.out = s.out ++ (if s.activeHead then [.baton (ackPacket s typ body)] else [])
  else
    t.baton.unacked = s.baton.unacked ∧ t.baton.wait = s.baton.wait ++ [(typ, body)] ∧ t.baton.txNext = s.baton.txNext ∧ t.out = s.out

/-- The bodies of ACCEPT, DONE, NACK and ABORTED (R225). -/
def acceptBody (seq ntype tag status : Nat) : Nat := seq * 2 ^ 44 + ntype * 2 ^ 40 + tag * 2 ^ 32 + status * 2 ^ 28
def doneBody (tag status step : Nat) : Nat := tag * 2 ^ 44 + status * 2 ^ 40 + (step % 65536) * 2 ^ 24
def nackBody (seq ntype tag status ra : Nat) : Nat := seq * 2 ^ 44 + ntype * 2 ^ 40 + tag * 2 ^ 32 + status * 2 ^ 28 + (ra % 4096) * 2 ^ 16
def abortedBody (tag status : Nat) : Nat := tag * 2 ^ 44 + status * 2 ^ 40

/-- A Relay port sends what it is given at once, under a key: it is UP, nothing waits, the window is open, its epoch has a key (R474, R479). -/
def State.sends (s : State) (p : Nat) (key : BitVec 256) : Prop :=
  s.isUp p = true ∧ (s.port p).waiting = [] ∧ (s.port p).unacked.length < 64 ∧
    ((s.port p).keys.find? (fun k => k.1 = (s.port p).txE)).map (·.2) = some key

/-- Between `s` and `t` one message, and nothing else, has gone out, on a port (R464, R479): a reliable one has the next MSEQ and is kept until its
MACK. -/
def posted (s t : State) (p typ : Nat) (body : Nat) (key : BitVec 256) : Prop :=
  let m : RMsg := ⟨typ, reliable typ, BitVec.ofNat 272 body⟩
  t.out = s.out ++ [.relay p (s.frame p typ (if reliable typ then (s.port p).txM else 0) m.body key)] ∧
    (t.port p).txSeq = (s.port p).txSeq + 1 ∧ (t.port p).lastSent = s.now ∧ (t.port p).waiting = [] ∧
    (t.port p).unacked = (s.port p).unacked ++ (if reliable typ then [((s.port p).txM, m)] else []) ∧
    (t.port p).txM = if reliable typ then ((s.port p).txM + 1) % 65536 else (s.port p).txM

/-- A reliable message stands on a port: it waits, or it has been sent and is not acknowledged (R479, R482). -/
def State.carries (s : State) (p typ : Nat) (body : Nat) : Prop :=
  (⟨typ, true, BitVec.ofNat 272 body⟩ : RMsg) ∈ (s.port p).waiting ++ (s.port p).unacked.map (·.2)

/-- A command waits in a port's mailbox, its GO came first, and Marshal firmware serves it (R585, R589): boot is past LOCKED, and neither a block reset
nor a pause, the trap handler, a scrub or a standby stands. -/
def State.asks (s : State) (p : Port) (cmd : Nat) : Prop :=
  s.host.busy.head? = some p.ix ∧ s.f QB_MBX_STATUS.STATE p.ix = 1 ∧ s.mbxCmd p = cmd ∧ s.powered = true ∧ s.blockReset = none ∧
    (s.stage = 6 ∨ s.stage = 7) ∧ s.marshalOn = true ∧ s.coll.trapAt = none ∧ s.led.scrub = none ∧ s.standby = false

/-- Between `s` and `t` a port's command has been answered: DONE with a STATUS, RA, result words, the interrupt (R585, R586). -/
def answered (s t : State) (p : Port) (status ra : Nat) (res : List (Nat × Nat)) : Prop :=
  t.f QB_MBX_STATUS.STATE p.ix = 2 ∧ t.f QB_MBX_STATUS.STATUS p.ix = status ∧ t.f QB_IRQ_STATUS.MBX p.ix = 1 ∧
    t.host.busy = s.host.busy.erase p.ix ∧ t.mbxCmd p = s.mbxCmd p ∧ t.mbxWord p 0 / 256 % 256 = status ∧ t.mbxWord p 1 = ra ∧
    ∀ x ∈ res, t.mbxWord p x.1 = x.2 % 2 ^ 32

/-- The registers in which an answer shows. -/
def mbxRegs : List Reg := [.QB_MBX_DATA, .QB_MBX_STATUS, .QB_IRQ_STATUS]

/-- The fields in which a Photo-finish record or trigger shows (R617, R620). -/
def pfFields : List (Fld × Nat) := [(PF_STATUS.WPTR, 0), (PF_STATUS.WRAP, 0), (PF_STATUS.TRIG, 0), (PF_STATUS.CAUSE, 0)]

/-- The pending merges that the end of one leaves: all but those of the same gate, direction and origin. -/
def State.mergesBut (s : State) (x : PMerge) : List PMerge :=
  s.merges.filter (fun y => !(y.gate = x.gate ∧ y.close = x.close ∧ y.origin = x.origin))

/-- The indexed arrays of the state. -/
structure Tables where
  regs : Tbl Word
  lanes : Tbl Lane
  rgns : Tbl Rgn
  heats : Tbl Heat
  heatOf : Tbl Nat
  gates : Tbl Bool
  slots : Tbl Slot
  place : Tbl Nat

/-- The indexed arrays of a state. -/
def State.tables (s : State) : Tables := ⟨s.regs, s.lanes, s.rgns, s.heats, s.heatOf, s.gates, s.slots, s.place⟩

/-- The arrays' form, in which equal arrays are equal data: indices strictly rising and nothing listed that an unlisted index reads as (of
the register file: a register that holds its reset word). Placed regions are regions of the four domains (R3), and a region's heat, where it is not its own, is a lower region (R92). -/
structure Tables.Canonical (t : Tables) : Prop where
  regs : t.regs.rising
  listed : ∀ e ∈ t.regs.entries, ∃ r i, i < Reg.count r ∧ e.1 = r.offset i ∧ e.2 ≠ r.resetWord i
  lanes : tblWf (fun _ => ({} : Lane)) t.lanes = true
  rgns : tblWf (fun _ => ({} : Rgn)) t.rgns = true
  heats : tblWf (fun _ => ({} : Heat)) t.heats = true
  heatOf : tblWf (fun n => n) t.heatOf = true
  gates : tblWf (fun _ => false) t.gates = true
  slots : tblWf (fun _ => ({} : Slot)) t.slots = true
  place : tblWf (fun _ => 0) t.place = true
  placed : ∀ e ∈ t.place.entries, e.1 < 256 ∧ e.2 ≤ 4
  lower : ∀ e ∈ t.heatOf.entries, e.2 ≤ e.1

end Sys2Proof.Machine
end

