-- ==== Sys2Proof/Certificates/Slice0/Obligations.lean ====
section
/-! DEFINITION. The statements for the provers: the machine as a whole and the spec's rules stated whole, the completion of every command
with what it writes and what it leaves, the frames of the commands by chapter. -/

open Sys2Proof Sys2Proof.Machine

/-! ### The machine as a whole, and rules of the spec -/

/-- A step takes the command at the front of the queue and runs it with the queue's rest. -/
def Obligations.StepRunsFrontCommand : Prop :=
  ∀ (c : Instr) (q : List Instr) (s : State), step { s with pending := c :: q } = exec c { s with pending := q }

/-- With no command waiting a step changes nothing: the model's choice, log entry 1. -/
def Obligations.EmptyQueueIdles : Prop := ∀ s : State, s.pending = [] → step s = .next s

/-- No command changes the queue of waiting commands. -/
def Obligations.ExecLeavesQueue : Prop := ∀ (c : Instr) (s t : State), exec c s = .next t → t.pending = s.pending

/-- No command takes back anything that the block has sent. -/
def Obligations.NothingSentIsTakenBack : Prop := ∀ (c : Instr) (s t : State), exec c s = .next t → s.out <+: t.out

/-- Every well-formed command answers a next state from every state; a command that fails a check of its operands stops with that check's
name, and nothing else stops. -/
def Obligations.WellFormedCommandsAnswer : Prop :=
  ∀ (c : Instr) (s : State), (c.wellFormed = true → ∃ t, exec c s = .next t) ∧
    ∀ n, c.failedCheck = some n → exec c s = .fault (.illFormed n)

/-- After power-on reset is asserted the arrays are in their canonical form. -/
def Obligations.ResetTablesCanonical : Prop := State.reset.tables.Canonical

/-- Every step keeps the canonical form of the arrays: indices rising, no entry that reads as an unlisted one, placed regions and their
domains in range, heats named by their lowest region. -/
def Obligations.StepKeepsTablesCanonical : Prop := ∀ s t : State, s.tables.Canonical → step s = .next t → t.tables.Canonical

/-- What reset leaves (R9 and the fields' Reset columns): every rw and lk field of the list has the value given, every other one outside the
five registers whose reset words differ from element to element is 0; the block is not powered, the time base is UNSYNC at count 0, every
lane is DISABLED, every region OFF, every gate open, and nothing has been sent. -/
def Obligations.ResetRegisterValues : Prop :=
  let listed : List (Fld × Nat) :=
    [(QB_LANE_CFG.FSW, 4), (QB_PORTB_CFG.ADDR, 92), (BAT_CFG.GATE_TO, 50), (LIM_CFG.LEAD, 64), (LIM_CFG.PK, 20), (LIM_CAP_REG.CAP,
      3000), (LIM_CAP_REG.FB, 1500), (LIM_MODEL.EFF, 880), (LIM_MODEL.P_IDLE, 600), (LIM_SUP.SUP, 3000), (LIM_TH_CFG.ICAP, 150),
      (LIM_TH_CFG.STEP, 4), (LIM_TH_CFG.XMAX, 64), (LIM_TH_CFG.APPROACH, 120), (LIM_ALERT.HOLD, 100), (LIM_VT_CFG.NOM, 12),
      (LIM_BOOST.W_PT, 100), (GAU_CFG.WM, 512), (GAU_TH_CFG.WARN, 95), (GAU_TH_CFG.THR, 105), (GAU_TH_CFG.SD, 125),
      (GAU_TH_HYS.WARN_HYS, 3), (GAU_TH_HYS.THR_HYS, 5), (GAU_TH_HYS.SD_HYS, 15), (GAU_TH_HYS.NBR_MARGIN, 5), (GAU_OTH_EN.EN, 65535),
      (GAU_MOD_CFG.EN, 1), (GAU_MOD_CFG.RSRC, 5), (GAU_MOD_CFG.RLEN, 15), (GAU_MOD_TIM.TPER, 1000), (RLY_CFG.HB_TO, 2),
      (RLY_CR_CFG.WEIGHT, 1), (BOOT_CFG.ORDER, 30), (BOOT_CFG.GAP, 1), (PF_CFG.STR_EN, 1), (PF_CFG.FLT_EN, 1), (PF_TRIG.FLT, 1),
      (PF_TRIG.ANY_SEV, 1), (PF_TRIG.SRC, 127), (PF_TRIG.POST, 1024), (DOM_SETPT.VSET, 1600), (DOM_SP_CFG.SLEW, 10), (DOM_VRANGE.VMIN,
      900), (DOM_VRANGE.VMAX, 2100), (DOM_MERGE_CFG.THRESH, 90), (DOM_MERGE_CFG.DEFER_MAX, 1000), (DOM_MERGE_CFG.FSTR_CYC, 255),
      (DOM_MERGE_CFG.FSTR_N, 16), (DOM_PCR_CFG.RISE_MAX, 100), (DOM_PCR_CFG.LIFT_MIN, 10), (DOM_PCR_CFG.LIFT_HOLD, 4),
      (RGN_CTRL.RESCUE_LANES, 6), (RGN_CTRL.GRACE, 64), (RGN_SETPT.VSET, 1600), (RGN_LANE_SET0.SLOW, 325), (RGN_LANE_SET0.SCAP, 150),
      (RGN_LANE_SET0.SSLEW, 10), (RGN_LANE_SET1.BTH, 15), (RGN_LANE_SET1.BMIN, 2), (RGN_LANE_SET1.BPK, 100), (RGN_LANE_SET1.WAKE, 2),
      (RGN_RETAIN.SETUP, 4), (RGN_STR_CFG.OSC_TH, 6), (RGN_STR_CFG.OSC_WIN, 40), (RGN_STR_CFG.OSC_CNT, 16), (RGN_STR_CFG.OSC_EN, 1),
      (LANE_CTRL.EN, 1), (LANE_CFG.RAMP, 8), (LANE_CFG.FAST_LIM, 12), (LANE_CFG.OPEN_CMD, 125), (LANE_CFG.OPEN_SENSE, 5), (COEF_CTRL.EN,
      1), (COEF_CTRL.NET_EN, 1), (COEF_CTRL.SPEC_EN, 1), (COEF_CTRL.TSTEP, 640), (COEF_MM_CFG.THRESH, 30), (COEF_MM_CFG.DEMOTE_N, 4),
      (COEF_MM_CFG.RESTORE_N, 64), (COEF_MM_CFG.FLOOR, 1200), (STR_CFG.BAL_EN, 1), (STR_CFG.BAL_DB, 8), (REP_CFG.LEARN, 1), (REP_CFG.RG,
      3), (REP_CFG.CLAMP, 2000)]
  (∀ (x : Fld) (i : Nat), x.has i → (x.acc = .rw ∨ x.acc = .lk) → x.reg ∉ [Reg.STR_PHDR, .GAU_SEQ, .GAU_INJ, .FLT_CLS, .FLT_RCT] →
    State.reset.f x i = ((listed.find? (fun e => e.1 = x)).map (·.2)).getD 0) ∧
  (∀ x ∈ Src.all, State.reset.f FLT_CLS.W x.id = 1000 ∧ State.reset.f FLT_RCT.EN x.id = 1 ∧ State.reset.f FLT_RCT.Q x.id = 10000) ∧
  (∀ i, i < 16 → State.reset.f STR_PHDR.FB i = i ∧ State.reset.f STR_PHDR.TRK i = 3 ∧ State.reset.f STR_PHDR.PKI i = 6) ∧
  State.reset.powered = false ∧ State.reset.step.tb = .UNSYNC ∧ State.reset.step.count = 0 ∧ (∀ m, (State.reset.lane m).st = .DISABLED) ∧
  (∀ n, (State.reset.rgn n).st = .OFF) ∧ (∀ g, tblGet false State.reset.gates g = false) ∧ State.reset.out = [] ∧ State.reset.pending = []

/-- A fuse bit that is blown in a copy stays blown, whatever runs. -/
def Obligations.FusesNeverClear : Prop :=
  ∀ (c : Instr) (s t : State), exec c s = .next t → ∀ i k,
    ((tblGet 0#32 s.opal.a i).getLsbD k = true → (tblGet 0#32 t.opal.a i).getLsbD k = true) ∧
    ((tblGet 0#32 s.opal.b i).getLsbD k = true → (tblGet 0#32 t.opal.b i).getLsbD k = true)

/-- A standby's ports ignore a write outside the RLY_ group and set RLY_STATUS.STBY_WR; the mailboxes' registers are left out, whose commands
R589 answers on a standby (log entry 30). -/
def Obligations.StandbyPortsRefuseWrites : Prop :=
  ∀ (p : Port) (off : BitVec 20) (be : BitVec 4) (v : Word) (s : State) (r : Reg) (i : Nat), s.serving = true → s.standby = true → i < r.count →
    off.toNat / 4 * 4 = r.offset i → noSource r i = false → s.absent r i = false → be ≠ 0#4 → ¬(0x6000 ≤ off.toNat ∧ off.toNat < 0x7000) →
    r ≠ .QB_MBX_DATA → r ≠ .QB_MBX_CTRL → r ≠ .QB_MBX_STATUS →
    Completes (.registerWrite p off be v) s fun t => t.f RLY_STATUS.STBY_WR = 1 ∧ Changes s t [] [(RLY_STATUS.STBY_WR, 0)]

/-- A semaphore that another master holds guards the writes that R581's table names: refused whole, and counted for the port; a read of the
Gauge queue returns 0 and pops nothing. -/
def Obligations.SemaphoresGuardAccesses : Prop :=
  (∀ (p : Port) (off : BitVec 20) (be : BitVec 4) (v : Word) (s : State) (r : Reg) (i k : Nat), s.serving = true → s.standby = false →
      i < r.count → off.toNat / 4 * 4 = r.offset i → s.absent r i = false → be ≠ 0#4 →
      s.f QB_SEM.OWNER k ≠ 0 → s.f QB_SEM.OWNER k ≠ p.ix + 1 →
    let act := v &&& Word.byteMask be
    (((r, k) ∈ [(Reg.BOOT_UPD_DATA, 0), (.LED_SNAP, 2), (.LED_CR_ALLOC, 2), (.COEF_M, 8), (.COEF_X, 8), (.COEF_CTRL, 8), (.REP_CFG, 9),
        (.REP_SEL, 9), (.REP_BIN, 9), (.GAU_TRIM_SEL, 10), (.RLY_CTRL, 11), (.RLY_GRP_BUDGET, 11), (.RLY_CR_CFG, 11), (.TST_OBS_A, 13),
        (.TST_OBS_B, 13), (.TST_LST_CTRL, 13), (.PF_CTRL, 13), (.PF_CFG, 13), (.PF_TRIG, 13), (.PF_WIN, 13), (.LANE_CTRL, 14)]) ∨
      (r ∈ [Reg.DOM_CTRL, .DOM_SETPT, .DOM_RCMD, .DOM_RCMD_STEP_LO, .DOM_RCMD_STEP_HI, .DOM_RCMD_RES] ∧ k = 4 + i) ∨
      (r = .RGN_SETPT ∧ k = 4 + s.domOf i) ∨
      (∃ x : Fld, (x, k) ∈ [(GAU_CFG.QCLR, 1), (LED_REC_CTRL.POP, 2), (LED_CTX.REL, 2), (FLT_CTRL.FE_ARM, 3), (FLT_CTRL.FN_REL, 3),
        (FLT_LOG_CTRL.POP, 3)] ∧ r = x.reg ∧ act.field x.hi x.lo = 1) ∨
      (k = 12 ∧ 0x3000 ≤ off.toNat ∧ off.toNat < 0x4000 ∧ ∃ x ∈ r.fields, (x.acc = .rw ∨ x.acc = .wo) ∧ act.field x.hi x.lo ≠ 0)) →
    Completes (.registerWrite p off be v) s fun t =>
      t.f QB_PORT_ERR.SEM p.ix = min 255 (s.f QB_PORT_ERR.SEM p.ix + 1) ∧ Changes s t [] [(QB_PORT_ERR.SEM, p.ix)]) ∧
  (∀ (p : Port) (s : State), s.serving = true → s.f QB_SEM.OWNER 1 ≠ 0 → s.f QB_SEM.OWNER 1 ≠ p.ix + 1 →
    Completes (.gauQdataRead p) s fun t =>
      t.host.rdata = 0#32 ∧ t.f QB_PORT_ERR.SEM p.ix = min 255 (s.f QB_PORT_ERR.SEM p.ix + 1) ∧
      Changes s t [.host] [(QB_PORT_ERR.SEM, p.ix)])

/-- R27: a functional reset of the cache die. -/
def Obligations.CacheDieResetChangesNothing : Prop := ∀ s : State, exec .cacheDieReset s = .next s

/-- R563: the staging index of BOOT_UPD_DATA. -/
def Obligations.StagingIndexRule : Prop :=
  (∀ (p : Port) (w : Word) (s : State), s.takes p .BOOT_UPD_DATA 0 (some 0) →
    (s.boot.stageIx ≤ 1023 → Completes (.bootUpdDataWrite p w) s fun t =>
      t.boot.stageIx = s.boot.stageIx + 1 ∧ tblGet 0 t.boot.staging s.boot.stageIx = w.toNat ∧
      (∀ k, k ≠ s.boot.stageIx → tblGet 0 t.boot.staging k = tblGet 0 s.boot.staging k) ∧ t.regs = s.regs) ∧
    (1023 < s.boot.stageIx → Completes (.bootUpdDataWrite p w) s fun t =>
      t.f BOOT_UPD_STATUS.OVR = 1 ∧ Changes s t [] [(BOOT_UPD_STATUS.OVR, 0)])) ∧
  (∀ (p : Port) (s : State), s.asks p 0x10 → s.f QB_SEM.OWNER 0 = p.ix + 1 → Completes (.updOpen p) s fun t => t.boot.stageIx = 0) ∧
  (∀ (p : Port) (s : State), s.asks p 0x11 → s.f QB_SEM.OWNER 0 = p.ix + 1 → Completes (.updPage p) s fun t => t.boot.stageIx = 0)

/-- R566: offsets at which no register lies. -/
def Obligations.ReservedOffsetsIgnored : Prop :=
  ∀ (p : Port) (off : BitVec 20) (be : BitVec 4) (v : Word) (s : State), s.serving = true →
    (∀ r i, i < Reg.count r → noSource r i = false → off.toNat / 4 * 4 ≠ r.offset i) →
    (Completes (.reservedAccess p off true) s fun t =>
      t.f QB_PORT_ERR.RSVD p.ix = min 255 (s.f QB_PORT_ERR.RSVD p.ix + 1) ∧ Changes s t [] [(QB_PORT_ERR.RSVD, p.ix)]) ∧
    (Completes (.registerWrite p off be v) s fun t =>
      t.f QB_PORT_ERR.RSVD p.ix = min 255 (s.f QB_PORT_ERR.RSVD p.ix + 1) ∧ Changes s t [] [(QB_PORT_ERR.RSVD, p.ix)]) ∧
    (Completes (.reservedAccess p off false) s fun t =>
      t.host = { s.host with rdata := 0#32 } ∧ t.f QB_PORT_ERR.RSVD p.ix = min 255 (s.f QB_PORT_ERR.RSVD p.ix + 1) ∧
      Changes s t [.host] [(QB_PORT_ERR.RSVD, p.ix)])

/-- R439, with the conditions of the level sources as R426 gives them. -/
def Obligations.FaultHoldsReleased : Prop :=
  ∀ (p : Port) (s : State), s.takes p .FLT_CTRL 0 (some 3) →
    Completes (.fnRel p) s fun t =>
      let kept (x : Src) (c : Prop) : Prop := (c → t.f FLT_CNT.FHOLD x.id = s.f FLT_CNT.FHOLD x.id) ∧ (¬c → t.f FLT_CNT.FHOLD x.id = 0)
      (∀ x ∈ Src.all, x ∉ [Src.REFCLK_LOST, .OVERLOAD, .THERM_WARN, .THERM_SHUT, .SENSOR_BAD, .INPUT_RAIL, .CAP_LOST, .LOWEST] →
        t.f FLT_CNT.FHOLD x.id = 0) ∧
      kept .REFCLK_LOST (s.refLost = true) ∧ kept .OVERLOAD (∃ n ∈ s.placed, (s.rgn n).ovFlag = true) ∧
      kept .THERM_WARN (s.f GAU_TSTAT.WARN = 1) ∧ kept .THERM_SHUT (s.f GAU_TSTAT.SHUT = 1) ∧
      kept .SENSOR_BAD (∃ q ∈ s.usedSensors, (s.sensor q).bad = true) ∧
      kept .INPUT_RAIL (s.f GAU_VIN.VIN < 16000 ∨ 20000 < s.f GAU_VIN.VIN) ∧ kept .CAP_LOST (s.f LIM_CAP_STATUS.FALLBACK = 1) ∧
      kept .LOWEST (s.lim.low ≠ .out) ∧ Changes s t [.relay, .out] (Src.all.map (fun x => (FLT_CNT.FHOLD, x.id)))

/-- R447: the records of the event log. -/
def Obligations.EventLogIsARing : Prop :=
  let written (s t : State) (i : Nat) (recovery : Bool) : Prop :=
    ∃ r : LogRec, r.src = i ∧ r.recovery = recovery ∧
      (s.coll.log.length < 256 → t.coll.log = s.coll.log ++ [r] ∧ t.f FLT_LOG_CTRL.OVW = s.f FLT_LOG_CTRL.OVW) ∧
      (256 ≤ s.coll.log.length → t.coll.log = s.coll.log.tail ++ [r] ∧ t.f FLT_LOG_CTRL.OVW = min 255 (s.f FLT_LOG_CTRL.OVW + 1))
  (∀ (s : State) (x : Src) (e : Evt), s.nextSrc = some (x, e) → Completes .faultProcess s fun t => written s t x.id false) ∧
  (∀ (i : Fin 128) (x : Src) (s : State), Src.ofId i = some x → s.fb FLT_CNT.SEV i = true → s.levelActive x = false →
      (s.src i).lastEvent + s.fltQ i ≤ s.now → (s.src i).condEnd + s.fltQ i ≤ s.now →
    Completes (.faultRecovery i) s fun t => written s t i true)

/-! ### Completion of every command: under conditions on the state and the operands alone it answers a next state, of which the statement says
what the command writes and, where it says so, what it leaves. The rules named are those that the effects are taken from. -/

/-- The fast-limit latch of a lane (R54, R55). -/
def Obligations.FastLimitLatches : Prop :=
  (∀ (m : Fin 2048) (s : State), ((s.lane m).st = .RAMP ∨ (s.lane m).st = .SWITCHING ∨ (s.lane m).st = .BURST ∨ (s.lane m).st = .FOLLOWER ∨ (s.lane m).st = .HOLD) → 8 ≤ (s.lane m).fastRun → ((s.lane m).st = .RAMP ∨ (s.lane m).retry < 3) →
    Completes (.fastLimitLatch m) s fun t =>
      let ramp := (s.lane m).st = .RAMP
      let x := if ramp then LANE_EVT.RAMP_LATCH else LANE_EVT.FAST_LATCH
      let src : Src := if ramp then .RAMP_LATCH else .FAST_LATCH
      (t.lane m).st = .LATCHED ∧ (t.lane m).prev = (s.lane m).st ∧ (t.lane m).latchAt = s.now ∧ (t.lane m).retry = (s.lane m).retry ∧
      (t.lane m).cause = (s.lane m).cause ∧ (t.lane m).latches = min 255 ((s.lane m).latches + 1) ∧ t.f x m = 1 ∧ pends t src ∧
      lanesKept s t [m] ∧ srcsKept s t [src] ∧ Changes s t [.lanes, .coll] [(x, m)]) ∧
  (∀ (m : Fin 2048) (s : State), ((s.lane m).st = .SWITCHING ∨ (s.lane m).st = .BURST ∨ (s.lane m).st = .FOLLOWER ∨ (s.lane m).st = .HOLD) → 8 ≤ (s.lane m).fastRun → 3 ≤ (s.lane m).retry →
    Completes (.fastLimitLatch m) s fun t =>
      (t.lane m).st = .FAILED ∧ (t.lane m).cause = 1 ∧ (t.lane m).retry = (s.lane m).retry ∧ t.f LANE_EVT.FAILED m = 1 ∧ lanesKept s t [m]) ∧
  (∀ (m : Fin 2048) (s : State), (s.lane m).st = .LATCHED → (s.lane m).latchAt + 2000 ≤ s.now →
    Completes (.latchEnd m) s fun t =>
      let l := s.lane m
      let r := s.rgn (m / 8)
      let back : LaneState := if l.prev = .RAMP ∧ (r.rampDone ∨ r.st ≠ .STARTING) then .SWITCHING else l.prev
      (t.lane m).st = (if r.keepSince.isSome then .HOLD else back) ∧
      (t.lane m).retry = (if l.prev = .RAMP then l.retry else min 3 (l.retry + 1)) ∧ (t.lane m).cause = l.cause ∧
      lanesKept s t [m] ∧ Changes s t [.lanes] []) ∧
  (∀ (m : Fin 2048) (s : State), (s.lane m).st ≠ .FAILED → (s.lane m).st ≠ .RETIRED → (s.lane m).st ≠ .LATCHED → (s.lane m).latchAt + 1000000 ≤ s.now →
    Completes (.retryCountClear m) s fun t => t.lane m = { s.lane m with retry := 0 } ∧ lanesKept s t [m] ∧ Changes s t [.lanes] [])

/-- The starting block (R44, R45, R48, R96, R100, R101). -/
def Obligations.StartingBlockCompletes : Prop :=
  (∀ (n : Fin 256) (code : Fin 601) (s : State) (t0 : Nat), (s.rgn n).phase = .measuring t0 → t0 + 2000 ≤ s.now →
    Completes (.startMeasurementDone n code) s fun t =>
      (t.heat (s.heatIx n)).ref = 400 * code.val ∧ (t.heat (s.heatIx n)).iH = 0 ∧
      (t.rgn n).phase = .ramp ∧ (t.rgn n).meas = 400 * code.val ∧ (t.rgn n).st = (s.rgn n).st ∧
      ((t.rgn n).rampDown = true ↔ s.tgtOf (s.heatIx n) < 400 * code.val) ∧
      (∀ m, m / 8 = n.val → (s.lane m).st = .DISABLED → s.fb LANE_CTRL.EN m = true → (t.lane m).st = .RAMP ∧ (t.lane m).de = true) ∧
      (∀ m, (m / 8 ≠ n.val ∨ (s.lane m).st ≠ .DISABLED ∨ s.fb LANE_CTRL.EN m = false) → t.lane m = s.lane m) ∧
      rgnsKept s t [n] ∧ heatsKept s t [s.heatIx n] ∧ Changes s t [.lanes, .rgns, .heats] []) ∧
  (∀ (n : Fin 256) (s : State), (s.rgn n).st = .STARTING → (s.rgn n).phase = .ramp → (s.rgn n).rampDone = false →
    (s.heat (s.heatIx n)).ref = (s.heat (s.heatIx n)).tgt → (s.rgn n).er.natAbs ≤ 1000 → s.step.tb ≠ .UNSYNC →
    Completes (.rampEnd n) s fun t =>
      (t.rgn n).rampDone = true ∧ (t.rgn n).st = .STARTING ∧
      (∀ m, m / 8 = n.val → (s.lane m).st = .RAMP → (t.lane m).st = .SWITCHING ∧ (t.lane m).de = false) ∧
      (∀ m, (m / 8 ≠ n.val ∨ (s.lane m).st ≠ .RAMP) → t.lane m = s.lane m) ∧
      rgnsKept s t [n] ∧ Changes s t [.lanes, .rgns] []) ∧
  (∀ (n : Fin 256) (s : State), (s.rgn n).st = .STARTING → (s.rgn n).phase = .ramp → 400 ≤ (s.rgn n).falseRun →
    Completes (.falseStart n) s fun t =>
      (if (s.rgn n).attempts < 3 then (t.rgn n).st = .STARTING ∧ (t.rgn n).phase = .waiting s.now ∧
          (t.rgn n).attempts = (s.rgn n).attempts + 1
        else (t.rgn n).st = .DARK ∧ (t.rgn n).cause = 1 ∧ (t.rgn n).attempts = 4) ∧
      (t.rgn n).iso = true ∧ t.f RGN_EVT.FALSE_START n = 1 ∧
      (∀ m, t.lane m = if m / 8 = n.val then (s.lane m).disable else s.lane m)) ∧
  (∀ (n : Fin 256) (s : State) (t0 : Nat), (s.rgn n).st = .STARTING → (s.rgn n).phase = .waiting t0 → t0 + 1000000 ≤ s.now →
    s.running = false → 48 ≤ (s.rgn n).working →
    Completes (.falseStartRetry n) s fun t =>
      (t.rgn n).st = .STARTING ∧ (t.rgn n).phase = .measuring s.now ∧ (t.rgn n).byStart = false ∧ (t.rgn n).attempts = (s.rgn n).attempts ∧
      rgnsKept s t [n] ∧ heatsKept s t [n]) ∧
  (∀ (n : Fin 256) (s : State) (t0 : Nat), (s.rgn n).regSince = some t0 → t0 + 1000000000 ≤ s.now →
    Completes (.attemptCountClear n) s fun t => t.rgn n = { s.rgn n with attempts := 0 } ∧ rgnsKept s t [n] ∧ Changes s t [.rgns] []) ∧
  (∀ (n : Fin 256) (s : State) (t0 : Nat), (s.rgn n).isoDue = some t0 → t0 ≤ s.now → (s.rgn n).st.regulating = true →
    Completes (.isoStrobeDeassert n) s fun t =>
      (t.rgn n).iso = false ∧ (t.rgn n).isoDue = none ∧ (t.rgn n).st = (s.rgn n).st ∧ rgnsKept s t [n] ∧ Changes s t [.rgns] [])

/-- Lane failures and the overload flags. -/
def Obligations.LaneFaultsAndOverload : Prop :=
  (∀ (m : Fin 2048) (s : State), ((s.lane m).st = .RAMP ∨ (s.lane m).st = .SWITCHING ∨ (s.lane m).st = .BURST ∨ (s.lane m).st = .FOLLOWER ∨
      (s.lane m).st = .HOLD) → 2000 ≤ (s.lane m).openNs →
    Completes (.openPhase m) s fun t =>
      (t.lane m).st = .FAILED ∧ (t.lane m).cause = 2 ∧ (t.lane m).retry = (s.lane m).retry ∧ t.f LANE_EVT.OPEN m = 1 ∧
      t.f LANE_EVT.FAILED m = 1 ∧ lanesKept s t [m]) ∧
  (∀ (m : Fin 2048) (s : State), ((s.lane m).st = .SWITCHING ∨ (s.lane m).st = .BURST) → 1000 ≤ (s.lane m).mmRun →
    Completes (.senseMismatch m) s fun t =>
      (t.lane m).st = .FOLLOWER ∧ (t.lane m).cause = 3 ∧ (t.lane m).retry = (s.lane m).retry ∧ t.f LANE_EVT.MISMATCH m = 1 ∧
      lanesKept s t [m]) ∧
  (∀ (n : Fin 256) (s : State), (s.rgn n).ovFlag = false → 400 ≤ (s.rgn n).ovRun →
    Completes (.overloadFlagSet n) s fun t => (t.rgn n).ovFlag = true ∧ (t.rgn n).ovSince = s.now ∧ (t.rgn n).ovRaised = false ∧
      (t.rgn n).st = (s.rgn n).st ∧ rgnsKept s t [n] ∧ Changes s t [.rgns] []) ∧
  (∀ (n : Fin 256) (s : State), (s.rgn n).ovFlag = true → 400 ≤ (s.rgn n).ovClr →
    Completes (.overloadFlagClear n) s fun t => (t.rgn n).ovFlag = false ∧ (t.rgn n).ovRun = 0 ∧ (t.rgn n).st = (s.rgn n).st ∧
      rgnsKept s t [n] ∧ srcsKept s t [.OVERLOAD] ∧ (t.src Src.OVERLOAD.id).pend = (s.src Src.OVERLOAD.id).pend ∧
      Changes s t [.rgns, .coll] []) ∧
  (∀ (n : Fin 256) (s : State), (s.rgn n).ovFlag = true → (s.rgn n).ovRaised = false → (s.rgn n).ovSince + 2000000 ≤ s.now →
    Completes (.regionOverloadFault n) s fun t => pends t .OVERLOAD ∧ (t.rgn n).ovFlag = true ∧ (t.rgn n).ovRaised = true ∧
      (t.rgn n).st = (s.rgn n).st ∧ rgnsKept s t [n] ∧ srcsKept s t [.OVERLOAD] ∧ Changes s t [.rgns, .coll] []) ∧
  (∀ (n : Fin 256) (s : State), 20000 ≤ (s.rgn n).capRun → (s.rgn n).capRaised = false → s.fb RGN_CTRL.RESCUE_EN n = false →
    Completes (.capacityExceeded n) s fun t => pends t .CAPACITY ∧ (t.rgn n).capRaised = true ∧ (t.rgn n).st = (s.rgn n).st ∧
      rgnsKept s t [n] ∧ srcsKept s t [.CAPACITY] ∧ Changes s t [.rgns, .coll] []) ∧
  (∀ (n : Fin 256) (s : State) (g k : Nat), 20000 ≤ (s.rgn n).capRun → (s.rgn n).capRaised = false → s.fb RGN_CTRL.RESCUE_EN n = true →
    s.members (s.heatIx n) = [n.val] → (s.rgn n).st.regulating = true →
    s.rescueGate n = some (g, k) → s.roomOwn 1 = true → s.inCascade = false →
    Completes (.capacityExceeded n) s fun t => (t.rgn n).capRaised = true ∧ rgnsKept s t [n] ∧ pends t .CAPACITY ∧
      ∃ e ∈ t.step.queue, e.act = .close g (.rescue n) ∧ s.step.count < e.due)

/-- Keeper, balance pass, burst entry. -/
def Obligations.KeeperBalanceBurst : Prop :=
  (∀ (n : Fin 256) (s : State), 4 ≤ (s.rgn n).miss → (s.rgn n).keepSince = none → ((s.rgn n).st.regulating = true ∨ (s.rgn n).st = .STARTING) →
    Completes (.keeperEntry n) s fun t =>
      (t.rgn n).keepSince = some s.now ∧ (t.rgn n).heldRef = (s.heat (s.heatIx n)).ref ∧ (t.rgn n).st = (s.rgn n).st ∧
      (∀ m, m / 8 = n.val → ((s.lane m).st = .RAMP ∨ (s.lane m).st = .SWITCHING ∨ (s.lane m).st = .BURST ∨ (s.lane m).st = .SHED ∨
          (s.lane m).st = .FOLLOWER) →
        (t.lane m).st = .HOLD ∧ (t.lane m).held = (s.lane m).st ∧
        (t.lane m).keeper = max 250 (min (s.slowLim n) (10 * (s.lane m).peak))) ∧
      (∀ m, (m / 8 ≠ n.val ∨ (s.lane m).st = .DISABLED ∨ (s.lane m).st = .LATCHED ∨ (s.lane m).st = .HOLD ∨ (s.lane m).st = .FAILED ∨
          (s.lane m).st = .RETIRED) → t.lane m = s.lane m) ∧
      rgnsKept s t [n] ∧ Changes s t [.lanes, .rgns] []) ∧
  (∀ (n : Fin 256) (s : State) (t0 : Nat), (s.rgn n).keepSince = some t0 → t0 + 1000000 ≤ s.now → s.members (s.heatIx n) = [n.val] →
      (s.rgn n).st.regulating = true →
    Completes (.keeperTimeout n) s fun t =>
      (∀ m, m / 8 = n.val → (s.lane m).st = .HOLD → (t.lane m).st = .DISABLED ∧ (t.lane m).cause = 4 ∧ t.f LANE_EVT.KEEPER_TO m = 1) ∧
      (t.rgn n).keepSince = none ∧ (t.rgn n).iso = true ∧ (t.rgn n).cause = 3 ∧
      (if (s.rgn n).attempts < 3 then (t.rgn n).st = .STARTING ∧ (t.rgn n).phase = .waiting s.now ∧ (t.rgn n).attempts = (s.rgn n).attempts + 1
        else (t.rgn n).st = .DARK)) ∧
  (∀ (s : State), 64 ≤ s.balCtr → s.fb STR_CFG.BAL_EN = false →
    Completes .balancePass s fun t =>
      t.balCtr = 0 ∧ (∀ m, m / 8 ∈ s.placed → t.lane m = { s.lane m with trim := 0, balSum := 0, balN := 0 }) ∧
      (∀ m, m / 8 ∉ s.placed → t.lane m = s.lane m) ∧ Changes s t [.balCtr, .lanes] []) ∧
  (∀ (s : State), 64 ≤ s.balCtr → s.fb STR_CFG.BAL_EN = true → s.placed.Nodup →
    Completes .balancePass s fun t =>
      t.balCtr = 0 ∧ (∀ m, m / 8 ∉ s.placed → t.lane m = s.lane m) ∧ Changes s t [.balCtr, .lanes] [] ∧
      ∀ n ∈ s.placed,
        let on := (lanesOf n).filter (fun m => (s.lane m).st = .SWITCHING ∧ 64 ≤ (s.lane m).balN)
        let mean := fun (m : Nat) => (((s.lane m).balSum : Nat) : Rat) / (((s.lane m).balN : Nat) : Rat)
        let all := meanR (on.map mean)
        let far := fun (m : Nat) => ((max 1 (s.f STR_CFG.BAL_DB) : Nat) : Rat) ≤ mean m - all ∨ mean m - all ≤ -((max 1 (s.f STR_CFG.BAL_DB) : Nat) : Rat)
        let moved := fun (m : Nat) => if m ∈ on ∧ far m then (s.lane m).trim - clampI (-4) 4 (roundEven ((mean m - all) / 8)) else (s.lane m).trim
        let sum := ((lanesOf n).map moved).foldl (· + ·) 0
        ∀ m ∈ lanesOf n, t.lane m = { s.lane m with balSum := 0, balN := 0,
                                                    trim := if on.length < 2 then (s.lane m).trim else clampI (-63) 63 (moved m - sum.tdiv 8) }) ∧
  (∀ (h : Fin 256) (s : State), (s.heat h).burst = false → (s.heat h).burstWait = false → 200 ≤ (s.heat h).burstRun → s.burstBarred h = false →
      s.running = true → s.roomOwn 1 = true →
    Completes (.burstEntryTest h) s fun t =>
      t.step.queue = s.step.queue ++ [⟨s.step.count + 1, .burst h⟩] ∧ t.step = { s.step with queue := t.step.queue } ∧
      t.heat h = { s.heat h with burstWait := true } ∧ heatsKept s t [h] ∧ Changes s t [.step, .heats] []) ∧
  (∀ (h : Fin 256) (s : State), (s.heat h).burst = false → (s.heat h).burstWait = false → 200 ≤ (s.heat h).burstRun → s.burstBarred h = false →
      s.running = false →
    Completes (.burstEntryTest h) s fun t =>
      (t.heat h).burst = true ∧ (∀ m, m / 8 ∉ s.members h → t.lane m = s.lane m) ∧
      (∀ m, (t.lane m).st ≠ (s.lane m).st → (t.lane m).st = .BURST ∨ (t.lane m).st = .SHED) ∧ Changes s t [.lanes, .rgns, .heats] [])

/-- Merges. -/
def Obligations.PendingMergesEnd : Prop :=
  (∀ (g : Fin 512) (s : State) (x : PMerge) (a b : Nat), s.pendingOf g true = some x → 64 ≤ x.vfail → s.step.tb ≠ .UNSYNC → gateEnds g = some (a, b) →
    Completes (.mergeVoltageTimeout g) s fun t =>
      t.merges = s.mergesBut x ∧ t.gates = s.gates ∧ (∀ d, d < 4 → x.origin = .cmd d → t.f DOM_RCMD_RES.STATUS d = 9) ∧
      (∀ n, n = a ∨ n = b → (s.rgn n).st = .MERGING → ({ s with merges := s.mergesBut x } : State).hasPendingClose n = false →
        (t.rgn n).st = if (s.rgn n).working < 72 then .DEGRADED else if s.allOpen n then .ISLAND else .MERGED) ∧
      (∀ n, (s.rgn n).st ≠ .MERGING → t.rgn n = s.rgn n)) ∧
  (∀ (g : Fin 512) (s : State) (x : PMerge) (f a b : Nat), s.pendingOf g true = some x → x.f = some f → gateEnds g = some (a, b) →
      x.ordered = false → f ≤ s.step.count + 64 → s.step.count < f → s.running = true → s.inCascade = false → s.roomOwn 1 = true →
    Completes (.forcedMergeStretchOrder g) s fun t =>
      t.step.queue = s.step.queue ++ [⟨s.stretchDue f, .stretch .MERGE (256 * s.fstrN (s.domOf a) + s.fstrCyc (s.domOf a))⟩] ∧
      t.step = { s.step with queue := t.step.queue } ∧
      t.merges = s.merges.map (fun y => if y.gate = x.gate ∧ y.close = x.close ∧ y.origin = x.origin then { x with ordered := true } else y) ∧
      Changes s t [.step, .merges] []) ∧
  (∀ (g : Fin 512) (s : State) (x : PMerge) (f a b : Nat), s.pendingOf g true = some x → x.f = some f → gateEnds g = some (a, b) →
      f ≤ s.step.count → s.running = true → x.vfail < 64 → s.closeReady a b = true → s.closeVolt a b = true → s.specOf (s.heatIx a) = false →
      s.specOf (s.heatIx b) = false →
    Completes (.forcedMergeDue g) s fun t =>
      t.closed g = true ∧ t.merges = s.mergesBut x ∧ (∀ k, k ≠ g.val → t.closed k = s.closed k) ∧
      (∀ d, d < 4 → x.origin = .cmd d → t.f DOM_RCMD_RES.STATUS d = 5) ∧
      (s.heatIx a ≠ s.heatIx b →
        (t.heat (min (s.heatIx a) (s.heatIx b))).ref = max (s.heat (s.heatIx a)).ref (s.heat (s.heatIx b)).ref ∧
        (t.heat (min (s.heatIx a) (s.heatIx b))).tgt = max (s.heat (s.heatIx a)).tgt (s.heat (s.heatIx b)).tgt)) ∧
  (∀ (g : Fin 512) (s : State) (x : PMerge) (a b : Nat), s.pendingOf g false = some x → gateEnds g = some (a, b) → s.deferMax (s.domOf a) ≤ x.dcount →
    Completes (.splitRefusedLoad g) s fun t =>
      t.merges = s.mergesBut x ∧ (∀ d, d < 4 → x.origin = .cmd d → t.f DOM_RCMD_RES.STATUS d = 10) ∧
      Changes s t [.merges] (match x.origin with | .cmd d => [(DOM_RCMD_RES.STATUS, d)] | _ => []))

/-- Regions that lose regulation, settle or go dark. -/
def Obligations.RegionsLoseRegulation : Prop :=
  (∀ (h : Fin 256) (s : State), s.members h = [h.val] → (s.rgn h).st.regulating = true → 400 ≤ (s.rgn h).lossRun →
    Completes (.regulationLoss h) s fun t =>
      (if (s.rgn h).attempts < 3 then (t.rgn h).st = .STARTING ∧ (t.rgn h).phase = .waiting s.now ∧ (t.rgn h).attempts = (s.rgn h).attempts + 1
        else (t.rgn h).st = .DARK ∧ (t.rgn h).attempts = 4) ∧
      (t.rgn h).cause = 2 ∧ (t.rgn h).iso = true ∧ t.f RGN_EVT.REG_LOSS h = 1 ∧ pends t .REG_LOSS ∧ t.gates = s.gates ∧
      (∀ m, t.lane m = if m / 8 = h.val then (s.lane m).disable else s.lane m)) ∧
  (∀ (h : Fin 256) (s : State) (n : Nat), (∃ k ∈ s.members h, (s.rgn k).st.regulating = true ∧ 400 ≤ (s.rgn k).lossRun) →
      2 ≤ (s.members h).length → argMin (fun n => ((s.outNow n : Int) : Rat)) (s.members h) = some n →
    Completes (.regulationLoss h) s fun t =>
      ((t.rgn n).st = .STARTING ∨ (t.rgn n).st = .DARK) ∧ (t.rgn n).cause = 2 ∧ (t.rgn n).iso = true ∧
      (∀ g, t.closed g = (s.closed g && !((gatesOf n).map (·.1)).contains g)) ∧
      (∀ m, t.lane m = if m / 8 = n then (s.lane m).disable else s.lane m)) ∧
  (∀ (n : Fin 256) (s : State), (s.rgn n).st = .SPLITTING → s.stepsPassed (s.rgn n).splitAt (s.rgn n).splitNs 1 = true →
    Completes (.splittingEnd n) s fun t =>
      (t.rgn n).st = (if (s.rgn n).working < 72 then .DEGRADED else if s.allOpen n then .ISLAND else .MERGED) ∧ rgnsKept s t [n] ∧
      ((s.rgn n).working < 72 → t.f RGN_EVT.DEGRADED n = 1 ∧ pends t .DEGRADED) ∧
      (72 ≤ (s.rgn n).working → Changes s t [.rgns] [])) ∧
  (∀ (n : Fin 256) (s : State) (k : Nat), (s.rgn n).noLane = some k → 64 ≤ k → s.step.tb ≠ .UNSYNC → ((s.rgn n).st = .ISLAND ∨ (s.rgn n).st = .DEGRADED) →
      s.members (s.heatIx n) = [n.val] →
    Completes (.noLaneDark n) s fun t =>
      (t.rgn n).st = .DARK ∧ (t.rgn n).cause = 4 ∧ (t.rgn n).iso = true ∧ t.f RGN_EVT.DARK n = 1 ∧ pends t .DARK ∧
      (∀ m, t.lane m = if m / 8 = n.val then (s.lane m).disable else s.lane m)) ∧
  (∀ (n : Fin 256) (s : State) (b : Nat), (s.rgn n).darkAt = some b → s.stepsPassed b (s.rgn n).darkNs 1 = true →
    Completes (.graceDarkEntry n) s fun t =>
      (t.rgn n).st = .DARK ∧ (t.rgn n).cause = 5 ∧ (t.rgn n).iso = true ∧ (t.rgn n).darkAt = none ∧ (t.rgn n).graceEnd = none ∧
      t.f RGN_EVT.DARK n = 1 ∧ pends t .DARK ∧
      (∀ m, t.lane m = if m / 8 = n.val then (s.lane m).disable else s.lane m)) ∧
  (∀ (n : Fin 256) (s : State) (e : Nat), (s.rgn n).graceEnd = some e → e ≤ s.step.count → s.step.tb ≠ .UNSYNC → (s.rgn n).darkAt = none →
      (s.rgn n).st ≠ .OFF → (s.rgn n).st ≠ .DARK →
    Completes (.gracePeriodEnd n) s fun t =>
      (t.rgn n).iso = true ∧ (t.rgn n).darkAt = some s.step.count ∧ t.lanes = s.lanes ∧
      (∀ g, t.closed g = (s.closed g && !((gatesOf n).map (·.1)).contains g)))

/-- Retention and vertical groups. -/
def Obligations.RetentionAndVerticalGroups : Prop :=
  (∀ (h : Fin 256) (s : State) (b : Nat), (s.heat h).retDue = some b →
      s.stepsPassed (b - max 1 (s.f RGN_RETAIN.SETUP h)) (s.heat h).retNs (max 1 (s.f RGN_RETAIN.SETUP h)) = true →
    Completes (.retentionSetupEnd h) s fun t =>
      t.heat h = { s.heat h with retDue := none, retLow := true } ∧ heatsKept s t [h] ∧ Changes s t [.heats] []) ∧
  (∀ (h : Fin 256) (s : State), (s.heat h).retOut = true → s.boundaryNow = true →
      (∀ n ∈ s.members h, (s.outNow n - 100 * (((s.heat h).retOp : Nat) : Int)).natAbs ≤ 1000) →
    Completes (.retentionExitDone h) s fun t =>
      (∀ n, n ∈ s.members h → (s.rgn n).st = .RETAIN → t.rgn n = { s.rgn n with st := (s.rgn n).before, ret := false }) ∧
      (∀ n, (n ∉ s.members h ∨ (s.rgn n).st ≠ .RETAIN) → t.rgn n = s.rgn n) ∧
      t.heat h = { s.heat h with retOut := false, retLow := false, retDue := none } ∧ heatsKept s t [h] ∧ Changes s t [.rgns, .heats] []) ∧
  (∀ (n : Fin 256) (currents : List Nat) (s : State), (Instr.vgScan n currents).wellFormed = true → 2400 ≤ s.delivered n →
    Completes (.vgScan n currents) s fun t =>
      let count := (s.inService n).length
      let sum := sumN ((s.inService n).map (fun g => currents.getD g 0))
      rgnsKept s t [n] ∧ ∀ g ∈ s.inService n,
        let low := 3 * currents.getD g 0 * count < sum
        let run := tblGet 0 (s.rgn n).vgLow g
        tblGet 0 (t.rgn n).vgLow g = (if low then (if run + 1 < 4 then run + 1 else 0) else 0) ∧
        (low → 4 ≤ run + 1 → g ∈ (t.rgn n).vgFailed ∧ t.f RGN_EVT.VG_FAIL n = 1)) ∧
  (∀ (n : Fin 256) (currents : List Nat) (s : State), (Instr.vgScan n currents).wellFormed = true → s.delivered n < 2400 →
    exec (.vgScan n currents) s = .next s) ∧
  (∀ (n : Fin 256) (g : Fin 104) (s : State) (i : Nat), s.step.queue.any (fun e => e.act = .spareMap n g) = true → s.running = false →
      (List.range 8).find? (fun i => (s.rgn n).vgMap.getD i 127 = 127 && !(s.rgn n).vgFailed.contains (96 + i)) = some i →
    Completes (.spareMapping n g) s fun t =>
      t.step.queue = s.step.queue.filter (fun e => !decide (e.act = .spareMap n g)) ∧
      t.rgn n = { s.rgn n with vgMap := (s.rgn n).vgMap.set i (if g.val < 96 then g.val else (s.rgn n).vgMap.getD (g - 96) 127) } ∧
      rgnsKept s t [n] ∧ Changes s t [.step, .rgns] []) ∧
  (∀ (n : Fin 256) (g : Fin 104) (s : State), s.step.queue.any (fun e => e.act = .spareMap n g) = false → g.val < 96 →
      (s.rgn n).vgFailed.contains g.val = true → (s.rgn n).vgMap.contains g.val = false → 0 < s.freeSpares n → s.running = true → s.roomOwn 1 = true →
    Completes (.spareMapping n g) s fun t =>
      t.step.queue = s.step.queue ++ [⟨s.step.count + 1, .spareMap n g⟩] ∧ t.step = { s.step with queue := t.step.queue } ∧ Changes s t [.step] [])

/-- Host writes to lanes (LANE_CTRL; R40, R88). -/
def Obligations.LaneWritesQueueTheirActions : Prop :=
  (∀ (p : Port) (m : Fin 2048) (en : Bool) (s : State), s.takes p .LANE_CTRL m (some 14) → s.fb LANE_CTRL.EN m = !en → s.roomOut 1 = true →
    Completes (.laneEnWrite p m en) s fun t =>
      t.fb LANE_CTRL.EN m = en ∧ t.step.queue = s.step.queue ++ [⟨s.step.count + 1, if en then .laneWake m else .laneOff m⟩] ∧
      Changes s t [.step, .relay, .out] [(LANE_CTRL.EN, m)]) ∧
  (∀ (p : Port) (m : Fin 2048) (s : State), s.takes p .LANE_CTRL m (some 14) → ((s.lane m).st = .FAILED ∨ (s.lane m).st = .FOLLOWER) →
      s.queueUsed + 3 ≤ 448 →
    Completes (.laneClrFail p m) s fun t =>
      (t.lane m).st = .DISABLED ∧ (t.lane m).cause = 0 ∧ (t.lane m).retry = 0 ∧ ⟨s.step.count + 1, .laneWake m⟩ ∈ t.step.queue ∧
      lanesKept s t [m] ∧ rgnsKept s t [m / 8]) ∧
  (∀ (p : Port) (m : Fin 2048) (s : State), s.takes p .LANE_CTRL m (some 14) → (s.lane m).st ≠ .FAILED → (s.lane m).st ≠ .FOLLOWER →
    Completes (.laneClrFail p m) s fun t => Changes s t [.relay, .out] []) ∧
  (∀ (p : Port) (m : Fin 2048) (s : State), s.takes p .LANE_CTRL m (some 14) → (s.lane m).st ≠ .RETIRED →
      s.step.queue.any (fun e => e.act = .laneRetire m) = false → s.roomOut 1 = true →
    Completes (.laneRetire p m) s fun t =>
      t.f LANE_CTRL.RETIRE m = 1 ∧ t.step.queue = s.step.queue ++ [⟨s.step.count + 1, .laneRetire m⟩] ∧
      Changes s t [.step, .relay, .out] [(LANE_CTRL.RETIRE, m)])

/-- Region commands of DOM_RCMD (R143, R659; R95, R99, R111, R126, R128). -/
def Obligations.RegionCommandsQueue : Prop :=
  (∀ (p : Port) (d : Fin 4) (g : Fin 512) (a b : Nat) (s : State), s.takes p .DOM_RCMD d (some (4 + d)) → s.f DOM_RCMD_RES.STATUS d ∉ [1, 2, 3] →
      s.gateOk g = true → gateEnds g = some (a, b) → s.domOf a = d → s.roomOut 1 = true →
    Completes (.closeGateCmd p d g) s fun t =>
      t.f DOM_RCMD.TARGET d = g ∧ t.f DOM_RCMD.OP d = 0 ∧ t.f DOM_RCMD_RES.STATUS d = 1 ∧ t.f DOM_RCMD_RES.WAITED d = 0 ∧
      ⟨s.rcmdDue d, .close g (.cmd d)⟩ ∈ t.step.queue ∧
      ((s.heat (s.heatIx a)).burst = false → (s.heat (s.heatIx b)).burst = false →
        t.step.queue = s.step.queue ++ [⟨s.rcmdDue d, .close g (.cmd d)⟩]) ∧
      Changes s t [.step, .lanes, .rgns, .heats, .coll, .relay, .out]
        [(DOM_RCMD.TARGET, d), (DOM_RCMD.OP, d), (DOM_RCMD_RES.STATUS, d), (DOM_RCMD_RES.WAITED, d)]) ∧
  (∀ (p : Port) (d : Fin 4) (g : Fin 512) (a b : Nat) (s : State), s.takes p .DOM_RCMD d (some (4 + d)) → s.f DOM_RCMD_RES.STATUS d ∉ [1, 2, 3] →
      s.gateOk g = true → gateEnds g = some (a, b) → s.domOf a = d → s.roomOut 1 = true →
    Completes (.openGateCmd p d g) s fun t =>
      t.f DOM_RCMD.TARGET d = g ∧ t.f DOM_RCMD.OP d = 1 ∧ t.f DOM_RCMD_RES.STATUS d = 1 ∧ t.f DOM_RCMD_RES.WAITED d = 0 ∧
      t.step.queue = s.step.queue ++ [⟨s.rcmdDue d, .openG g (.cmd d)⟩] ∧
      Changes s t [.step, .relay, .out] [(DOM_RCMD.TARGET, d), (DOM_RCMD.OP, d), (DOM_RCMD_RES.STATUS, d), (DOM_RCMD_RES.WAITED, d)]) ∧
  (∀ (p : Port) (d : Fin 4) (n : Fin 256) (s : State), s.takes p .DOM_RCMD d (some (4 + d)) → s.f DOM_RCMD_RES.STATUS d ∉ [1, 2, 3] →
      s.isPlaced n = true → s.domOf n = d → s.step.tb ≠ .UNSYNC → s.roomOut 1 = true →
    let queued (op : Nat) (act : Action) (t : State) : Prop :=
      t.f DOM_RCMD.TARGET d = n ∧ t.f DOM_RCMD.OP d = op ∧ t.f DOM_RCMD_RES.STATUS d = 1 ∧ t.f DOM_RCMD_RES.WAITED d = 0 ∧
      t.step.queue = s.step.queue ++ [⟨s.rcmdDue d, act⟩] ∧
      Changes s t [.step, .relay, .out] [(DOM_RCMD.TARGET, d), (DOM_RCMD.OP, d), (DOM_RCMD_RES.STATUS, d), (DOM_RCMD_RES.WAITED, d)]
    Completes (.startRegionCmd p d n) s (queued 2 (.start n d)) ∧ Completes (.stopRegionCmd p d n) s (queued 3 (.stop n d)) ∧
    Completes (.retentionEntryCmd p d n) s (queued 4 (.retIn n d)) ∧ Completes (.retentionExitCmd p d n) s (queued 5 (.retOut n d))) ∧
  (∀ (p : Port) (d : Fin 4) (n : Fin 256) (s : State), s.takes p .DOM_RCMD d (some (4 + d)) → s.f DOM_RCMD_RES.STATUS d ∉ [1, 2, 3] →
      s.isPlaced n = true → s.domOf n = d → s.step.tb = .UNSYNC → s.allOpen n = true →
    ((s.rgn n).st = .OFF → 48 ≤ (s.rgn n).working → Completes (.startRegionCmd p d n) s fun t =>
      t.f DOM_RCMD_RES.STATUS d = 4 ∧ (t.rgn n).st = .STARTING) ∧
    (((s.rgn n).st = .ISLAND ∨ (s.rgn n).st = .MERGED ∨ (s.rgn n).st = .DEGRADED) → Completes (.stopRegionCmd p d n) s fun t =>
      t.f DOM_RCMD_RES.STATUS d = 4 ∧ (t.rgn n).st = .OFF ∧ (t.rgn n).iso = true ∧ rgnsKept s t [n] ∧ t.lanes = s.lanes))

/-- Set-points, mesh, CLR_DARK, CLR_FB (R101, R452, R595, R596). -/
def Obligations.RailWritesTakeEffect : Prop :=
  (∀ (p : Port) (n : Fin 256) (s : State), s.takes p .RGN_CTRL n none → (s.rgn n).st = .DARK →
    Completes (.clrDark p n) s fun t =>
      (t.rgn n).attempts = 0 ∧ rgnsKept s t [n] ∧ Changes s t [.rgns, .relay, .out] [] ∧
      (if s.step.tb = .UNSYNC then (t.rgn n).st = .OFF ∧ (t.rgn n).iso = true else (t.rgn n).st = .DARK ∧ (t.rgn n).clrDark = true)) ∧
  (∀ (p : Port) (d : Fin 4) (mesh : Bool) (s : State), s.takes p .DOM_CTRL d (some (4 + d)) → s.fb DOM_CTRL.MESH d = !mesh → s.roomOut 1 = true →
    Completes (.domCtrlMeshWrite p d mesh) s fun t =>
      t.fb DOM_CTRL.MESH d = mesh ∧ t.f DOM_STATUS.MESH_PEND d = 1 ∧
      t.step.queue = s.step.queue ++ [⟨s.rcmdDue d, .mesh d (!mesh)⟩] ∧
      Changes s t [.step, .relay, .out] [(DOM_CTRL.MESH, d), (DOM_STATUS.MESH_PEND, d)]) ∧
  (∀ (p : Port) (d : Fin 4) (vset : BitVec 12) (s : State), s.takes p .DOM_SETPT d (some (4 + d)) →
    Completes (.domSetptWrite p d vset false) s fun t =>
      t.f DOM_SETPT.VSET d = vset.toNat ∧ t.f DOM_SETPT.SCHED d = 0 ∧ t.domV = tblSet 1600 s.domV d vset.toNat ∧
      Changes s t [.domV, .relay, .out] [(DOM_SETPT.VSET, d), (DOM_SETPT.SCHED, d)]) ∧
  (∀ (p : Port) (d : Fin 4) (vset : BitVec 12) (s : State), s.takes p .DOM_SETPT d (some (4 + d)) → s.roomOut 1 = true →
    Completes (.domSetptWrite p d vset true) s fun t =>
      t.f DOM_SETPT.VSET d = vset.toNat ∧ t.f DOM_SETPT.SCHED d = 1 ∧
      t.step.queue = s.step.queue ++ [⟨s.rcmdDue d, .domSetpt d vset.toNat⟩] ∧
      Changes s t [.step, .relay, .out] [(DOM_SETPT.VSET, d), (DOM_SETPT.SCHED, d)]) ∧
  (∀ (p : Port) (n : Fin 256) (vset : BitVec 12) (s : State), s.takes p .RGN_SETPT n (some (4 + s.domOf n)) →
    Completes (.rgnSetptWrite p n vset false) s fun t =>
      t.f RGN_SETPT.VSET n = vset.toNat ∧ t.f RGN_SETPT.SCHED n = 0 ∧ t.rgn n = { s.rgn n with hostV := vset.toNat } ∧ rgnsKept s t [n] ∧
      Changes s t [.rgns, .relay, .out] [(RGN_SETPT.VSET, n), (RGN_SETPT.SCHED, n)]) ∧
  (∀ (p : Port) (n : Fin 256) (vset : BitVec 12) (s : State), s.takes p .RGN_SETPT n (some (4 + s.domOf n)) → s.roomOut 1 = true →
    Completes (.rgnSetptWrite p n vset true) s fun t =>
      t.f RGN_SETPT.VSET n = vset.toNat ∧ t.f RGN_SETPT.SCHED n = 1 ∧
      t.step.queue = s.step.queue ++ [⟨s.rcmdDue (s.domOf n), .rgnSetpt n vset.toNat⟩] ∧
      Changes s t [.step, .relay, .out] [(RGN_SETPT.VSET, n), (RGN_SETPT.SCHED, n)]) ∧
  (∀ (p : Port) (n : Fin 256) (s : State), s.takes p .RGN_STR_CFG n none →
    Completes (.clrFb p n) s fun t =>
      t.rgn n = { s.rgn n with clrFb := true } ∧ rgnsKept s t [n] ∧ Changes s t [.rgns, .relay, .out] [])

/-- The time base and the sample period. -/
def Obligations.TimeAdvances : Prop :=
  (∀ (t : Nat) (s : State), s.powered = true → s.step.tb = .RUNNING → (∀ e, s.step.edge = some e → e + 400 ≤ t) →
    Completes (.stepBoundary t) s fun u =>
      let qualifies := ∃ c stop, s.step.bcast = some (c, stop) ∧ stop + 20 ≤ t
      (¬qualifies → u.step.count = (s.step.count + 1) % 2 ^ 48 ∧ u.step.bcast = s.step.bcast) ∧
      (∀ c stop, s.step.bcast = some (c, stop) → stop + 20 ≤ t → u.step.count = c ∧ u.step.bcast = none) ∧
      u.step.tb = .RUNNING ∧ u.step.lastEdge = some t ∧ u.step.edge = some t ∧ u.step.sinceFrame = s.step.sinceFrame + 1 ∧
      u.now = max s.now t) ∧
  (∀ (t : Nat) (s : State), s.powered = true → (∃ e, s.step.edge = some e ∧ t < e + 400) →
    Completes (.stepBoundary t) s fun u =>
      u.f STP_STATUS.SHORT_STEP = 1 ∧ pends u .SHORT_STEP ∧ u.now = max s.now t ∧ Changes s u [.now, .coll] [(STP_STATUS.SHORT_STEP, 0)]) ∧
  (∀ (t : Nat) (s : State), s.powered = true → s.step.tb = .UNSYNC → s.step.bcast = none → (∀ e, s.step.edge = some e → e + 400 ≤ t) →
    Completes (.stepBoundary t) s fun u => u.step = { s.step with edge := some t } ∧ Changes s u [.now, .step, .clock] []) ∧
  (∀ (s : State) (e : Nat), s.step.tb = .RUNNING → s.gateHold = false → s.step.lastEdge = some e → max e s.step.holdEnd + 100000 < s.now →
      s.baton.up = true →
    Completes .timeBaseIdle s fun t =>
      t.step = { s.step with tb := .IDLE } ∧ acked s t 10 (7 * 2 ^ 48 + s.baton.lastRx * 2 ^ 40) ∧
      Changes s t [.step, .clock, .pacer, .baton, .pf, .out] pfFields) ∧
  (∀ (frame : BitVec 64) (stop : Bool) (t : Nat) (s : State), s.powered = true →
    (frameGood frame stop = true → Completes (.stepBcastFrame frame stop t) s fun u =>
      u.step = { s.step with bcast := some (frame.toNat / 256 % 2 ^ 48, t), sinceFrame := 0, missRep := false } ∧ u.now = max s.now t ∧
      Changes s u [.now, .step, .clock] []) ∧
    (frameGood frame stop = false → s.f BAT_ERR2.BCAST < 255 → Completes (.stepBcastFrame frame stop t) s fun u =>
      u.f BAT_ERR2.BCAST = s.f BAT_ERR2.BCAST + 1 ∧ pends u .BCAST_FRAME ∧ Changes s u [.now, .coll] [(BAT_ERR2.BCAST, 0)])) ∧
  (∀ (s : State), 4096 ≤ s.step.sinceFrame → s.step.missRep = false →
    Completes .bcastMiss s fun t =>
      t.f STP_STATUS.BCAST_MISS = 1 ∧ pends t .BCAST_MISS ∧ t.step = { s.step with missRep := true } ∧
      Changes s t [.step, .clock, .coll] [(STP_STATUS.BCAST_MISS, 0)]) ∧
  (∀ (rs : List (Nat × RgnRead)) (s : State), (Instr.samplePeriod rs).wellFormed = true → s.powered = true →
    Completes (.samplePeriod rs) s fun t =>
      t.now = (s.now / 50 + 1) * 50 ∧ t.balCtr = (if s.blockReset = none ∧ s.resume ≠ some 0 then s.balCtr + 1 else s.balCtr) ∧
      t.step.base = s.step.base) ∧
  (∀ (p : Port) (s : State), s.serving = true →
    Completes (.stepCountRead p) s fun t =>
      t.step = { s.step with capCount := s.step.count, capFine := s.fine } ∧ t.host.rdata = BitVec.ofNat 32 s.step.count ∧
      Changes s t [.step, .host] []) ∧
  (∀ (h : Fin 256) (s : State), 8 ≤ (s.heat h).atRun → (s.heat h).atTgt = false →
    Completes (.heatAtTarget h) s fun t =>
      t.heat h = { s.heat h with atTgt := true } ∧ heatsKept s t [h] ∧ t.lanes = s.lanes ∧ t.rgns = s.rgns ∧
      (s.slotsIn (fun t => t.st = .MOVING) = [] → s.lim.low ≠ .rising → Changes s t [.heats] []))

/-- The link layer of Baton (R207 to R214, R220, R249). -/
def Obligations.BatonLinkCarriesNotices : Prop :=
  (∀ (bits : BitVec 80) (edges : Nat) (s : State), s.powered = true → s.baton.up = true → 20 ≤ edges →
      crc16 (BitVec.ofNat 64 (bits.toNat / 65536)) = bits.toNat % 65536 →
    let p : BitVec 64 := BitVec.ofNat 64 (bits.toNat / 65536)
    (p.toNat / 2 ^ 60 ≤ 1 → Completes (.batonPacket bits edges) s fun t =>
      t.baton = { s.baton with rxq := s.baton.rxq ++ [p] } ∧ Changes s t [.baton, .pf] pfFields) ∧
    (1 < p.toNat / 2 ^ 60 → seqOf p = s.baton.rxNext → Completes (.batonPacket bits edges) s fun t =>
      t.baton.rxq = s.baton.rxq ++ [p] ∧ t.baton.rxNext = (s.baton.rxNext + 1) % 256 ∧ t.baton.lastRx = s.baton.rxNext ∧
      t.baton.rxUncov = (if 31 ≤ s.baton.rxUncov then 0 else s.baton.rxUncov + 1) ∧ Changes s t [.baton, .pf, .out] pfFields) ∧
    (1 < p.toNat / 2 ^ 60 → seqOf p ≠ s.baton.rxNext → s.f BAT_ERR.SEQ < 255 → Completes (.batonPacket bits edges) s fun t =>
      t.baton.rxq = s.baton.rxq ∧ t.baton.rxNext = s.baton.rxNext ∧ t.baton.episode = true ∧ t.f BAT_ERR.SEQ = s.f BAT_ERR.SEQ + 1 ∧
      pends t .BAT_LINK)) ∧
  (∀ (bits : BitVec 80) (edges : Nat) (s : State), s.powered = true →
      (edges < 20 ∨ crc16 (BitVec.ofNat 64 (bits.toNat / 65536)) ≠ bits.toNat % 65536) → s.f BAT_ERR.CRC < 255 →
    Completes (.batonPacket bits edges) s fun t =>
      t.baton = s.baton ∧ t.f BAT_ERR.CRC = s.f BAT_ERR.CRC + 1 ∧ pends t .BAT_LINK) ∧
  (∀ (s : State), 0 < s.baton.rxUncov →
    Completes .batonLinkAckDue s fun t =>
      t.baton = { s.baton with rxUncov := 0, rxSince := none } ∧
      t.out = s.out ++ (if s.activeHead then [.baton (BitVec.ofNat 64 (2 ^ 60 + s.baton.lastRx * 2 ^ 44))] else []) ∧
      Changes s t [.baton, .pf, .out] pfFields) ∧
  (∀ (s : State) (x : BitVec 64 × Nat) (l : List (BitVec 64 × Nat)), s.baton.unacked = x :: l → x.2 + 2000 ≤ s.now →
    Completes .batonResendTimeout s fun t =>
      t.baton = { s.baton with unacked := s.baton.unacked.map (fun y => (y.1, s.now)) } ∧
      t.out = s.out ++ (if s.activeHead then s.baton.unacked.map (fun y => .baton y.1) else []) ∧
      Changes s t [.baton, .pf, .out] pfFields) ∧
  (∀ (seq : BitVec 8) (body : BitVec 52) (s : State) (rest : List (BitVec 64)), s.baton.up = true →
      s.baton.rxq = payloadOf 0 seq.toNat body :: rest →
    Completes (.nop seq body) s fun t => t.baton = { s.baton with rxq := rest } ∧ Changes s t [.baton, .pacer] []) ∧
  (∀ (seq : BitVec 8) (body : BitVec 52) (s : State), s.baton.up = true → noticeBad 1 body = false → bodyBit body 42 = false →
      s.baton.wait = [] →
    Completes (.link seq body) s fun t =>
      let left := uncovered (bodyField body 51 44) s.baton.unacked
      t.baton.unacked = (if bodyBit body 43 then left.map (fun y => (y.1, s.now)) else left) ∧
      t.out = s.out ++ (if bodyBit body 43 ∧ s.activeHead then left.map (fun y => .baton y.1) else []) ∧
      Changes s t [.baton, .pacer, .pf, .out] pfFields) ∧
  (∀ (seq : BitVec 8) (body : BitVec 52) (s : State), s.baton.up = true → noticeBad 1 body = false → bodyBit body 42 = true →
    Completes (.linkReset seq body) s fun t =>
      t.baton.rxNext = 0 ∧ t.baton.lastRx = 255 ∧ t.baton.txNext = 0 ∧ t.baton.lastTx = 255 ∧ t.baton.unacked = [] ∧ t.baton.wait = [] ∧
      t.out = s.out ∧ Changes s t [.baton, .pacer] []) ∧
  (∀ (ntype : BitVec 4) (seq : BitVec 8) (body : BitVec 52) (s : State), (Instr.noticeUndefined ntype seq body).wellFormed = true →
      s.baton.up = true → s.f BAT_ERR.ENC < 255 →
    Completes (.noticeUndefined ntype seq body) s fun t =>
      t.f BAT_ERR.ENC = s.f BAT_ERR.ENC + 1 ∧ pends t .BAT_ENC ∧ acked s t 6 (nackBody seq.toNat ntype.toNat 0 7 0) ∧
      Changes s t [.baton, .pacer, .coll, .pf, .out] ((BAT_ERR.ENC, 0) :: pfFields))

/-- Set-point notices and the ends of transitions (R216, R224, R229 to R242). -/
def Obligations.SetpointNoticesAct : Prop :=
  (∀ (seq : BitVec 8) (body : BitVec 52) (s : State), s.takesNotice 4 body true false → bodyBit body 5 = false →
    let tag := bodyField body 14 7
    let n := bodyField body 35 28
    let scope := bodyBit body 27
    let d := if scope then n % 4 else s.domOf n
    let v := bodyField body 26 15
    (if scope then s.domRgns d ≠ [] else s.isPlaced n = true) → s.spSrc d = 1 → s.f DOM_VRANGE.VMIN d ≤ v →
      v ≤ max (s.f DOM_VRANGE.VMIN d) (s.f DOM_VRANGE.VMAX d) → s.roomOut 1 = true →
    Completes (.setpoint seq body) s fun t =>
      (t.slot tag).st = .QUEUED ∧ (t.slot tag).ntype = 4 ∧ (t.slot tag).vset = v ∧ (t.slot tag).target = n ∧ (t.slot tag).scope = scope ∧
      (t.slot tag).imm = false ∧ (t.slot tag).gate = bodyBit body 6 ∧ (t.slot tag).latch = false ∧ (t.slot tag).status = 0 ∧
      slotsKept s t [tag] ∧ t.step.queue = s.step.queue ++ [⟨(s.dueOf (bodyField body 51 36)).1, .setpt tag⟩] ∧
      acked s t 2 (acceptBody seq.toNat 4 tag (if (s.dueOf (bodyField body 51 36)).2 then 4 else 0)) ∧
      Changes s t [.step, .baton, .slots, .pacer, .pf, .out] pfFields) ∧
  (∀ (seq : BitVec 8) (body : BitVec 52) (s : State), s.takesNotice 4 body false false → bodyBit body 5 = true →
    let tag := bodyField body 14 7
    let n := bodyField body 35 28
    let scope := bodyBit body 27
    let d := if scope then n % 4 else s.domOf n
    let v := bodyField body 26 15
    (if scope then s.domRgns d ≠ [] else s.isPlaced n = true) → s.spSrc d = 1 → s.f DOM_VRANGE.VMIN d ≤ v →
      v ≤ max (s.f DOM_VRANGE.VMIN d) (s.f DOM_VRANGE.VMAX d) →
    Completes (.setpointImmediate seq body) s fun t =>
      (t.slot tag).st = .QUEUED ∧ (t.slot tag).ntype = 4 ∧ (t.slot tag).vset = v ∧ (t.slot tag).target = n ∧ (t.slot tag).scope = scope ∧
      (t.slot tag).imm = true ∧ (t.slot tag).latch = false ∧ slotsKept s t [tag] ∧
      acked s t 2 (acceptBody seq.toNat 4 tag 0) ∧ Changes s t [.baton, .slots, .pacer, .pf, .out] pfFields) ∧
  (∀ (tag : BitVec 8) (s : State), s.baton.up = true → (s.slot tag.toNat).latch = false →
    let ended (t : State) : Prop :=
      (t.slot tag.toNat).st = .COMPLETE ∧ (t.slot tag.toNat).latch = true ∧ (t.slot tag.toNat).status = 9 ∧ (t.slot tag.toNat).hold = false ∧
      slotsKept s t [tag.toNat] ∧ acked s t 3 (doneBody tag.toNat 9 s.step.count) ∧ t.rgns = s.rgns ∧ t.step.queue = s.step.queue ∧
      Changes s t [.step, .baton, .slots, .pf, .out] pfFields
    ((s.slot tag.toNat).st = .MOVING → (s.slot tag.toNat).execAt + 10000000 ≤ s.now → Completes (.setpointTimeout tag) s ended) ∧
    ((s.slot tag.toNat).st = .MOVING → (s.slot tag.toNat).hold = true →
      (s.slot tag.toNat).execAt + 1000 * clampN 5 100 (s.f BAT_CFG.GATE_TO) ≤ s.now → Completes (.gateTimeout tag) s ended) ∧
    ((s.slot tag.toNat).st = .DEFERRED → (s.slot tag.toNat).hold = false → 1024 ≤ (s.slot tag.toNat).held →
      Completes (.deferTimeout tag) s ended)) ∧
  (∀ (seq : BitVec 8) (body : BitVec 52) (s : State), s.takesNotice 5 body false false → (s.slot (bodyField body 51 44)).ntype = 4 →
    let tag := bodyField body 51 44
    (((s.slot tag).st = .QUEUED ∨ (s.slot tag).st = .DEFERRED) → Completes (.abort seq body) s fun t =>
      (t.slot tag).st = .ABORTED ∧ (t.slot tag).status = 0 ∧ slotsKept s t [tag] ∧
      t.step.queue = s.step.queue.filter (fun e => !decide (e.act = .setpt tag)) ∧ acked s t 7 (abortedBody tag 0) ∧
      Changes s t [.step, .baton, .slots, .pacer, .pf, .out] pfFields) ∧
    ((s.slot tag).st = .MOVING → Completes (.abort seq body) s fun t =>
      (t.slot tag).st = .ABORTED ∧ (t.slot tag).status = 0 ∧ (t.slot tag).hold = false ∧ slotsKept s t [tag] ∧
      (((s.slot tag).priors.map (·.1)).Nodup → ∀ n v, (n, v) ∈ (s.slot tag).priors → (t.rgn n).batonV = v) ∧
      acked s t 7 (abortedBody tag 0) ∧ t.step.queue = s.step.queue ∧
      Changes s t [.step, .rgns, .baton, .slots, .pacer, .pf, .out] pfFields) ∧
    ((s.slot tag).st = .COMPLETE → Completes (.abort seq body) s fun t =>
      (t.slot tag).st = .COMPLETE ∧ (t.slot tag).status = (s.slot tag).status ∧ slotsKept s t [tag] ∧ acked s t 7 (abortedBody tag 3) ∧
      Changes s t [.baton, .slots, .pacer, .pf, .out] pfFields))

/-- ACTIVITY, BARRIER, the slope check, CONFIRM and CANCEL (R218, R219, R222, R254, R258, R284 to R297). -/
def Obligations.ForecastNoticesAct : Prop :=
  (∀ (seq : BitVec 8) (body : BitVec 52) (s : State), s.baton.up = true → noticeBad 2 body = false → s.blockReset = none →
      s.namedRgns (bodyBit body 27) (bodyField body 35 28) ≠ [] → s.pacer.pend.length < 4096 →
    let rc : Rec := ⟨bodyField body 26 23, bodyField body 22 19, bodyBit body 18, bodyField body 11 4 * 2 ^ bodyField body 3 0⟩
    let region := if bodyBit body 27 then bodyField body 35 28 % 4 else bodyField body 35 28
    Completes (.activity seq body) s fun t =>
      t.pacer.pend = s.pacer.pend ++
        [⟨(s.dueOf (bodyField body 51 36)).1, bodyBit body 27, region, bodyField body 17 12, rc, s.pacer.ord + 1⟩] ∧
      (bodyField body 17 12 ≠ 0 → t.groupOpen (bodyField body 17 12) = true) ∧
      t.f COEF_CNT.LATE = (if (s.dueOf (bodyField body 51 36)).2 then min 255 (s.f COEF_CNT.LATE + 1) else s.f COEF_CNT.LATE) ∧
      t.baton.unacked = s.baton.unacked ∧ t.out = s.out) ∧
  (∀ (seq : BitVec 8) (body : BitVec 52) (s : State), s.takesNotice 3 body true true →
      s.namedRgns (bodyBit body 27) (bodyField body 35 28) ≠ [] → s.pacer.barriers.length < 64 →
    let d := s.dueOf (bodyField body 51 36)
    let tag := bodyField body 20 13
    let g := bodyField body 26 21
    let full := decide (32 ≤ d.1 - s.step.count)
    Completes (.barrier seq body) s fun t =>
      t.pacer.barriers = s.pacer.barriers ++ [⟨s.pacer.nextBar, s.namedRgns (bodyBit body 27) (bodyField body 35 28), d.1, tag, seq.toNat, g,
        bodyField body 12 5, full, d.1, 0, s.pacer.ord + 1⟩] ∧
      t.pacer.nextBar = s.pacer.nextBar + 1 ∧ slotsKept s t [tag] ∧ (t.slot tag).ntype = 3 ∧ (t.slot tag).status = (if d.2 then 4 else 0) ∧
      (t.slot tag).st = (if full then .QUEUED else .COMPLETE) ∧ (g ≠ 0 → t.groupOpen g = true) ∧
      (full = true → t.baton.unacked = s.baton.unacked ∧ t.out = s.out) ∧
      (full = false → acked s t 2 (acceptBody seq.toNat 3 tag (if d.2 then 4 else 0)))) ∧
  (∀ (tag : BitVec 8) (s : State) (b : Barrier), s.pacer.barriers.find? (fun b => b.checking ∧ b.tag = tag.toNat) = some b → s.baton.up = true →
      s.inCascade = false →
    let found := (List.range (b.kmax + 1)).find? (fun k => s.slopeOk b k)
    let k := found.getD b.kmax
    Completes (.slopeCheckDone tag) s fun t =>
      { b with due := b.due + k, k := k, checking := false } ∈ t.pacer.barriers ∧ (t.slot b.tag).st = .COMPLETE ∧ slotsKept s t [b.tag] ∧
      t.pacer.pend = s.pacer.pend.map (fun p => if s.ofRelease b.regions b.due p then { p with due := b.due + k } else p) ∧
      (found = none → s.f COEF_CNT.SLOPE < t.f COEF_CNT.SLOPE ∨ t.f COEF_CNT.SLOPE = 255) ∧
      (if k = 0 then acked s t 2 (acceptBody b.seq 3 b.tag 0) else acked s t 4 (b.tag * 2 ^ 44 + k * 2 ^ 36 + ((b.due + k) % 65536) * 2 ^ 20))) ∧
  (∀ (seq : BitVec 8) (body : BitVec 52) (s : State), s.takesNotice 6 body false false → s.groupOpen (bodyField body 51 46) = true →
    let g := bodyField body 51 46
    Completes (.confirm seq body) s fun t =>
      t.pacer.pend = s.pacer.pend.map (fun p => if p.group = g then { p with group := 0 } else p) ∧
      t.pacer.barriers = s.pacer.barriers.map (fun b => if b.group = g then { b with group := 0 } else b) ∧ t.groupOpen g = false ∧
      acked s t 2 (acceptBody seq.toNat 6 g 0) ∧ Changes s t [.baton, .pacer, .pf, .out] pfFields) ∧
  (∀ (seq : BitVec 8) (body : BitVec 52) (s : State), s.takesNotice 7 body false false → s.groupOpen (bodyField body 51 46) = true →
    let g := bodyField body 51 46
    Completes (.cancel seq body) s fun t =>
      t.pacer.pend = s.pacer.pend.filter (fun p => p.group ≠ g) ∧ (∀ b ∈ t.pacer.barriers, b.group ≠ g) ∧
      (∀ b ∈ s.pacer.barriers, (∀ x ∈ s.pacer.barriers, x.group = g → x.id ≠ b.id) → b ∈ t.pacer.barriers) ∧ t.groupOpen g = false ∧
      ((∀ b ∈ s.pacer.barriers, b.group = g → b.checking = false) → acked s t 2 (acceptBody seq.toNat 7 g 0)))

/-- CONTEXT, PERIOD and FREQPT (R216, R246 to R248, R337 to R348). -/
def Obligations.ContextPeriodFreqNoticesAct : Prop :=
  (∀ (seq : BitVec 8) (body : BitVec 52) (s : State), s.takesNotice 8 body true false → s.roomOut 1 = true →
    let d := s.dueOf (bodyField body 51 36)
    let c := bodyField body 35 30
    let tag := bodyField body 27 20
    let queued (act : Action) (t : State) : Prop :=
      t.step.queue = s.step.queue ++ [⟨d.1, act⟩] ∧ (t.slot tag).st = .COMPLETE ∧ (t.slot tag).ntype = 8 ∧
      (t.slot tag).status = (if d.2 then 4 else 0) ∧ slotsKept s t [tag] ∧ acked s t 2 (acceptBody seq.toNat 8 tag (if d.2 then 4 else 0)) ∧
      Changes s t [.step, .baton, .slots, .pacer, .pf, .out] pfFields
    (bodyField body 29 28 = 0 → Completes (.contextSwitch seq body) s (queued (.ctxSwitch c false (s.pacer.ord + 1)))) ∧
    (bodyField body 29 28 = 1 → Completes (.contextSwitchNewUser seq body) s (queued (.ctxSwitch c true (s.pacer.ord + 1)))) ∧
    (bodyField body 29 28 = 2 → Completes (.contextClose seq body) s (queued (.ctxClose c)))) ∧
  (∀ (seq : BitVec 8) (body : BitVec 52) (s : State), s.takesNotice 9 body true true → s.roomOut 1 = true →
      (bodyField body 35 12 = 0 ∨ 256 ≤ bodyField body 35 12) →
    let d := s.dueOf (bodyField body 51 36)
    let tag := bodyField body 11 4
    Completes (.period seq body) s fun t =>
      t.step.queue = s.step.queue ++ [⟨d.1, .period (bodyField body 35 12) tag⟩] ∧ (t.slot tag).st = .COMPLETE ∧ slotsKept s t [tag] ∧
      acked s t 2 (acceptBody seq.toNat 9 tag (if d.2 then 4 else 0)) ∧ Changes s t [.step, .baton, .slots, .pacer, .pf, .out] pfFields) ∧
  (∀ (seq : BitVec 8) (body : BitVec 52) (s : State), s.takesNotice 10 body false false → bodyBit body 47 = false →
      s.freqOk (bodyField body 51 48) = true →
    let tag := bodyField body 46 39
    Completes (.freqpt seq body) s fun t =>
      ((s.creditCfg = true ∨ s.lim.low = .out) → t.f LIM_VT_CFG.CUR = bodyField body 51 48) ∧
      ((s.creditCfg = false ∧ s.lim.low ≠ .out) → t.f LIM_VT_CFG.CUR = s.f LIM_VT_CFG.CUR) ∧
      (t.slot tag).st = .COMPLETE ∧ slotsKept s t [tag] ∧ acked s t 2 (acceptBody seq.toNat 10 tag 0) ∧
      Changes s t [.baton, .slots, .pacer, .pf, .out] ((LIM_VT_CFG.CUR, 0) :: pfFields)) ∧
  (∀ (seq : BitVec 8) (body : BitVec 52) (s : State), s.takesNotice 10 body false false → bodyBit body 47 = true →
      s.fb LIM_STR_STATUS.FLOOR_PEND = true → s.lim.low = .inForce → bodyField body 51 48 ≤ s.lim.floorFp →
    Completes (.freqptFloorAck seq body) s fun t =>
      t.f LIM_VT_CFG.CUR = bodyField body 51 48 ∧ t.f LIM_STR_STATUS.FLOOR_PEND = 0 ∧ t.lim.floorAt = none ∧ t.lim.vtOn = true ∧
      t.lim.low = .inForce ∧
      (s.slotsIn (fun x => x.st = .MOVING) = [] → acked s t 2 (acceptBody seq.toNat 10 (bodyField body 46 39) 0))) ∧
  (∀ (seq : BitVec 8) (body : BitVec 52) (s : State), s.takesNotice 10 body false false → bodyBit body 47 = true →
      s.fb LIM_STR_STATUS.FLOOR_PEND = true → s.lim.low = .released → bodyField body 51 48 = s.f LIM_VT_CFG.NOM →
      s.f LIM_VT_CFG.NOM ≤ s.lim.floorFp →
    Completes (.freqptFloorAck seq body) s fun t =>
      t.f LIM_VT_CFG.CUR = s.f LIM_VT_CFG.NOM ∧ t.f LIM_STR_STATUS.FLOOR_PEND = 0 ∧ t.lim.low = .acked)

/-- Pacer's windows, tables and model (R264, R276 to R279, R299 to R303, R451). -/
def Obligations.PacerCommandsComplete : Prop :=
  (∀ (s : State), s.step.count % 1024 = 0 → s.pacer.winSteps ≠ 0 → s.placed.Nodup →
    Completes .mismatchWindowEnd s fun t =>
      let counts := s.pacer.winVoid = false ∧ s.pacer.winSteps = 1024
      t.pacer = { s.pacer with winSteps := 0, winVoid := false } ∧ (∀ n, n ∉ s.placed → t.rgn n = s.rgn n) ∧
      ∀ n ∈ s.placed, (t.rgn n).sErr = 0 ∧ (t.rgn n).sRef = 0 ∧ (t.rgn n).winBad = false ∧
        let r := s.rgn n
        if counts ∧ r.winBad = false then
          let bad := decide (clampN 5 100 (s.f COEF_MM_CFG.THRESH) * r.sRef < 100 * r.sErr)
          let nb := if bad then r.bad + 1 else 0
          let nc := if bad then 0 else r.clean + 1
          (t.rgn n).bad = nb ∧ (t.rgn n).clean = nc ∧
          (t.rgn n).mode = (if r.mode = .FORECAST ∧ max 1 (s.f COEF_MM_CFG.DEMOTE_N) ≤ nb then .DEMOTED
            else if r.mode = .DEMOTED ∧ max 1 (s.f COEF_MM_CFG.RESTORE_N) ≤ nc then .FORECAST else r.mode) ∧
          (n < 256 → r.sRef ≠ 0 → t.f RGN_PCR_MM.ERR n = min 65535 (1000 * r.sErr / r.sRef) ∧ t.f RGN_PCR_MM.VALID n = 1)
        else (t.rgn n).bad = r.bad ∧ (t.rgn n).clean = r.clean ∧ (t.rgn n).mode = r.mode) ∧
  (∀ (p : Port) (off : BitVec 20) (v : Word) (s : State) (r : Reg) (i : Nat), (r = .COEF_M ∨ r = .COEF_X) → i < r.count → off.toNat = r.offset i →
      s.takes p r i (some 8) → s.fb COEF_CTRL.EN = false →
    Completes (.coefTableWrite p off 0xF#4 v) s fun t =>
      (∀ x ∈ r.fields, t.f x i = v.field x.hi x.lo) ∧ Changes s t [.relay, .out] (r.fields.map (fun x => (x, i)))) ∧
  (∀ (p : Port) (off : BitVec 20) (be : BitVec 4) (v : Word) (s : State) (r : Reg) (i : Nat), (r = .COEF_M ∨ r = .COEF_X) → i < r.count →
      off.toNat = r.offset i → be ≠ 0#4 → s.takes p r i (some 8) → s.fb COEF_CTRL.EN = true →
    Completes (.coefTableWrite p off be v) s fun t =>
      t.f COEF_STATUS.WR_REF = 1 ∧ Changes s t [.relay, .out] [(COEF_STATUS.WR_REF, 0)]) ∧
  (∀ (p : Port) (v : Word) (s : State), s.takes p .COEF_CTRL 0 (some 8) →
    let fs := [(COEF_CTRL.EN, 0), (COEF_CTRL.NET_EN, 0), (COEF_CTRL.SPEC_EN, 0), (COEF_CTRL.TSTEP, 0)]
    Completes (.coefCtrlEnWrite p v) s fun t =>
      (∀ x ∈ Reg.fields .COEF_CTRL, t.f x = v.field x.hi x.lo) ∧
      (if s.fb COEF_CTRL.EN = false ∧ v.field 0 0 = 1 then
        (∀ n ∈ s.placed, (t.rgn n).mode = .HELD ∧ (t.rgn n).bad = 0 ∧ (t.rgn n).clean = 0) ∧ Changes s t [.rgns, .pacer, .relay, .out] fs
      else Changes s t [.relay, .out] fs)) ∧
  (∀ (p : Port) (s : State), s.takes p .REP_CFG 0 (some 9) →
    Completes (.repClear p) s fun t => t.pacer = { s.pacer with bins := tblEmpty } ∧ Changes s t [.pacer, .relay, .out] []) ∧
  (∀ (s : State) (img : List Byte), s.pacer.loading = some img →
    Completes .modelLoadDone s fun t =>
      t.pacer.loading = none ∧ t.boot.modelPort = none ∧ t.boot.modelEn = false ∧
      (match modelCheck (s.opalWord 0).toNat img with
        | .ok m => t.pacer.model = some m ∧ t.f COEF_MODEL.STATUS = 2
        | .error c => t.pacer.model = none ∧ t.f COEF_MODEL.STATUS = c % 16) ∧
      t.f COEF_CTRL.EN = (if s.boot.modelEn then 1 else s.f COEF_CTRL.EN) ∧
      (∀ p, s.boot.modelPort = some p → p < 2 → t.f QB_MBX_STATUS.STATE p = 2 ∧ t.f QB_IRQ_STATUS.MBX p = 1 ∧
        t.f QB_MBX_STATUS.STATUS p = if t.f COEF_MODEL.STATUS = 2 then 0 else 7))

/-- Power figures and the cap (R304 to R311, R316, R331, R384). -/
def Obligations.LimitsFollowTheCap : Prop :=
  (∀ (s : State), s.powered = true →
    Completes .limitsTick s fun t =>
      t.f LIM_PWR0.P_TICK = wattsOf (s.tickPin : Rat) ∧
      t.f LIM_PWR0.A1 = wattsOf (meanTicks 100 (((s.tickPin :: s.lim.pin).take 1000).map (fun (x : Nat) => (x : Rat)))) ∧
      t.f LIM_PWR1.A10 = wattsOf (meanTicks 1000 (((s.tickPin :: s.lim.pin).take 1000).map (fun (x : Nat) => (x : Rat)))) ∧
      t.f LIM_PWR1.PEAK = max (wattsOf (s.tickPin : Rat)) (s.f LIM_PWR1.PEAK) ∧
      t.f LIM_CAP_STATUS.CAP = s.capNow.1 % 4096 ∧ t.f LIM_CAP_STATUS.FALLBACK = (if s.capNow.2 then 1 else 0) ∧ t.lanes = s.lanes) ∧
  (∀ (t : Nat) (s : State), s.powered = true → s.lim.pcapHigh = true →
    Completes (.pcapInEdge false t) s fun u =>
      u.lim = { s.lim with pcapHigh := false, pcapFall := some t } ∧ u.now = max s.now t) ∧
  (∀ (t : Nat) (s : State) (r f : Nat), s.powered = true → s.lim.pcapHigh = false → s.lim.pcapRise = some r → s.lim.pcapFall = some f →
      10000 ≤ t - r → t - r ≤ 1000000 →
    Completes (.pcapInEdge true t) s fun u =>
      u.lim.pcapHigh = true ∧ u.lim.pcapRise = some t ∧ u.lim.pcapValid = some (t - r, f - r) ∧ u.lim.pcapAt = t ∧
      u.lim.pcapRun = s.lim.pcapRun + 1 ∧ (u.lim.pcapLost = true ↔ s.lim.pcapLost = true ∧ s.lim.pcapRun + 1 < 4) ∧
      u.f LIM_CAP_STATUS.DUTY = 1000 * (f - r) / (t - r) % 1024) ∧
  (∀ (s : State), s.powered = true → s.capSrc = 0 → (s.lim.pcapValid = none ∨ s.lim.pcapAt + 2000000 ≤ s.now) → s.lim.pcapRep = false →
    Completes .pcapLost s fun t =>
      t.lim.pcapLost = true ∧ t.lim.cap = clampN 400 3000 (s.f LIM_CAP_REG.FB) ∧ t.f LIM_CAP_STATUS.PCAP_LOST = 1 ∧
      t.f LIM_CAP_STATUS.FALLBACK = 1 ∧ pends t .CAP_LOST) ∧
  (∀ (s : State), s.powered = true → s.capSrc = 1 → (tblGet none s.gauge.latest 52 = none ∨ s.gauge.anaAt + 2000000 < s.now) →
      s.fb LIM_CAP_STATUS.ANA_STALE = false →
    Completes .capAnaStale s fun t =>
      t.lim.anaStale = true ∧ t.lim.cap = clampN 400 3000 (s.f LIM_CAP_REG.FB) ∧ t.f LIM_CAP_STATUS.ANA_STALE = 1 ∧
      t.f LIM_CAP_STATUS.FALLBACK = 1 ∧ pends t .CAP_LOST) ∧
  (∀ (n : Fin 256) (s : State), 20 ≤ (s.rgn n).dtRun → s.lim.thRun.contains n.val = false →
    Completes (.thermalCapRun n) s fun t => t.lim = { s.lim with thRun := s.lim.thRun ++ [n.val] } ∧ Changes s t [.lim] []) ∧
  (∀ (p : Port) (level : BitVec 14) (s : State), s.takes p .LIM_STR_HOST 0 (if level = 0#14 then none else some 12) →
    Completes (.hostStretchLevelWrite p level) s fun t =>
      t.f LIM_STR_HOST.LEVEL = level.toNat ∧ t.lim.ordHost = min 16320 level.toNat ∧
      (s.lim.ordHost = min 16320 level.toNat → Changes s t [.relay, .out] [(LIM_STR_HOST.LEVEL, 0)]) ∧
      (s.lim.ordHost ≠ min 16320 level.toNat → s.inCascade = false → s.roomOwn 1 = true →
        t.step.queue = s.step.queue ++ [⟨if s.creditCfg then s.stretchDue (s.step.count + 1) else s.step.count + s.lead,
          .stretch .HOST (min 16320 level.toNat)⟩] ∧ Changes s t [.step, .lim, .relay, .out] [(LIM_STR_HOST.LEVEL, 0)])) ∧
  (∀ (p : Port) (s : State), s.takes p .LIM_PWR1 0 (some 12) →
    Completes (.clrPeakPower p) s fun t => t.f LIM_PWR1.PEAK = 0 ∧ Changes s t [.relay, .out] [(LIM_PWR1.PEAK, 0)])

/-- The forced lowest state (R332, R335 to R343). -/
def Obligations.LowestStateEntersAndEnds : Prop :=
  (∀ (s : State), s.powered = true → s.lim.alert = false → s.lim.low ≠ .inForce → s.inCascade = false →
    Completes .alertNAssert s fun t =>
      t.lim.alert = true ∧ t.lim.low = .inForce ∧ t.lim.lowFirst = 1 ∧ t.lim.emerg = 15360 ∧ 15360 ≤ t.lim.reqLevel ∧
      t.lim.floorFp = min (s.f LIM_VT_CFG.NOM) (s.f LIM_VT_CFG.FLOOR) ∧ t.f LIM_STR_STATUS.LOWEST = 1 ∧ t.f LIM_STR_STATUS.FLOOR_PEND = 1 ∧
      t.f LIM_ALERT.ALERT_EVT = 1 ∧ pends t .LOWEST ∧
      (s.baton.up = true → acked s t 9 (min (s.f LIM_VT_CFG.NOM) (s.f LIM_VT_CFG.FLOOR) * 2 ^ 48 + 2 ^ 44) ∧ t.lim.floorAt = some s.now)) ∧
  (∀ (s : State), s.powered = true → s.lim.alert = false → s.lim.low = .inForce → s.inCascade = false →
    Completes .alertNAssert s fun t =>
      t.lim = { s.lim with alert := true, lowLast := 1, exitOk := false } ∧ Changes s t [.lim] []) ∧
  (∀ (s : State), s.lim.alert = true →
    Completes .alertNDeassert s fun t => t.lim = { s.lim with alert := false, alertHigh := s.now } ∧ Changes s t [.lim] []) ∧
  (∀ (s : State), s.lim.low = .inForce → s.lim.alert = false → s.lim.alertHigh + s.lowHold ≤ s.now → s.lim.appr = false → s.inCascade = false →
    Completes .lowestStateHoldEnd s fun t =>
      (t.lim.low = .rising ∨ t.lim.low = .released) ∧ t.lim.vtOn = false ∧
      (t.lim.low = .released → t.lim.floorFp = s.f LIM_VT_CFG.NOM ∧ t.f LIM_STR_STATUS.FLOOR_PEND = 1) ∧ t.lanes = s.lanes ∧ t.rgns = s.rgns) ∧
  (∀ (s : State) (a : Nat), s.lim.floorAt = some a → a + 1000000 ≤ s.now → s.fb LIM_STR_STATUS.FLOOR_PEND = true → s.baton.up = true →
    Completes .floorAckTimeout s fun t =>
      t.lim = { s.lim with floorAt := some s.now } ∧ pends t .FLOOR_TO ∧ t.f LIM_CNT.ACK_TO = min 255 (s.f LIM_CNT.ACK_TO + 1) ∧
      acked s t 9 (s.lim.floorFp * 2 ^ 48 + (if s.lim.low = .released then s.lim.lowLast else s.lim.lowFirst) * 2 ^ 44) ∧
      Changes s t [.lim, .coll, .baton, .pf, .out] ((LIM_CNT.ACK_TO, 0) :: pfFields))

/-- Gauge's sequences and its result queue (R360 to R374). -/
def Obligations.GaugeSequencesRun : Prop :=
  (∀ (s : State), s.gaugeOn = true →
    ((∀ k < 16, (s.mod_ k).hk = none) → Completes .housekeepingTick s fun t =>
      (∀ k, t.mod_ k = if k < 16 then { s.mod_ k with hk := some 0, hkCap := k = 0 && s.f LIM_CFG.CAPSRC = 1 } else s.mod_ k) ∧
      Changes s t [.gauge] []) ∧
    ((∃ k < 16, (s.mod_ k).hk ≠ none) → Completes .housekeepingTick s fun t =>
      t.f GAU_STATUS.HK_OVR = min 255 (s.f GAU_STATUS.HK_OVR + 1) ∧ pends t .HK_OVERRUN ∧ Changes s t [.coll] [(GAU_STATUS.HK_OVR, 0)])) ∧
  (∀ (k : Fin 16) (r : Int) (ovr : Bool) (t : Nat) (s : State) (e : Nat), (Instr.conversionDone k r ovr t).wellFormed = true → s.gaugeOn = true →
    let m := s.mod_ k
    let on := s.fb GAU_MOD_CFG.EN k
    let taken (i : Nat) (u : State) : Prop :=
      u.now = max s.now t ∧ tblGet none u.gauge.latest (64 * k + i) = (if ovr then tblGet none s.gauge.latest (64 * k + i) else some r) ∧
      ∀ j, j ≠ k.val → u.mod_ j = s.mod_ j
    (m.inj = some e → Completes (.conversionDone k r ovr t) s fun u =>
      taken (s.injEntry k e).1 u ∧ (u.mod_ k).inj = if on ∧ e < s.f GAU_MOD_CFG.ILEN k then some (e + 1) else none) ∧
    (m.inj = none → m.hk = some e → Completes (.conversionDone k r ovr t) s fun u =>
      taken ((hkList m.hkCap).getD e 50) u ∧ (u.mod_ k).hk = if (hkList m.hkCap).length ≤ e + 1 then none else some (e + 1)) ∧
    (m.inj = none → m.hk = none → s.regNow k = some e → Completes (.conversionDone k r ovr t) s fun u =>
      taken (s.seqEntry k e).1 u ∧
      (u.mod_ k).reg = if on then if e < s.f GAU_MOD_CFG.RLEN k then some (e + 1) else if m.regPend then some 0 else none else none)) ∧
  (∀ (k : Fin 16) (s : State), s.gaugeOn = true → s.fb GAU_MOD_CFG.EN k = true →
    let m := s.mod_ k
    let others (t : State) : Prop := (∀ j, j ≠ k.val → t.mod_ j = s.mod_ j) ∧ Changes s t [.gauge] []
    (s.rsrc k = 1 → s.regNow k = none → m.regDelay = none → Completes (.regularTrigger k) s fun t =>
      t.mod_ k = (if s.f GAU_MOD_DLY.RDLY k = 0 then { m with reg := some 0 } else { m with regDelay := some s.now }) ∧ others t) ∧
    (s.rsrc k = 1 → (s.regNow k ≠ none ∨ m.regDelay ≠ none) → m.regPend = false → Completes (.regularTrigger k) s fun t =>
      t.mod_ k = { m with regPend := true } ∧ others t) ∧
    (s.rsrc k = 1 → (s.regNow k ≠ none ∨ m.regDelay ≠ none) → m.regPend = true → Completes (.regularTrigger k) s fun t =>
      t.f GAU_MOD_STAT.RDROP k = min 255 (s.f GAU_MOD_STAT.RDROP k + 1) ∧ pends t .GAUGE_DROP ∧ Changes s t [.coll] [(GAU_MOD_STAT.RDROP, k)]) ∧
    (s.isrc k = 1 → m.inj = none → m.injDelay = none → Completes (.urgentTrigger k) s fun t =>
      t.mod_ k = (if s.f GAU_MOD_DLY.IDLY k = 0 then { m with inj := some 0 } else { m with injDelay := some s.now }) ∧ others t) ∧
    (s.isrc k = 1 → (m.inj ≠ none ∨ m.injDelay ≠ none) → Completes (.urgentTrigger k) s fun t =>
      t.f GAU_MOD_STAT.IDROP k = min 255 (s.f GAU_MOD_STAT.IDROP k + 1) ∧ pends t .GAUGE_DROP ∧ Changes s t [.coll] [(GAU_MOD_STAT.IDROP, k)])) ∧
  (∀ (k : Fin 16) (s : State) (a : Nat),
    let m := s.mod_ k
    let others (t : State) : Prop := (∀ j, j ≠ k.val → t.mod_ j = s.mod_ j) ∧ Changes s t [.gauge] []
    (m.regDelay = some a → a + 10 * s.f GAU_MOD_DLY.RDLY k ≤ s.now → Completes (.triggerDelayEnd k false) s fun t =>
      t.mod_ k = { m with regDelay := none, reg := some 0 } ∧ others t) ∧
    (m.injDelay = some a → a + 10 * s.f GAU_MOD_DLY.IDLY k ≤ s.now → Completes (.triggerDelayEnd k true) s fun t =>
      t.mod_ k = { m with injDelay := none, inj := some 0 } ∧ others t)) ∧
  (∀ (p : Port) (k : Fin 16) (s : State), s.takes p .GAU_MOD_CFG k none → s.fb GAU_MOD_CFG.EN k = true →
    let m := s.mod_ k
    let others (t : State) : Prop := (∀ j, j ≠ k.val → t.mod_ j = s.mod_ j) ∧ Changes s t [.gauge, .coll, .relay, .out] []
    (s.regNow k = none → m.regDelay = none → Completes (.gauRsw p k) s fun t => t.mod_ k = { m with reg := some 0 } ∧ others t) ∧
    (s.regNow k ≠ none → m.regPend = false → Completes (.gauRsw p k) s fun t =>
      t.mod_ k = { m with reg := s.regNow k, regPend := true } ∧ others t) ∧
    (m.inj = none → m.injDelay = none → Completes (.gauIsw p k) s fun t => t.mod_ k = { m with reg := s.regNow k, inj := some 0 } ∧ others t)) ∧
  (∀ (p : Port) (s : State), s.serving = true → s.heldBy p.master 1 = false →
    (∀ e rest, s.gauge.queue = e :: rest → Completes (.gauQdataRead p) s fun t =>
      t.gauge.queue = rest ∧ t.host.rdata = BitVec.ofNat 32 e.toNat ∧ t.f GAU_QDATA_HI.DATA = e.toNat / 2 ^ 32 ∧
      Changes s t [.gauge, .host] [(GAU_QDATA_LO.DATA, 0), (GAU_QDATA_HI.DATA, 0)]) ∧
    (s.gauge.queue = [] → Completes (.gauQdataRead p) s fun t =>
      t.host.rdata = 0#32 ∧ t.f GAU_QDATA_HI.DATA = 0xC0000000 ∧ Changes s t [.host] [(GAU_QDATA_LO.DATA, 0), (GAU_QDATA_HI.DATA, 0)])) ∧
  (∀ (p : Port) (s : State), s.takes p .GAU_CFG 0 (some 1) →
    Completes (.qclr p) s fun t =>
      t.gauge = { s.gauge with queue := [], lastTime := none, jumped := false, ovfSeen := false } ∧ Changes s t [.gauge, .relay, .out] [])

/-- Gauge's rounds and the telemetry (R375 to R384). -/
def Obligations.GaugeRoundsAndTelemetry : Prop :=
  (∀ (s : State), s.gauge.roundDone = true →
    let rails := (List.range 16).filterMap (fun k => tblGet none s.gauge.latest (64 * k + 50))
    let vin := roundEven (meanR (rails.map fun (r : Int) => ((r * 25000 : Int) : Rat) / 8388608))
    Completes .roundEvaluation s fun t =>
      t.gauge.roundDone = false ∧ t.f GAU_STATUS.EVAL = 1 ∧ (rails ≠ [] → 0 ≤ vin → t.f GAU_VIN.VIN = min 65535 vin.toNat) ∧
      (rails = [] → t.f GAU_VIN.VIN = s.f GAU_VIN.VIN) ∧
      (s.usedSensors.Nodup → ∀ q ∈ s.usedSensors,
        ((s.sensor q).got = true → (t.sensor q).badRun = 0 ∧ (t.sensor q).got = false) ∧
        ((s.sensor q).got = false → (t.sensor q).badRun = min 3 ((s.sensor q).badRun + 1) ∧
          (2 ≤ (s.sensor q).badRun → (t.sensor q).bad = true)))) ∧
  (∀ (s : State), s.gauge.telN ≠ 0 →
    Completes .telemetryUpdate s fun t =>
      t.gauge = { s.gauge with telN := 0, telI := tblEmpty, telP := tblEmpty } ∧
      (s.boot.pause = none → ∀ d < 4,
        t.f DOM_TEL_I.I_MEAN d = min 65535 (roundNat (((tblGet 0 s.gauge.telI d : Nat) : Rat) / ((100 * s.gauge.telN : Nat) : Rat))) ∧
        t.f DOM_TEL_P.P_MEAN d = min 65535 (roundNat (((tblGet 0 s.gauge.telP d : Nat) : Rat) / ((5000000 * s.gauge.telN : Nat) : Rat))) ∧
        ((∃ n ∈ s.domRgns d, (s.rgn n).st.regulating = true) → t.f DOM_TEL_V.V_MEAN d = s.vMean d % 65536)) ∧
      (s.boot.pause.isSome = true → Changes s t [.gauge] []) ∧
      ∀ d < 4, t.f DOM_TEL_I.I_PEAK d = s.f DOM_TEL_I.I_PEAK d ∧ t.f DOM_TEL_P.P_PEAK d = s.f DOM_TEL_P.P_PEAK d ∧
        t.f DOM_TEL_V.V_MIN d = s.f DOM_TEL_V.V_MIN d) ∧
  (∀ (p : Port) (d : Fin 4) (s : State), s.takes p .DOM_TEL_CTRL d none →
    Completes (.domTelClr p d) s fun t =>
      t.f DOM_TEL_I.I_PEAK d = 0 ∧ t.f DOM_TEL_P.P_PEAK d = 0 ∧ t.f DOM_TEL_V.V_MIN d = 0xFFFF ∧
      (∀ n ∈ s.domRgns d, n < 256 → t.f RGN_GAU_V.V_MIN n = 0xFFFF) ∧
      Changes s t [.relay, .out] ([(DOM_TEL_I.I_PEAK, d.val), (DOM_TEL_P.P_PEAK, d.val), (DOM_TEL_V.V_MIN, d.val)] ++
        (s.domRgns d).map (fun n => (RGN_GAU_V.V_MIN, n)))) ∧
  (∀ (p : Port) (s : State), s.takes p .GAU_TSTAT 0 none →
    Completes (.clrPeakTemp p) s fun t => t.f GAU_TSTAT.PEAK = 0x8000 ∧ Changes s t [.relay, .out] [(GAU_TSTAT.PEAK, 0)])

/-- The Ledger's commands (R395 to R402, R405 to R408, R414, R418). -/
def Obligations.LedgerCommandsComplete : Prop :=
  (∀ (p : Port) (sel : BitVec 8) (s : State), s.takes p .LED_SNAP 0 (some 2) → s.led.snapBusy = false →
    Completes (.snap p sel) s fun t =>
      t.led = { s.led with snapBusy := true } ∧ t.f LED_SNAP.VALID = 0 ∧ t.f LED_SNAP.SEL = sel.toNat % 64 ∧
      Changes s t [.led, .relay, .out] [(LED_SNAP.VALID, 0), (LED_SNAP.SEL, 0)]) ∧
  (∀ (s : State), s.led.snapBusy = true →
    Completes .snapshotDone s fun t =>
      t.led = { s.led with snapBusy := false } ∧ t.f LED_SNAP.VALID = 1 ∧
      ∀ k < 8, let x := s.snapEntries.getD k 0
        t.f LED_SN_LO.COUNT_LO k = x / uj % 2 ^ 32 ∧ t.f LED_SN_HI.COUNT_HI k = x / uj / 2 ^ 32 % 2 ^ 32 ∧ t.f LED_SN_REM.REM k = x % uj) ∧
  (∀ (p : Port) (c : Fin 64) (s : State), s.takes p .LED_CTX c (some 2) → s.ctxSt c = .CLOSED →
    Completes (.contextRelease p c) s fun t =>
      t.led.ra = s.led.ra + s.attr c ∧ t.led.rs = s.led.rs + s.spec c ∧ t.attr c = 0 ∧ t.spec c = 0 ∧ t.ctxSt c = .FREE ∧
      (∀ k, k ≠ c.val → t.attr k = s.attr k ∧ t.spec k = s.spec k ∧ t.ctxSt k = s.ctxSt k) ∧ Changes s t [.led, .relay, .out] []) ∧
  (∀ (p : Port) (s : State), s.takes p .LED_REC_CTRL 0 (some 2) →
    let loaded (r : CloseRec) (t : State) : Prop :=
      t.f LED_REC0.CTX = r.ctx % 64 ∧ t.f LED_REC0.END = r.by_ % 4 ∧ t.f LED_REC0.STEP_HI = r.step / 2 ^ 32 % 2 ^ 16 ∧
      t.f LED_REC1.STEP_LO = r.step % 2 ^ 32 ∧ t.f LED_REC2.ATTR_LO = r.attr % 2 ^ 32 ∧ t.f LED_REC3.ATTR_HI = r.attr / 2 ^ 32 % 2 ^ 32 ∧
      t.f LED_REC4.SPEC_LO = r.spec % 2 ^ 32 ∧ t.f LED_REC5.SPEC_HI = r.spec / 2 ^ 32 % 2 ^ 32
    (∀ r rest, s.led.recs = r :: rest → Completes (.recordPop p) s fun t =>
      t.led = { s.led with recs := rest } ∧ loaded r t ∧ t.f LED_REC_CTRL.LOADED = 1) ∧
    (s.led.recs = [] → Completes (.recordPop p) s fun t => t.led = s.led ∧ loaded ⟨0, 0, 0, 0, 0⟩ t ∧ t.f LED_REC_CTRL.LOADED = 0)) ∧
  (∀ (p : Port) (c : Fin 64) (s : State), s.serving = true →
    Completes (.tenantViewRead p c) s fun t =>
      let v := tblGet {} s.led.tv c
      t.host.rdata = BitVec.ofNat 32 v.e ∧ t.led = { s.led with tvCap := tblSet 0 s.led.tvCap c v.words.2.toNat } ∧
      Changes s t [.led, .host] []) ∧
  (∀ (s : State), s.powered = true → s.boot.pause = none →
    Completes .tenantViewRefresh s fun t =>
      (∀ c < 64, tblGet {} t.led.tv c = { tblGet {} s.led.tv c with
        seq := ((tblGet {} s.led.tv c).seq + 1) % 256
        e := if s.led.scrub.isSome then (tblGet {} s.led.tv c).e else s.tenantE c
        st := if s.led.scrub.isSome then (tblGet {} s.led.tv c).st else (s.ctxSt c).code }) ∧
      t.led = { s.led with tv := t.led.tv } ∧ Changes s t [.led] []) ∧
  (∀ (bad : List (Nat × Nat)) (s : State) (x : Scrub), s.led.scrub = some x → x.phase = 2 → s.blockReset = none →
    (s.running = true → Completes (.scrubEnd bad) s fun t =>
      t.led = { s.led with scrub := some { x with phase := 3 } } ∧ t.badWords = s.badWords ++ bad ∧ t.f LED_SCRUB.PHASE = 3 ∧
      t.f LED_SCRUB.TIME = min 4095 ((s.now - x.start) / 1000) ∧ (bad ≠ [] → pends t .INIT_FAIL) ∧
      Changes s t [.badWords, .led, .coll] [(LED_SCRUB.PHASE, 0), (LED_SCRUB.TIME, 0)]) ∧
    (s.running = false → s.led.waiting = [] → Completes (.scrubEnd bad) s fun t =>
      t.led.scrub = none ∧ t.ctxSt x.ctx = .RUNNING ∧ t.badWords = s.badWords ++ bad ∧ t.f LED_SCRUB.PHASE = 0 ∧ t.f LED_SCRUB.DONE_EVT = 1 ∧
      t.f QB_IRQ_STATUS.SCRUB_DONE 0 = 1 ∧ t.f QB_IRQ_STATUS.SCRUB_DONE 1 = 1)) ∧
  (∀ (s : State) (x : Scrub), s.led.scrub = some x → x.phase ≠ 3 → x.overran = false → x.start + 2000000 ≤ s.now →
    Completes .scrubOverrun s fun t =>
      t.led = { s.led with scrub := some { x with overran := true } } ∧ t.f LED_SCRUB.OVERRUN = 1 ∧ pends t .SCRUB_OVERRUN ∧
      Changes s t [.led, .coll] [(LED_SCRUB.OVERRUN, 0)]) ∧
  (∀ (p : Port) (n : Fin 256) (amount : BitVec 17) (s : State), s.takes p .LED_CR_ALLOC 0 (some 2) →
    Completes (.creditAlloc p n amount) s fun t =>
      t.f LED_CR_ALLOC.REGION = n ∧ t.f LED_CR_ALLOC.AMOUNT = amount.toNat ∧
      (s.relay.credit = true → t.led = { s.led with moves := s.led.moves ++ [(n.val, signed 17 amount.toNat)] } ∧
        Changes s t [.led, .relay, .out] [(LED_CR_ALLOC.REGION, 0), (LED_CR_ALLOC.AMOUNT, 0)]) ∧
      (s.relay.credit = false → t.f LED_CR_ALLOC.RES = 2 ∧
        Changes s t [.relay, .out] [(LED_CR_ALLOC.REGION, 0), (LED_CR_ALLOC.AMOUNT, 0), (LED_CR_ALLOC.RES, 0)]))

/-- The fault collector processes, reacts and recovers (R423 to R433, R436, R442 to R445, R447). -/
def Obligations.CollectorProcessesAndRecovers : Prop :=
  (∀ (s : State) (x : Src) (e : Evt), s.nextSrc = some (x, e) →
    let i := x.id
    let en := s.fb FLT_RCT.EN i
    let wc := s.f FLT_CNT.WCOUNT i
    let n := if wc = 0 ∨ (s.src i).winStart + s.fltW i < e.at_ then e.merge else min 255 (wc + e.merge)
    let sev := en && ((s.src i).force || s.fb FLT_CNT.SEV i || decide (s.fltN i ≤ n))
    let set := (if !en then 0 else if sev then s.f FLT_RCT.SEV i else s.f FLT_RCT.NORM i) ||| (if x = .THERM_SHUT then 16 else 0)
    set.testBit 2 = false → Completes .faultProcess s fun t =>
      t.coll.last = i ∧ (t.src i).pend = none ∧ (t.src i).lastEvent = s.now ∧ (∀ j, j ≠ i → t.src j = s.src j) ∧
      t.f FLT_CNT.TOTAL i = min 65535 (s.f FLT_CNT.TOTAL i + e.merge) ∧ t.f FLT_CNT.WCOUNT i = (if en then n % 256 else wc) ∧
      t.fb FLT_CNT.SEV i = (s.fb FLT_CNT.SEV i || (en && decide (s.fltN i ≤ n))) ∧
      t.fb FLT_CNT.FHOLD i = (s.fb FLT_CNT.FHOLD i || set.testBit 4) ∧ t.fb FLT_STATUS.CRST = (s.fb FLT_STATUS.CRST || set.testBit 3) ∧
      t.fb FLT_STATUS.LOST = (s.fb FLT_STATUS.LOST || s.badWords.contains (14, i)) ∧
      (t.reg .FLT_IPEND (i / 32)).getLsbD (i % 32) = ((s.reg .FLT_IPEND (i / 32)).getLsbD (i % 32) || set.testBit 0) ∧
      t.coll.trapAt = (if set.testBit 1 ∧ s.coll.trapAt = none ∧ s.marshalOn then some s.now else s.coll.trapAt) ∧
      (set ≠ 0 → s.fb FLT_FE0.VALID = false → t.fb FLT_FE0.VALID = true ∧ t.f FLT_FE0.SRC = i ∧ t.fb FLT_FE0.SEV = sev ∧
        t.f FLT_FE1.ADDR = e.addr % 2 ^ 32 ∧ t.f FLT_FE2.STEP_LO = e.step % 2 ^ 32 ∧ t.f FLT_FE0.MULTI = s.f FLT_FE0.MULTI) ∧
      (set ≠ 0 → s.fb FLT_FE0.VALID = true → t.f FLT_FE0.MULTI = min 255 (s.f FLT_FE0.MULTI + 1) ∧ t.reg .FLT_FE1 = s.reg .FLT_FE1) ∧
      (let r : LogRec := ⟨i, false, sev, e.merge, e.akind.code, e.addr, e.master.code, e.access.code, e.step, e.fine, e.notime⟩
       if s.coll.log.length < 256 then t.coll.log = s.coll.log ++ [r] ∧ t.f FLT_LOG_CTRL.OVW = s.f FLT_LOG_CTRL.OVW
       else t.coll.log = s.coll.log.tail ++ [r] ∧ t.f FLT_LOG_CTRL.OVW = min 255 (s.f FLT_LOG_CTRL.OVW + 1)) ∧
      t.lanes = s.lanes ∧ t.rgns = s.rgns ∧ t.blockReset = s.blockReset) ∧
  (∀ (i : Fin 128) (x : Src) (s : State), Src.ofId i = some x → s.fb FLT_CNT.SEV i = true → s.levelActive x = false →
      (s.src i).lastEvent + s.fltQ i ≤ s.now → (s.src i).condEnd + s.fltQ i ≤ s.now →
    Completes (.faultRecovery i) s fun t =>
      t.f FLT_CNT.SEV i = 0 ∧ t.f FLT_CNT.WCOUNT i = 0 ∧ t.f FLT_CNT.FHOLD i = 0 ∧ t.f FLT_CNT.RECOV i = min 31 (s.f FLT_CNT.RECOV i + 1) ∧
      t.f FLT_RECOV.RECOV = min (2 ^ 32 - 1) (s.f FLT_RECOV.RECOV + 1) ∧
      (∃ r, t.coll.log.getLast? = some r ∧ r.src = i ∧ r.recovery = true ∧ r.sev = false) ∧
      Changes s t [.coll, .freeCtr]
        [(FLT_CNT.SEV, i), (FLT_CNT.WCOUNT, i), (FLT_CNT.FHOLD, i), (FLT_CNT.RECOV, i), (FLT_RECOV.RECOV, 0), (FLT_LOG_CTRL.OVW, 0)]) ∧
  (∀ (s : State), s.boot.marshal = true → s.coll.halted = false →
    (s.blockReset = none → s.coll.hb + 10000000 ≤ s.now → Completes .watchdog s fun t =>
      pends t .WATCHDOG ∧ t.coll.hb = s.now ∧ Changes s t [.coll] []) ∧
    (Completes .marshalHeartbeat s fun t => t.coll = { s.coll with hb := s.now } ∧ Changes s t [.coll] [])) ∧
  (∀ (s : State) (a : Nat), s.coll.trapAt = some a →
    (s.coll.trapLate = false → a + 1000000 ≤ s.now → Completes .trapHandlerTimeout s fun t =>
      pends t .WATCHDOG ∧ t.coll.trapLate = true ∧ t.coll.trapAt = some a ∧ Changes s t [.coll] []) ∧
    (s.coll.trapHeld = false → Completes .trapReturn s fun t => t.coll = { s.coll with trapAt := none } ∧ Changes s t [.coll] []) ∧
    (s.coll.trapHeld = true → s.marshalOn = true → Completes .trapReturn s fun t =>
      t.coll = { s.coll with trapAt := some s.now, trapHeld := false, trapLate := false } ∧ Changes s t [.coll] [])) ∧
  (∀ (s : State),
    (s.powered = true → s.refLost = false → Completes .refclkLost s fun t =>
      t.refLost = true ∧ t.backup = true ∧ pends t .REFCLK_LOST ∧ Changes s t [.refLost, .backup, .coll] []) ∧
    (s.refLost = true → Completes .refclkReturn s fun t =>
      t.refLost = false ∧ t.backup = false ∧ (t.src Src.REFCLK_LOST.id).condEnd = s.now ∧ Changes s t [.refLost, .backup, .coll] []))

/-- Host commands of the collector, the event log and the table patrol (R436, R439, R445, R447 to R451, R662). -/
def Obligations.CollectorCommandsAndPatrol : Prop :=
  (∀ (p : Port) (s : State), s.takes p .FLT_CTRL 0 (some 3) →
    (Completes (.feArm p) s fun t =>
      t.f FLT_FE0.VALID = 0 ∧ t.f FLT_FE0.MULTI = 0 ∧ Changes s t [.relay, .out] [(FLT_FE0.VALID, 0), (FLT_FE0.MULTI, 0)]) ∧
    (Completes (.fnRel p) s fun t =>
      (∀ x ∈ Src.all, t.f FLT_CNT.FHOLD x.id = if s.levelActive x then s.f FLT_CNT.FHOLD x.id else 0) ∧
      Changes s t [.relay, .out] (Src.all.map (fun x => (FLT_CNT.FHOLD, x.id))))) ∧
  (∀ (p : Port) (s : State), s.takes p .FLT_STATUS 0 none →
    Completes (.crstClear p) s fun t => t.f FLT_STATUS.CRST = 0 ∧ Changes s t [.relay, .out] [(FLT_STATUS.CRST, 0)]) ∧
  (∀ (p : Port) (s : State), s.takes p .FLT_LOG_CTRL 0 (some 3) →
    let fs := (FLT_LOG_CTRL.LOADED, 0) :: ([Reg.FLT_LOG0, .FLT_LOG1, .FLT_LOG2, .FLT_LOG3, .FLT_LOG4].flatMap Reg.fields).map (fun x => (x, 0))
    (∀ r rest, s.coll.log = r :: rest → Completes (.logPop p) s fun t =>
      t.coll = { s.coll with log := rest } ∧ t.f FLT_LOG_CTRL.LOADED = 1 ∧ t.f FLT_LOG0.SRC = r.src % 128 ∧
      t.fb FLT_LOG0.SEV = r.sev ∧ t.fb FLT_LOG0.RECOVERY = r.recovery ∧ t.f FLT_LOG0.MERGED = r.merge % 256 ∧ t.f FLT_LOG1.ADDR = r.addr % 2 ^ 32 ∧
      t.f FLT_LOG2.STEP_LO = r.step % 2 ^ 32 ∧ t.f FLT_LOG3.STEP_HI = r.step / 2 ^ 32 % 2 ^ 16 ∧ Changes s t [.coll, .relay, .out] fs) ∧
    (s.coll.log = [] → Completes (.logPop p) s fun t =>
      t.f FLT_LOG_CTRL.LOADED = 0 ∧ t.f FLT_LOG0.SRC = 0 ∧ t.f FLT_LOG1.ADDR = 0 ∧ Changes s t [.relay, .out] fs)) ∧
  (∀ (s : State), s.marshalOn = true → s.fb GAU_TSTAT.NVM_OK = true → s.boot.copyAt + 1000000000 ≤ s.now →
      s.nvm.log.length + s.coll.fresh.length + 1 ≤ max 1 Config.logPerSector * s.logSectors →
    let new := s.coll.fresh.filter (fun r => r.src ≤ 0x1F || r.sev || r.recovery)
    let loss := if s.f FLT_LOG_CTRL.OVW = 0 then [] else [LogEnt.loss (s.f FLT_LOG_CTRL.OVW)]
    Completes .logCopy s fun t =>
      t.nvm = { s.nvm with log := s.nvm.log ++ new.map (fun r => LogEnt.stored r (s.f BOOT_COUNT.COLD)) ++ loss } ∧
      t.coll = { s.coll with fresh := [] } ∧ t.boot = { s.boot with copyAt := s.now } ∧
      t.f FLT_LOG_CTRL.OVW = 0 ∧ Changes s t [.nvm, .coll, .boot] [(FLT_LOG_CTRL.OVW, 0)]) ∧
  (∀ (tid : Fin 16) (index : Nat) (s : State), (Instr.patrolRead tid index .clean).wellFormed = true → s.tablesInit = true →
    (s.badWords.contains (tid.val, index) = false →
      (Completes (.patrolRead tid index .clean) s fun t => t = s) ∧
      (Completes (.patrolRead tid index .corrected) s fun t => pends t .ECC_CORR ∧ Changes s t [.coll] [])) ∧
    Completes (.patrolRead tid index .uncorrectable) s fun t =>
      (tid = 0 → pends t .UNC_COEF ∧ (tblGet 0 s.pacer.rowMax index < 65536 → ∀ k < 8, t.f COEF_M.M_EVEN (8 * index + k) = tblGet 0 s.pacer.rowMax index ∧
        t.f COEF_M.M_ODD (8 * index + k) = tblGet 0 s.pacer.rowMax index)) ∧
      (tid = 1 → pends t .UNC_COEF ∧ ∀ k < 8, t.reg .COEF_X (8 * index + k) = 0x0F0F0F0F#32) ∧
      (tid = 2 → pends t .UNC_COEF ∧ ∀ k < 16, tblGet 0 t.pacer.rowMax (16 * index + k) = 65535) ∧
      (tid = 3 → pends t .UNC_REP ∧ ∀ k < 16, tblGet 0 t.pacer.bins (16 * index + k) = 0) ∧
      (tid = 4 → pends t .UNC_VTABLE ∧ ∀ k < 8, s.isPlaced index = true →
        t.f RGN_VT.V_EVEN (8 * index + k) = clampN 0 1023 ((s.vrange (s.domOf index)).2 / 100 - 800)) ∧
      (tid = 5 → pends t .UNC_PROFILE ∧ ∀ h ∈ s.allHeats, s.profile h = index / 5 → ∀ n ∈ s.members h, (t.rgn n).fb = true) ∧
      (tid = 6 → pends t .UNC_TRIM ∧ ∀ k < 8, tblGet 0 t.gauge.trimG (8 * index + k) = 0 ∧ tblGet 0 t.gauge.trimO (8 * index + k) = 1024) ∧
      (tid = 9 → pends t .UNC_PACER ∧ t.pacer.model = none ∧ t.f COEF_MODEL.STATUS = 0) ∧
      (tid = 10 → pends t .UNC_MCODE ∧ t.boot.codeOk = false) ∧
      (tid = 11 → pends t .UNC_MDATA ∧ Changes s t [.coll] []) ∧
      (tid = 13 → pends t .UNC_TRACE) ∧
      (tid = 14 → pends t .COLLECTOR_SELF ∧ t.reg .FLT_RCT index = Reg.resetWord .FLT_RCT index)) ∧
  (∀ (n : Fin 256) (s : State), s.marshalOn = true → s.coll.trapAt = none → s.isPlaced n = true →
    Completes (.vtWordRewrite n) s fun t =>
      match s.calibration with
      | .error _ => pends t .VT_HASH ∧ Changes s t [.coll] []
      | .ok b => match (Config.calVt b).find? (fun x => x.1 = n.val) with
        | some x => (∀ k < 8, t.f RGN_VT.V_EVEN (8 * n + k) = x.2.getD (2 * k) 0 % 1024 ∧ t.f RGN_VT.V_ODD (8 * n + k) = x.2.getD (2 * k + 1) 0 % 1024) ∧
          Touches s t [] [.RGN_VT]
        | none => t = s)

/-- Relay links rise and fall (R458, R462, R467, R473 to R476, R557). -/
def Obligations.RelayLinksRiseAndFall : Prop :=
  (∀ (p : Fin 5) (s : State), s.powered = true → s.portOn p = true →
    Completes (.portAligned p) s fun t =>
      t.port p = (if (s.port p).st = .DOWN then { s.port p with st := .TRAIN, since := s.now, aligned := true }
        else { s.port p with aligned := true }) ∧ (∀ q, q ≠ p.val → t.port q = s.port q) ∧ Changes s t [.relay] []) ∧
  (∀ (p : Fin 5) (s : State), (s.port p).st = .TRAIN → (s.port p).aligned = true → (s.port p).since + 10000 ≤ s.now →
    let hello := { s.port p with st := .HELLO, since := s.now, own := none }
    (s.upper p = false → (s.port p).peer = none → Completes (.trainEnd p) s fun t =>
      t.port p = hello ∧ (∀ q, q ≠ p.val → t.port q = s.port q) ∧ Changes s t [.relay] []) ∧
    (s.upper p = true → (s.port p).peer = none → s.fb BOOT_STATUS.ENT_FAIL = false → Completes (.trainEnd p) s fun t =>
      match s.groupKeys with
      | kg :: _ =>
        (∃ own, t.port p = { hello with own := some own, kg := kg, lastSent := s.now } ∧ own.n = Config.nonce128 s.freeCtr ∧ own.id = s.myId) ∧
        (∃ f, t.out = s.out ++ [.relay p f] ∧ f.length = 64 ∧ f.take 4 = [2#8, 0#8, 0#8, 0#8]) ∧
        (∀ q, q ≠ p.val → t.port q = s.port q) ∧ Changes s t [.relay, .out, .freeCtr] []
      | [] => t.port p = hello ∧ Changes s t [.relay] [])) ∧
  (∀ (p : Fin 5) (f : List Byte) (s : State), s.powered = true → s.portOn p = true → frameOk f = true → byteAt f 0 = 2 →
    ((s.port p).st = .TRAIN → Completes (.hello p f) s fun t => match s.openHello f with
      | none => s.f RLY_PERR.TAG p < 255 →
        t.f RLY_PERR.TAG p = s.f RLY_PERR.TAG p + 1 ∧ pends t .RELAY_AUTH ∧ Changes s t [.coll] [(RLY_PERR.TAG, p)]
      | some (h, kg) => t.port p = { s.port p with peer := some h, kg := if s.upper p then (s.port p).kg else kg } ∧ Changes s t [.relay] []) ∧
    ((s.port p).st = .HELLO → s.fb BOOT_STATUS.ENT_FAIL = false → (s.upper p = true → (s.port p).own ≠ none) → Completes (.hello p f) s fun t =>
      ∀ h kg, s.openHello f = some (h, kg) →
      (t.port p).st = (if s.helloAgrees p h then .UP else .REFUSED) ∧ (t.port p).since = s.now ∧ (t.port p).peer = some h ∧
      (s.helloAgrees p h = true → (t.port p).lastData = s.now ∧ (t.port p).lastBoot = some h.boot ∧ (t.port p).txE = 0 ∧
        ∃ own, (t.port p).own = some own ∧ (t.port p).keys = [(0, t.linkKey p h own.n h.n 0)]))) ∧
  (∀ (p : Fin 5) (s : State),
    let x := s.port p
    let down := { x with
      st := .DOWN, since := s.now, own := none, peer := none, keys := [], old := none, rekey := none, waiting := [], unacked := [] }
    let fell (t : State) : Prop :=
      t.port p = down ∧ (∀ q, q ≠ p.val → t.port q = s.port q) ∧ (x.st = .UP → pends t .RELAY_DOWN) ∧ Changes s t [.relay, .coll] []
    (x.st = .HELLO → x.since + 1000000 ≤ s.now → s.fb BOOT_STATUS.ENT_FAIL = false → Completes (.helloTimeout p) s fell) ∧
    (x.st = .REFUSED → x.since + 10000000 ≤ s.now → Completes (.refusedTimeout p) s fell) ∧
    (x.st = .UP → ((x.aligned = false ∧ x.lostAt + 1000 ≤ s.now) ∨ x.lastData + 16000 ≤ s.now) → Completes (.linkLoss p) s fell) ∧
    (x.st = .UP → (2 ^ 32 - 65536 ≤ x.txSeq ∨ 2 ^ 32 - 65536 ≤ x.rx.high.getD 0) → Completes (.seqExhausted p) s fell) ∧
    (x.aligned = true → Completes (.alignmentLoss p) s fun t =>
      t.port p = (if x.st = .TRAIN then { down with aligned := false, lostAt := s.now } else { x with aligned := false, lostAt := s.now }) ∧
      t.f RLY_PERR.ALIGN p = min 255 (s.f RLY_PERR.ALIGN p + 1) ∧ (∀ q, q ≠ p.val → t.port q = s.port q) ∧
      Changes s t [.relay] [(RLY_PERR.ALIGN, p)]))

/-- Relay frames and keys (R464, R469 to R473, R475, R477, R479). -/
def Obligations.RelayFramesAndKeys : Prop :=
  (∀ (p : Fin 5) (f : List Byte) (s : State) (h : RHello) (k : Nat × BitVec 256), s.powered = true → s.portOn p = true → frameOk f = true →
      byteAt f 0 = 1 → (s.port p).st = .UP → (s.port p).peer = some h → (s.port p).keys.find? (fun k => k.1 % 256 = byteAt f 1) = some k →
    let q := leAt f 4 4
    let opened := Config.gcmOpen k.2 (frameIv (linkId h.id s.myId h.port) (k.1 * 2 ^ 32 + q)) (f.take 8) ((f.drop 8).take 40)
      (BitVec.ofNat 128 (ofBe (f.drop 48)))
    s.f RLY_PERR.TAG p < 255 → s.f RLY_PERR.REPLAY p < 255 → Completes (.dataFrame p f) s fun t =>
      match opened with
      | none => t.f RLY_PERR.TAG p = s.f RLY_PERR.TAG p + 1 ∧ pends t .RELAY_AUTH ∧ Changes s t [.coll] [(RLY_PERR.TAG, p)]
      | some m => match (s.port p).accept k.1 q s.now with
        | none => t.f RLY_PERR.REPLAY p = s.f RLY_PERR.REPLAY p + 1 ∧ pends t .RELAY_AUTH ∧ Changes s t [.coll] [(RLY_PERR.REPLAY, p)]
        | some y =>
          (t.port p).rx = y.rx ∧ (t.port p).lastData = s.now ∧
          (byteAt m 1 < 8 → 1 ≤ byteAt m 0 → byteAt m 0 ≤ 0x16 → (byteAt m 1 % 2 = 1 → leAt m 2 2 = (s.port p).rxM) →
            t.relay.rxq = s.relay.rxq ++ [(p.val, byteAt m 0, BitVec.ofNat 272 (leAt m 6 34))] ∧
            (t.port p).rxM = (if byteAt m 1 % 2 = 1 then ((s.port p).rxM + 1) % 65536 else (s.port p).rxM) ∧ t.regs = s.regs)) ∧
  (∀ (p : Fin 5) (s : State) (k : Nat × BitVec 256), (s.port p).st = .UP →
      (s.port p).keys.find? (fun k => k.1 = (s.port p).txE) = some k →
    ((s.port p).lastSent + 500 ≤ s.now → Completes (.frameSendDue p) s fun t =>
      t.port p = { s.port p with txSeq := (s.port p).txSeq + 1, lastSent := s.now } ∧
      t.out = s.out ++ [.relay p (s.frame p 0x01 0 (BitVec.ofNat 272 s.heartbeatBody) k.2)] ∧ Changes s t [.relay, .out] []) ∧
    ((s.port p).unacked ≠ [] → (s.port p).ackAt + 4000 ≤ s.now → Completes (.reliableResend p) s fun t =>
      let n := (s.port p).unacked.length
      t.port p = { s.port p with txSeq := (s.port p).txSeq + n, lastSent := s.now, ackAt := s.now } ∧
      s.out <+: t.out ∧ t.out.length = s.out.length + n ∧ Changes s t [.relay, .out] [])) ∧
  (∀ (p : Fin 5) (s : State), s.isUp p = true → s.upper p = true → (s.port p).rekey = none →
    let started (t : State) : Prop :=
      (t.port p).rekey = some (Config.nonce128 s.freeCtr) ∧ t.freeCtr = s.freeCtr + 1 ∧ (t.port p).keys = (s.port p).keys ∧
      (t.port p).txE = (s.port p).txE ∧ t.carries p 0x0D (mkBody [((Config.nonce128 s.freeCtr).toNat, 16), ((s.port p).txE + 1, 4)])
    ((2 ^ 31 ≤ (s.port p).txSeq ∨ 2 ^ 31 ≤ (s.port p).rx.high.getD 0) → Completes (.rekeyStart p) s started) ∧
    (∀ q : Port, s.takes q .RLY_CTRL 0 (some 11) → Completes (.rlyRekeyWrite q p) s started)) ∧
  (∀ (p : Fin 5) (s : State) (w : RWindow) (left fin : Nat), (s.port p).old = some (w, left, fin) → (left = 0 ∨ fin ≤ s.now) →
    Completes (.epochGraceEnd p) s fun t =>
      t.port p = { s.port p with old := none, keys := (s.port p).keys.filter (fun k => (s.port p).rx.epoch ≤ k.1) } ∧
      (∀ q, q ≠ p.val → t.port q = s.port q) ∧ Changes s t [.relay] []) ∧
  (∀ (p : Fin 5) (body : BitVec 272) (s : State) (h : RHello), (s.port p).peer = some h → s.upper p = false → s.isUp p = true →
      bf body 16 4 = (s.port p).txE + 1 →
    let n := Config.nonce128 s.freeCtr
    let e := (s.port p).txE + 1
    Completes (.rekey p body) s fun t =>
      (t.port p).txE = e ∧ (t.port p).txSeq = 0 ∧ t.freeCtr = s.freeCtr + 1 ∧
      (t.port p).keys = (s.port p).keys ++ [(e, s.linkKey p h n (BitVec.ofNat 128 (bf body 0 16)) e)] ∧
      t.carries p 0x0E (mkBody [(n.toNat, 16), (e, 4)]) ∧ t.regs = s.regs) ∧
  (∀ (p : Fin 5) (body : BitVec 272) (s : State) (h : RHello) (n : BitVec 128), (s.port p).peer = some h → (s.port p).rekey = some n →
      s.isUp p = true → bf body 16 4 = (s.port p).txE + 1 →
    let e := (s.port p).txE + 1
    Completes (.rekeyAck p body) s fun t =>
      t.port p = { s.port p with
        keys := (s.port p).keys ++ [(e, s.linkKey p h n (BitVec.ofNat 128 (bf body 0 16)) e)], txE := e, txSeq := 0, rekey := none } ∧ (∀ q, q ≠ p.val → t.port q = s.port q) ∧ Changes s t [.relay] [])

/-- The cascade's messages (R322 to R326, R343, R498 to R507). -/
def Obligations.CascadeMessagesAct : Prop :=
  (∀ (p : Fin 5) (body : BitVec 272) (s : State),
    Completes (.report p body) s fun t =>
      (t.port p).report = some (⟨bf body 0 2, bf body 2 4, bf body 6 4, bf body 10 4, bf body 14 4, bf body 18 2, bf body 20 6⟩, s.now) ∧
      t.f RLY_STATUS.MEMBERS = min 1024 (bf body 0 2) ∧ (∀ q, q ≠ p.val → t.port q = s.port q) ∧
      Changes s t [.relay] [(RLY_STATUS.MEMBERS, 0)]) ∧
  (∀ (s : State) (key : BitVec 256), s.hasParent = true → s.sends 0 key →
    Completes .reportDue s fun t =>
      posted s t 0 0x02 s.reportBody key ∧ t.f RLY_STATUS.MEMBERS = min 1024 s.sumReport.n ∧
      Changes s t [.relay, .out] [(RLY_STATUS.MEMBERS, 0)]) ∧
  (∀ (p : Fin 5) (body : BitVec 272) (s : State),
    let src := bf body 0 1
    let step := bf body 1 6
    let level := bf body 7 2
    (s.isMaster = false → Completes (.request p body) s fun t =>
      (⟨p, src, step, level⟩ : RReq) ∈ t.relay.reqs ∧
      (s.hasParent = true → s.isUp 0 = true →
        t.subLevel src step ≠ standing ((s.relay.sent.filter (fun e => e.1 = src)).map (fun e => e.2)) step →
        t.carries 0 0x03 (mkBody [(src, 1), (step, 6), (t.subLevel src step, 2), (s.myId, 2)]))) ∧
    (s.isMaster = true → 1 ≤ src → src ≤ 4 → Completes (.request p body) s fun t =>
      let at_ := max step (s.step.count + 16)
      (⟨p, src, at_, level⟩ : RReq) ∈ t.relay.reqs ∧
      (t.treeLevel at_ ≠ standing s.relay.ordered at_ → (at_, t.treeLevel at_) ∈ t.relay.ordered))) ∧
  (∀ (p : Fin 5) (body : BitVec 272) (s : State), s.roomOut 1 = true →
    let step := bf body 0 6
    let late := s.running && decide (step ≤ s.step.count)
    Completes (.order p body) s fun t =>
      t.step.queue = s.step.queue ++ [⟨s.stretchDue step, .stretch .CASCADE (bf body 6 2)⟩] ∧ t.relay.lastOrder = some body ∧
      (∀ c ∈ s.downPorts, s.isUp c = true → t.carries c 0x04 body.toNat) ∧
      (late = true → t.f LIM_STR_STATUS.LATE_ORD = 1 ∧ pends t .ORDER_LATE ∧
        Changes s t [.step, .coll, .relay, .out] [(LIM_STR_STATUS.LATE_ORD, 0)]) ∧
      (late = false → Changes s t [.step, .relay, .out] [])) ∧
  (∀ (p : Fin 5) (body : BitVec 272) (s : State),
    (s.isMaster = true → Completes (.orderNak p body) s fun t => t.relay.nak = true ∧ Changes s t [.relay] []) ∧
    (∀ key, s.isMaster = false → s.hasParent = true → s.sends 0 key → Completes (.orderNak p body) s fun t =>
      posted s t 0 0x05 body.toNat key ∧ Changes s t [.relay, .out] [])) ∧
  (∀ (p : Fin 5) (body : BitVec 272) (s : State),
    let rel := bf body 0 6
    let k := bf body 6 1
    (s.isMaster = true → maxN ((s.relay.delays.filter (fun x => x.1 = rel)).map (fun x => x.2)) < k → Completes (.delay p body) s fun t =>
      (rel, k) ∈ t.relay.delays ∧ (∀ b ∈ t.pacer.barriers, b.rel = rel → b.k = k) ∧
      ∀ c ∈ s.downPorts, s.isUp c = true → t.carries c 0x07 (mkBody [(rel, 6), (k, 1)])) ∧
    (∀ key, s.isMaster = false → s.hasParent = true → s.sends 0 key → Completes (.delay p body) s fun t =>
      posted s t 0 0x06 body.toNat key ∧ Changes s t [.relay, .out] []) ∧
    (Completes (.delayOrder p body) s fun t =>
      (∀ b ∈ t.pacer.barriers, b.rel = rel → b.k = k) ∧
      (∀ b ∈ s.pacer.barriers, b.rel = rel → b.k ≠ k → (∀ x ∈ s.pacer.barriers, x.rel = rel → x.id = b.id → x = b) →
        ∀ x ∈ t.pacer.barriers, x.id = b.id → x.due = rel + k) ∧
      ∀ c ∈ s.downPorts, s.isUp c = true → t.carries c 0x07 body.toNat)) ∧
  (∀ (p : Fin 5) (body : BitVec 272) (s : State),
    (∀ key, s.isMaster = false → s.hasParent = true → s.sends 0 key → Completes (.emerg p body) s fun t =>
      posted s t 0 0x08 body.toNat key ∧ Changes s t [.relay, .out] []) ∧
    (s.isMaster = true → bf body 3 1 = 1 → Completes (.emerg p body) s fun t =>
      (bf body 0 2, bf body 2 1) ∈ t.relay.causes ∧ t.relay.emergency = true ∧ t.relay.exiting = false ∧ t.lim.low = .inForce ∧
      t.lim.lowLast = (if bf body 2 1 % 2 = 1 then 1 else 2) ∧ (s.lim.low ≠ .inForce → t.lim.emerg = 15360 ∧ pends t .LOWEST)) ∧
    (Completes (.emergOrder p body) s fun t =>
      t.relay.lastEmerg = some body ∧ (∀ c ∈ s.downPorts, s.isUp c = true → t.carries c 0x09 body.toNat) ∧
      (bf body 0 1 = 1 → t.lim.low = .inForce ∧ t.lim.lowLast = bf body 1 1) ∧
      (bf body 0 1 = 2 → s.lim.low = .inForce → s.causes = 0 → t.lim.low = .rising ∨ t.lim.low = .released) ∧
      (bf body 0 1 = 2 → ¬(s.lim.low = .inForce ∧ s.causes = 0) → t.lim = { s.lim with exitOk := true }) ∧
      (bf body 0 1 = 3 → t.lim = { s.lim with endStep := some (bf body 2 6) }))) ∧
  (∀ (s : State), s.hasParent = true → s.powered = true → (s.port 0).st = .DOWN → (s.port 0).since + 100000 ≤ s.now →
      s.fb RLY_STATUS.ACTING = false →
    Completes .actingMaster s fun t =>
      t.f RLY_STATUS.ACTING = 1 ∧ t.lanes = s.lanes ∧ (s.inCascade = false → Changes s t [] [(RLY_STATUS.ACTING, 0)]))

/-- Pair mode (R484 to R496). -/
def Obligations.PairCommandsAct : Prop :=
  (∀ (p : Fin 5) (body : BitVec 272) (s : State), s.pairPorts.contains p.val = true →
    Completes (.heartbeat p body) s fun t => t.relay.peerSt = bf body 2 1 ∧ Changes s t [.relay] []) ∧
  (∀ (s : State) (p : Nat) (key : BitVec 256), s.inPair = true → s.pairSt = 1 → s.pairPorts.find? s.isUp = some p → s.sends p key →
    Completes .digestDue s fun t =>
      posted s t p 0x0B (mkBody [(s.relay.digestAt, 6), (s.relay.digest.toNat, 16)]) key ∧ Changes s t [.relay, .out] []) ∧
  (∀ (p : Fin 5) (body : BitVec 272) (s : State), s.inPair = true → s.standby = true → bf body 0 6 = s.relay.digestAt →
    let same := BitVec.ofNat 128 (bf body 6 16) = s.relay.digest
    (same → Completes (.digest p body) s fun t => t.relay.differ = 0 ∧ Changes s t [.relay] []) ∧
    (¬same → s.relay.differ = 0 → Completes (.digest p body) s fun t => t.relay.differ = 1 ∧ Changes s t [.relay] []) ∧
    (∀ q, ¬same → s.relay.differ ≠ 0 → s.pairPorts.find? s.isUp = some q → Completes (.digest p body) s fun t =>
      t.relay.differ = 0 ∧ t.f RLY_STATUS.PAIR = 3 ∧ t.carries q 0x0C 0 ∧ Changes s t [.relay, .out] [(RLY_STATUS.PAIR, 0)])) ∧
  (∀ (p : Fin 5) (body : BitVec 272) (s : State), s.inPair = true →
    (∀ q, bf body 0 1 = 0 → s.pairSt = 1 → s.pairPorts.find? s.isUp = some q → Completes (.resync p body) s fun t =>
      t.freeCtr = s.freeCtr + 1 ∧
      t.carries q 0x0C (mkBody [(2, 1), (0, 4), (s.step.count + 1 + Config.resyncLead s.freeCtr, 24)]) ∧
      Changes s t [.relay, .out, .freeCtr] []) ∧
    (bf body 0 1 = 1 → s.standby = true → Completes (.resync p body) s fun t =>
      t.relay.chunks = s.relay.chunks ++ [(bf body 1 4, bf body 5 24)] ∧ Changes s t [.relay] []) ∧
    (bf body 0 1 = 2 → s.standby = true → Completes (.resync p body) s fun t =>
      t.relay.resyncAt = some (bf body 5 24) ∧ Changes s t [.relay] [])) ∧
  (∀ (q : Port) (s : State) (p : Nat), s.takes q .RLY_CTRL 0 (some 11) → s.standby = true → s.pairPorts.find? s.isUp = some p →
    Completes (.rlyResyncWrite q) s fun t => t.carries p 0x0C 0 ∧ Changes s t [.relay, .out] []) ∧
  (∀ (s : State), s.inPair = true → s.powered = true → s.relay.hbLost = false → s.relay.waitFrame = false → s.relay.fenced = false →
      maxN (s.pairPorts.map (fun p => (s.port p).lastData)) + 1000 * clampN 1 4 (s.f RLY_CFG.HB_TO) ≤ s.now →
    (s.pairSt = 1 → Completes .heartbeatLost s fun t =>
      t.relay = { s.relay with hbLost := true } ∧ pends t .HEARTBEAT_LOST ∧ Changes s t [.relay, .coll] []) ∧
    (s.standby = true → s.blockReset = none → Completes .heartbeatLost s fun t =>
      t.pairAct = true ∧ t.relay.fence = some s.now ∧ t.relay.hbLost = true ∧ t.f RLY_STATUS.PAIR = 1 ∧
      t.f RLY_STATUS.UNSYNC_TKO = (if s.pairSt = 3 then 1 else s.f RLY_STATUS.UNSYNC_TKO) ∧ pends t .HEARTBEAT_LOST ∧
      t.lanes = s.lanes)) ∧
  (∀ (s : State), s.inPair = true → s.powered = true → s.relay.fenced = false →
    Completes .pairFence s fun t =>
      t.relay.fenced = true ∧ t.f RLY_STATUS.PAIR = 4 ∧ t.pairAct = false ∧ t.blockReset = some (s.blockReset.getD s.now)) ∧
  (∀ (s : State),
    (∀ a, s.relay.fence = some a → a + 1000 ≤ s.now → Completes .fenceRelease s fun t =>
      t.relay = { s.relay with fence := none } ∧ Changes s t [.relay] []) ∧
    (s.relay.fence = none → s.relay.fenced = true → Completes .fenceRelease s fun t =>
      t.relay = { s.relay with fenced := false, waitFrame := true } ∧ t.f RLY_STATUS.PAIR = 3 ∧
      Changes s t [.relay] [(RLY_STATUS.PAIR, 0)])) ∧
  (∀ (q : Port) (s : State), s.takes q .RLY_CTRL 0 (some 11) →
    (s.pairSt = 1 → s.relay.peerSt = 2 → Completes (.plannedSwitch q) s fun t =>
      t.relay.switching = true ∧ Changes s t [.relay, .out] []) ∧
    (¬(s.pairSt = 1 ∧ s.relay.peerSt = 2) → s.relay.switching = false → Completes (.plannedSwitch q) s fun t =>
      t.relay = s.relay ∧ t.f RLY_STATUS.SW_REF = 1 ∧ Changes s t [] [(RLY_STATUS.SW_REF, 0)])) ∧
  (∀ (p : Fin 5) (body : BitVec 272) (s : State), s.inPair = true → s.standby = true →
    Completes (.mirror p body) s fun t => match Config.mirrorWrite body with
      | none => match Config.mirrorEntry body with
        | some e => t.step.queue = s.step.queue ++ [e] ∧ Changes s t [.step, .relay] []
        | none => Changes s t [.relay] []
      | some (x, off, be, v) => ∀ r i, regAt off = some (r, i) → s.absent r i = false → r ≠ .RLY_CTRL →
        t.step.queue = s.step.queue ∧ Changes ((s.popMsg p 0x0A body).regWrite x r i v (Word.byteMask be)) t [.step] [])

/-- Credit transfers between instances (R508 to R512). -/
def Obligations.CreditMessagesAct : Prop :=
  (∀ (p : Fin 5) (body : BitVec 272) (s : State),
    let id := bf body 0 2
    let boot := bf body 2 2
    let g := bf body 4 1 * s.f RLY_CR_CFG.UNIT
    let granted := sumN (s.relay.granted.map (fun x => x.2))
    (id ≠ s.f RLY_PPEER.PEER p ∨ (s.port p).lastBoot = none ∨ (s.port p).lastBoot = some boot) →
    (s.f RLY_CFG.ROLE = 1 → s.creditCfg = true → s.relay.granted.find? (fun x => x.1 = id) = none → granted + g ≤ 1000 * s.f RLY_GRP_BUDGET.B →
      Completes (.join p body) s fun t =>
        (id, boot) ∈ t.relay.joined ∧ t.relay.granted = s.relay.granted ++ [(id, g)] ∧
        (s.isUp p = true → t.carries p 0x10 (mkBody [(g, 4), (if g = 0 then 1 else 0, 1)])) ∧ Changes s t [.relay, .out] []) ∧
    (s.f RLY_CFG.ROLE = 1 → s.creditCfg = true → s.relay.granted.find? (fun x => x.1 = id) = none → 1000 * s.f RLY_GRP_BUDGET.B < granted + g →
      Completes (.join p body) s fun t =>
        t.relay.granted = s.relay.granted ∧ (s.isUp p = true → t.carries p 0x10 (mkBody [(0, 4), (1, 1)])) ∧ Changes s t [.relay, .out] []) ∧
    (s.f RLY_CFG.ROLE = 0 → s.hasParent = true → s.isUp 0 = true → Completes (.join p body) s fun t =>
      t.relay.joinq = s.relay.joinq ++ [p.val] ∧ t.carries 0 0x0F body.toNat ∧ Changes s t [.relay, .out] [])) ∧
  (∀ (p : Fin 5) (body : BitVec 272) (s : State) (rest : List Nat),
    (∀ k, k < 5 → s.relay.joinq = k :: rest → Completes (.grant p body) s fun t =>
      t.relay.joinq = rest ∧ (s.isUp k = true → t.carries k 0x10 body.toNat) ∧ Changes s t [.relay, .out] []) ∧
    ((s.relay.joinq = 5 :: rest ∨ s.relay.joinq = []) → s.relay.credit = false → s.creditCfg = true → Completes (.grant p body) s fun t =>
      t.f LED_CR_GRANT.GRANT = bf body 0 4 ∧ t.relay.credit = true ∧ t.led = { s.led with pool := (bf body 0 4 : Nat) } ∧
      Changes s t [.relay, .led] [(LED_CR_GRANT.GRANT, 0)])) ∧
  (∀ (p : Fin 5) (body : BitVec 272) (s : State), s.relay.credit = true → s.led.logRoom = true →
    let kept := if s.led.log.length < 256 then s.led.log else dropOldest s.led.log
    let x := min (bf body 0 4) (s.led.pool - 1000 * (s.f RLY_CR_CFG.RESERVE : Int)).toNat
    let tid := s.myId * 2 ^ 22 + s.relay.tids % 2 ^ 22
    (0 < x → Completes (.crReq p body) s fun t =>
      t.led = { s.led with
        pool := s.led.pool - x, escOut := s.led.escOut + x, log := kept ++ [⟨tid, true, p, .prepared, x, s.step.count, false, s.now⟩] } ∧
      t.relay.tids = (s.relay.tids + 1) % 2 ^ 22 ∧
      (s.isUp p = true → t.carries p 0x12 (mkBody [(tid, 4), (x, 4)])) ∧ Changes s t [.led, .relay, .out] []) ∧
    (s.crEntry (bf body 0 4) false = none → Completes (.crPrep p body) s fun t =>
      t.led.escIn = s.led.escIn + bf body 4 4 ∧ t.led.pool = s.led.pool ∧
      t.led.log = kept ++ [⟨bf body 0 4, false, p, .prepared, bf body 4 4, s.step.count, false, s.now⟩] ∧
      (s.isUp p = true → t.carries p 0x13 (mkBody [(bf body 0 4, 4), (bf body 4 4, 4)])) ∧ Changes s t [.led, .relay, .out] [])) ∧
  (∀ (p : Fin 5) (body : BitVec 272) (s : State) (e : CrEntry), s.crEntry (bf body 0 4) true = some e →
    (e.phase = .prepared → Completes (.crPrepAck p body) s fun t =>
      t.crEntry e.tid true = some { e with phase := .committed, step := s.step.count, closed := false } ∧
      t.led.escOut = s.led.escOut - e.x ∧ t.led.net = s.led.net - e.x ∧ t.led.pool = s.led.pool ∧
      t.f RLY_CR_LNET.LNET p = unsigned 32 (s.lnet p - e.x) ∧ (s.isUp p = true → t.carries p 0x14 (mkBody [(e.tid, 4), (e.x, 4)])) ∧
      Changes s t [.led, .relay, .out] [(RLY_CR_LNET.LNET, p)]) ∧
    (e.phase = .committed → Completes (.crPrepAck p body) s fun t =>
      t.led = s.led ∧ (s.isUp p = true → t.carries p 0x14 (mkBody [(e.tid, 4), (e.x, 4)])) ∧ Changes s t [.relay, .out] []) ∧
    (e.phase = .aborted → Completes (.crPrepAck p body) s fun t =>
      t.led = s.led ∧ (s.isUp p = true → t.carries p 0x16 (mkBody [(e.tid, 4), (e.x, 4)])) ∧ Changes s t [.relay, .out] []) ∧
    (e.phase = .committed → Completes (.crDone p body) s fun t =>
      t.crEntry e.tid true = some { e with closed := true } ∧ Changes s t [.led, .relay] [])) ∧
  (∀ (p : Fin 5) (body : BitVec 272) (s : State) (e : CrEntry), s.crEntry (bf body 0 4) false = some e → e.phase = .prepared →
    (Completes (.crCommit p body) s fun t =>
      t.crEntry e.tid false = some { e with phase := .committed, step := s.step.count, closed := true } ∧
      t.led.escIn = s.led.escIn - e.x ∧ t.led.pool = s.led.pool + e.x ∧ t.led.net = s.led.net + e.x ∧
      t.f RLY_CR_LNET.LNET p = unsigned 32 (s.lnet p + e.x) ∧ (s.isUp p = true → t.carries p 0x15 (mkBody [(e.tid, 4)])) ∧
      Changes s t [.led, .relay, .out] [(RLY_CR_LNET.LNET, p)]) ∧
    (Completes (.crAbort p body) s fun t =>
      t.crEntry e.tid false = some { e with phase := .aborted, step := s.step.count, closed := true } ∧
      t.led.escIn = s.led.escIn - e.x ∧ t.led.pool = s.led.pool ∧ Changes s t [.led, .relay] [])) ∧
  (∀ (s : State) (e : CrEntry) (tid : Nat), s.crEntry tid true = some e → e.phase = .prepared → e.at_ + 1000000 ≤ s.now →
    Completes (.crPrepTimeout tid) s fun t =>
      t.crEntry e.tid true = some { e with phase := .aborted, step := s.step.count, closed := true } ∧
      t.led.escOut = s.led.escOut - e.x ∧ t.led.pool = s.led.pool + e.x ∧
      (s.isUp e.port = true → t.carries e.port 0x16 (mkBody [(e.tid, 4), (e.x, 4)])) ∧ Changes s t [.led, .relay, .out] []) ∧
  (∀ (s : State),
    let due (e : CrEntry) : Prop := e.lend = false ∧ e.phase = .prepared ∧ e.at_ + 100000 ≤ s.now
    Completes .crPrepAckResend s fun t =>
      (∀ e ∈ s.led.log, due e → s.isUp e.port = true → t.carries e.port 0x13 (mkBody [(e.tid, 4), (e.x, 4)])) ∧
      (∀ e ∈ t.led.log, ¬due e) ∧ t.led.pool = s.led.pool ∧ t.led.escIn = s.led.escIn ∧ Changes s t [.led, .relay, .out] [])

/-- Mailbox commands that read (R585, R586, R587, R589). -/
def Obligations.MailboxReadsAnswer : Prop :=
  (∀ (p : Port) (s : State), s.asks p 0x01 →
    Completes (.status p) s fun t =>
      answered s t p 0 0 [(2, (s.reg .BOOT_STATUS).toNat), (3, (s.reg .BOOT_FW_VER).toNat), (4, 1), (5, 0)] ∧ Touches s t [.host] mbxRegs) ∧
  (∀ (p : Port) (s : State), s.asks p 0x02 →
    Completes (.echo p) s fun t =>
      answered s t p 0 0 ((List.range 14).map fun k => (k + 2, s.mbxWord p (k + 1))) ∧ Touches s t [.host] mbxRegs) ∧
  (∀ (p : Port) (s : State), s.asks p 0x40 → s.nvm.log ≠ [] →
    Completes (.logInfo p) s fun t =>
      answered s t p 0 0 [(2, s.nvm.log.length), (3, s.nvm.logFirst), (4, s.nvm.logFirst + s.nvm.log.length - 1)] ∧ Touches s t [.host] mbxRegs) ∧
  (∀ (p : Port) (s : State), s.asks p 0x40 → s.nvm.log = [] →
    Completes (.logInfo p) s fun t => answered s t p 0 0 [(2, 0)] ∧ Touches s t [.host, .freeCtr] mbxRegs) ∧
  (∀ (p : Port) (s : State), s.asks p 0x41 →
    (∀ (r : LogRec) (boot : Nat) (rest : List LogEnt), s.nvm.logFirst ≤ s.mbxWord p 1 →
        s.nvm.log.drop (s.mbxWord p 1 - s.nvm.logFirst) = .stored r boot :: rest →
      Completes (.logRead p) s fun t =>
        answered s t p 0 0 [(3, r.addr), (4, r.step), (7, boot), (14, min 2 (rest.length + 1))] ∧ t.mbxWord p 2 % 128 = r.src % 128 ∧
        t.mbxWord p 2 / 2 ^ 7 % 2 = (if r.sev then 1 else 0) ∧ t.mbxWord p 2 / 2 ^ 25 % 2 = (if r.recovery then 1 else 0) ∧
        t.mbxWord p 5 % 2 ^ 16 = r.step / 2 ^ 32 % 2 ^ 16 ∧ t.mbxWord p 6 % 2 ^ 20 = r.fine % 2 ^ 20 ∧ Touches s t [.host] mbxRegs) ∧
    ((s.mbxWord p 1 < s.nvm.logFirst ∨ s.nvm.logFirst + s.nvm.log.length ≤ s.mbxWord p 1) →
      Completes (.logRead p) s fun t => answered s t p 8 0 [] ∧ Touches s t [.host] mbxRegs)) ∧
  (∀ (p : Port) (s : State) (e : CrEntry), s.asks p 0x42 → s.creditCfg = true → s.led.log[s.mbxWord p 1 % 256]? = some e →
    Completes (.creditLogRead p) s fun t =>
      let ph := match e.phase with
        | .prepared => 0
        | .committed => 1
        | .aborted => 2
      answered s t p 0 0 [(2, e.tid), (3, ph + (if e.lend then 4 else 0)), (4, e.x), (5, e.step), (6, e.step / 2 ^ 32)] ∧
      Touches s t [.host] mbxRegs) ∧
  (∀ (p : Port) (s : State) (cmd : Nat), s.asks p cmd →
      cmd ∉ [0x01, 0x02, 0x10, 0x11, 0x12, 0x13, 0x14, 0x15, 0x20, 0x21, 0x22, 0x30, 0x31, 0x40, 0x41, 0x42, 0x60, 0x61, 0x62, 0x63] →
    Completes (.unknownCmd p) s fun t => answered s t p 2 0 [] ∧ Touches s t [.host] mbxRegs) ∧
  (∀ (p : Port) (s : State), s.asks p 0x22 →
    Completes (.retireRead p) s fun t =>
      answered s t p 0 0 ((2, s.retireList.length) :: (List.range 13).map
        (fun k => (k + 3, s.retireList.getD (s.mbxWord p 1 % 128 + k) 0xFFFF))) ∧ Touches s t [.host] mbxRegs) ∧
  (∀ (p : Port) (s : State), s.host.busy.head? = some p.ix → s.f QB_MBX_STATUS.STATE p.ix = 1 → s.mbxCmd p = 2 → s.powered = true →
    let refused (st ra : Nat) : Prop := Completes (.echo p) s fun t => answered s t p st ra [] ∧ Touches s t [.host] mbxRegs
    ((s.blockReset ≠ none ∨ s.stage = 8) → s.stage ≠ 10 → refused 1 25000) ∧
    (∀ x, s.boot.pause = some x → s.blockReset = none → s.stage = 9 → s.boot.marshal = true → s.coll.halted = false →
      refused 1 ((x.since + 35000000 - s.now) / 1000 % 65536)) ∧
    (∀ a, s.coll.trapAt = some a → s.blockReset = none → s.stage = 7 → s.marshalOn = true → refused 1 1000) ∧
    (∀ x, s.led.scrub = some x → s.coll.trapAt = none → s.blockReset = none → s.stage = 7 → s.marshalOn = true →
      refused 1 ((x.start + 2000000 - s.now) / 1000 % 65536)) ∧
    (s.standby = true → s.led.scrub = none → s.coll.trapAt = none → s.blockReset = none → s.stage = 7 → s.marshalOn = true → refused 4 0))

/-- The update session (R540 to R542, R552, R563, R581, R588). -/
def Obligations.UpdateSessionRuns : Prop :=
  (∀ (p : Port) (w : Word) (s : State), s.takes p .BOOT_UPD_DATA 0 (some 0) →
    (s.boot.stageIx ≤ 1023 → Completes (.bootUpdDataWrite p w) s fun t =>
      t.boot = { s.boot with staging := tblSet 0 s.boot.staging s.boot.stageIx w.toNat, stageIx := s.boot.stageIx + 1 } ∧
      Changes s t [.boot, .relay, .out] []) ∧
    (1023 < s.boot.stageIx → Completes (.bootUpdDataWrite p w) s fun t =>
      t.boot = s.boot ∧ t.f BOOT_UPD_STATUS.OVR = 1 ∧ Changes s t [.relay, .out] [(BOOT_UPD_STATUS.OVR, 0)])) ∧
  (∀ (p : Port) (s : State) (first room : Nat), s.asks p 0x10 → s.f QB_SEM.OWNER 0 = p.ix + 1 → s.boot.updOpen = false →
    let kind := s.mbxWord p 1 % 8
    let pages := s.mbxWord p 1 / 65536 % 1024 + 1
    1 ≤ kind → kind ≤ 4 → s.updTarget kind = some (first, room) →
    (pages ≤ room → Completes (.updOpen p) s fun t =>
      answered s t p 0 0 [] ∧ t.boot = { s.boot with updOpen := true, updPages := pages, stageIx := 0 } ∧ t.f BOOT_UPD_STATUS.RES = 1 ∧
      t.f BOOT_UPD_STATUS.KIND = kind ∧ t.f BOOT_UPD_STATUS.NEXT = 0 ∧ t.f BOOT_UPD_STATUS.PORT = p.ix ∧
      Touches s t [.boot, .host] (.BOOT_UPD_STATUS :: mbxRegs)) ∧
    (room < pages → Completes (.updOpen p) s fun t =>
      answered s t p 3 0 [] ∧ t.boot = { s.boot with stageIx := 0 } ∧ Touches s t [.boot, .host] mbxRegs)) ∧
  (∀ (p : Port) (s : State) (first room : Nat), s.asks p 0x11 → s.f QB_SEM.OWNER 0 = p.ix + 1 → s.boot.updOpen = true →
      s.updTarget (s.f BOOT_UPD_STATUS.KIND) = some (first, room) →
    let next := s.f BOOT_UPD_STATUS.NEXT
    let sealed := s.staged
    (s.fb GAU_TSTAT.NVM_OK = false → Completes (.updPage p) s fun t =>
      answered s t p 6 0 [] ∧ t.f BOOT_UPD_STATUS.RES = 2 ∧ pends t .NVM_TEMP ∧ t.boot.updOpen = true ∧ t.nvm = s.nvm) ∧
    (s.fb GAU_TSTAT.NVM_OK = true → s.mbxWord p 1 % 1024 = next → next < s.boot.updPages →
      s.nvm.rotating = false → Completes (.updPage p) s fun t => match s.openPage sealed with
      | .ok _ =>
        answered s t p 0 0 [] ∧ t.page (first + next) = sealed ∧ (∀ k, k ≠ first + next → t.page k = s.page k) ∧
        (next + 1 < 1024 → t.f BOOT_UPD_STATUS.NEXT = next + 1) ∧ t.f BOOT_UPD_STATUS.RES = 1 ∧ t.boot = { s.boot with stageIx := 0 }
      | .error x =>
        answered s t p 7 0 [] ∧ t.f BOOT_UPD_STATUS.RES = (if x = .KEY_EPOCH then 9 else 5) ∧ pends t x ∧ t.nvm = s.nvm ∧
        t.boot = { s.boot with stageIx := 0 })) ∧
  (∀ (p : Port) (s : State) (first room : Nat), s.asks p 0x12 → s.f QB_SEM.OWNER 0 = p.ix + 1 → s.boot.updOpen = true →
    let kind := s.f BOOT_UPD_STATUS.KIND
    s.updTarget kind = some (first, room) → s.f BOOT_UPD_STATUS.NEXT = s.boot.updPages →
    let check := s.checkImage kind ((List.range s.boot.updPages).map (fun j => s.page (first + j)))
    Completes (.updClose p) s fun t => match check with
    | .ok (m, _) =>
      answered s t p 0 0 [(2, 3)] ∧ t.f BOOT_UPD_STATUS.RES = 3 ∧ t.boot = { s.boot with updOpen := false } ∧
      (kind = 1 → t.f BOOT_FW_ALT.VERSION = m.version % 2 ^ 32) ∧ (kind ≠ 4 → t.nvm = s.nvm) ∧
      (kind = 4 → ∀ k, s.freeKeySlot = some k → (t.nvm.key k).st = 1)
    | .error (code, x) =>
      answered s t p 7 0 [(2, code)] ∧ t.f BOOT_UPD_STATUS.RES = code ∧ pends t x ∧ t.boot = { s.boot with updOpen := false } ∧ t.nvm = s.nvm) ∧
  (∀ (p : Port) (s : State), s.asks p 0x13 → s.f QB_SEM.OWNER 0 = p.ix + 1 → (s.boot.updOpen = true ∨ s.f BOOT_UPD_STATUS.RES ≠ 0) →
    Completes (.updAbort p) s fun t =>
      answered s t p 0 0 [] ∧ t.f BOOT_UPD_STATUS.RES = 0 ∧ t.boot = { s.boot with updOpen := false } ∧
      Touches s t [.boot, .host] (.BOOT_UPD_STATUS :: mbxRegs)) ∧
  (∀ (p : Port) (s : State), s.asks p 0x10 → s.f QB_SEM.OWNER 0 ≠ p.ix + 1 →
    Completes (.updOpen p) s fun t => answered s t p 5 0 [] ∧ t.boot = s.boot ∧ t.nvm = s.nvm)

/-- Activation, trials and key rotation (R543 to R549, R552 to R556). -/
def Obligations.ActivationAndTrialsRun : Prop :=
  (∀ (p : Port) (s : State), s.asks p 0x14 → s.f QB_SEM.OWNER 0 = p.ix + 1 → s.fb GAU_TSTAT.NVM_OK = true → s.f BOOT_UPD_STATUS.RES = 3 →
    let other := 1 - s.f BOOT_STATUS.FW_SLOT
    (s.f BOOT_UPD_STATUS.KIND = 1 → Completes (.activate p) s fun t =>
      let ok := (s.checkPart 1 (3 + other)).isOk
      t.boot.pause = some ⟨s.now, other, s.nvm.setInUse, false, ok, some p.ix⟩ ∧ t.stage = 9 ∧
      t.nvm.recs = s.nvm.recs ++ (if ok then [.trialStart other s.nvm.setInUse] else []) ∧ t.f QB_MBX_STATUS.STATE p.ix = 1 ∧ t.host.busy = s.host.busy.erase p.ix ∧
      (s.baton.up = true → acked s t 10 (5 * 2 ^ 48 + s.baton.lastRx * 2 ^ 40)) ∧ t.lanes = s.lanes ∧ t.rgns = s.rgns) ∧
    (s.f BOOT_UPD_STATUS.KIND = 2 → Completes (.activate p) s fun t =>
      t.f BOOT_STATUS.SET_SLOT = 1 - s.f BOOT_STATUS.SET_SLOT ∧ t.boot.setNew = true ∧ t.blockReset = some s.now ∧
      t.nvm.recs = s.nvm.recs ++ [.setUse (1 - s.f BOOT_STATUS.SET_SLOT)] ∧ t.lanes = s.lanes) ∧
    (s.f BOOT_UPD_STATUS.KIND = 3 → Completes (.activate p) s fun t => match s.checkPart 3 8 with
      | .ok x =>
        if Config.modelTables x.2 = none then answered s t p 7 0 [(2, 0xC)] ∧ t.f BOOT_UPD_STATUS.RES = 0xC ∧ t.f COEF_CTRL.EN = 0
        else answered s t p 0 0 [(2, 4)] ∧ t.f BOOT_UPD_STATUS.RES = 4 ∧ t.pacer.loading = some (Config.modelImage x.2) ∧ t.pacer.model = none ∧
          t.f COEF_MODEL.STATUS = 1 ∧ t.f COEF_CTRL.EN = 0 ∧ t.boot.modelEn = s.fb COEF_CTRL.EN
      | .error x => answered s t p 7 0 [(2, 0xC)] ∧ t.f BOOT_UPD_STATUS.RES = 0xC ∧ pends t x.2 ∧ t.pacer = s.pacer) ∧
    (∀ k, s.f BOOT_UPD_STATUS.KIND = 4 → s.nvm.rotating = false → [0, 1].find? (fun k => (s.nvm.key k).st = 1) = some k →
      Completes (.activate p) s fun t =>
        answered s t p 0 0 [(2, 4)] ∧ t.f BOOT_UPD_STATUS.RES = 4 ∧ (t.nvm.key k).st = 2 ∧
        (t.nvm.key (1 - k)).st = (if (s.nvm.key (1 - k)).st = 2 then 3 else (s.nvm.key (1 - k)).st) ∧
        t.nvm.recs = s.nvm.recs ++ [.rotBegin] ∧ t.boot.rotDone = 0)) ∧
  (∀ (p : Port) (s : State), s.asks p 0x31 → (s.f QB_SEM.OWNER 8 = p.ix + 1 ∨ s.f QB_SEM.OWNER 8 = 0) → s.pacer.loading = none →
    Completes (.modelLoad p) s fun t => match s.checkPart 3 8 with
      | .ok x =>
        t.pacer.loading = some (Config.modelImage x.2) ∧ t.pacer.model = none ∧ t.f COEF_MODEL.STATUS = 1 ∧ t.boot.modelPort = some p.ix ∧
        t.f QB_MBX_STATUS.STATE p.ix = 1 ∧ Changes s t [.pacer, .boot, .host] [(COEF_MODEL.STATUS, 0)]
      | .error x => answered s t p 7 0 [(2, s.f COEF_MODEL.STATUS)] ∧ pends t x.2 ∧ t.pacer = s.pacer) ∧
  (∀ (p : Port) (s : State) (x : Trial), s.asks p 0x15 → s.f QB_SEM.OWNER 0 = p.ix + 1 → s.fb GAU_TSTAT.NVM_OK = true → s.nvm.trial = some x →
    Completes (.commit p) s fun t =>
      answered s t p 0 0 [] ∧ t.f BOOT_STATUS.TRIAL = 0 ∧ t.nvm.committed = x.slot ∧ t.nvm.setCommitted = x.set ∧
      t.nvm.recs = s.nvm.recs ++ [.commit] ∧ (s.boot.fw.flags.testBit 0 = true → s.boot.fw.svn ≤ 64 → s.boot.fw.svn ≤ t.opalSvn) ∧
      (s.boot.fw.flags % 8 = 0 → t.opal = s.opal) ∧ t.boot = s.boot) ∧
  (∀ (s : State), s.fb BOOT_STATUS.TRIAL = true → s.marshalOn = true → s.fb GAU_TSTAT.NVM_OK = true → s.boot.minuteAt + 60000000000 ≤ s.now →
    Completes .trialMinute s fun t =>
      t.nvm = { s.nvm with recs := s.nvm.recs ++ [.trialMinute] } ∧ t.boot = { s.boot with minuteAt := s.boot.minuteAt + 60000000000 } ∧
      Changes s t [.nvm, .boot] []) ∧
  (∀ (s : State) (x : Trial), s.nvm.trial = some x → 10 ≤ x.minutes → s.marshalOn = true → s.coll.trapAt = none →
      s.fb GAU_TSTAT.NVM_OK = true → s.f QB_SEM.OWNER 0 = 0 →
    Completes .trialRollback s fun t =>
      let ok := (s.checkPart 1 (3 + s.nvm.committed)).isOk
      t.f QB_SEM.OWNER 0 = 3 ∧ t.boot.pause = some ⟨s.now, s.nvm.committed, s.nvm.setCommitted, true, ok, none⟩ ∧ t.stage = 9 ∧
      t.nvm.recs = s.nvm.recs ++ (if ok then [.rollback] else []) ∧ (ok = true → t.nvm.trial = none) ∧ t.lanes = s.lanes) ∧
  (∀ (s : State) (r e : Nat), s.nvm.rotating = true → s.marshalOn = true → s.fb GAU_TSTAT.NVM_OK = true → s.retiring = some r →
      s.liveEpoch = some e →
    (∀ i k, s.rotPage (s.nvm.key r).epoch = some (i, k) → Completes .rotationPage s fun t => match s.reseal (s.page k) e with
      | some b =>
        t.page k = b ∧ t.page (s.part 2).1 = b ∧ (∀ j, j ≠ k → j ≠ (s.part 2).1 → t.page j = s.page j) ∧
        t.nvm.recs = s.nvm.recs ++ [.rotCopied k, .rotSwitched k] ∧
        t.boot = { s.boot with rotNext := i + 1, rotDone := min 2047 (s.boot.rotDone + 1) } ∧ Changes s t [.nvm, .boot] []
      | none => t.nvm = s.nvm ∧ t.boot = { s.boot with rotNext := i + 1 } ∧ pends t .PAGE_TAG) ∧
    (s.rotPage (s.nvm.key r).epoch = none → Completes .rotationPage s fun t =>
      t.nvm.recs = s.nvm.recs ++ [.rotComplete] ∧ t.nvm.key r = {} ∧ t.nvm.pages = s.nvm.pages ∧ Changes s t [.nvm] []))

/-- The retire list, learned profiles and debug tokens (R86, R87, R558, R582, R588, R614 to R616). -/
def Obligations.StoredListsAndTokens : Prop :=
  (∀ (p : Port) (s : State) (l : List Nat), (s.f QB_SEM.OWNER 14 = p.ix + 1 ∨ s.f QB_SEM.OWNER 14 = 0) → s.fb GAU_TSTAT.NVM_OK = true →
      s.retireArgs p = some l →
    let stored (new : List Nat) (t : State) : Prop :=
      answered s t p 0 0 [(2, new.length)] ∧ t.retireList = new ∧ Touches s t [.nvm, .host] mbxRegs
    let all := l.foldl (fun (acc : List Nat) x => if acc.contains x then acc else acc ++ [x]) s.retireList
    (s.asks p 0x20 → all.length ≤ 128 → Completes (.retireAdd p) s (stored all)) ∧
    (s.asks p 0x20 → 128 < all.length → Completes (.retireAdd p) s fun t => answered s t p 4 0 [] ∧ Touches s t [.host] mbxRegs) ∧
    (s.asks p 0x21 → Completes (.retireRemove p) s (stored (s.retireList.filter (fun x => !l.contains x))))) ∧
  (∀ (s : State),
    let saved (t : State) : Prop :=
      t.boot = { s.boot with saveAt := s.now } ∧ t.nvm.learnEmpty = false ∧
      ∃ c, t.nvm.learned = some c ∧ c.bins = s.pacer.bins ∧ c.len = (if s.pacer.len = 0 then s.boot.learnLen else s.pacer.len)
    (∀ p : Port, s.asks p 0x30 → (s.f QB_SEM.OWNER 14 = p.ix + 1 ∨ s.f QB_SEM.OWNER 14 = 0) → s.fb GAU_TSTAT.NVM_OK = true →
      Completes (.learnSave p) s fun t => saved t ∧ answered s t p 0 0 [] ∧ Touches s t [.nvm, .boot, .host] mbxRegs) ∧
    (s.f BOOT_CFG.LP_SAVE ≠ 0 → s.marshalOn = true → s.coll.trapAt = none → s.led.scrub = none → s.fb GAU_TSTAT.NVM_OK = true →
        s.f QB_SEM.OWNER 0 = 0 → s.boot.saveAt + 60000000000 * s.f BOOT_CFG.LP_SAVE ≤ s.now →
      Completes .learnSaveTimer s fun t => saved t ∧ Changes s t [.nvm, .boot] [])) ∧
  (∀ (p : Port) (s : State), s.asks p 0x60 →
    Completes (.tokenChallenge p) s fun t =>
      let n := Config.nonce128 s.freeCtr
      t.boot = { s.boot with nonce := some (n, s.now) } ∧ t.freeCtr = s.freeCtr + 1 ∧
      answered s t p 0 0 ((List.range 4).map fun k => (k + 2, n.toNat / 2 ^ (32 * k) % 2 ^ 32)) ∧
      Touches s t [.boot, .freeCtr, .host] mbxRegs) ∧
  (∀ (p : Port) (s : State), s.asks p 0x61 →
    let o := s.mbxWord p 1 % 512
    (o % 52 = 0 → o ≤ 260 → Completes (.tokenData p) s fun t =>
      answered s t p 0 0 [] ∧
      (∀ i < 288, tblGet 0 t.boot.token i = if o ≤ i ∧ i < o + 52 then s.mbxWord p (2 + (i - o) / 4) / 256 ^ ((i - o) % 4) % 256
        else tblGet 0 s.boot.token i) ∧ Touches s t [.boot, .host] mbxRegs) ∧
    ((o % 52 ≠ 0 ∨ 260 < o) → Completes (.tokenData p) s fun t => answered s t p 3 0 [] ∧ Touches s t [.host] mbxRegs)) ∧
  (∀ (p : Port) (s : State), s.asks p 0x62 →
    let b := s.tokenBytes
    Completes (.tokenCheck p) s fun t =>
      if s.tokenOk b then
        answered s t p 0 0 [(2, byteAt b 0x24)] ∧ t.f TST_STATUS.RIGHTS = byteAt b 0x24 ∧
        t.boot = { s.boot with nonce := none, rightsEnd := some (s.now + 60000000000 * leAt b 0x25 2) } ∧
        Touches s t [.boot, .host] (.TST_STATUS :: mbxRegs)
      else
        answered s t p 7 0 [] ∧ t.boot = { s.boot with nonce := none } ∧ pends t .TOKEN ∧ Touches s t [.boot, .coll, .host] mbxRegs) ∧
  (∀ (s : State),
    let ended (t : State) : Prop :=
      t.f TST_STATUS.RIGHTS = 0 ∧ t.f TST_OBS_A.SEL = 0 ∧ t.f TST_OBS_B.SEL = 0 ∧ t.boot = { s.boot with rightsEnd := none }
    (∀ p : Port, s.asks p 0x63 → Completes (.tokenRevoke p) s fun t => ended t ∧ answered s t p 0 0 []) ∧
    (∀ e, s.boot.rightsEnd = some e → e ≤ s.now → Completes .tokenExpiry s fun t =>
      ended t ∧ Touches s t [.boot] [.TST_STATUS, .TST_OBS_A, .TST_OBS_B]))

/-- Cold boot, stage by stage (R18, R30, R516 to R537). -/
def Obligations.ColdBootStages : Prop :=
  (∀ (s : State),
    Completes .powerOnReset s fun t =>
      t = { State.reset with pending := s.pending, opal := s.opal, nvm := s.nvm, out := s.out, freeCtr := s.freeCtr }) ∧
  (∀ (ok : Bool) (s : State), s.powered = false →
    let good := (s.opalWord 59).getLsbD 31 && decide (crc32 (s.opalBytes 0 60) = (s.opalWord 60).toNat)
    Completes (.porRelease ok) s fun t =>
      t.powered = true ∧ t.boot.porAt = s.now ∧ t.boot.seeded = ok ∧ t.f BOOT_STATUS.ENT_FAIL = (if ok then 0 else 1) ∧
      t.reg .BOOT_CHIP = s.opalWord 0 ∧ t.f KEY_SVN.SVN = s.opalSvn ∧
      (good = true → t.stage = 2 ∧ t.coll = s.coll) ∧
      (good = false → t.stage = 10 ∧ t.f QB_STATUS.RECOVERY = 1 ∧ ((s.opalWord 59).getLsbD 31 = true → pends t .OPAL))) ∧
  (∀ (bad : List (Nat × Nat)) (s : State), s.powered = true → s.tablesInit = false →
    Completes (.bootTableInitDone bad) s fun t =>
      t.tablesInit = true ∧ t.badWords = bad ∧ t.stage = (if s.stage = 2 then 3 else s.stage) ∧ (bad ≠ [] → pends t .INIT_FAIL) ∧
      Changes s t [.tablesInit, .badWords, .coll] [(BOOT_STATUS.STAGE, 0)]) ∧
  (∀ (s : State), (s.stage = 2 ∨ s.stage = 3) →
    (s.nvm.sfdpOk = true → lastCopied s.nvm.recs = none → Completes .bootHeaderDone s fun t =>
      let bad (x : Src) : Prop := t.stage = 10 ∧ t.f QB_STATUS.RECOVERY = 1 ∧ pends t x
      match s.checkImage 5 [s.page 0] with
      | .ok x =>
        if partsOk s.nvm.size (Config.partTable x.2) then
          t.stage = 4 ∧ t.boot = { s.boot with parts := Config.partTable x.2 } ∧ t.nvm = { s.nvm with cold := min 16777215 (s.nvm.cold + 1) } ∧
          t.f BOOT_COUNT.COLD = min 16777215 (s.nvm.cold + 1)
        else bad .IMAGE_AUTH
      | .error x => bad x.2) ∧
    (s.nvm.sfdpOk = false → Completes .bootHeaderDone s fun t =>
      t.stage = 10 ∧ t.f QB_STATUS.RECOVERY = 1 ∧ t.boot.marshal = false ∧ pends t .QSPI)) ∧
  (∀ (s : State), s.stage = 4 → s.nvm.trial = none → s.nvm.committed ≤ 1 →
    Completes .bootLoadDone s fun t =>
      match s.checkPart 1 (3 + s.nvm.committed), s.calibration with
      | .ok x, .ok _ =>
        t.stage = 5 ∧ t.boot.marshal = true ∧ t.boot.fw = x.1 ∧ t.boot.codeOk = true ∧ t.coll.hb = s.now ∧
        t.f BOOT_STATUS.FW_SLOT = s.nvm.committed ∧ t.f BOOT_FW_VER.VERSION = x.1.version % 2 ^ 32 ∧
        t.place = placeOf (Config.settingsPlace t.boot.settings) ∧ t.gatesOk = Config.settingsGates t.boot.settings ∧
        t.plan = Config.settingsPlan t.boot.settings ∧ t.lanes = s.lanes
      | .ok _, .error _ => t.stage = 10 ∧ t.f QB_STATUS.RECOVERY = 1 ∧ t.boot.marshal = false ∧ pends t .VT_HASH
      | .error _, _ => t.stage = 5 ∨ t.stage = 10) ∧
  (∀ (s : State), s.stage = 4 → s.nvm.trial = none → (∀ k ≤ 1, ∃ x, s.checkPart 1 (3 + k) = .error x) → s.nvm.committed ≤ 1 →
    Completes .bootLoadDone s fun t => t.stage = 10 ∧ t.f QB_STATUS.RECOVERY = 1 ∧ t.boot.marshal = false) ∧
  (∀ (s : State), s.stage = 5 → s.tablesInit = true → s.marshalOn = true → s.blockReset = none →
    Completes .bootLocked s fun t =>
      t.f BOOT_STATUS.LOCK = 1 ∧ t.f QB_STATUS.LOCK = 1 ∧ t.boot.lockedOnce = true ∧ t.stage = 6 ∧
      t.f QB_LANE_CFG.FSW_RUN = t.f QB_LANE_CFG.FSW ∧
      (t.inPair = true → t.f RLY_STATUS.PAIR = (if t.f RLY_CFG.PAIR_POS = 0 then 1 else 3)) ∧
      (∀ m ∈ s.retireList.take 128, m < 2048 → s.isPlaced (m / 8) = true → (t.lane m).st = .RETIRED) ∧
      (∀ m, m ∉ s.retireList → t.lane m = s.lane m)) ∧
  (∀ (s : State) (k : Nat) (rest : List Nat), s.stage = 6 → s.domsLeft = k :: rest →
      (s.boot.domPos = 0 ∨ ∃ a, s.boot.domSettled = some a ∧ a + 100000 * min 100 (s.f BOOT_CFG.GAP) ≤ s.now) →
    let d := s.startOrder.getD k 0
    Completes .domainStartNext s fun t =>
      t.boot = { s.boot with domPos := k + 1, domSettled := none, planDone := false } ∧
      (∀ n ∈ s.domRgns d, (s.rgn n).st = .OFF → s.allOpen n = true → 48 ≤ (s.rgn n).working → (t.rgn n).st = .STARTING) ∧
      (∀ n, n ∉ s.domRgns d → t.rgn n = s.rgn n) ∧ t.lanes = s.lanes) ∧
  (∀ (s : State), s.stage = 6 → s.domsLeft = [] → (s.boot.domPos = 0 ∨ s.boot.domSettled ≠ none) →
    Completes .bootReady s fun t =>
      t.stage = 7 ∧ t.f QB_STATUS.READY = 1 ∧ t.f BOOT_STATUS.DOM_FAIL = s.domFail % 16 ∧ t.baton.up = true ∧
      t.f BOOT_TIME.COLD_T = min 65535 ((s.now - s.boot.porAt) / 10000) ∧ t.f QB_IRQ_STATUS.READY 0 = 1 ∧ t.f QB_IRQ_STATUS.READY 1 = 1 ∧
      (s.fb LIM_STR_STATUS.FLOOR_PEND = false → (∀ n ∈ s.placed, (s.rgn n).st ≠ .DARK) →
        acked s t 10 (1 * 2 ^ 48 + s.baton.lastRx * 2 ^ 40))) ∧
  (∀ (s : State), s.powered = true →
    (Completes (.drbgReseed false) s fun t => t.f BOOT_STATUS.ENT_FAIL = 1 ∧ Changes s t [] [(BOOT_STATUS.ENT_FAIL, 0)]) ∧
    (Completes (.drbgReseed true) s fun t =>
      t.f BOOT_STATUS.ENT_FAIL = 0 ∧ t.boot = { s.boot with seeded := true } ∧
      ((∀ p < 5, (s.port p).st ≠ .HELLO) → Changes s t [.boot] [(BOOT_STATUS.ENT_FAIL, 0)])))

/-- Resets, warm boot and the ACTIVATE pause (R27, R30 to R32, R434, R435, R538, R539, R543, R593, R652). -/
def Obligations.ResetsAndWarmBoot : Prop :=
  (∀ (p : Port) (key : BitVec 16) (s : State), s.takes p .QB_CTRL 0 none →
    (key = 0x0B20#16 → s.blockReset = none → Completes (.softRst p key) s fun t =>
      t.blockReset = some s.now ∧ t.brReaction = false ∧ t.resume = none ∧ t.coll.halted = false ∧ t.boot.marshal = false ∧
      t.boot.updOpen = false ∧ t.boot.warmAt = s.now ∧ t.f QB_STATUS.LOCK = 0 ∧ t.f BOOT_STATUS.LOCK = 0 ∧ t.host.busy = [] ∧
      (s.stage = 7 → t.stage = 8) ∧ (∀ k < 16, t.f QB_SEM.OWNER k = 0) ∧ t.reg .GAU_CFG = Reg.resetWord .GAU_CFG 0 ∧
      (∀ k < 32, t.f QB_MBX_DATA.DATA k = 0) ∧ t.lanes = s.lanes ∧ t.opal = s.opal ∧ t.nvm = s.nvm ∧ t.led = s.led ∧
      (∀ n, (t.rgn n).st = (s.rgn n).st) ∧ (∀ h ∈ s.allHeats, (t.heat h).iH = 0 ∧ (t.heat h).ref = (s.heat h).ref)) ∧
    (key ≠ 0x0B20#16 → Completes (.softRst p key) s fun t =>
      t.f QB_PORT_ERR.RSVD p.ix = min 255 (s.f QB_PORT_ERR.RSVD p.ix + 1) ∧ Changes s t [.relay, .out] [(QB_PORT_ERR.RSVD, p.ix)])) ∧
  (∀ (s : State) (a : Nat), s.blockReset = some a →
    (s.relay.fenced = false → Completes .blockResetRelease s fun t =>
      t.blockReset = none ∧ t.resume = some 0 ∧ t.coll = { s.coll with brRelease := if s.brReaction then some s.now else s.coll.brRelease } ∧
      Changes s t [.blockReset, .resume, .coll] []) ∧
    (s.relay.fenced = true → Completes .blockResetRelease s fun t => t = s)) ∧
  (∀ (s : State), s.powered = true → s.blockReset = none → s.boot.marshal = false → s.coll.halted = false → s.stage = 8 → s.boot.codeOk = true →
      s.nvm.trial = none → s.boot.setNew = false → lastCopied s.nvm.recs = none → s.led.scrub = none → s.coll.trapHeld = false →
    Completes .warmBootEnd s fun t =>
      t.boot.marshal = true ∧ t.boot.lockedOnce = true ∧ t.coll.hb = s.now ∧ t.f BOOT_STATUS.LOCK = 1 ∧ t.f QB_STATUS.LOCK = 1 ∧
      t.stage = (if s.fb QB_STATUS.READY then 7 else 6) ∧ t.f BOOT_COUNT.WARM = min 255 (s.f BOOT_COUNT.WARM + 1) ∧
      t.f BOOT_TIME.WARM_T = min 65535 ((s.now - s.boot.warmAt) / 10000) ∧ t.f QB_IRQ_STATUS.WARM 0 = 1 ∧ t.f QB_IRQ_STATUS.WARM 1 = 1 ∧
      t.lanes = s.lanes ∧ t.place = s.place ∧ t.led = s.led ∧ t.nvm = s.nvm) ∧
  (∀ (s : State), Completes .testReset s fun t =>
    t.test = { s.test with ir := 2, wir := 0, refused := false } ∧ Changes s t [.test] []) ∧
  (∀ (s : State), Completes .cacheDieReset s fun t => t = s) ∧
  (∀ (s : State) (x : Pause) (p : Port), s.boot.pause = some x → x.port = some p.ix → s.coll.trapHeld = false →
    let ended (t : State) : Prop :=
      t.boot.pause = none ∧ t.stage = (if s.fb QB_STATUS.READY then 7 else 6) ∧ t.f QB_MBX_STATUS.STATE p.ix = 2 ∧
      t.f QB_IRQ_STATUS.MBX p.ix = 1 ∧ t.coll.hb = s.now ∧ t.lanes = s.lanes
    (x.ok = false → Completes .activatePauseEnd s fun t =>
      ended t ∧ answered s t p 7 0 [(2, 0xC)] ∧ t.f BOOT_UPD_STATUS.RES = 0xC ∧ t.boot = { s.boot with pause := none } ∧
      (s.baton.up = true → acked s t 10 (6 * 2 ^ 48 + s.baton.lastRx * 2 ^ 40))) ∧
    (x.ok = true → x.slot ≤ 1 → Completes .activatePauseEnd s fun t =>
      ended t ∧ t.f QB_MBX_STATUS.STATUS p.ix = 0 ∧ t.f BOOT_UPD_STATUS.RES = 4 ∧
      ∀ m, s.checkPart 1 (3 + x.slot) = .ok m → t.boot.fw = m.1 ∧ t.boot.codeOk = true ∧ t.f BOOT_STATUS.FW_SLOT = x.slot ∧
        t.f BOOT_FW_VER.VERSION = m.1.version % 2 ^ 32))

/-- Host ports, semaphores and reserved accesses (R566, R570, R575 to R583, R588, R594). -/
def Obligations.HostPortsServe : Prop :=
  (∀ (w : Bool) (s : State), s.powered = true →
    Completes (.portATimeout w) s fun t =>
      t.f QB_PORT_ERR.TMO 0 = min 255 (s.f QB_PORT_ERR.TMO 0 + 1) ∧
      t.host = { s.host with err := true, rdata := if w then s.host.rdata else 0#32 } ∧ Changes s t [.host] [(QB_PORT_ERR.TMO, 0)]) ∧
  (∀ (w : Word) (s : State), s.serving = true →
    (w.field 31 24 = 0 → Completes (.setWin w true) s fun t =>
      t.host = { s.host with winOff := 4 * w.field 19 2, winCount := w.field 22 20, winInc := w.getLsbD 23 } ∧ Changes s t [.host] []) ∧
    (w.field 31 24 ≠ 0 → Completes (.setWin w true) s fun t => t = s) ∧
    (Completes (.setWin w false) s fun t =>
      t.host = { s.host with pecBad := true } ∧ t.f QB_PORT_ERR.PEC 1 = min 255 (s.f QB_PORT_ERR.PEC 1 + 1) ∧ pends t .SMBUS_PEC ∧
      Changes s t [.host, .coll] [(QB_PORT_ERR.PEC, 1)])) ∧
  (∀ (w : Word) (r : Reg) (i : Nat) (s : State), r ∈ [.GAU_TH_CFG, .LANE_CFG, .DOM_SP_CFG, .STR_SEG] → i < r.count → s.takes .B r i none →
      s.host.winOff = r.offset i →
    Completes (.wr [w] true) s fun t =>
      t.reg r i = storeWord r.fields s.locked (s.reg r i) w (BitVec.allOnes 32) ∧
      t.host = { s.host with
        applied := true, refused := false, winOff := if s.host.winInc then (r.offset i + 4) % 2 ^ 20 else r.offset i } ∧
      Touches s t [.host, .coll, .relay, .out] [r]) ∧
  (∀ (w : Word) (k : Nat) (s : State), s.takes .B .GAU_TRIM_SEL 0 none → s.host.winOff = Reg.offset .GAU_TRIM_SEL 0 →
      s.f QB_SEM.OWNER 10 = 1 → s.host.winInc = false → k = s.f QB_PORT_ERR.SEM 1 →
    Completes (.wr [w] true) s fun t =>
      t.host = { s.host with applied := true, refused := true } ∧ t.f QB_PORT_ERR.SEM 1 = min 255 (k + 1) ∧
      Changes s t [.host] [(QB_PORT_ERR.SEM, 1)]) ∧
  (∀ (ws : List Word) (s : State), s.serving = true →
    Completes (.wr ws false) s fun t =>
      t.host = { s.host with pecBad := true, applied := false, refused := false } ∧ pends t .SMBUS_PEC ∧
      Changes s t [.host, .coll] [(QB_PORT_ERR.PEC, 1)]) ∧
  (∀ (s : State) (r : Reg) (i : Nat), s.serving = true → s.host.winCount = 0 → s.host.winOff = r.offset i → i < r.count → noSource r i = false →
      s.absent r i = false → r ∉ [.GAU_QDATA_LO, .STP_COUNT_LO, .LED_TV_LO] →
    let w := ({ s with host := { s.host with replay := [] } }).view r i
    Completes .rd s fun t =>
      t.host = { s.host with replay := [w], winOff := if s.host.winInc then (r.offset i + 4) % 2 ^ 20 else r.offset i } ∧
      t.out = s.out ++ [.smbus (4#8 :: leBytes 4 w.toNat)] ∧ Changes s t [.host, .out] []) ∧
  (∀ (s : State), s.serving = true →
    (Completes .reRd s fun t =>
      t.out = s.out ++ [.smbus (BitVec.ofNat 8 (4 * s.host.replay.length) :: s.host.replay.flatMap (fun w => leBytes 4 w.toNat))] ∧
      Changes s t [.out] []) ∧
    (Completes .stat s fun t =>
      t.host = { s.host with pecBad := false } ∧
      t.out = s.out ++ [.smbus [BitVec.ofNat 8 ((if s.host.applied then 1 else 0) + (if s.host.refused then 2 else 0) +
        (if s.host.pecBad then 4 else 0))]] ∧ Changes s t [.host, .out] []) ∧
    (Completes .smbusTimeout s fun t =>
      t.f QB_PORT_ERR.TMO 1 = min 255 (s.f QB_PORT_ERR.TMO 1 + 1) ∧ Changes s t [] [(QB_PORT_ERR.TMO, 1)]) ∧
    (∀ code : BitVec 8, (Instr.smbUndefinedCommand code).wellFormed = true → Completes (.smbUndefinedCommand code) s fun t => t = s)) ∧
  (∀ (x : Master) (i : Fin 16) (tag : BitVec 8) (s : State), s.serving = true → s.blockReset = none →
      (x = .marshal ∨ s.standby = false) →
    (s.f QB_SEM.OWNER i = 0 → Completes (.semTake x i tag) s fun t =>
      t.f QB_SEM.OWNER i = x.owner ∧ t.f QB_SEM.TAG i = tag.toNat ∧ Changes s t [.relay, .out] [(QB_SEM.OWNER, i), (QB_SEM.TAG, i)]) ∧
    (s.f QB_SEM.OWNER i ≠ 0 → Completes (.semTake x i tag) s fun t => Changes s t [.relay, .out] []) ∧
    (s.f QB_SEM.OWNER i = x.owner → Completes (.semRel x i) s fun t =>
      t.f QB_SEM.OWNER i = 0 ∧ Changes s t [.relay, .out] [(QB_SEM.OWNER, i)]) ∧
    (s.f QB_SEM.OWNER i ≠ x.owner → Completes (.semRel x i) s fun t => Changes s t [.relay, .out] [])) ∧
  (∀ (p : Port) (i : Fin 16) (key : BitVec 16) (s : State), s.takes p .QB_SEM_FORCE 0 none →
    (key = 0x0B20#16 → Completes (.semForce p i key) s fun t =>
      t.f QB_SEM.OWNER i = 0 ∧ t.f QB_SEM.FORCED i = 1 ∧ Changes s t [.relay, .out] [(QB_SEM.OWNER, i), (QB_SEM.FORCED, i)]) ∧
    (key ≠ 0x0B20#16 → Completes (.semForce p i key) s fun t =>
      t.f QB_PORT_ERR.RSVD p.ix = min 255 (s.f QB_PORT_ERR.RSVD p.ix + 1) ∧ Changes s t [.relay, .out] [(QB_PORT_ERR.RSVD, p.ix)])) ∧
  (∀ (p : Port) (off : BitVec 20) (w : Bool) (s : State), s.serving = true → regAt off.toNat = none →
    Completes (.reservedAccess p off w) s fun t =>
      t.f QB_PORT_ERR.RSVD p.ix = min 255 (s.f QB_PORT_ERR.RSVD p.ix + 1) ∧ (w = false → t.host = { s.host with rdata := 0#32 }) ∧
      (w = true → t.host = s.host) ∧ Changes s t [.host] [(QB_PORT_ERR.RSVD, p.ix)]) ∧
  (∀ (p : Port) (code : BitVec 4) (s : State), s.takes p .QB_LANE_CFG 0 none →
    Completes (.fswWrite p code) s fun t =>
      t.f QB_LANE_CFG.FSW = code.toNat ∧ (8 < code.toNat → pends t .CONFIG) ∧
      (s.boot.lockedOnce = true → s.marshalOn = true → s.fb GAU_TSTAT.NVM_OK = true →
        (t.nvm.setRec (s.f BOOT_STATUS.SET_SLOT)).fsw = some code.toNat) ∧
      (s.boot.lockedOnce = false → t.nvm = s.nvm) ∧ Changes s t [.nvm, .coll, .relay, .out] [(QB_LANE_CFG.FSW, 0)]) ∧
  (∀ (p : Port) (v : Word) (r : Reg) (i : Nat) (s : State), r ∈ [.GAU_TH_CFG, .LANE_CFG, .DOM_SP_CFG, .STR_SEG] → i < r.count →
      s.takes p r i none →
    Completes (.registerWrite p (BitVec.ofNat 20 (r.offset i)) 0xF#4 v) s fun t =>
      t.reg r i = storeWord r.fields s.locked (s.reg r i) v (BitVec.allOnes 32) ∧
      (∀ x ∈ r.fields, x.acc = .rw → t.f x i = v.field x.hi x.lo) ∧ Touches s t [.coll, .relay, .out] [r] ∧
      ∀ k < r.count, k ≠ i → t.reg r k = s.reg r k)

/-- Test access, self-test and Photo-finish (R598 to R612, R616, R619 to R621). -/
def Obligations.TestAndTraceCommands : Prop :=
  (∀ (s : State), s.powered = true →
    let live := s.placed.any (fun n => (s.rgn n).st.regulating || (s.rgn n).st = .STARTING)
    let loads (c : Instr) (ir : Nat) : Prop :=
      Completes c s fun t => t.test = { s.test with ir := ir, refused := false } ∧ Changes s t [.test] []
    let wraps (c : Instr) (wir : Nat) : Prop :=
      Completes c s fun t => t.test = { s.test with wir := wir, refused := false } ∧ Changes s t [.test] []
    (∀ c ir, (c, ir) ∈ [(Instr.extest, 0x00), (.clamp, 0x03), (.highz, 0x04)] →
      (live = false → loads c ir) ∧
      (live = true → Completes c s fun t =>
        t.test = { s.test with ir := ir, refused := true } ∧ t.f TST_STATUS.JREF = 1 ∧ Changes s t [.test] [(TST_STATUS.JREF, 0)])) ∧
    loads .wrapSel 0x08 ∧ loads .wrapDr 0x09 ∧ loads .bypass 0x1F ∧ wraps .wsBypass 0 ∧
    (∀ c wir, (c, wir) ∈ [(Instr.wsExtest, 2), (.wsIntest, 3)] →
      (live = false → wraps c wir) ∧
      (live = true → Completes c s fun t =>
        t.test = { s.test with wir := wir, refused := true } ∧ t.f TST_STATUS.JREF = 1 ∧ Changes s t [.test] [(TST_STATUS.JREF, 0)])) ∧
    (∀ cells, Completes (.samplePreload cells) s fun t =>
      t.test = { s.test with ir := 0x01, refused := false, cells := cells } ∧ Changes s t [.test] []) ∧
    (∀ cells, Completes (.wsPreload cells) s fun t =>
      t.test = { s.test with wir := 1, refused := false, wcells := cells } ∧ Changes s t [.test] []) ∧
    (Completes .idcode s fun t =>
      t.test = { s.test with ir := 0x02, refused := false } ∧ (∃ v, t.out = s.out ++ [.tdo v] ∧ v / 2 ^ 12 % 2 ^ 16 = 0x2048 ∧ v % 2 = 1) ∧
      Changes s t [.test, .out] []) ∧
    ((s.f TST_STATUS.RIGHTS).testBit 2 = false → Completes .privDbg s fun t =>
      t.test = { s.test with ir := 0x10, refused := true } ∧ Changes s t [.test] []) ∧
    ((s.f TST_STATUS.RIGHTS).testBit 2 = true → live = false → Completes .privDbg s fun t =>
      t.test = { s.test with ir := 0x10, refused := false } ∧ (∃ v, t.out = s.out ++ [.tdo v]) ∧ Changes s t [.test, .out, .freeCtr] [])) ∧
  (∀ (m : Fin 2048) (s : State), s.testable m = true → s.test.lst = none →
    let runs (t : State) : Prop :=
      t.test.lst = some (m.val, s.now, (s.rgn (m / 8)).st) ∧ t.f TST_LST_RES.STATUS = 1 ∧ t.f TST_LST_RES.LANE = m ∧
      t.f TST_LST_CTRL.LANE = m ∧ t.lane m = { s.lane m with fastRun := 0, deLeft := 0, de := false, openNs := 0 } ∧
      ∀ k, k ≠ m.val → t.lane k = s.lane k
    (∀ p, s.takes p .TST_LST_CTRL 0 (some 13) → Completes (.laneSelfTest p m) s runs) ∧
    (s.powered = true → Completes (.wsLaneSt m) s fun t => runs t ∧ t.test.wir = 4)) ∧
  (∀ (p : Port) (m : Fin 2048) (s : State), s.takes p .TST_LST_CTRL 0 (some 13) → (s.testable m = false ∨ s.test.lst ≠ none) →
    Completes (.laneSelfTest p m) s fun t => t.f TST_LST_RES.STATUS = 4 ∧ t.test = s.test ∧ t.lanes = s.lanes) ∧
  (∀ (failed : BitVec 8) (s : State) (m at_ : Nat) (st : RgnState), (Instr.selfTestDone failed).wellFormed = true →
      s.test.lst = some (m, at_, st) → s.blockReset = none → (s.rgn (m / 8)).st = st →
    (failed = 0#8 → Completes (.selfTestDone failed) s fun t =>
      t.test = { s.test with lst := none } ∧ t.f TST_LST_RES.STATUS = 2 ∧ t.f TST_LST_RES.FAIL = 0 ∧ t.lanes = s.lanes) ∧
    (failed ≠ 0#8 → (s.lane m).st = .DISABLED → Completes (.selfTestDone failed) s fun t =>
      t.test.lst = none ∧ t.f TST_LST_RES.STATUS = 3 ∧ t.f TST_LST_RES.FAIL = failed.toNat ∧ (t.lane m).st = .FAILED ∧ (t.lane m).cause = 5)) ∧
  (∀ (s : State) (m at_ : Nat) (st : RgnState), s.test.lst = some (m, at_, st) → (s.rgn (m / 8)).st ≠ st →
    Completes .selfTestAbort s fun t =>
      t.test = { s.test with lst := none } ∧ t.f TST_LST_RES.STATUS = 5 ∧ Changes s t [.test] [(TST_LST_RES.STATUS, 0)]) ∧
  (∀ (p : Port) (pin : Fin 2) (v : Word) (s : State),
    let r : Reg := if pin = 0 then .TST_OBS_A else .TST_OBS_B
    let sel := v.field 8 0
    let allowed := sel = 0 ∨ (s.opalWord 59).getLsbD 0 = false ∨ (s.f TST_STATUS.RIGHTS).testBit (if sel < 256 then 0 else 1) = true
    s.takes p r 0 (some 13) →
    (allowed → Completes (.obsSelectWrite p pin v) s fun t =>
      (∀ x ∈ r.fields, t.f x = v.field x.hi x.lo) ∧ Touches s t [.coll, .relay, .out] [r]) ∧
    (¬allowed → Completes (.obsSelectWrite p pin v) s fun t =>
      t.f TST_STATUS.OBS_REF = 1 ∧ Changes s t [.relay, .out] [(TST_STATUS.OBS_REF, 0)])) ∧
  (∀ (p : Port) (s : State), s.takes p .PF_CTRL 0 (some 13) →
    (s.blockReset = none → Completes (.pfArm p) s fun t =>
      t.f PF_CTRL.ARM = 1 ∧ t.f PF_STATUS.FROZEN = 0 ∧ t.f PF_STATUS.TRIG = 0 ∧ t.f PF_STATUS.WRAP = 0 ∧ t.f PF_STATUS.WPTR = 0 ∧
      t.pf = { s.pf with lastTime := none, post := none }) ∧
    (s.fb PF_CTRL.ARM = true → s.fb PF_STATUS.TRIG = false → Completes (.pfSwtrig p) s fun t =>
      t.f PF_STATUS.TRIG = 1 ∧ t.f PF_STATUS.CAUSE = 4 ∧ t.f PF_CTRL.ARM = 1 ∧ t.pf.post = some (min 2047 (s.f PF_TRIG.POST))) ∧
    (s.fb PF_CTRL.ARM = false → Completes (.pfSwtrig p) s fun t => t.pf = s.pf ∧ t.f PF_STATUS.TRIG = s.f PF_STATUS.TRIG)) ∧
  (∀ (s : State), s.fb PF_CTRL.ARM = true → s.pf.post = some 0 →
    Completes .pfFreeze s fun t =>
      t.f PF_CTRL.ARM = 0 ∧ t.f PF_STATUS.FROZEN = 1 ∧ Changes s t [] [(PF_CTRL.ARM, 0), (PF_STATUS.FROZEN, 0)])

/-! ### Frames -/

/-- What the commands of the time base, the lanes, the regions and Stride can change: the named parts of the state and the named registers, and nothing else. -/
def Obligations.RailCommandsFrame : Prop :=
  (Footprint .refclkLost [.refLost, .backup, .coll] []) ∧
  (∀ (t : Nat), Footprint (.stepBoundary t) [.now, .step, .lanes, .rgns, .heats, .heatOf, .gates, .merges, .domV, .planLeft, .baton,
    .slots, .pacer, .coll, .lim, .gauge, .led, .relay, .nvm, .boot, .pf, .out, .clock] Reg.all) ∧
  (Footprint .timeBaseIdle [.step, .baton, .pacer, .pf, .out, .clock] [.PF_STATUS]) ∧
  (∀ (frame : BitVec 64) (stop : Bool) (t : Nat), Footprint (.stepBcastFrame frame stop t) [.now, .step, .coll, .clock] [.BAT_ERR2]) ∧
  (Footprint .bcastMiss [.step, .coll, .clock] [.STP_STATUS]) ∧
  (∀ (rs : List (Nat × RgnRead)), Footprint (.samplePeriod rs) [.now, .resume, .step, .balCtr, .lanes, .rgns, .heats, .heatOf, .gates,
    .merges, .baton, .slots, .pacer, .coll, .lim, .gauge, .led, .boot, .pf, .out] [.LIM_STR_STATUS, .PF_STATUS, .DOM_RCMD_RES, .DOM_TEL_I,
    .DOM_TEL_P, .RGN_EVT, .RGN_STR_STATUS]) ∧
  (∀ (h : Fin 256), Footprint (.heatAtTarget h) [.step, .heats, .baton, .slots, .lim, .pf, .out] [.LIM_STR_STATUS, .PF_STATUS]) ∧
  (Footprint .balancePass [.balCtr, .lanes] []) ∧
  (∀ (m : Fin 2048), Footprint (.fastLimitLatch m) [.step, .lanes, .rgns, .coll, .lim, .relay, .out] [.LIM_STR_STATUS, .LANE_EVT]) ∧
  (∀ (m : Fin 2048), Footprint (.latchEnd m) [.lanes] []) ∧
  (∀ (m : Fin 2048), Footprint (.retryCountClear m) [.lanes] []) ∧
  (∀ (n : Fin 256) (code : Fin 601), Footprint (.startMeasurementDone n code) [.lanes, .rgns, .heats] []) ∧
  (∀ (n : Fin 256), Footprint (.rampEnd n) [.lanes, .rgns, .baton, .coll, .pf, .out] [.PF_STATUS, .RGN_EVT]) ∧
  (∀ (n : Fin 256), Footprint (.falseStart n) [.step, .lanes, .rgns, .heats, .merges, .baton, .slots, .coll, .pf, .out] [.PF_STATUS,
    .DOM_RCMD_RES, .RGN_EVT]) ∧
  (∀ (n : Fin 256), Footprint (.falseStartRetry n) [.step, .rgns, .heats, .baton, .slots, .pf, .out] [.PF_STATUS]) ∧
  (∀ (n : Fin 256), Footprint (.attemptCountClear n) [.rgns] []) ∧
  (∀ (n : Fin 256), Footprint (.overloadFlagSet n) [.rgns] []) ∧
  (∀ (n : Fin 256), Footprint (.overloadFlagClear n) [.rgns, .coll] []) ∧
  (∀ (n : Fin 256), Footprint (.regionOverloadFault n) [.rgns, .coll] []) ∧
  (∀ (n : Fin 256), Footprint (.capacityExceeded n) [.step, .rgns, .coll, .lim, .relay, .out] [.LIM_STR_STATUS]) ∧
  (∀ (h : Fin 256), Footprint (.burstEntryTest h) [.step, .lanes, .rgns, .heats, .coll] []) ∧
  (∀ (n : Fin 256), Footprint (.keeperEntry n) [.lanes, .rgns] []) ∧
  (∀ (n : Fin 256), Footprint (.keeperTimeout n) [.step, .lanes, .rgns, .heats, .heatOf, .gates, .merges, .baton, .slots, .coll, .pf,
    .out] [.PF_STATUS, .DOM_RCMD_RES, .RGN_EVT, .LANE_EVT]) ∧
  (∀ (m : Fin 2048), Footprint (.openPhase m) [.step, .lanes, .rgns, .coll, .lim, .relay, .out] [.LIM_STR_STATUS, .LANE_EVT]) ∧
  (∀ (m : Fin 2048), Footprint (.senseMismatch m) [.step, .lanes, .rgns, .coll, .lim, .relay, .out] [.LIM_STR_STATUS, .LANE_EVT]) ∧
  (∀ (h : Fin 256), Footprint (.regulationLoss h) [.step, .lanes, .rgns, .heats, .heatOf, .gates, .merges, .baton, .slots, .coll, .pf,
    .out] [.PF_STATUS, .DOM_RCMD_RES, .RGN_EVT]) ∧
  (∀ (g : Fin 512), Footprint (.mergeVoltageTimeout g) [.rgns, .merges, .baton, .coll, .pf, .out] [.PF_STATUS, .DOM_RCMD_RES, .RGN_EVT]) ∧
  (∀ (g : Fin 512), Footprint (.forcedMergeStretchOrder g) [.step, .merges, .coll, .lim, .relay, .out] [.LIM_STR_STATUS]) ∧
  (∀ (g : Fin 512), Footprint (.forcedMergeDue g) [.lanes, .rgns, .heats, .heatOf, .gates, .merges, .baton, .pacer, .coll, .pf, .out]
    [.PF_STATUS, .DOM_RCMD_RES, .RGN_EVT]) ∧
  (∀ (g : Fin 512), Footprint (.splitRefusedLoad g) [.rgns, .merges, .baton, .coll, .pf, .out] [.PF_STATUS, .DOM_RCMD_RES, .RGN_EVT]) ∧
  (∀ (n : Fin 256), Footprint (.splittingEnd n) [.rgns, .baton, .coll, .pf, .out] [.PF_STATUS, .RGN_EVT]) ∧
  (∀ (n : Fin 256), Footprint (.noLaneDark n) [.step, .lanes, .rgns, .merges, .baton, .slots, .coll, .pf, .out] [.PF_STATUS,
    .DOM_RCMD_RES, .RGN_EVT]) ∧
  (∀ (h : Fin 256), Footprint (.retentionSetupEnd h) [.heats] []) ∧
  (∀ (h : Fin 256), Footprint (.retentionExitDone h) [.rgns, .heats] []) ∧
  (∀ (n : Fin 256) (currents : List Nat), Footprint (.vgScan n currents) [.step, .rgns, .baton, .coll, .pf, .out] [.PF_STATUS,
    .RGN_EVT]) ∧
  (∀ (n : Fin 256) (group : Fin 104), Footprint (.spareMapping n group) [.step, .rgns, .baton, .coll, .pf, .out] [.PF_STATUS, .RGN_EVT]) ∧
  (∀ (n : Fin 256), Footprint (.gracePeriodEnd n) [.rgns, .heats, .heatOf, .gates, .merges, .baton, .coll, .pf, .out] [.PF_STATUS,
    .DOM_RCMD_RES, .RGN_EVT]) ∧
  (∀ (n : Fin 256), Footprint (.graceDarkEntry n) [.step, .lanes, .rgns, .merges, .baton, .slots, .coll, .pf, .out] [.PF_STATUS,
    .DOM_RCMD_RES, .RGN_EVT]) ∧
  (∀ (p : Port) (m : Fin 2048) (en : Bool), Footprint (.laneEnWrite p m en) [.step, .lanes, .rgns, .coll, .lim, .relay, .out]
    [.QB_PORT_ERR, .LIM_STR_STATUS, .RLY_STATUS, .LANE_CTRL]) ∧
  (∀ (p : Port) (m : Fin 2048), Footprint (.laneClrFail p m) [.step, .lanes, .rgns, .coll, .lim, .relay, .out] [.QB_PORT_ERR,
    .LIM_STR_STATUS, .RLY_STATUS, .LANE_CTRL]) ∧
  (∀ (p : Port) (m : Fin 2048), Footprint (.laneRetire p m) [.step, .lanes, .rgns, .coll, .lim, .relay, .out] [.QB_PORT_ERR,
    .LIM_STR_STATUS, .RLY_STATUS, .LANE_CTRL]) ∧
  (∀ (p : Port) (d : Fin 4) (g : Fin 512), Footprint (.closeGateCmd p d g) [.step, .lanes, .rgns, .heats, .baton, .slots, .coll, .relay,
    .pf, .out] [.QB_PORT_ERR, .RLY_STATUS, .PF_STATUS, .DOM_RCMD, .DOM_RCMD_RES]) ∧
  (∀ (p : Port) (d : Fin 4) (g : Fin 512), Footprint (.openGateCmd p d g) [.step, .lanes, .rgns, .heats, .baton, .slots, .coll, .relay,
    .pf, .out] [.QB_PORT_ERR, .RLY_STATUS, .PF_STATUS, .DOM_RCMD, .DOM_RCMD_RES]) ∧
  (∀ (p : Port) (d : Fin 4) (n : Fin 256), Footprint (.startRegionCmd p d n) [.step, .lanes, .rgns, .heats, .baton, .slots, .coll,
    .relay, .pf, .out] [.QB_PORT_ERR, .RLY_STATUS, .PF_STATUS, .DOM_RCMD, .DOM_RCMD_RES]) ∧
  (∀ (p : Port) (d : Fin 4) (n : Fin 256), Footprint (.stopRegionCmd p d n) [.step, .lanes, .rgns, .heats, .baton, .slots, .coll,
    .relay, .pf, .out] [.QB_PORT_ERR, .RLY_STATUS, .PF_STATUS, .DOM_RCMD, .DOM_RCMD_RES]) ∧
  (∀ (p : Port) (d : Fin 4) (n : Fin 256), Footprint (.retentionEntryCmd p d n) [.step, .lanes, .rgns, .heats, .baton, .slots, .coll,
    .relay, .pf, .out] [.QB_PORT_ERR, .RLY_STATUS, .PF_STATUS, .DOM_RCMD, .DOM_RCMD_RES]) ∧
  (∀ (p : Port) (d : Fin 4) (n : Fin 256), Footprint (.retentionExitCmd p d n) [.step, .lanes, .rgns, .heats, .baton, .slots, .coll,
    .relay, .pf, .out] [.QB_PORT_ERR, .RLY_STATUS, .PF_STATUS, .DOM_RCMD, .DOM_RCMD_RES]) ∧
  (∀ (p : Port) (n : Fin 256), Footprint (.clrDark p n) [.rgns, .coll, .relay, .out] [.QB_PORT_ERR, .RLY_STATUS, .RGN_CTRL]) ∧
  (∀ (p : Port) (d : Fin 4) (mesh : Bool), Footprint (.domCtrlMeshWrite p d mesh) [.step, .coll, .relay, .out] [.QB_PORT_ERR,
    .RLY_STATUS, .DOM_CTRL, .DOM_STATUS]) ∧
  (∀ (p : Port) (d : Fin 4) (vset : BitVec 12) (sched : Bool), Footprint (.domSetptWrite p d vset sched) [.step, .domV, .coll, .relay,
    .out] [.QB_PORT_ERR, .RLY_STATUS, .DOM_STATUS, .DOM_SETPT]) ∧
  (∀ (p : Port) (n : Fin 256) (vset : BitVec 12) (sched : Bool), Footprint (.rgnSetptWrite p n vset sched) [.step, .rgns, .coll, .relay,
    .out] [.QB_PORT_ERR, .RLY_STATUS, .DOM_STATUS, .RGN_SETPT]) ∧
  (∀ (p : Port) (n : Fin 256), Footprint (.clrFb p n) [.rgns, .coll, .relay, .out] [.QB_PORT_ERR, .RLY_STATUS, .RGN_STR_CFG]) ∧
  (∀ (n : Fin 256), Footprint (.isoStrobeDeassert n) [.rgns] [])

/-- What the commands of Baton can change: the named parts of the state and the named registers, and nothing else. -/
def Obligations.BatonCommandsFrame : Prop :=
  (∀ (bits : BitVec 80) (edges : Nat), Footprint (.batonPacket bits edges) [.baton, .coll, .pf, .out] [.BAT_ERR, .PF_STATUS]) ∧
  (Footprint .batonLinkAckDue [.baton, .pf, .out] [.PF_STATUS]) ∧
  (Footprint .batonResendTimeout [.baton, .pf, .out] [.PF_STATUS]) ∧
  (∀ (seq : BitVec 8) (body : BitVec 52), Footprint (.nop seq body) [.baton, .pacer, .coll] [.BAT_ERR]) ∧
  (∀ (seq : BitVec 8) (body : BitVec 52), Footprint (.link seq body) [.baton, .pacer, .coll, .pf, .out] [.BAT_ERR, .PF_STATUS]) ∧
  (∀ (seq : BitVec 8) (body : BitVec 52), Footprint (.linkReset seq body) [.baton, .pacer, .coll, .pf, .out] [.BAT_ERR, .PF_STATUS]) ∧
  (∀ (seq : BitVec 8) (body : BitVec 52), Footprint (.activity seq body) [.step, .lanes, .heats, .baton, .pacer, .coll] [.BAT_ERR,
    .COEF_CNT]) ∧
  (∀ (seq : BitVec 8) (body : BitVec 52), Footprint (.barrier seq body) [.step, .lanes, .rgns, .heats, .baton, .slots, .pacer, .coll,
    .pf, .out, .freeCtr] [.BAT_ERR, .PF_STATUS, .COEF_CNT]) ∧
  (∀ (tag : BitVec 8), Footprint (.slopeCheckDone tag) [.step, .rgns, .baton, .slots, .pacer, .coll, .relay, .pf, .out] [.PF_STATUS,
    .COEF_CNT]) ∧
  (∀ (seq : BitVec 8) (body : BitVec 52), Footprint (.setpoint seq body) [.step, .baton, .slots, .pacer, .coll, .pf, .out, .freeCtr]
    [.BAT_ERR, .PF_STATUS]) ∧
  (∀ (seq : BitVec 8) (body : BitVec 52), Footprint (.setpointImmediate seq body) [.step, .baton, .slots, .pacer, .coll, .pf, .out,
    .freeCtr] [.BAT_ERR, .PF_STATUS]) ∧
  (∀ (tag : BitVec 8), Footprint (.setpointTimeout tag) [.step, .baton, .slots, .pf, .out] [.PF_STATUS]) ∧
  (∀ (tag : BitVec 8), Footprint (.gateTimeout tag) [.step, .baton, .slots, .pf, .out] [.PF_STATUS]) ∧
  (∀ (tag : BitVec 8), Footprint (.deferTimeout tag) [.step, .baton, .slots, .pf, .out] [.PF_STATUS]) ∧
  (∀ (seq : BitVec 8) (body : BitVec 52), Footprint (.abort seq body) [.step, .rgns, .baton, .slots, .pacer, .coll, .pf, .out, .freeCtr]
    [.BAT_ERR, .PF_STATUS]) ∧
  (∀ (seq : BitVec 8) (body : BitVec 52), Footprint (.confirm seq body) [.baton, .slots, .pacer, .coll, .pf, .out, .freeCtr] [.BAT_ERR,
    .PF_STATUS]) ∧
  (∀ (seq : BitVec 8) (body : BitVec 52), Footprint (.cancel seq body) [.step, .rgns, .heats, .baton, .slots, .pacer, .coll, .pf, .out,
    .freeCtr] [.BAT_ERR, .PF_STATUS]) ∧
  (∀ (seq : BitVec 8) (body : BitVec 52), Footprint (.contextSwitch seq body) [.step, .baton, .slots, .pacer, .coll, .pf, .out,
    .freeCtr] [.BAT_ERR, .PF_STATUS]) ∧
  (∀ (seq : BitVec 8) (body : BitVec 52), Footprint (.contextSwitchNewUser seq body) [.step, .baton, .slots, .pacer, .coll, .pf, .out,
    .freeCtr] [.BAT_ERR, .PF_STATUS]) ∧
  (∀ (seq : BitVec 8) (body : BitVec 52), Footprint (.contextClose seq body) [.step, .baton, .slots, .pacer, .coll, .pf, .out, .freeCtr]
    [.BAT_ERR, .PF_STATUS]) ∧
  (∀ (seq : BitVec 8) (body : BitVec 52), Footprint (.period seq body) [.step, .baton, .slots, .pacer, .coll, .pf, .out, .freeCtr]
    [.BAT_ERR, .PF_STATUS]) ∧
  (∀ (seq : BitVec 8) (body : BitVec 52), Footprint (.freqpt seq body) [.step, .heats, .baton, .slots, .pacer, .coll, .lim, .relay, .pf,
    .out, .freeCtr] [.BAT_ERR, .LIM_STR_STATUS, .LIM_VT_CFG, .PF_STATUS]) ∧
  (∀ (seq : BitVec 8) (body : BitVec 52), Footprint (.freqptFloorAck seq body) [.step, .heats, .baton, .slots, .pacer, .coll, .lim,
    .relay, .pf, .out, .freeCtr] [.BAT_ERR, .LIM_STR_STATUS, .LIM_VT_CFG, .PF_STATUS]) ∧
  (∀ (ntype : BitVec 4) (seq : BitVec 8) (body : BitVec 52), Footprint (.noticeUndefined ntype seq body) [.baton, .slots, .pacer, .coll,
    .pf, .out] [.BAT_ERR, .PF_STATUS])

/-- What the commands of Pacer and Limits can change: the named parts of the state and the named registers, and nothing else. -/
def Obligations.PacerAndLimitsFrame : Prop :=
  (Footprint .mismatchWindowEnd [.rgns, .pacer, .coll] [.RGN_PCR_STATUS, .RGN_PCR_MM]) ∧
  (∀ (p : Port) (off : BitVec 20) (be : BitVec 4) (v : Word), Footprint (.coefTableWrite p off be v) [.blockReset, .resume, .brReaction,
    .step, .lanes, .rgns, .heats, .domV, .baton, .slots, .pacer, .coll, .lim, .gauge, .led, .relay, .nvm, .boot, .host, .test, .pf, .out,
    .freeCtr] Reg.all) ∧
  (∀ (p : Port) (v : Word), Footprint (.coefCtrlEnWrite p v) [.rgns, .pacer, .coll, .relay, .out] [.QB_PORT_ERR, .RLY_STATUS,
    .COEF_CTRL]) ∧
  (∀ (p : Port), Footprint (.repClear p) [.pacer, .coll, .relay, .out] [.QB_PORT_ERR, .RLY_STATUS, .REP_CFG]) ∧
  (Footprint .modelLoadDone [.rgns, .pacer, .boot, .host] [.QB_IRQ_STATUS, .QB_MBX_DATA, .QB_MBX_STATUS, .COEF_CTRL, .COEF_MODEL]) ∧
  (Footprint .limitsTick [.step, .rgns, .coll, .lim, .led, .relay, .out] [.LIM_CAP_STATUS, .LIM_PWR0, .LIM_PWR1, .LIM_STR_STATUS,
    .LIM_STR_SRC, .LIM_CNT, .LED_CR_ALLOC, .RLY_GRP_STATUS, .RGN_LIM]) ∧
  (∀ (pinHigh : Bool) (t : Nat), Footprint (.pcapInEdge pinHigh t) [.now, .coll, .lim, .gauge] [.LIM_CAP_STATUS, .GAU_MOD_STAT]) ∧
  (Footprint .pcapLost [.coll, .lim] [.LIM_CAP_STATUS, .LIM_CNT]) ∧
  (Footprint .capAnaStale [.coll, .lim] [.LIM_CAP_STATUS, .LIM_CNT]) ∧
  (∀ (n : Fin 256), Footprint (.thermalCapRun n) [.lim] []) ∧
  (∀ (p : Port) (level : BitVec 14), Footprint (.hostStretchLevelWrite p level) [.step, .coll, .lim, .relay, .out] [.QB_PORT_ERR,
    .LIM_STR_STATUS, .LIM_STR_HOST, .LIM_CNT, .RLY_STATUS]) ∧
  (∀ (p : Port), Footprint (.clrPeakPower p) [.coll, .relay, .out] [.QB_PORT_ERR, .LIM_PWR1, .RLY_STATUS]) ∧
  (Footprint .alertNAssert [.baton, .coll, .lim, .relay, .pf, .out] [.LIM_STR_STATUS, .LIM_ALERT, .LIM_CNT, .PF_STATUS]) ∧
  (Footprint .alertNDeassert [.lim] []) ∧
  (Footprint .lowestStateHoldEnd [.heats, .baton, .lim, .relay, .pf, .out] [.LIM_STR_STATUS, .PF_STATUS]) ∧
  (Footprint .floorAckTimeout [.baton, .coll, .lim, .pf, .out] [.LIM_CNT, .PF_STATUS])

/-- What the commands of Gauge and the Ledger can change: the named parts of the state and the named registers, and nothing else. -/
def Obligations.GaugeAndLedgerFrame : Prop :=
  (Footprint .housekeepingTick [.coll, .gauge] [.GAU_STATUS]) ∧
  (∀ (k : Fin 16) (r : Int) (ovr : Bool) (t : Nat), Footprint (.conversionDone k r ovr t) [.now, .coll, .lim, .gauge] [.QB_IRQ_STATUS,
    .GAU_QSTAT, .DOM_TEL_V, .RGN_GAU_T, .RGN_GAU_V]) ∧
  (Footprint .roundEvaluation [.step, .baton, .coll, .lim, .gauge, .relay, .pf, .out] [.LIM_STR_STATUS, .LIM_ALERT, .LIM_CNT,
    .GAU_STATUS, .GAU_VIN, .GAU_TMAX, .GAU_TSTAT, .PF_STATUS, .RGN_LIM, .RGN_GAU_TM]) ∧
  (∀ (k : Fin 16), Footprint (.regularTrigger k) [.coll, .gauge] [.GAU_MOD_STAT]) ∧
  (∀ (k : Fin 16), Footprint (.urgentTrigger k) [.coll, .gauge] [.GAU_MOD_STAT]) ∧
  (∀ (k : Fin 16) (urgent : Bool), Footprint (.triggerDelayEnd k urgent) [.gauge] []) ∧
  (∀ (p : Port) (k : Fin 16), Footprint (.gauRsw p k) [.coll, .gauge, .relay, .out] [.QB_PORT_ERR, .GAU_MOD_CFG, .GAU_MOD_STAT,
    .RLY_STATUS]) ∧
  (∀ (p : Port) (k : Fin 16), Footprint (.gauIsw p k) [.coll, .gauge, .relay, .out] [.QB_PORT_ERR, .GAU_MOD_CFG, .GAU_MOD_STAT,
    .RLY_STATUS]) ∧
  (∀ (p : Port), Footprint (.gauQdataRead p) [.step, .gauge, .led, .host] [.QB_PORT_ERR, .GAU_QDATA_LO, .GAU_QDATA_HI]) ∧
  (∀ (p : Port), Footprint (.qclr p) [.coll, .gauge, .relay, .out] [.QB_IRQ_STATUS, .QB_PORT_ERR, .GAU_CFG, .RLY_STATUS]) ∧
  (Footprint .telemetryUpdate [.gauge] [.DOM_TEL_I, .DOM_TEL_P, .DOM_TEL_V]) ∧
  (∀ (p : Port) (d : Fin 4), Footprint (.domTelClr p d) [.relay, .out] [.QB_PORT_ERR, .RLY_STATUS, .DOM_TEL_I, .DOM_TEL_P, .DOM_TEL_V,
    .RGN_GAU_V]) ∧
  (∀ (p : Port), Footprint (.clrPeakTemp p) [.coll, .relay, .out] [.QB_PORT_ERR, .GAU_TSTAT, .RLY_STATUS]) ∧
  (∀ (p : Port) (sel : BitVec 8), Footprint (.snap p sel) [.coll, .led, .relay, .out] [.QB_PORT_ERR, .LED_SNAP, .RLY_STATUS]) ∧
  (Footprint .snapshotDone [.led] [.LED_SNAP, .LED_SN_LO, .LED_SN_HI, .LED_SN_REM]) ∧
  (∀ (p : Port) (c : Fin 64), Footprint (.contextRelease p c) [.led, .relay, .out] [.QB_PORT_ERR, .RLY_STATUS]) ∧
  (∀ (p : Port), Footprint (.recordPop p) [.coll, .led, .relay, .out] [.QB_PORT_ERR, .LED_REC0, .LED_REC1, .LED_REC2, .LED_REC3,
    .LED_REC4, .LED_REC5, .LED_REC_CTRL, .RLY_STATUS]) ∧
  (∀ (p : Port) (c : Fin 64), Footprint (.tenantViewRead p c) [.step, .gauge, .led, .host] [.QB_PORT_ERR, .GAU_QDATA_LO, .GAU_QDATA_HI,
    .LED_TV_LO]) ∧
  (Footprint .tenantViewRefresh [.led] []) ∧
  (∀ (bad : List (Nat × Nat)), Footprint (.scrubEnd bad) [.badWords, .step, .rgns, .heats, .baton, .slots, .pacer, .coll, .led, .nvm,
    .pf, .out] [.QB_IRQ_STATUS, .LED_STATUS, .LED_SCRUB, .LED_REC_CTRL, .PF_CTRL, .PF_STATUS, .COEF_STATUS]) ∧
  (Footprint .scrubOverrun [.coll, .led] [.LED_SCRUB]) ∧
  (∀ (p : Port) (n : Fin 256) (amount : BitVec 17), Footprint (.creditAlloc p n amount) [.coll, .led, .relay, .out] [.QB_PORT_ERR,
    .LED_CR_ALLOC, .RLY_STATUS]) ∧
  (∀ (p : Port), Footprint (.stepCountRead p) [.step, .gauge, .led, .host] [.QB_PORT_ERR, .STP_COUNT_LO, .GAU_QDATA_LO, .GAU_QDATA_HI])

/-- What the commands of the fault collector and the tables can change: the named parts of the state and the named registers, and nothing else. -/
def Obligations.CollectorFrame : Prop :=
  (Footprint .faultProcess [.blockReset, .resume, .brReaction, .rgns, .heats, .baton, .slots, .pacer, .coll, .gauge, .boot, .host,
    .test, .pf, .out, .freeCtr] [.QB_STATUS, .QB_SEM, .QB_MBX_DATA, .QB_MBX_CTRL, .QB_MBX_STATUS, .FLT_STATUS, .FLT_PIN, .FLT_FE0, .FLT_FE1,
    .FLT_FE2, .FLT_FE3, .FLT_FE4, .FLT_IPEND, .FLT_LOG_CTRL, .FLT_CNT, .GAU_CFG, .GAU_QDATA_LO, .GAU_QDATA_HI, .GAU_MOD_CFG, .GAU_MOD_TIM,
    .GAU_MOD_STAT, .GAU_INJ, .GAU_MOD_DLY, .GAU_SEQ, .BOOT_STATUS, .BOOT_UPD_STATUS, .TST_STATUS, .TST_OBS_A, .TST_OBS_B, .TST_LST_RES,
    .PF_CTRL, .PF_STATUS, .COEF_MODEL]) ∧
  (∀ (x : Fin 128), Footprint (.faultRecovery x) [.coll, .freeCtr] [.FLT_RECOV, .FLT_LOG_CTRL, .FLT_CNT]) ∧
  (Footprint .watchdog [.coll] []) ∧
  (Footprint .marshalHeartbeat [.coll] []) ∧
  (Footprint .trapHandlerTimeout [.coll] []) ∧
  (Footprint .trapReturn [.coll] []) ∧
  (∀ (p : Port), Footprint (.feArm p) [.coll, .relay, .out] [.QB_PORT_ERR, .FLT_FE0, .FLT_CNT, .RLY_STATUS]) ∧
  (∀ (p : Port), Footprint (.fnRel p) [.coll, .relay, .out] [.QB_PORT_ERR, .FLT_FE0, .FLT_CNT, .RLY_STATUS]) ∧
  (∀ (p : Port), Footprint (.crstClear p) [.coll, .relay, .out] [.QB_PORT_ERR, .FLT_STATUS, .RLY_STATUS]) ∧
  (∀ (p : Port), Footprint (.logPop p) [.coll, .relay, .out] [.QB_PORT_ERR, .FLT_LOG_CTRL, .FLT_LOG0, .FLT_LOG1, .FLT_LOG2, .FLT_LOG3,
    .FLT_LOG4, .RLY_STATUS]) ∧
  (Footprint .logCopy [.coll, .nvm, .boot] [.FLT_LOG_CTRL]) ∧
  (∀ (tid : Fin 16) (index : Nat) (o : PatrolOutcome), Footprint (.patrolRead tid index o) [.step, .rgns, .heats, .pacer, .coll, .gauge,
    .boot, .pf] [.FLT_CLS, .FLT_RCT, .FLT_CNT, .BAT_ERR, .RGN_VT, .COEF_M, .COEF_X, .COEF_MODEL, .STR_SEG, .STR_PHDR]) ∧
  (∀ (n : Fin 256), Footprint (.vtWordRewrite n) [.coll] [.RGN_VT]) ∧
  (Footprint .refclkReturn [.refLost, .backup, .coll] [])

/-- What the commands of Relay, the cascade, the pair and credits can change: the named parts of the state and the named registers, and nothing else. -/
def Obligations.RelayFrame : Prop :=
  (∀ (p : Fin 5), Footprint (.portAligned p) [.relay] []) ∧
  (∀ (p : Fin 5), Footprint (.trainEnd p) [.led, .relay, .out, .freeCtr] [.RLY_STATUS, .RLY_CR_LNET]) ∧
  (∀ (p : Fin 5) (frame : List Byte), Footprint (.hello p frame) [.coll, .led, .relay, .out, .freeCtr] [.RLY_STATUS, .RLY_CR_LNET,
    .RLY_PERR]) ∧
  (∀ (p : Fin 5), Footprint (.helloTimeout p) [.coll, .relay] []) ∧
  (∀ (p : Fin 5), Footprint (.refusedTimeout p) [.coll, .relay] []) ∧
  (∀ (p : Fin 5), Footprint (.linkLoss p) [.coll, .relay] []) ∧
  (∀ (p : Fin 5) (frame : List Byte), Footprint (.dataFrame p frame) [.coll, .led, .relay, .out, .freeCtr] [.RLY_STATUS, .RLY_CR_LNET,
    .RLY_PERR]) ∧
  (∀ (p : Fin 5), Footprint (.frameSendDue p) [.relay, .out] []) ∧
  (∀ (p : Fin 5), Footprint (.reliableResend p) [.relay, .out] []) ∧
  (∀ (p : Fin 5), Footprint (.seqExhausted p) [.coll, .relay] []) ∧
  (∀ (p : Fin 5), Footprint (.rekeyStart p) [.relay, .out, .freeCtr] []) ∧
  (∀ (port : Port) (p : Fin 5), Footprint (.rlyRekeyWrite port p) [.relay, .out, .freeCtr] [.QB_PORT_ERR, .RLY_STATUS]) ∧
  (∀ (p : Fin 5), Footprint (.epochGraceEnd p) [.relay] []) ∧
  (∀ (p : Fin 5) (body : BitVec 272), Footprint (.heartbeat p body) [.relay] []) ∧
  (∀ (p : Fin 5) (body : BitVec 272), Footprint (.report p body) [.relay] [.RLY_STATUS]) ∧
  (Footprint .reportDue [.relay, .out] [.RLY_STATUS]) ∧
  (∀ (p : Fin 5) (body : BitVec 272), Footprint (.request p body) [.step, .coll, .relay, .out] [.LIM_STR_STATUS]) ∧
  (∀ (p : Fin 5) (body : BitVec 272), Footprint (.order p body) [.step, .coll, .relay, .out] [.LIM_STR_STATUS]) ∧
  (∀ (p : Fin 5) (body : BitVec 272), Footprint (.orderNak p body) [.relay, .out] []) ∧
  (∀ (p : Fin 5) (body : BitVec 272), Footprint (.delay p body) [.step, .rgns, .baton, .slots, .pacer, .relay, .pf, .out] [.PF_STATUS]) ∧
  (∀ (p : Fin 5) (body : BitVec 272), Footprint (.delayOrder p body) [.step, .rgns, .baton, .slots, .pacer, .relay, .pf, .out]
    [.PF_STATUS]) ∧
  (∀ (p : Fin 5) (body : BitVec 272), Footprint (.emerg p body) [.heats, .baton, .coll, .lim, .relay, .pf, .out] [.LIM_STR_STATUS,
    .LIM_ALERT, .LIM_CNT, .PF_STATUS]) ∧
  (∀ (p : Fin 5) (body : BitVec 272), Footprint (.emergOrder p body) [.heats, .baton, .coll, .lim, .relay, .pf, .out] [.LIM_STR_STATUS,
    .LIM_ALERT, .LIM_CNT, .PF_STATUS]) ∧
  (∀ (p : Fin 5) (body : BitVec 272), Footprint (.mirror p body) [.blockReset, .resume, .brReaction, .step, .lanes, .rgns, .heats,
    .domV, .baton, .slots, .pacer, .coll, .lim, .gauge, .led, .relay, .nvm, .boot, .host, .test, .pf, .out, .freeCtr] Reg.all) ∧
  (∀ (p : Fin 5) (body : BitVec 272), Footprint (.digest p body) [.relay, .out] [.RLY_STATUS]) ∧
  (Footprint .digestDue [.relay, .out] []) ∧
  (∀ (p : Fin 5) (body : BitVec 272), Footprint (.resync p body) [.baton, .relay, .out, .freeCtr] []) ∧
  (∀ (p : Port), Footprint (.rlyResyncWrite p) [.relay, .out, .freeCtr] [.QB_PORT_ERR, .RLY_STATUS]) ∧
  (∀ (p : Fin 5) (body : BitVec 272), Footprint (.rekey p body) [.relay, .out, .freeCtr] []) ∧
  (∀ (p : Fin 5) (body : BitVec 272), Footprint (.rekeyAck p body) [.relay] []) ∧
  (∀ (p : Fin 5) (body : BitVec 272), Footprint (.join p body) [.step, .coll, .led, .relay, .out] [.LIM_STR_STATUS, .RLY_CR_LNET]) ∧
  (∀ (p : Fin 5) (body : BitVec 272), Footprint (.grant p body) [.led, .relay, .out] [.LED_CR_GRANT]) ∧
  (∀ (p : Fin 5) (body : BitVec 272), Footprint (.crReq p body) [.led, .relay, .out] []) ∧
  (∀ (p : Fin 5) (body : BitVec 272), Footprint (.crPrep p body) [.led, .relay, .out] []) ∧
  (∀ (p : Fin 5) (body : BitVec 272), Footprint (.crPrepAck p body) [.led, .relay, .out] [.RLY_CR_LNET]) ∧
  (∀ (p : Fin 5) (body : BitVec 272), Footprint (.crCommit p body) [.led, .relay, .out] [.RLY_CR_LNET]) ∧
  (∀ (p : Fin 5) (body : BitVec 272), Footprint (.crDone p body) [.led, .relay] []) ∧
  (∀ (p : Fin 5) (body : BitVec 272), Footprint (.crAbort p body) [.led, .relay] []) ∧
  (∀ (tid : Nat), Footprint (.crPrepTimeout tid) [.led, .relay, .out] []) ∧
  (Footprint .crPrepAckResend [.led, .relay, .out] []) ∧
  (Footprint .heartbeatLost [.baton, .coll, .relay, .pf, .out] [.RLY_STATUS, .PF_STATUS]) ∧
  (Footprint .pairFence [.blockReset, .resume, .brReaction, .rgns, .heats, .baton, .slots, .pacer, .coll, .gauge, .relay, .boot, .host,
    .test, .pf, .out, .freeCtr] [.QB_STATUS, .QB_SEM, .QB_MBX_DATA, .QB_MBX_CTRL, .QB_MBX_STATUS, .GAU_CFG, .GAU_QDATA_LO, .GAU_QDATA_HI,
    .GAU_MOD_CFG, .GAU_MOD_TIM, .GAU_MOD_STAT, .GAU_INJ, .GAU_MOD_DLY, .GAU_SEQ, .RLY_STATUS, .BOOT_STATUS, .BOOT_UPD_STATUS, .TST_STATUS,
    .TST_OBS_A, .TST_OBS_B, .TST_LST_RES, .PF_CTRL, .PF_STATUS, .COEF_MODEL]) ∧
  (Footprint .fenceRelease [.relay] [.RLY_STATUS]) ∧
  (∀ (p : Port), Footprint (.plannedSwitch p) [.relay, .out, .freeCtr] [.QB_PORT_ERR, .RLY_STATUS]) ∧
  (Footprint .actingMaster [.step, .coll, .relay, .out] [.LIM_STR_STATUS, .RLY_STATUS]) ∧
  (∀ (p : Fin 5), Footprint (.alignmentLoss p) [.coll, .relay] [.RLY_PERR])

/-- What the commands of boot, the resets, the mailboxes and the update can change: the named parts of the state and the named registers, and nothing else. -/
def Obligations.BootAndUpdateFrame : Prop :=
  (∀ (entropyOk : Bool), Footprint (.porRelease entropyOk) [.powered, .coll, .boot] [.QB_STATUS, .BOOT_STATUS, .KEY_SVN, .BOOT_CHIP,
    .BOOT_UNIT_LO, .BOOT_UNIT_HI]) ∧
  (∀ (bad : List (Nat × Nat)), Footprint (.bootTableInitDone bad) [.tablesInit, .badWords, .coll] [.BOOT_STATUS]) ∧
  (Footprint .bootHeaderDone [.coll, .nvm, .boot] [.QB_STATUS, .BOOT_STATUS, .BOOT_COUNT]) ∧
  (Footprint .bootLoadDone [.step, .rgns, .domV, .place, .gatesOk, .plan, .pacer, .coll, .lim, .gauge, .relay, .nvm, .boot, .out]
    Reg.all) ∧
  (Footprint .bootLocked [.step, .lanes, .rgns, .coll, .lim, .led, .relay, .boot, .out] Reg.all) ∧
  (Footprint .domainStartNext [.step, .rgns, .heats, .baton, .slots, .boot, .pf, .out] [.PF_STATUS]) ∧
  (Footprint .bootReady [.baton, .lim, .pf, .out] [.QB_STATUS, .QB_IRQ_STATUS, .BOOT_STATUS, .BOOT_TIME, .PF_STATUS]) ∧
  (∀ (healthOk : Bool), Footprint (.drbgReseed healthOk) [.led, .relay, .boot, .out, .freeCtr] [.RLY_STATUS, .RLY_CR_LNET,
    .BOOT_STATUS]) ∧
  (∀ (p : Port) (key : BitVec 16), Footprint (.softRst p key) [.blockReset, .resume, .brReaction, .rgns, .heats, .baton, .slots, .pacer,
    .coll, .gauge, .relay, .boot, .host, .test, .pf, .out, .freeCtr] [.QB_STATUS, .QB_PORT_ERR, .QB_SEM, .QB_MBX_DATA, .QB_MBX_CTRL,
    .QB_MBX_STATUS, .GAU_CFG, .GAU_QDATA_LO, .GAU_QDATA_HI, .GAU_MOD_CFG, .GAU_MOD_TIM, .GAU_MOD_STAT, .GAU_INJ, .GAU_MOD_DLY, .GAU_SEQ,
    .RLY_STATUS, .BOOT_STATUS, .BOOT_UPD_STATUS, .TST_STATUS, .TST_OBS_A, .TST_OBS_B, .TST_LST_RES, .PF_CTRL, .PF_STATUS, .COEF_MODEL]) ∧
  (Footprint .blockResetRelease [.blockReset, .resume, .coll] []) ∧
  (Footprint .warmBootEnd [.step, .rgns, .domV, .gatesOk, .plan, .pacer, .coll, .lim, .relay, .nvm, .boot, .pf, .out] Reg.all) ∧
  (Footprint .testReset [.test] []) ∧
  (Footprint .cacheDieReset [] []) ∧
  (∀ (p : Port), Footprint (.status p) [.host] [.QB_IRQ_STATUS, .QB_MBX_DATA, .QB_MBX_STATUS]) ∧
  (∀ (p : Port), Footprint (.echo p) [.host] [.QB_IRQ_STATUS, .QB_MBX_DATA, .QB_MBX_STATUS]) ∧
  (∀ (p : Port), Footprint (.updOpen p) [.boot, .host] [.QB_IRQ_STATUS, .QB_PORT_ERR, .QB_MBX_DATA, .QB_MBX_STATUS, .BOOT_UPD_STATUS]) ∧
  (∀ (p : Port), Footprint (.updPage p) [.coll, .nvm, .boot, .host] [.QB_IRQ_STATUS, .QB_PORT_ERR, .QB_MBX_DATA, .QB_MBX_STATUS,
    .BOOT_FW_ALT, .BOOT_UPD_STATUS]) ∧
  (∀ (p : Port), Footprint (.updClose p) [.coll, .nvm, .boot, .host] [.QB_IRQ_STATUS, .QB_PORT_ERR, .QB_MBX_DATA, .QB_MBX_STATUS,
    .BOOT_FW_ALT, .BOOT_UPD_STATUS]) ∧
  (∀ (p : Port), Footprint (.updAbort p) [.boot, .host] [.QB_IRQ_STATUS, .QB_PORT_ERR, .QB_MBX_DATA, .QB_MBX_STATUS, .BOOT_UPD_STATUS]) ∧
  (∀ (p : Port), Footprint (.commit p) [.opal, .nvm, .host] [.QB_IRQ_STATUS, .QB_PORT_ERR, .QB_MBX_DATA, .QB_MBX_STATUS, .BOOT_STATUS,
    .KEY_SVN, .BOOT_CHIP, .BOOT_UNIT_LO, .BOOT_UNIT_HI]) ∧
  (∀ (p : Port), Footprint (.retireAdd p) [.nvm, .host] [.QB_IRQ_STATUS, .QB_PORT_ERR, .QB_MBX_DATA, .QB_MBX_STATUS]) ∧
  (∀ (p : Port), Footprint (.retireRemove p) [.nvm, .host] [.QB_IRQ_STATUS, .QB_PORT_ERR, .QB_MBX_DATA, .QB_MBX_STATUS]) ∧
  (∀ (p : Port), Footprint (.retireRead p) [.host] [.QB_IRQ_STATUS, .QB_MBX_DATA, .QB_MBX_STATUS]) ∧
  (∀ (p : Port), Footprint (.learnSave p) [.nvm, .boot, .host] [.QB_IRQ_STATUS, .QB_PORT_ERR, .QB_MBX_DATA, .QB_MBX_STATUS]) ∧
  (Footprint .learnSaveTimer [.nvm, .boot] []) ∧
  (∀ (p : Port), Footprint (.modelLoad p) [.pacer, .coll, .boot, .host] [.QB_IRQ_STATUS, .QB_PORT_ERR, .QB_MBX_DATA, .QB_MBX_STATUS,
    .COEF_MODEL]) ∧
  (∀ (p : Port), Footprint (.logInfo p) [.host, .freeCtr] [.QB_IRQ_STATUS, .QB_MBX_DATA, .QB_MBX_STATUS]) ∧
  (∀ (p : Port), Footprint (.logRead p) [.host] [.QB_IRQ_STATUS, .QB_MBX_DATA, .QB_MBX_STATUS]) ∧
  (∀ (p : Port), Footprint (.creditLogRead p) [.host] [.QB_IRQ_STATUS, .QB_MBX_DATA, .QB_MBX_STATUS]) ∧
  (∀ (p : Port), Footprint (.unknownCmd p) [.host] [.QB_IRQ_STATUS, .QB_MBX_DATA, .QB_MBX_STATUS]) ∧
  (∀ (p : Port), Footprint (.tokenChallenge p) [.boot, .host, .freeCtr] [.QB_IRQ_STATUS, .QB_MBX_DATA, .QB_MBX_STATUS]) ∧
  (∀ (p : Port), Footprint (.tokenData p) [.boot, .host] [.QB_IRQ_STATUS, .QB_MBX_DATA, .QB_MBX_STATUS]) ∧
  (∀ (p : Port), Footprint (.tokenCheck p) [.coll, .boot, .host] [.QB_IRQ_STATUS, .QB_MBX_DATA, .QB_MBX_STATUS, .TST_STATUS]) ∧
  (∀ (p : Port), Footprint (.tokenRevoke p) [.boot, .host] [.QB_IRQ_STATUS, .QB_MBX_DATA, .QB_MBX_STATUS, .TST_STATUS, .TST_OBS_A,
    .TST_OBS_B]) ∧
  (Footprint .tokenExpiry [.boot] [.TST_STATUS, .TST_OBS_A, .TST_OBS_B]) ∧
  (∀ (p : Port) (w : Word), Footprint (.bootUpdDataWrite p w) [.relay, .boot, .out] [.QB_PORT_ERR, .RLY_STATUS, .BOOT_UPD_STATUS]) ∧
  (Footprint .trialMinute [.nvm, .boot] []) ∧
  (Footprint .trialRollback [.baton, .coll, .nvm, .boot, .pf, .out] [.QB_SEM, .BOOT_STATUS, .PF_STATUS]) ∧
  (Footprint .rotationPage [.coll, .nvm, .boot] []) ∧
  (Footprint .activatePauseEnd [.step, .rgns, .domV, .gatesOk, .plan, .baton, .coll, .lim, .relay, .nvm, .boot, .host, .pf, .out]
    Reg.all)

/-- What the commands of the ports, the semaphores, the test logic and Photo-finish can change: the named parts of the state and the named registers, and nothing else. -/
def Obligations.PortsAndTestFrame : Prop :=
  (∀ (write : Bool), Footprint (.portATimeout write) [.host] [.QB_PORT_ERR]) ∧
  (∀ (w : Word) (pecOk : Bool), Footprint (.setWin w pecOk) [.coll, .host] [.QB_PORT_ERR]) ∧
  (∀ (ws : List Word) (pecOk : Bool), Footprint (.wr ws pecOk) [.blockReset, .resume, .brReaction, .step, .lanes, .rgns, .heats, .domV,
    .baton, .slots, .pacer, .coll, .lim, .gauge, .led, .relay, .nvm, .boot, .host, .test, .pf, .out, .freeCtr] Reg.all) ∧
  (Footprint .rd [.step, .gauge, .led, .host, .out] [.QB_PORT_ERR, .GAU_QDATA_LO, .GAU_QDATA_HI]) ∧
  (Footprint .reRd [.out] []) ∧
  (Footprint .stat [.host, .out] []) ∧
  (∀ (code : BitVec 8), Footprint (.smbUndefinedCommand code) [] []) ∧
  (Footprint .smbusTimeout [] [.QB_PORT_ERR]) ∧
  (∀ (x : Master) (sem : Fin 16) (tag : BitVec 8), Footprint (.semTake x sem tag) [.relay, .out] [.QB_PORT_ERR, .QB_SEM, .RLY_STATUS]) ∧
  (∀ (x : Master) (sem : Fin 16), Footprint (.semRel x sem) [.relay, .out] [.QB_PORT_ERR, .QB_SEM, .RLY_STATUS]) ∧
  (∀ (p : Port) (sem : Fin 16) (key : BitVec 16), Footprint (.semForce p sem key) [.relay, .out] [.QB_PORT_ERR, .QB_SEM, .RLY_STATUS]) ∧
  (∀ (p : Port) (off : BitVec 20) (write : Bool), Footprint (.reservedAccess p off write) [.blockReset, .resume, .brReaction, .step,
    .lanes, .rgns, .heats, .domV, .baton, .slots, .pacer, .coll, .lim, .gauge, .led, .relay, .nvm, .boot, .host, .test, .pf, .out, .freeCtr]
    Reg.all) ∧
  (∀ (p : Port) (code : BitVec 4), Footprint (.fswWrite p code) [.coll, .relay, .nvm, .out] [.QB_LANE_CFG, .QB_PORT_ERR, .RLY_STATUS]) ∧
  (∀ (p : Port) (off : BitVec 20) (be : BitVec 4) (v : Word), Footprint (.registerWrite p off be v) [.blockReset, .resume, .brReaction,
    .step, .lanes, .rgns, .heats, .domV, .baton, .slots, .pacer, .coll, .lim, .gauge, .led, .relay, .nvm, .boot, .host, .test, .pf, .out,
    .freeCtr] Reg.all) ∧
  (Footprint .extest [.test] [.TST_STATUS]) ∧
  (∀ (cells : BitVec 23), Footprint (.samplePreload cells) [.test] []) ∧
  (Footprint .idcode [.test, .out] []) ∧
  (Footprint .clamp [.test] [.TST_STATUS]) ∧
  (Footprint .highz [.test] [.TST_STATUS]) ∧
  (Footprint .wrapSel [.test] []) ∧
  (Footprint .wrapDr [.test] []) ∧
  (Footprint .privDbg [.test, .out, .freeCtr] [.TST_STATUS]) ∧
  (Footprint .bypass [.test] []) ∧
  (Footprint .wsBypass [.test] []) ∧
  (∀ (cells : BitVec 1142), Footprint (.wsPreload cells) [.test] []) ∧
  (Footprint .wsExtest [.test] [.TST_STATUS]) ∧
  (Footprint .wsIntest [.test] [.TST_STATUS]) ∧
  (∀ (m : Fin 2048), Footprint (.wsLaneSt m) [.lanes, .test] [.TST_LST_CTRL, .TST_LST_RES]) ∧
  (∀ (p : Port) (m : Fin 2048), Footprint (.laneSelfTest p m) [.lanes, .coll, .relay, .test, .out] [.QB_PORT_ERR, .RLY_STATUS,
    .TST_LST_CTRL, .TST_LST_RES]) ∧
  (∀ (failed : BitVec 8), Footprint (.selfTestDone failed) [.step, .lanes, .rgns, .coll, .lim, .relay, .test, .out] [.LIM_STR_STATUS,
    .TST_LST_RES, .LANE_EVT]) ∧
  (Footprint .selfTestAbort [.test] [.TST_LST_RES]) ∧
  (∀ (p : Port) (pin : Fin 2) (v : Word), Footprint (.obsSelectWrite p pin v) [.blockReset, .resume, .brReaction, .step, .lanes, .rgns,
    .heats, .domV, .baton, .slots, .pacer, .coll, .lim, .gauge, .led, .relay, .nvm, .boot, .host, .test, .pf, .out, .freeCtr] Reg.all) ∧
  (∀ (p : Port), Footprint (.pfArm p) [.coll, .relay, .pf, .out] [.QB_PORT_ERR, .RLY_STATUS, .PF_CTRL, .PF_STATUS]) ∧
  (∀ (p : Port), Footprint (.pfSwtrig p) [.coll, .relay, .pf, .out] [.QB_PORT_ERR, .RLY_STATUS, .PF_CTRL, .PF_STATUS]) ∧
  (Footprint .pfFreeze [] [.PF_CTRL, .PF_STATUS])
end

