-- ==== Sys2Proof/Laws/Tbl.lean ====
section
/-! SUPPORT. Laws of tables: what a read gives after a write, and that writing keeps the canonical form. -/

namespace Sys2Proof.Machine

theorem assocFind_put_same {α : Type} (l : List (Nat × α)) (k : Nat) (v : α) : assocFind (assocPut l k v) k = some v := by
  induction l with
  | nil => simp [assocPut, assocFind]
  | cons e t ih =>
    obtain ⟨i, a⟩ := e
    by_cases h : i = k
    · simp [assocPut, assocFind, h]
    · by_cases h2 : k < i
      · simp [assocPut, assocFind, h, h2]
      · simp [assocPut, assocFind, h, h2, ih]

theorem assocFind_put_ne {α : Type} (l : List (Nat × α)) {k j : Nat} (v : α) (hj : j ≠ k) :
    assocFind (assocPut l k v) j = assocFind l j := by
  have hk : ¬k = j := fun h => hj h.symm
  induction l with
  | nil => simp [assocPut, assocFind, hk]
  | cons e t ih =>
    obtain ⟨i, a⟩ := e
    by_cases h : i = k
    · subst h; simp [assocPut, assocFind, hk]
    · by_cases h2 : k < i
      · simp [assocPut, assocFind, h, h2, hk]
      · simp [assocPut, assocFind, h, h2, ih]

theorem assocFind_erase_same {α : Type} (l : List (Nat × α)) (k : Nat) : assocFind (assocErase l k) k = none := by
  induction l with
  | nil => rfl
  | cons e t ih =>
    obtain ⟨i, a⟩ := e
    by_cases h : i = k <;> simp [assocErase, assocFind, h, ih]

theorem assocFind_erase_ne {α : Type} (l : List (Nat × α)) {k j : Nat} (hj : j ≠ k) :
    assocFind (assocErase l k) j = assocFind l j := by
  have hk : ¬k = j := fun h => hj h.symm
  induction l with
  | nil => rfl
  | cons e t ih =>
    obtain ⟨i, a⟩ := e
    by_cases h : i = k
    · subst h; simp [assocErase, assocFind, hk, ih]
    · simp [assocErase, assocFind, h, ih]

/-- A read of the index written gives the value, of another index what it gave. -/
theorem tblGet_set {α : Type} [DecidableEq α] (d d' : α) (t : Tbl α) (k j : Nat) (v : α) :
    tblGet d' (tblSet d t k v) j = if j = k then (if v = d then d' else v) else tblGet d' t j := by
  unfold tblGet tblSet
  by_cases hj : j = k
  · subst hj
    by_cases hv : v = d
    · simp [hv, assocFind_erase_same]
    · simp [hv, assocFind_put_same]
  · by_cases hv : v = d
    · simp [hv, hj, assocFind_erase_ne]
    · simp [hv, hj, assocFind_put_ne]

@[simp] theorem tblGet_set_same {α : Type} [DecidableEq α] (d : α) (t : Tbl α) (k : Nat) (v : α) : tblGet d (tblSet d t k v) k = v := by
  rw [tblGet_set]
  by_cases h : v = d <;> simp [h]

theorem tblGet_set_ne {α : Type} [DecidableEq α] (d d' : α) (t : Tbl α) {k j : Nat} (v : α) (h : j ≠ k) :
    tblGet d' (tblSet d t k v) j = tblGet d' t j := by
  rw [tblGet_set, if_neg h]

@[simp] theorem tblGet_mod_same {α : Type} [DecidableEq α] (d : α) (t : Tbl α) (k : Nat) (f : α → α) :
    tblGet d (tblMod d t k f) k = f (tblGet d t k) := by simp [tblMod]

theorem tblGet_mod {α : Type} [DecidableEq α] (d : α) (t : Tbl α) (k j : Nat) (f : α → α) :
    tblGet d (tblMod d t k f) j = if j = k then f (tblGet d t k) else tblGet d t j := by
  by_cases h : j = k
  · subst h; simp
  · simp [tblMod, tblGet_set_ne, h]

@[simp] theorem tblGet_empty {α : Type} (d : α) (k : Nat) : tblGet d tblEmpty k = d := rfl

/-! ### The canonical form -/

theorem risingFrom_mono {α : Type} (l : List (Nat × α)) {a b : Nat} (h : risingFrom b l = true) (hab : a ≤ b) : risingFrom a l = true := by
  cases l with
  | nil => rfl
  | cons e t =>
    obtain ⟨i, x⟩ := e
    simp only [risingFrom, Bool.and_eq_true, decide_eq_true_eq] at h ⊢
    exact ⟨Nat.le_trans hab h.1, h.2⟩

theorem risingFrom_erase {α : Type} (l : List (Nat × α)) (k lo : Nat) (h : risingFrom lo l = true) : risingFrom lo (assocErase l k) = true := by
  induction l generalizing lo with
  | nil => rfl
  | cons e t ih =>
    obtain ⟨i, a⟩ := e
    simp only [risingFrom, Bool.and_eq_true, decide_eq_true_eq] at h
    by_cases hk : i = k
    · simp only [assocErase, hk, if_true]
      exact risingFrom_mono _ (ih _ h.2) (by omega)
    · simp only [assocErase, hk, if_false, risingFrom, Bool.and_eq_true, decide_eq_true_eq]
      exact ⟨h.1, ih _ h.2⟩

theorem risingFrom_put {α : Type} (l : List (Nat × α)) (k lo : Nat) (v : α) (h : risingFrom lo l = true) (hk : lo ≤ k) :
    risingFrom lo (assocPut l k v) = true := by
  induction l generalizing lo with
  | nil => simp [assocPut, risingFrom, hk]
  | cons e t ih =>
    obtain ⟨i, a⟩ := e
    simp only [risingFrom, Bool.and_eq_true, decide_eq_true_eq] at h
    by_cases h1 : i = k
    · subst h1; simp [assocPut, risingFrom, h.1, h.2]
    · by_cases h2 : k < i
      · simp only [assocPut, h1, h2, if_true, if_false, risingFrom, Bool.and_eq_true, decide_eq_true_eq]
        exact ⟨hk, by omega, h.2⟩
      · simp only [assocPut, h1, h2, if_false, risingFrom, Bool.and_eq_true, decide_eq_true_eq]
        exact ⟨h.1, ih _ h.2 (by omega)⟩

theorem risingFrom_filter {α : Type} (l : List (Nat × α)) (p : Nat × α → Bool) (lo : Nat) (h : risingFrom lo l = true) :
    risingFrom lo (l.filter p) = true := by
  induction l generalizing lo with
  | nil => rfl
  | cons e t ih =>
    obtain ⟨i, a⟩ := e
    simp only [risingFrom, Bool.and_eq_true, decide_eq_true_eq] at h
    by_cases hp : p (i, a) = true
    · simp only [List.filter_cons, hp, if_true, risingFrom, Bool.and_eq_true, decide_eq_true_eq]
      exact ⟨h.1, ih _ h.2⟩
    · simp only [List.filter_cons, hp]
      exact risingFrom_mono _ (ih _ h.2) (by omega)

theorem mem_assocErase {α : Type} {l : List (Nat × α)} {k : Nat} {e : Nat × α} (h : e ∈ assocErase l k) : e ∈ l := by
  induction l with
  | nil => simp [assocErase] at h
  | cons x t ih =>
    obtain ⟨i, a⟩ := x
    by_cases hk : i = k
    · simp only [assocErase, hk, if_true] at h; exact List.mem_cons_of_mem _ (ih h)
    · simp only [assocErase, hk, if_false, List.mem_cons] at h ⊢
      exact h.imp id ih

theorem mem_assocPut {α : Type} {l : List (Nat × α)} {k : Nat} {v : α} {e : Nat × α} (h : e ∈ assocPut l k v) : e = (k, v) ∨ e ∈ l := by
  induction l with
  | nil => simpa [assocPut] using h
  | cons x t ih =>
    obtain ⟨i, a⟩ := x
    by_cases h1 : i = k
    · simp only [assocPut, h1, if_true, List.mem_cons] at h ⊢
      exact h.elim Or.inl (fun h => Or.inr (Or.inr h))
    · by_cases h2 : k < i
      · simp only [assocPut, h1, h2, if_true, if_false, List.mem_cons] at h ⊢
        exact h
      · simp only [assocPut, h1, h2, if_false, List.mem_cons] at h ⊢
        rcases h with h | h
        · exact Or.inr (Or.inl h)
        · exact (ih h).imp id Or.inr

@[simp] theorem tblWf_empty {α : Type} [DecidableEq α] (d : Nat → α) : tblWf d (tblEmpty : Tbl α) = true := rfl

/-- A write keeps the canonical form. -/
theorem tblWf_set {α : Type} [DecidableEq α] (d : Nat → α) (t : Tbl α) (k : Nat) (v : α) (h : tblWf d t = true) :
    tblWf d (tblSet (d k) t k v) = true := by
  simp only [tblWf, Bool.and_eq_true, List.all_eq_true, decide_eq_true_eq] at h ⊢
  unfold tblSet
  by_cases hv : v = d k
  · simp only [hv, if_true]
    exact ⟨risingFrom_erase _ _ _ h.1, fun e he => h.2 e (mem_assocErase he)⟩
  · simp only [hv, if_false]
    refine ⟨risingFrom_put _ _ _ _ h.1 (Nat.zero_le _), fun e he => ?_⟩
    rcases mem_assocPut he with he | he
    · subst he; exact hv
    · exact h.2 e he

theorem tblWf_mod {α : Type} [DecidableEq α] (d : Nat → α) (t : Tbl α) (k : Nat) (f : α → α) (h : tblWf d t = true) :
    tblWf d (tblMod (d k) t k f) = true := tblWf_set d t k _ h

theorem rising_set {α : Type} [DecidableEq α] (d : α) (t : Tbl α) (k : Nat) (v : α) (h : t.rising) : (tblSet d t k v).rising := by
  unfold tblSet
  split
  · exact risingFrom_erase _ _ _ h
  · exact risingFrom_put _ _ _ _ h (Nat.zero_le _)

theorem rising_mod {α : Type} [DecidableEq α] (d : α) (t : Tbl α) (k : Nat) (f : α → α) (h : t.rising) : (tblMod d t k f).rising :=
  rising_set d t k _ h

theorem rising_filter {α : Type} (t : Tbl α) (p : Nat × α → Bool) (h : t.rising) : Tbl.rising ⟨t.entries.filter p⟩ :=
  risingFrom_filter _ _ _ h

/-- Dropping entries at other indices leaves what an index reads as. -/
theorem assocFind_filter {α : Type} (l : List (Nat × α)) (p : Nat × α → Bool) (k : Nat) (h : ∀ e, e.1 = k → p e = true) :
    assocFind (l.filter p) k = assocFind l k := by
  induction l with
  | nil => rfl
  | cons e t ih =>
    obtain ⟨i, a⟩ := e
    by_cases hk : i = k
    · have hp := h (i, a) hk
      rw [List.filter_cons_of_pos hp]
      simp [assocFind, hk]
    · by_cases hp : p (i, a) = true
      · simp [hp, assocFind, hk, ih]
      · simp [hp, assocFind, hk, ih]

end Sys2Proof.Machine
end

