-- ==== Sys2Proof/Laws/Regs.lean ====
section
/-! SUPPORT. Laws of the register file: no two registers and no two fields lie on each other, and what a field reads as after a write
of a field. -/

namespace Sys2Proof.Machine

/-! ### Places -/

/-- The last offset of an array. -/
def Place.last (p : Place) : Nat := p.base + p.s1 * (p.n1 - 1) + p.s2 * (p.n2 - 1)

/-- How far the inner index reaches. -/
def Place.inner (p : Place) : Nat := p.s2 * (p.n2 - 1)

/-- Two arrays have no offset in common: one ends before the other, or they keep to different residues of their strides. -/
def Place.apart (p q : Place) : Bool :=
  let S := if p.n1 = 1 then q.s1 else p.s1
  let T := if p.n2 = 1 then q.s2 else p.s2
  decide (p.last < q.base) || decide (q.last < p.base) ||
  (decide (0 < S) && (decide (p.n1 = 1) || decide (p.s1 = S)) && (decide (q.n1 = 1) || decide (q.s1 = S)) &&
   decide (p.base % S + p.inner < S) && decide (q.base % S + q.inner < S) &&
   (decide (p.base % S + p.inner < q.base % S) || decide (q.base % S + q.inner < p.base % S) ||
    (decide (0 < T) && (decide (p.n2 = 1) || decide (p.s2 = T)) && (decide (q.n2 = 1) || decide (q.s2 = T)) &&
      decide (p.base % S % T ≠ q.base % S % T))))

/-- An array's own elements lie apart. -/
def Place.own (p : Place) : Bool :=
  decide (0 < p.n1) && decide (0 < p.n2) && (decide (p.n1 = 1) || decide (p.inner < p.s1)) && (decide (p.n2 = 1) || decide (0 < p.s2))

/-- Every two of a list are apart. -/
def allApart : List Place → Bool
  | [] => true
  | p :: t => t.all p.apart && allApart t

theorem Reg.mem_all (r : Reg) : r ∈ Reg.all := by cases r <;> decide

theorem places_apart : allApart (Reg.all.map Reg.place) = true := by decide +kernel

theorem places_own : (Reg.all.map Reg.place).all Place.own = true := by decide +kernel

theorem Reg.own (r : Reg) : r.place.own = true := by
  have h := places_own
  rw [List.all_eq_true] at h
  exact h _ (List.mem_map_of_mem (Reg.mem_all r))

theorem apart_of_mem {l : List Reg} (h : allApart (l.map Reg.place) = true) {r r' : Reg} (hr : r ∈ l) (hr' : r' ∈ l) (hne : r ≠ r') :
    r.place.apart r'.place = true ∨ r'.place.apart r.place = true := by
  induction l with
  | nil => simp at hr
  | cons x t ih =>
    simp only [List.map_cons, allApart, Bool.and_eq_true, List.all_eq_true] at h
    rcases List.mem_cons.mp hr with rfl | hr1
    · rcases List.mem_cons.mp hr' with rfl | hr2
      · exact absurd rfl hne
      · exact Or.inl (h.1 _ (List.mem_map_of_mem hr2))
    · rcases List.mem_cons.mp hr' with rfl | hr2
      · exact Or.inr (h.1 _ (List.mem_map_of_mem hr1))
      · exact ih h.2 hr1 hr2

/-- The offset of an element of an array. -/
def Place.at_ (p : Place) (a b : Nat) : Nat := p.base + p.s1 * a + p.s2 * b

theorem Place.at_le (p : Place) {a b : Nat} (ha : a < p.n1) (hb : b < p.n2) : p.base ≤ p.at_ a b ∧ p.at_ a b ≤ p.last := by
  have h1 : p.s1 * a ≤ p.s1 * (p.n1 - 1) := Nat.mul_le_mul_left _ (by omega)
  have h2 : p.s2 * b ≤ p.s2 * (p.n2 - 1) := Nat.mul_le_mul_left _ (by omega)
  unfold Place.at_ Place.last
  omega

theorem Place.at_mod (p : Place) {S a b : Nat} (hS : p.n1 = 1 ∨ p.s1 = S) (ha : a < p.n1) (hb : b < p.n2) (hin : p.base % S + p.inner < S) :
    p.at_ a b % S = p.base % S + p.s2 * b := by
  have h2 : p.s2 * b ≤ p.inner := Nat.mul_le_mul_left _ (by omega)
  have h1 : p.at_ a b % S = (p.base % S + p.s2 * b) % S := by
    unfold Place.at_
    rcases hS with h | h
    · have : a = 0 := by omega
      subst this
      simp [Nat.add_mod]
    · subst h
      have : p.base + p.s1 * a + p.s2 * b = p.base + p.s2 * b + p.s1 * a := by omega
      rw [this, Nat.add_mul_mod_self_left]
      simp [Nat.add_mod]
  rw [h1, Nat.mod_eq_of_lt (by omega)]

theorem Place.apart_ne {p q : Place} (h : p.apart q = true) {a b c d : Nat} (ha : a < p.n1) (hb : b < p.n2) (hc : c < q.n1) (hd : d < q.n2) :
    p.at_ a b ≠ q.at_ c d := by
  intro he
  have hp := p.at_le ha hb
  have hq := q.at_le hc hd
  unfold Place.apart at h
  generalize hS : (if p.n1 = 1 then q.s1 else p.s1) = S at h
  generalize hT : (if p.n2 = 1 then q.s2 else p.s2) = T at h
  simp only [Bool.or_eq_true, Bool.and_eq_true, decide_eq_true_eq] at h
  rcases h with (h | h) | ⟨⟨⟨⟨⟨h0, h1⟩, h2⟩, h3⟩, h4⟩, h5⟩
  · omega
  · omega
  · have m1 := p.at_mod h1 ha hb h3
    have m2 := q.at_mod h2 hc hd h4
    have i1 : p.s2 * b ≤ p.inner := Nat.mul_le_mul_left _ (by omega)
    have i2 : q.s2 * d ≤ q.inner := Nat.mul_le_mul_left _ (by omega)
    rw [he, m2] at m1
    rcases h5 with (h5 | h5) | ⟨⟨⟨t0, t1⟩, t2⟩, t3⟩
    · omega
    · omega
    · apply t3
      have e1 : (p.base % S + p.s2 * b) % T = p.base % S % T := by
        rcases t1 with t | t
        · have : b = 0 := by omega
          subst this; simp
        · subst t; simp
      have e2 : (q.base % S + q.s2 * d) % T = q.base % S % T := by
        rcases t2 with t | t
        · have : d = 0 := by omega
          subst this; simp
        · subst t; simp
      rw [← e1, ← e2, m1]

theorem Place.own_inj {p : Place} (h : p.own = true) {a b c d : Nat} (ha : a < p.n1) (hb : b < p.n2) (hc : c < p.n1) (hd : d < p.n2)
    (he : p.at_ a b = p.at_ c d) : a = c ∧ b = d := by
  simp only [Place.own, Bool.or_eq_true, Bool.and_eq_true, decide_eq_true_eq] at h
  obtain ⟨⟨⟨_, _⟩, h1⟩, h2⟩ := h
  have i1 : p.s2 * b ≤ p.inner := Nat.mul_le_mul_left _ (by omega)
  have i2 : p.s2 * d ≤ p.inner := Nat.mul_le_mul_left _ (by omega)
  unfold Place.at_ at he
  have hac : a = c := by
    rcases h1 with h1 | h1
    · omega
    · rcases Nat.lt_trichotomy a c with hlt | heq | hgt
      · have := Nat.mul_le_mul_left p.s1 (show a + 1 ≤ c from hlt)
        rw [Nat.mul_add, Nat.mul_one] at this
        omega
      · exact heq
      · have := Nat.mul_le_mul_left p.s1 (show c + 1 ≤ a from hgt)
        rw [Nat.mul_add, Nat.mul_one] at this
        omega
  subst hac
  refine ⟨rfl, ?_⟩
  rcases h2 with h2 | h2
  · omega
  · exact Nat.eq_of_mul_eq_mul_left h2 (by omega)

theorem Reg.offset_at (r : Reg) (i : Nat) : r.offset i = r.place.at_ (i / r.place.n2) (i % r.place.n2) := rfl

theorem Reg.index_lt (r : Reg) {i : Nat} (hi : i < r.count) : i / r.place.n2 < r.place.n1 ∧ i % r.place.n2 < r.place.n2 := by
  have ho := r.own
  simp only [Place.own, Bool.or_eq_true, Bool.and_eq_true, decide_eq_true_eq] at ho
  unfold Reg.count at hi
  exact ⟨Nat.div_lt_of_lt_mul (by rw [Nat.mul_comm]; exact hi), Nat.mod_lt _ ho.1.1.2⟩

/-- Two elements at one offset are one element. -/
theorem Reg.offset_inj {r r' : Reg} {i j : Nat} (hi : i < r.count) (hj : j < r'.count) (he : r.offset i = r'.offset j) : r = r' ∧ i = j := by
  have h1 := r.index_lt hi
  have h2 := r'.index_lt hj
  rw [Reg.offset_at, Reg.offset_at] at he
  by_cases hr : r = r'
  · subst hr
    refine ⟨rfl, ?_⟩
    have h := Place.own_inj r.own h1.1 h1.2 h2.1 h2.2 he
    rw [← Nat.div_add_mod i r.place.n2, ← Nat.div_add_mod j r.place.n2, h.1, h.2]
  · rcases apart_of_mem places_apart (Reg.mem_all r) (Reg.mem_all r') hr with h | h
    · exact absurd he (Place.apart_ne h h1.1 h1.2 h2.1 h2.2)
    · exact absurd he.symm (Place.apart_ne h h2.1 h2.2 h1.1 h1.2)

/-! ### The register at an offset -/

/-- One register's part of the search. -/
def Reg.probe (r : Reg) (off : Nat) : Option (Reg × Nat) :=
  let p := r.place
  if off < p.base then none else
  let d := off - p.base
  let i := if p.s1 = 0 then 0 else d / p.s1
  let d' := d - p.s1 * i
  let j := if p.s2 = 0 then 0 else d' / p.s2
  if i < p.n1 ∧ j < p.n2 ∧ d = p.s1 * i + p.s2 * j then some (r, i * p.n2 + j) else none

theorem Reg.ofOffset_eq (off : Nat) : Reg.ofOffset off = Reg.all.findSome? (fun r => r.probe off) := rfl

/-- What the search finds lies at the offset. -/
theorem Reg.probe_sound {r r' : Reg} {off k : Nat} (h : r.probe off = some (r', k)) : r' = r ∧ k < r.count ∧ r.offset k = off := by
  unfold Reg.probe at h
  simp only at h
  by_cases hb : off < r.place.base
  · rw [if_pos hb] at h; cases h
  · rw [if_neg hb] at h
    generalize (if r.place.s1 = 0 then 0 else (off - r.place.base) / r.place.s1) = i at h
    generalize (if r.place.s2 = 0 then 0 else (off - r.place.base - r.place.s1 * i) / r.place.s2) = j at h
    by_cases hc : i < r.place.n1 ∧ j < r.place.n2 ∧ off - r.place.base = r.place.s1 * i + r.place.s2 * j
    · rw [if_pos hc] at h
      cases h
      have hn : 0 < r.place.n2 := by omega
      refine ⟨rfl, ?_, ?_⟩
      · unfold Reg.count
        have : (i + 1) * r.place.n2 ≤ r.place.n1 * r.place.n2 := Nat.mul_le_mul_right _ hc.1
        rw [Nat.add_mul, Nat.one_mul] at this
        omega
      · unfold Reg.offset
        have h1 : (i * r.place.n2 + j) / r.place.n2 = i := by
          rw [Nat.mul_comm, Nat.mul_add_div hn, Nat.div_eq_of_lt hc.2.1, Nat.add_zero]
        have h2 : (i * r.place.n2 + j) % r.place.n2 = j := by
          rw [Nat.mul_comm, Nat.mul_add_mod, Nat.mod_eq_of_lt hc.2.1]
        simp only [h1, h2]
        omega
    · rw [if_neg hc] at h; cases h

theorem places_single : (Reg.all.map Reg.place).all (fun p => decide (p.n1 ≠ 1) || decide (p.s1 = 0) || decide (p.inner < p.s1)) = true := by
  decide +kernel

/-- Each register finds its own elements. -/
theorem Reg.probe_own (r : Reg) {i : Nat} (hi : i < r.count) : r.probe (r.offset i) = some (r, i) := by
  have h1 := r.index_lt hi
  have ho := r.own
  have hs := places_single
  rw [List.all_eq_true] at hs
  have hs := hs _ (List.mem_map_of_mem (Reg.mem_all r))
  simp only [Place.own, Bool.or_eq_true, Bool.and_eq_true, decide_eq_true_eq] at ho hs
  have hin : r.place.s2 * (i % r.place.n2) ≤ r.place.inner := Nat.mul_le_mul_left _ (by omega)
  unfold Reg.probe Reg.offset
  simp only
  generalize ha : i / r.place.n2 = a at *
  generalize hb : i % r.place.n2 = b at *
  have e0 : ¬ (r.place.base + r.place.s1 * a + r.place.s2 * b < r.place.base) := by omega
  have e1 : r.place.base + r.place.s1 * a + r.place.s2 * b - r.place.base = r.place.s1 * a + r.place.s2 * b := by omega
  rw [if_neg e0, e1]
  have e2 : (if r.place.s1 = 0 then 0 else (r.place.s1 * a + r.place.s2 * b) / r.place.s1) = a := by
    split
    · rename_i h0
      rcases ho.1.2 with h | h
      · omega
      · omega
    · rename_i h0
      have hlt : r.place.s2 * b < r.place.s1 := by
        rcases ho.1.2 with h | h
        · rcases hs with (h2 | h2) | h2
          · exact absurd h h2
          · exact absurd h2 h0
          · omega
        · omega
      rw [Nat.mul_add_div (by omega), Nat.div_eq_of_lt hlt, Nat.add_zero]
  rw [e2]
  have e3 : r.place.s1 * a + r.place.s2 * b - r.place.s1 * a = r.place.s2 * b := by omega
  have e4 : (if r.place.s2 = 0 then 0 else (r.place.s1 * a + r.place.s2 * b - r.place.s1 * a) / r.place.s2) = b := by
    rw [e3]
    split
    · rename_i h0
      rcases ho.2 with h | h
      · omega
      · omega
    · rename_i h0
      exact Nat.mul_div_cancel_left _ (by omega)
  rw [e4, if_pos ⟨h1.1, h1.2, rfl⟩, ← ha, ← hb, Nat.mul_comm, Nat.div_add_mod]

/-- The register at the offset of an element is that element. -/
theorem Reg.ofOffset_offset (r : Reg) {i : Nat} (hi : i < r.count) : Reg.ofOffset (r.offset i) = some (r, i) := by
  rw [Reg.ofOffset_eq]
  cases h : Reg.all.findSome? (fun x => x.probe (r.offset i)) with
  | none =>
    have := (List.findSome?_eq_none_iff.mp h) r (Reg.mem_all r)
    rw [r.probe_own hi] at this
    cases this
  | some x =>
    obtain ⟨r', k⟩ := x
    obtain ⟨y, _, hy⟩ := List.exists_of_findSome?_eq_some h
    obtain ⟨h1, h2, h3⟩ := Reg.probe_sound hy
    subst h1
    obtain ⟨h4, h5⟩ := Reg.offset_inj h2 hi h3
    rw [h4, h5]

theorem places_aligned : (Reg.all.map Reg.place).all (fun p => decide (p.base % 4 = 0) && decide (p.s1 % 4 = 0) && decide (p.s2 % 4 = 0)) = true := by
  decide +kernel

/-- Registers lie at multiples of 4. -/
theorem Reg.offset_aligned (r : Reg) (i : Nat) : r.offset i / 4 * 4 = r.offset i := by
  have h := places_aligned
  rw [List.all_eq_true] at h
  have h := h _ (List.mem_map_of_mem (Reg.mem_all r))
  simp only [Bool.and_eq_true, decide_eq_true_eq] at h
  have h1 : r.place.s1 * (i / r.place.n2) % 4 = 0 := by rw [Nat.mul_mod, h.1.2, Nat.zero_mul]
  have h2 : r.place.s2 * (i % r.place.n2) % 4 = 0 := by rw [Nat.mul_mod, h.2, Nat.zero_mul]
  unfold Reg.offset
  simp only
  omega

/-! ### Words -/

/-- The register file after a write that changes a word. -/
theorem State.setReg_ne (s : State) {r : Reg} {i : Nat} {w : Word} (hi : i < r.count) (hw : s.reg r i ≠ w) :
    s.setReg r i w = { s with regs := tblSet (r.resetWord i) s.regs (r.offset i) w } := by
  unfold State.setReg
  rw [if_pos ⟨hi, hw⟩]

/-- The word that is there already writes nothing. -/
theorem State.setReg_self (s : State) (r : Reg) (i : Nat) : s.setReg r i (s.reg r i) = s := by
  unfold State.setReg
  rw [if_neg (fun h => h.2 rfl)]

@[simp] theorem State.reg_setReg_same (s : State) {r : Reg} {i : Nat} (w : Word) (hi : i < r.count) : (s.setReg r i w).reg r i = w := by
  by_cases hw : s.reg r i = w
  · subst hw; rw [State.setReg_self]
  · rw [State.setReg_ne s hi hw]
    exact tblGet_set_same _ _ _ _

/-- A write of one register leaves every other. -/
theorem State.reg_setReg_ne (s : State) {r r' : Reg} {i j : Nat} (w : Word) (hj : j < r'.count) (h : (r, i) ≠ (r', j)) :
    (s.setReg r i w).reg r' j = s.reg r' j := by
  by_cases hi : i < r.count
  · by_cases hw : s.reg r i = w
    · subst hw; rw [State.setReg_self]
    · rw [State.setReg_ne s hi hw]
      refine tblGet_set_ne _ _ _ _ (fun he => ?_)
      exact h (by obtain ⟨a, b⟩ := Reg.offset_inj hj hi he; rw [a, b])
  · unfold State.setReg
    rw [if_neg (fun h => hi h.1)]

theorem State.reg_setReg (s : State) {r r' : Reg} {i j : Nat} (w : Word) (hj : j < r'.count) :
    (s.setReg r i w).reg r' j = if (r', j) = (r, i) then w else s.reg r' j := by
  by_cases h : (r', j) = (r, i)
  · cases h; simp [hj]
  · rw [if_neg h, State.reg_setReg_ne s w hj (fun e => h e.symm)]

/-! ### Fields -/

/-- A field's place in its word is one of 32 bits, and its bits in the word. -/
def Fld.ok (x : Fld) : Bool := decide (x.lo ≤ x.hi) && decide (x.hi < 32)

/-- The fields of a list lie apart in their word. -/
def fieldsApart : List Fld → Bool
  | [] => true
  | x :: t => t.all (fun y => decide (x.hi < y.lo) || decide (y.hi < x.lo)) && fieldsApart t

/-- Every field of a register lies in it, and no two on each other. -/
def Reg.fieldsOk (r : Reg) : Bool := r.fields.all (fun x => decide (x.reg = r) && x.ok) && fieldsApart r.fields

theorem regs_fieldsOk : Reg.all.all Reg.fieldsOk = true := by decide +kernel

theorem Reg.fields_ok (r : Reg) : r.fieldsOk = true := by
  have h := regs_fieldsOk
  rw [List.all_eq_true] at h
  exact h _ (Reg.mem_all r)

theorem Fld.reg_of_mem {r : Reg} {x : Fld} (h : x ∈ r.fields) : x.reg = r ∧ x.lo ≤ x.hi ∧ x.hi < 32 := by
  have hr := r.fields_ok
  simp only [Reg.fieldsOk, Bool.and_eq_true, List.all_eq_true, decide_eq_true_eq, Fld.ok] at hr
  have := hr.1 x h
  exact ⟨this.1, this.2.1, this.2.2⟩

theorem Fld.apart_of_mem {l : List Fld} (h : fieldsApart l = true) {x y : Fld} (hx : x ∈ l) (hy : y ∈ l) (hne : x ≠ y) :
    x.hi < y.lo ∨ y.hi < x.lo := by
  induction l with
  | nil => simp at hx
  | cons z t ih =>
    simp only [fieldsApart, Bool.and_eq_true, List.all_eq_true, Bool.or_eq_true, decide_eq_true_eq] at h
    rcases List.mem_cons.mp hx with rfl | hx1
    · rcases List.mem_cons.mp hy with rfl | hy1
      · exact absurd rfl hne
      · exact h.1 _ hy1
    · rcases List.mem_cons.mp hy with rfl | hy1
      · exact (h.1 _ hx1).symm
      · exact ih h.2 hx1 hy1

theorem Word.testBit_field (w : Word) (hi lo k : Nat) : (Word.field w hi lo).testBit k = (decide (k < hi + 1 - lo) && w.getLsbD (lo + k)) := by
  simp [Word.field, Nat.testBit_mod_two_pow, Nat.testBit_shiftRight, BitVec.getLsbD]

theorem Word.getLsbD_mask {hi lo : Nat} (h : hi < 32) (k : Nat) : (Word.mask hi lo).getLsbD k = (decide (lo ≤ k) && decide (k ≤ hi)) := by
  simp only [Word.mask, BitVec.getLsbD_ofNat, Nat.testBit_shiftLeft, Nat.testBit_two_pow_sub_one]
  by_cases h1 : lo ≤ k <;> by_cases h2 : k ≤ hi <;> by_cases h3 : k < 32 <;> simp [h1, h2, h3] <;> omega

theorem Word.getLsbD_withField (w : Word) {hi lo : Nat} (v : Nat) (h : hi < 32) (k : Nat) :
    (Word.withField w hi lo v).getLsbD k = if lo ≤ k ∧ k ≤ hi then v.testBit (k - lo) else w.getLsbD k := by
  simp only [Word.withField, BitVec.getLsbD_or, BitVec.getLsbD_and, BitVec.getLsbD_not, Word.getLsbD_mask h, BitVec.getLsbD_ofNat,
    Nat.testBit_shiftLeft]
  by_cases h3 : k < 32
  · by_cases h1 : lo ≤ k <;> by_cases h2 : k ≤ hi <;> simp [h1, h2, h3]
  · have hn : ¬(lo ≤ k ∧ k ≤ hi) := by omega
    have hk := w.getLsbD_of_ge k (by omega)
    simp [h3, hn, hk]

theorem Word.field_withField_same (w : Word) {hi lo : Nat} (v : Nat) (h : hi < 32) :
    (Word.withField w hi lo v).field hi lo = v % 2 ^ (hi + 1 - lo) := by
  apply Nat.eq_of_testBit_eq
  intro k
  rw [Word.testBit_field, Nat.testBit_mod_two_pow, Word.getLsbD_withField w v h]
  by_cases hk : k < hi + 1 - lo
  · have : lo ≤ lo + k ∧ lo + k ≤ hi := by omega
    simp [hk, this]
  · simp [hk]

theorem Word.field_withField_ne (w : Word) {hi lo hi' lo' : Nat} (v : Nat) (h : hi < 32) (ha : hi < lo' ∨ hi' < lo) :
    (Word.withField w hi lo v).field hi' lo' = w.field hi' lo' := by
  apply Nat.eq_of_testBit_eq
  intro k
  rw [Word.testBit_field, Word.testBit_field, Word.getLsbD_withField w v h]
  by_cases hk : k < hi' + 1 - lo'
  · have : ¬(lo ≤ lo' + k ∧ lo' + k ≤ hi) := by omega
    simp [hk, this]
  · simp [hk]

/-- A field of the map. -/
def Fld.known (x : Fld) : Prop := x ∈ x.reg.fields

/-- A field read after it is written gives the low bits of what was written. -/
theorem State.f_put_same (s : State) {x : Fld} {i : Nat} (v : Nat) (hx : x ∈ x.reg.fields) (hi : i < x.reg.count) :
    (s.put x i v).f x i = v % 2 ^ (x.hi + 1 - x.lo) := by
  have h := Fld.reg_of_mem hx
  simp [State.f, State.put, hi, Word.field_withField_same _ _ h.2.2]

/-- A write of one field leaves every other. -/
theorem State.f_put_ne (s : State) {x y : Fld} {i j : Nat} (v : Nat) (hx : x ∈ x.reg.fields) (hy : y ∈ y.reg.fields)
    (hj : j < y.reg.count) (h : (y, j) ≠ (x, i)) : (s.put x i v).f y j = s.f y j := by
  unfold State.f State.put
  by_cases hr : (x.reg, i) = (y.reg, j)
  · have h1 : x.reg = y.reg := congrArg Prod.fst hr
    have h2 : i = j := congrArg Prod.snd hr
    subst h2
    have hxy : x ≠ y := fun e => h (by rw [e])
    rw [← h1] at hj ⊢
    rw [State.reg_setReg_same _ _ hj]
    have ha := r_apart hx hy h1 hxy
    exact Word.field_withField_ne _ _ (Fld.reg_of_mem hx).2.2 ha
  · rw [State.reg_setReg_ne s _ hj hr]
where
  r_apart {x y : Fld} (hx : x ∈ x.reg.fields) (hy : y ∈ y.reg.fields) (h1 : x.reg = y.reg) (hxy : x ≠ y) : x.hi < y.lo ∨ y.hi < x.lo := by
    have hr := x.reg.fields_ok
    simp only [Reg.fieldsOk, Bool.and_eq_true] at hr
    exact Fld.apart_of_mem hr.2 hx (h1 ▸ hy) hxy

theorem State.f_put (s : State) {x y : Fld} {i j : Nat} (v : Nat) (hx : x ∈ x.reg.fields) (hy : y ∈ y.reg.fields)
    (hj : j < y.reg.count) : (s.put x i v).f y j = if (y, j) = (x, i) then v % 2 ^ (x.hi + 1 - x.lo) else s.f y j := by
  by_cases h : (y, j) = (x, i)
  · cases h; simp [State.f_put_same _ _ hx hj]
  · rw [if_neg h, State.f_put_ne s v hx hy hj h]

/-- A field is at most what its bits hold. -/
theorem State.f_lt (s : State) (x : Fld) (i : Nat) : s.f x i < 2 ^ (x.hi + 1 - x.lo) := Nat.mod_lt _ (Nat.two_pow_pos _)

end Sys2Proof.Machine
end

