-- ==== Sys2Proof/Laws/Kept.lean ====
section
/-! SUPPORT. What every operation on the state keeps: the canonical form of the tables, what has been sent, and every part and register but
those in its masks. A mask is a number whose bit k stands for the k-th part or register. -/

namespace Sys2Proof.Machine

/-- The bit of a part and of a register in a mask. -/
abbrev Part.bit (p : Part) : Nat := p.ctorIdx
abbrev Reg.bit (r : Reg) : Nat := r.ctorIdx

/-- Every bit of `a` is a bit of `b`. -/
def Sub (a b : Nat) : Prop := a &&& b = a

theorem Sub.bit {a b k : Nat} (h : Sub a b) (hk : a.testBit k = true) : b.testBit k = true := by
  have := congrArg (fun n => n.testBit k) (show a &&& b = a from h)
  simp only [Nat.testBit_and, hk, Bool.true_and] at this
  exact this

theorem Sub.of {a b c : Nat} (e : a &&& b = a) (h : Sub b c) : Sub a c := by
  unfold Sub at h ⊢
  calc a &&& c = (a &&& b) &&& c := by rw [e]
    _ = a &&& (b &&& c) := Nat.and_assoc a b c
    _ = a &&& b := by rw [h]
    _ = a := e

theorem Sub.refl (a : Nat) : Sub a a := Nat.and_self a

/-- From `o` to `c`: canonical tables stay so, nothing sent is taken back, no part outside the mask `P` and no register outside the mask
`R` has changed. -/
structure Kept (P R : Nat) (o c : State) : Prop where
  tables : o.tables.Canonical → c.tables.Canonical
  out : ∃ l, c.out = o.out ++ l
  parts : ∀ p : Part, P.testBit p.bit = false → p.same o c
  regs : ∀ (r : Reg) (i : Nat), i < r.count → R.testBit r.bit = false → c.reg r i = o.reg r i

/-- The same of an answer. -/
def KeptR (P R : Nat) (o : State) : Res → Prop
  | .next t => Kept P R o t
  | _ => True

/-- The same of a state that may be missing. -/
def KeptO (P R : Nat) (o : State) : Option State → Prop
  | some t => Kept P R o t
  | none => True

theorem Kept.refl (P R : Nat) (o : State) : Kept P R o o :=
  ⟨id, ⟨[], by simp⟩, fun p _ => by cases p <;> rfl, fun _ _ _ _ => rfl⟩

/-- What the masks say in the terms of the statements. -/
theorem Kept.touches {P R : Nat} {o c : State} (h : Kept P R o c) {ps : List Part} {rs : List Reg}
    (hp : ∀ p : Part, p ∈ ps ∨ P.testBit p.bit = false) (hr : ∀ r : Reg, r ∈ rs ∨ R.testBit r.bit = false) : Touches o c ps rs :=
  ⟨fun p hn => h.parts p ((hp p).resolve_left hn), fun r i hi hn => h.regs r i hi ((hr r).resolve_left hn)⟩

/-- The parts, listed. -/
def Part.all : List Part :=
  [.pending, .now, .powered, .blockReset, .resume, .brReaction, .refLost, .backup, .tablesInit, .badWords, .step, .balCtr, .lanes, .rgns,
   .heats, .heatOf, .gates, .merges, .domV, .place, .gatesOk, .plan, .planLeft, .baton, .slots, .pacer, .coll, .lim, .gauge, .led, .relay,
   .opal, .nvm, .boot, .host, .test, .pf, .out, .freeCtr, .clock]

theorem Part.mem_all (p : Part) : p ∈ Part.all := by cases p <;> decide

/-- A command keeps what its masks leave out; the masks' checks over the parts and the registers are computed. -/
theorem KeptR.footprint {P R : Nat} {c : Instr} {ps : List Part} {rs : List Reg} (h : ∀ s, KeptR P R s (exec c s))
    (hp : (Part.all.all fun p => ps.contains p || !P.testBit p.bit) = true)
    (hr : (Reg.all.all fun r => rs.contains r || !R.testBit r.bit) = true) : Footprint c ps rs := fun s t e => by
  have k := h s
  rw [e] at k
  have hk : Kept P R s t := k
  refine hk.touches (fun p => ?_) (fun r => ?_)
  · simpa using List.all_eq_true.mp hp p p.mem_all
  · simpa using List.all_eq_true.mp hr r r.mem_all

variable {P R : Nat} {o : State}

theorem KeptR_next (t : State) : KeptR P R o (.next t) = Kept P R o t := rfl
theorem KeptO_some (t : State) : KeptO P R o (some t) = Kept P R o t := rfl

theorem kept_ite (c : Prop) [Decidable c] (a b : State) (ha : Kept P R o a) (hb : Kept P R o b) : Kept P R o (if c then a else b) := by
  split <;> assumption

theorem keptR_ite (c : Prop) [Decidable c] (a b : Res) (ha : KeptR P R o a) (hb : KeptR P R o b) : KeptR P R o (if c then a else b) := by
  split <;> assumption

theorem keptO_ite (c : Prop) [Decidable c] (a b : Option State) (ha : KeptO P R o a) (hb : KeptO P R o b) :
    KeptO P R o (if c then a else b) := by split <;> assumption

theorem kept_ite_fst {α : Type} (c : Prop) [Decidable c] (a b : State × α) (ha : Kept P R o a.1) (hb : Kept P R o b.1) :
    Kept P R o (if c then a else b).1 := by split <;> assumption

theorem kept_bind (x : Option State) (d : State) (hx : KeptO P R o x) (hd : Kept P R o d) : Kept P R o (x.getD d) := by
  cases x with
  | none => exact hd
  | some t => exact hx

theorem foldl_kept {α : Type} (l : List α) (g : State → α → State) (s : State)
    (hg : ∀ (y : State) (a : α), Kept P R o y → Kept P R o (g y a)) (h : Kept P R o s) : Kept P R o (l.foldl g s) := by
  induction l generalizing s with
  | nil => exact h
  | cons a t ih => exact ih _ (hg _ _ h)

theorem foldl_kept_fst {α β : Type} (l : List α) (g : State × β → α → State × β) (s : State × β)
    (hg : ∀ (y : State × β) (a : α), Kept P R o y.1 → Kept P R o (g y a).1) (h : Kept P R o s.1) : Kept P R o (l.foldl g s).1 := by
  induction l generalizing s with
  | nil => exact h
  | cons a t ih => exact ih _ (hg _ _ h)

theorem checked_kept (ok : Bool) (name : String) (act : Res) (h : KeptR P R o act) : KeptR P R o (checked ok name act) := by
  unfold checked; split
  · exact h
  · trivial

theorem kept_pair {β : Type} (a : State) (b : β) (h : Kept P R o a) : Kept P R o ((a, b) : State × β).1 := h

theorem State.forEach_kept {α : Type} (s : State) (l : List α) (g : State → α → State)
    (hg : ∀ (y : State) (a : α), Kept P R o y → Kept P R o (g y a)) (h : Kept P R o s) : Kept P R o (s.forEach l g) :=
  foldl_kept l g s hg h

/-- The same where the elements' own properties count. -/
theorem forEach_kept_mem {α : Type} (s : State) (l : List α) (g : State → α → State)
    (hg : ∀ (y : State) (a : α), a ∈ l → Kept P R o y → Kept P R o (g y a)) (h : Kept P R o s) : Kept P R o (s.forEach l g) := by
  unfold State.forEach
  induction l generalizing s with
  | nil => exact h
  | cons a t ih => exact ih _ (fun y b hb => hg y b (List.mem_cons_of_mem _ hb)) (hg _ _ List.mem_cons_self h)

/-! ### One part is written -/

theorem kept_now (s : State) (v : Nat) (hP : P.testBit Part.now.bit = true) (h : Kept P R o s) : Kept P R o { s with now := v } :=
  ⟨h.tables, h.out, fun p hp => by cases p <;> first | exact h.parts _ hp | exact absurd (hP.symm.trans hp) (by decide), h.regs⟩

theorem kept_powered (s : State) (v : Bool) (hP : P.testBit Part.powered.bit = true) (h : Kept P R o s) : Kept P R o { s with powered := v } :=
  ⟨h.tables, h.out, fun p hp => by cases p <;> first | exact h.parts _ hp | exact absurd (hP.symm.trans hp) (by decide), h.regs⟩

theorem kept_blockReset (s : State) (v : Option Nat) (hP : P.testBit Part.blockReset.bit = true) (h : Kept P R o s) : Kept P R o { s with blockReset := v } :=
  ⟨h.tables, h.out, fun p hp => by cases p <;> first | exact h.parts _ hp | exact absurd (hP.symm.trans hp) (by decide), h.regs⟩

theorem kept_resume (s : State) (v : Option Nat) (hP : P.testBit Part.resume.bit = true) (h : Kept P R o s) : Kept P R o { s with resume := v } :=
  ⟨h.tables, h.out, fun p hp => by cases p <;> first | exact h.parts _ hp | exact absurd (hP.symm.trans hp) (by decide), h.regs⟩

theorem kept_brReaction (s : State) (v : Bool) (hP : P.testBit Part.brReaction.bit = true) (h : Kept P R o s) : Kept P R o { s with brReaction := v } :=
  ⟨h.tables, h.out, fun p hp => by cases p <;> first | exact h.parts _ hp | exact absurd (hP.symm.trans hp) (by decide), h.regs⟩

theorem kept_refLost (s : State) (v : Bool) (hP : P.testBit Part.refLost.bit = true) (h : Kept P R o s) : Kept P R o { s with refLost := v } :=
  ⟨h.tables, h.out, fun p hp => by cases p <;> first | exact h.parts _ hp | exact absurd (hP.symm.trans hp) (by decide), h.regs⟩

theorem kept_backup (s : State) (v : Bool) (hP : P.testBit Part.backup.bit = true) (h : Kept P R o s) : Kept P R o { s with backup := v } :=
  ⟨h.tables, h.out, fun p hp => by cases p <;> first | exact h.parts _ hp | exact absurd (hP.symm.trans hp) (by decide), h.regs⟩

theorem kept_tablesInit (s : State) (v : Bool) (hP : P.testBit Part.tablesInit.bit = true) (h : Kept P R o s) : Kept P R o { s with tablesInit := v } :=
  ⟨h.tables, h.out, fun p hp => by cases p <;> first | exact h.parts _ hp | exact absurd (hP.symm.trans hp) (by decide), h.regs⟩

theorem kept_badWords (s : State) (v : List (Nat × Nat)) (hP : P.testBit Part.badWords.bit = true) (h : Kept P R o s) : Kept P R o { s with badWords := v } :=
  ⟨h.tables, h.out, fun p hp => by cases p <;> first | exact h.parts _ hp | exact absurd (hP.symm.trans hp) (by decide), h.regs⟩

theorem kept_step (s : State) (v : StepUnit) (hP : P.testBit Part.step.bit = true) (h : Kept P R o s)
    (hb : v.base = s.step.base := by rfl) : Kept P R o { s with step := v } :=
  ⟨h.tables, h.out, fun p hp => by
    cases p <;> first | exact h.parts _ hp | exact absurd (hP.symm.trans hp) (by decide) | exact hb.trans (h.parts .clock hp), h.regs⟩

theorem kept_clock (s : State) (v : StepUnit) (hP : P.testBit Part.step.bit = true) (hC : P.testBit Part.clock.bit = true) (h : Kept P R o s) :
    Kept P R o { s with step := v } :=
  ⟨h.tables, h.out, fun p hp => by
    cases p <;> first | exact h.parts _ hp | exact absurd (hP.symm.trans hp) (by decide) | exact absurd (hC.symm.trans hp) (by decide), h.regs⟩

theorem kept_balCtr (s : State) (v : Nat) (hP : P.testBit Part.balCtr.bit = true) (h : Kept P R o s) : Kept P R o { s with balCtr := v } :=
  ⟨h.tables, h.out, fun p hp => by cases p <;> first | exact h.parts _ hp | exact absurd (hP.symm.trans hp) (by decide), h.regs⟩

theorem kept_merges (s : State) (v : List PMerge) (hP : P.testBit Part.merges.bit = true) (h : Kept P R o s) : Kept P R o { s with merges := v } :=
  ⟨h.tables, h.out, fun p hp => by cases p <;> first | exact h.parts _ hp | exact absurd (hP.symm.trans hp) (by decide), h.regs⟩

theorem kept_domV (s : State) (v : Tbl Nat) (hP : P.testBit Part.domV.bit = true) (h : Kept P R o s) : Kept P R o { s with domV := v } :=
  ⟨h.tables, h.out, fun p hp => by cases p <;> first | exact h.parts _ hp | exact absurd (hP.symm.trans hp) (by decide), h.regs⟩

theorem kept_gatesOk (s : State) (v : List Nat) (hP : P.testBit Part.gatesOk.bit = true) (h : Kept P R o s) : Kept P R o { s with gatesOk := v } :=
  ⟨h.tables, h.out, fun p hp => by cases p <;> first | exact h.parts _ hp | exact absurd (hP.symm.trans hp) (by decide), h.regs⟩

theorem kept_plan (s : State) (v : List Nat) (hP : P.testBit Part.plan.bit = true) (h : Kept P R o s) : Kept P R o { s with plan := v } :=
  ⟨h.tables, h.out, fun p hp => by cases p <;> first | exact h.parts _ hp | exact absurd (hP.symm.trans hp) (by decide), h.regs⟩

theorem kept_planLeft (s : State) (v : List Nat) (hP : P.testBit Part.planLeft.bit = true) (h : Kept P R o s) : Kept P R o { s with planLeft := v } :=
  ⟨h.tables, h.out, fun p hp => by cases p <;> first | exact h.parts _ hp | exact absurd (hP.symm.trans hp) (by decide), h.regs⟩

theorem kept_baton (s : State) (v : BatonLink) (hP : P.testBit Part.baton.bit = true) (h : Kept P R o s) : Kept P R o { s with baton := v } :=
  ⟨h.tables, h.out, fun p hp => by cases p <;> first | exact h.parts _ hp | exact absurd (hP.symm.trans hp) (by decide), h.regs⟩

theorem kept_pacer (s : State) (v : Pacer) (hP : P.testBit Part.pacer.bit = true) (h : Kept P R o s) : Kept P R o { s with pacer := v } :=
  ⟨h.tables, h.out, fun p hp => by cases p <;> first | exact h.parts _ hp | exact absurd (hP.symm.trans hp) (by decide), h.regs⟩

theorem kept_coll (s : State) (v : Collector) (hP : P.testBit Part.coll.bit = true) (h : Kept P R o s) : Kept P R o { s with coll := v } :=
  ⟨h.tables, h.out, fun p hp => by cases p <;> first | exact h.parts _ hp | exact absurd (hP.symm.trans hp) (by decide), h.regs⟩

theorem kept_lim (s : State) (v : Lim) (hP : P.testBit Part.lim.bit = true) (h : Kept P R o s) : Kept P R o { s with lim := v } :=
  ⟨h.tables, h.out, fun p hp => by cases p <;> first | exact h.parts _ hp | exact absurd (hP.symm.trans hp) (by decide), h.regs⟩

theorem kept_gauge (s : State) (v : Gauge) (hP : P.testBit Part.gauge.bit = true) (h : Kept P R o s) : Kept P R o { s with gauge := v } :=
  ⟨h.tables, h.out, fun p hp => by cases p <;> first | exact h.parts _ hp | exact absurd (hP.symm.trans hp) (by decide), h.regs⟩

theorem kept_led (s : State) (v : Ledger) (hP : P.testBit Part.led.bit = true) (h : Kept P R o s) : Kept P R o { s with led := v } :=
  ⟨h.tables, h.out, fun p hp => by cases p <;> first | exact h.parts _ hp | exact absurd (hP.symm.trans hp) (by decide), h.regs⟩

theorem kept_relay (s : State) (v : Relay) (hP : P.testBit Part.relay.bit = true) (h : Kept P R o s) : Kept P R o { s with relay := v } :=
  ⟨h.tables, h.out, fun p hp => by cases p <;> first | exact h.parts _ hp | exact absurd (hP.symm.trans hp) (by decide), h.regs⟩

theorem kept_opal (s : State) (v : Opal) (hP : P.testBit Part.opal.bit = true) (h : Kept P R o s) : Kept P R o { s with opal := v } :=
  ⟨h.tables, h.out, fun p hp => by cases p <;> first | exact h.parts _ hp | exact absurd (hP.symm.trans hp) (by decide), h.regs⟩

theorem kept_nvm (s : State) (v : Nvm) (hP : P.testBit Part.nvm.bit = true) (h : Kept P R o s) : Kept P R o { s with nvm := v } :=
  ⟨h.tables, h.out, fun p hp => by cases p <;> first | exact h.parts _ hp | exact absurd (hP.symm.trans hp) (by decide), h.regs⟩

theorem kept_boot (s : State) (v : Boot) (hP : P.testBit Part.boot.bit = true) (h : Kept P R o s) : Kept P R o { s with boot := v } :=
  ⟨h.tables, h.out, fun p hp => by cases p <;> first | exact h.parts _ hp | exact absurd (hP.symm.trans hp) (by decide), h.regs⟩

theorem kept_host (s : State) (v : HostPorts) (hP : P.testBit Part.host.bit = true) (h : Kept P R o s) : Kept P R o { s with host := v } :=
  ⟨h.tables, h.out, fun p hp => by cases p <;> first | exact h.parts _ hp | exact absurd (hP.symm.trans hp) (by decide), h.regs⟩

theorem kept_test (s : State) (v : TestUnit) (hP : P.testBit Part.test.bit = true) (h : Kept P R o s) : Kept P R o { s with test := v } :=
  ⟨h.tables, h.out, fun p hp => by cases p <;> first | exact h.parts _ hp | exact absurd (hP.symm.trans hp) (by decide), h.regs⟩

theorem kept_pf (s : State) (v : Photo) (hP : P.testBit Part.pf.bit = true) (h : Kept P R o s) : Kept P R o { s with pf := v } :=
  ⟨h.tables, h.out, fun p hp => by cases p <;> first | exact h.parts _ hp | exact absurd (hP.symm.trans hp) (by decide), h.regs⟩

theorem kept_freeCtr (s : State) (v : Nat) (hP : P.testBit Part.freeCtr.bit = true) (h : Kept P R o s) : Kept P R o { s with freeCtr := v } :=
  ⟨h.tables, h.out, fun p hp => by cases p <;> first | exact h.parts _ hp | exact absurd (hP.symm.trans hp) (by decide), h.regs⟩

/-- Something is sent. -/
theorem kept_sent (s : State) (l : List Output) (hP : P.testBit Part.out.bit = true) (h : Kept P R o s) :
    Kept P R o { s with out := s.out ++ l } :=
  ⟨h.tables, by
    obtain ⟨k, hk⟩ := h.out
    exact ⟨k ++ l, by show s.out ++ l = _; rw [hk, List.append_assoc]⟩,
   fun p hp => by cases p <;> first | exact h.parts _ hp | exact absurd (hP.symm.trans hp) (by decide), h.regs⟩

/-- Several parts are written at once, none of them a table. -/
theorem kept_upd (s t : State) (Q : Nat) (ht : t.tables = s.tables) (ho : ∃ l, t.out = s.out ++ l) (hr : t.regs = s.regs)
    (hp : ∀ p : Part, Q.testBit p.bit = false → p.same s t) (hQ : Sub Q P) (h : Kept P R o s) : Kept P R o t where
  tables := fun x => ht ▸ h.tables x
  out := by
    obtain ⟨k, hk⟩ := h.out
    obtain ⟨l, hl⟩ := ho
    exact ⟨k ++ l, by rw [hl, hk, List.append_assoc]⟩
  parts := fun p hb => by
    have hq : Q.testBit p.bit = false := by
      cases hc : Q.testBit p.bit
      · rfl
      · exact absurd ((hQ.bit hc).symm.trans hb) (by decide)
    have h1 := h.parts p hb
    have h2 := hp p hq
    cases p <;> exact Eq.trans h2 h1
  regs := fun r i hi hb => by
    rw [← h.regs r i hi hb]
    unfold State.reg
    rw [hr]

/-! ### Where the tables are written -/

theorem State.setReg_kept (s : State) (r : Reg) (i : Nat) (w : Word) (hr : R.testBit r.bit = true) (h : Kept P R o s) :
    Kept P R o (s.setReg r i w) where
  tables := fun x => by
    have hc := h.tables x
    refine { hc with regs := ?_, listed := ?_ }
    · show Tbl.rising (if i < r.count ∧ s.reg r i ≠ w then _ else _)
      split
      · exact rising_set _ _ _ _ hc.regs
      · exact hc.regs
    · intro e he
      have he : e ∈ (if i < r.count ∧ s.reg r i ≠ w then tblSet (r.resetWord i) s.regs (r.offset i) w else s.regs).entries := he
      split at he
      · rename_i hi
        unfold tblSet at he
        split at he
        · exact hc.listed e (mem_assocErase he)
        · rename_i hw
          rcases mem_assocPut he with rfl | he
          · exact ⟨r, i, hi.1, rfl, hw⟩
          · exact hc.listed e he
      · exact hc.listed e he
  out := h.out
  parts := fun p hp => by cases p <;> exact h.parts _ hp
  regs := fun r' j hj hb => by
    rw [State.reg_setReg_ne s w hj (by rintro e; cases e; exact absurd (hr.symm.trans hb) (by decide))]
    exact h.regs r' j hj hb

theorem State.modLane_kept (s : State) (m : Nat) (g : Lane → Lane) (hP : P.testBit Part.lanes.bit = true) (h : Kept P R o s) : Kept P R o (s.modLane m g) :=
  ⟨fun x => { h.tables x with lanes := tblWf_mod (fun _ => ({} : Lane)) _ _ _ (h.tables x).lanes }, h.out,
   fun p hp => by cases p <;> first | exact h.parts _ hp | exact absurd (hP.symm.trans hp) (by decide), h.regs⟩

theorem State.modRgn_kept (s : State) (n : Nat) (g : Rgn → Rgn) (hP : P.testBit Part.rgns.bit = true) (h : Kept P R o s) : Kept P R o (s.modRgn n g) :=
  ⟨fun x => { h.tables x with rgns := tblWf_mod (fun _ => ({} : Rgn)) _ _ _ (h.tables x).rgns }, h.out,
   fun p hp => by cases p <;> first | exact h.parts _ hp | exact absurd (hP.symm.trans hp) (by decide), h.regs⟩

theorem State.modHeat_kept (s : State) (k : Nat) (g : Heat → Heat) (hP : P.testBit Part.heats.bit = true) (h : Kept P R o s) : Kept P R o (s.modHeat k g) :=
  ⟨fun x => { h.tables x with heats := tblWf_mod (fun _ => ({} : Heat)) _ _ _ (h.tables x).heats }, h.out,
   fun p hp => by cases p <;> first | exact h.parts _ hp | exact absurd (hP.symm.trans hp) (by decide), h.regs⟩

theorem State.modSlot_kept (s : State) (k : Nat) (g : Slot → Slot) (hP : P.testBit Part.slots.bit = true) (h : Kept P R o s) : Kept P R o (s.modSlot k g) :=
  ⟨fun x => { h.tables x with slots := tblWf_mod (fun _ => ({} : Slot)) _ _ _ (h.tables x).slots }, h.out,
   fun p hp => by cases p <;> first | exact h.parts _ hp | exact absurd (hP.symm.trans hp) (by decide), h.regs⟩

theorem State.setGate_kept (s : State) (g : Nat) (c : Bool) (hP : P.testBit Part.gates.bit = true) (h : Kept P R o s) : Kept P R o (s.setGate g c) :=
  ⟨fun x => { h.tables x with gates := tblWf_set (fun _ => false) _ _ _ (h.tables x).gates }, h.out,
   fun p hp => by cases p <;> first | exact h.parts _ hp | exact absurd (hP.symm.trans hp) (by decide), h.regs⟩

/-- A register that does not return to its reset value. -/
theorem State.reg_resetRegs_ne (s : State) {l : List Reg} {r : Reg} {i : Nat} (hi : i < r.count) (h : r ∉ l) :
    (s.resetRegs l).reg r i = s.reg r i := by
  unfold State.reg State.resetRegs tblGet
  rw [assocFind_filter]
  intro e he
  rw [he, Reg.ofOffset_offset r hi]
  simpa using h

/-- The registers of a list return to their reset values. -/
theorem State.resetRegs_kept (s : State) (l : List Reg) (hl : ∀ r ∈ l, R.testBit r.bit = true) (h : Kept P R o s) :
    Kept P R o (s.resetRegs l) where
  tables := fun x => { h.tables x with
    regs := rising_filter _ _ (h.tables x).regs
    listed := fun e he => (h.tables x).listed e (List.mem_filter.mp he).1 }
  out := h.out
  parts := fun p hp => by cases p <;> exact h.parts _ hp
  regs := fun r j hj hb => by
    rw [State.reg_resetRegs_ne s hj (fun hm => absurd ((hl r hm).symm.trans hb) (by decide))]
    exact h.regs r j hj hb

/-! ### Heats -/

theorem risingFrom_map_fst {α β : Type} (l : List (Nat × α)) (f : Nat × α → Nat × β) (hf : ∀ e, (f e).1 = e.1) (lo : Nat)
    (h : risingFrom lo l = true) : risingFrom lo (l.map f) = true := by
  induction l generalizing lo with
  | nil => rfl
  | cons e t ih =>
    simp only [risingFrom, Bool.and_eq_true, decide_eq_true_eq, List.map_cons, hf] at h ⊢
    exact ⟨h.1, ih _ h.2⟩

theorem relabel_rising (a b : Nat) (l : List (Nat × Nat)) (h : risingFrom 0 l = true) : risingFrom 0 (relabel a b l) = true :=
  risingFrom_map_fst l (fun x => if x.2 = b then (x.1, a) else x) (fun e => by split <;> rfl) 0 h

theorem relabel_le (a b : Nat) (hab : a ≤ b) (l : List (Nat × Nat)) (h : ∀ e ∈ l, e.2 ≤ e.1) : ∀ e ∈ relabel a b l, e.2 ≤ e.1 := by
  intro e he
  unfold relabel at he
  obtain ⟨x, hx, rfl⟩ := List.mem_map.mp he
  have := h x hx
  split
  · rename_i h2; simp only; omega
  · exact this

theorem labels_fold (gs : List (Nat × Bool)) (l : List (Nat × Nat)) (h : risingFrom 0 l = true) (h' : ∀ e ∈ l, e.2 ≤ e.1) :
    let r := gs.foldl (fun l g => match gateEnds g.1 with
      | some (a, b) =>
        let x := labelOf l a
        let y := labelOf l b
        if x = y then l else relabel (min x y) (max x y) l
      | none => l) l
    risingFrom 0 r = true ∧ ∀ e ∈ r, e.2 ≤ e.1 := by
  induction gs generalizing l with
  | nil => exact ⟨h, h'⟩
  | cons g t ih =>
    simp only [List.foldl_cons]
    apply ih
    · split
      · split
        · exact h
        · exact relabel_rising _ _ _ h
      · exact h
    · split
      · split
        · exact h'
        · exact relabel_le _ _ (by omega) _ h'
      · exact h'

theorem State.labels_ok (s : State) (h : tblWf (fun _ => 0) s.place = true) :
    risingFrom 0 s.labels = true ∧ ∀ e ∈ s.labels, e.2 ≤ e.1 := by
  unfold State.labels
  apply labels_fold
  · unfold State.placed
    rw [List.map_map]
    simp only [tblWf, Bool.and_eq_true] at h
    exact risingFrom_map_fst s.place.entries ((fun n => (n, n)) ∘ fun x => x.1) (fun e => rfl) 0 h.1
  · intro e he
    obtain ⟨n, _, rfl⟩ := List.mem_map.mp he
    exact Nat.le_refl _

theorem State.recompute_kept (s : State) (hP : P.testBit Part.heatOf.bit = true) (h : Kept P R o s) : Kept P R o s.recompute where
  tables := fun x => by
    have hc := h.tables x
    have hl := s.labels_ok hc.place
    exact { hc with
      heatOf := by
        simp only [tblWf, Bool.and_eq_true, List.all_eq_true, decide_eq_true_eq]
        exact ⟨risingFrom_filter _ _ _ hl.1, fun e he => by
          have := (List.mem_filter.mp he).2
          simp only [ne_eq, decide_not, Bool.not_eq_true', decide_eq_false_iff_not] at this
          exact fun h => this h.symm⟩
      lower := fun e he => hl.2 e (List.mem_filter.mp he).1 }
  out := h.out
  parts := fun p hp => by cases p <;> first | exact h.parts _ hp | exact absurd (hP.symm.trans hp) (by decide)
  regs := h.regs

/-! ### What the masks say of single accessors -/

variable {c : State}

theorem Kept.field (h : Kept P R o c) {x : Fld} {i : Nat} (hi : i < x.reg.count) (hb : R.testBit x.reg.bit = false) : c.f x i = o.f x i := by
  unfold State.f; rw [h.regs _ _ hi hb]

theorem Kept.lane (h : Kept P R o c) (hb : P.testBit Part.lanes.bit = false) (m : Nat) : c.lane m = o.lane m := by
  unfold State.lane; rw [show c.lanes = o.lanes from h.parts .lanes hb]

theorem Kept.rgn (h : Kept P R o c) (hb : P.testBit Part.rgns.bit = false) (n : Nat) : c.rgn n = o.rgn n := by
  unfold State.rgn; rw [show c.rgns = o.rgns from h.parts .rgns hb]

theorem Kept.heat (h : Kept P R o c) (hb : P.testBit Part.heats.bit = false) (n : Nat) : c.heat n = o.heat n := by
  unfold State.heat; rw [show c.heats = o.heats from h.parts .heats hb]

theorem Kept.slot (h : Kept P R o c) (hb : P.testBit Part.slots.bit = false) (k : Nat) : c.slot k = o.slot k := by
  unfold State.slot; rw [show c.slots = o.slots from h.parts .slots hb]

theorem Kept.src (h : Kept P R o c) (hb : P.testBit Part.coll.bit = false) (i : Nat) : c.src i = o.src i := by
  unfold State.src; rw [show c.coll = o.coll from h.parts .coll hb]

/-! ### Everything -/

/-- The masks of everything but the queue. -/
def allParts : Nat := 2 ^ 40 - 2
def allRegs : Nat := 2 ^ 201 - 1

theorem allRegs_bit {R : Nat} (h : Sub allRegs R) (r : Reg) : R.testBit r.bit = true := h.bit (by cases r <;> rfl)

/-- The empty tables have the form. -/
theorem Tables.empty_canonical : (⟨tblEmpty, tblEmpty, tblEmpty, tblEmpty, tblEmpty, tblEmpty, tblEmpty, tblEmpty⟩ : Tables).Canonical :=
  ⟨rfl, fun _ h => (nomatch h), rfl, rfl, rfl, rfl, rfl, rfl, rfl, fun _ h => (nomatch h), fun _ h => (nomatch h)⟩

/-- The reset state with the commands that wait and what has been sent kept. -/
theorem kept_of_reset (s : State) {t : State} (e : t.tables = State.reset.tables) (hq : t.pending = s.pending) (ho : t.out = s.out)
    (hP : Sub allParts P) (hR : Sub allRegs R) (h : Kept P R o s) : Kept P R o t :=
  ⟨fun _ => by rw [e]; exact Tables.empty_canonical, by rw [ho]; exact h.out,
   fun p hp => by
    cases p <;> first
      | exact hq.trans (h.parts .pending hp)
      | exact absurd ((hP.bit (by decide)).symm.trans hp) (by decide),
   fun r _ _ hb => absurd ((allRegs_bit hR r).symm.trans hb) (by decide)⟩

end Sys2Proof.Machine
end

