-- ==== Sys2Proof/Laws/State.lean ====
section
/-! SUPPORT. What each update of the state leaves of each of its fields, true by unfolding. -/

namespace Sys2Proof.Machine

variable (s : State)

/-! ### setReg -/

@[simp] theorem State.setReg_pending (r : Reg) (i : Nat) (w : Word) : (s.setReg r i w).pending = s.pending := rfl
@[simp] theorem State.setReg_now (r : Reg) (i : Nat) (w : Word) : (s.setReg r i w).now = s.now := rfl
@[simp] theorem State.setReg_powered (r : Reg) (i : Nat) (w : Word) : (s.setReg r i w).powered = s.powered := rfl
@[simp] theorem State.setReg_blockReset (r : Reg) (i : Nat) (w : Word) : (s.setReg r i w).blockReset = s.blockReset := rfl
@[simp] theorem State.setReg_resume (r : Reg) (i : Nat) (w : Word) : (s.setReg r i w).resume = s.resume := rfl
@[simp] theorem State.setReg_brReaction (r : Reg) (i : Nat) (w : Word) : (s.setReg r i w).brReaction = s.brReaction := rfl
@[simp] theorem State.setReg_refLost (r : Reg) (i : Nat) (w : Word) : (s.setReg r i w).refLost = s.refLost := rfl
@[simp] theorem State.setReg_backup (r : Reg) (i : Nat) (w : Word) : (s.setReg r i w).backup = s.backup := rfl
@[simp] theorem State.setReg_tablesInit (r : Reg) (i : Nat) (w : Word) : (s.setReg r i w).tablesInit = s.tablesInit := rfl
@[simp] theorem State.setReg_badWords (r : Reg) (i : Nat) (w : Word) : (s.setReg r i w).badWords = s.badWords := rfl
@[simp] theorem State.setReg_step (r : Reg) (i : Nat) (w : Word) : (s.setReg r i w).step = s.step := rfl
@[simp] theorem State.setReg_balCtr (r : Reg) (i : Nat) (w : Word) : (s.setReg r i w).balCtr = s.balCtr := rfl
@[simp] theorem State.setReg_lanes (r : Reg) (i : Nat) (w : Word) : (s.setReg r i w).lanes = s.lanes := rfl
@[simp] theorem State.setReg_rgns (r : Reg) (i : Nat) (w : Word) : (s.setReg r i w).rgns = s.rgns := rfl
@[simp] theorem State.setReg_heats (r : Reg) (i : Nat) (w : Word) : (s.setReg r i w).heats = s.heats := rfl
@[simp] theorem State.setReg_heatOf (r : Reg) (i : Nat) (w : Word) : (s.setReg r i w).heatOf = s.heatOf := rfl
@[simp] theorem State.setReg_gates (r : Reg) (i : Nat) (w : Word) : (s.setReg r i w).gates = s.gates := rfl
@[simp] theorem State.setReg_merges (r : Reg) (i : Nat) (w : Word) : (s.setReg r i w).merges = s.merges := rfl
@[simp] theorem State.setReg_domV (r : Reg) (i : Nat) (w : Word) : (s.setReg r i w).domV = s.domV := rfl
@[simp] theorem State.setReg_place (r : Reg) (i : Nat) (w : Word) : (s.setReg r i w).place = s.place := rfl
@[simp] theorem State.setReg_gatesOk (r : Reg) (i : Nat) (w : Word) : (s.setReg r i w).gatesOk = s.gatesOk := rfl
@[simp] theorem State.setReg_plan (r : Reg) (i : Nat) (w : Word) : (s.setReg r i w).plan = s.plan := rfl
@[simp] theorem State.setReg_planLeft (r : Reg) (i : Nat) (w : Word) : (s.setReg r i w).planLeft = s.planLeft := rfl
@[simp] theorem State.setReg_baton (r : Reg) (i : Nat) (w : Word) : (s.setReg r i w).baton = s.baton := rfl
@[simp] theorem State.setReg_slots (r : Reg) (i : Nat) (w : Word) : (s.setReg r i w).slots = s.slots := rfl
@[simp] theorem State.setReg_pacer (r : Reg) (i : Nat) (w : Word) : (s.setReg r i w).pacer = s.pacer := rfl
@[simp] theorem State.setReg_coll (r : Reg) (i : Nat) (w : Word) : (s.setReg r i w).coll = s.coll := rfl
@[simp] theorem State.setReg_lim (r : Reg) (i : Nat) (w : Word) : (s.setReg r i w).lim = s.lim := rfl
@[simp] theorem State.setReg_gauge (r : Reg) (i : Nat) (w : Word) : (s.setReg r i w).gauge = s.gauge := rfl
@[simp] theorem State.setReg_led (r : Reg) (i : Nat) (w : Word) : (s.setReg r i w).led = s.led := rfl
@[simp] theorem State.setReg_relay (r : Reg) (i : Nat) (w : Word) : (s.setReg r i w).relay = s.relay := rfl
@[simp] theorem State.setReg_opal (r : Reg) (i : Nat) (w : Word) : (s.setReg r i w).opal = s.opal := rfl
@[simp] theorem State.setReg_nvm (r : Reg) (i : Nat) (w : Word) : (s.setReg r i w).nvm = s.nvm := rfl
@[simp] theorem State.setReg_boot (r : Reg) (i : Nat) (w : Word) : (s.setReg r i w).boot = s.boot := rfl
@[simp] theorem State.setReg_host (r : Reg) (i : Nat) (w : Word) : (s.setReg r i w).host = s.host := rfl
@[simp] theorem State.setReg_test (r : Reg) (i : Nat) (w : Word) : (s.setReg r i w).test = s.test := rfl
@[simp] theorem State.setReg_pf (r : Reg) (i : Nat) (w : Word) : (s.setReg r i w).pf = s.pf := rfl
@[simp] theorem State.setReg_out (r : Reg) (i : Nat) (w : Word) : (s.setReg r i w).out = s.out := rfl
@[simp] theorem State.setReg_freeCtr (r : Reg) (i : Nat) (w : Word) : (s.setReg r i w).freeCtr = s.freeCtr := rfl

/-! ### put -/

@[simp] theorem State.put_pending (x : Fld) (i v : Nat) : (s.put x i v).pending = s.pending := rfl
@[simp] theorem State.put_now (x : Fld) (i v : Nat) : (s.put x i v).now = s.now := rfl
@[simp] theorem State.put_powered (x : Fld) (i v : Nat) : (s.put x i v).powered = s.powered := rfl
@[simp] theorem State.put_blockReset (x : Fld) (i v : Nat) : (s.put x i v).blockReset = s.blockReset := rfl
@[simp] theorem State.put_resume (x : Fld) (i v : Nat) : (s.put x i v).resume = s.resume := rfl
@[simp] theorem State.put_brReaction (x : Fld) (i v : Nat) : (s.put x i v).brReaction = s.brReaction := rfl
@[simp] theorem State.put_refLost (x : Fld) (i v : Nat) : (s.put x i v).refLost = s.refLost := rfl
@[simp] theorem State.put_backup (x : Fld) (i v : Nat) : (s.put x i v).backup = s.backup := rfl
@[simp] theorem State.put_tablesInit (x : Fld) (i v : Nat) : (s.put x i v).tablesInit = s.tablesInit := rfl
@[simp] theorem State.put_badWords (x : Fld) (i v : Nat) : (s.put x i v).badWords = s.badWords := rfl
@[simp] theorem State.put_step (x : Fld) (i v : Nat) : (s.put x i v).step = s.step := rfl
@[simp] theorem State.put_balCtr (x : Fld) (i v : Nat) : (s.put x i v).balCtr = s.balCtr := rfl
@[simp] theorem State.put_lanes (x : Fld) (i v : Nat) : (s.put x i v).lanes = s.lanes := rfl
@[simp] theorem State.put_rgns (x : Fld) (i v : Nat) : (s.put x i v).rgns = s.rgns := rfl
@[simp] theorem State.put_heats (x : Fld) (i v : Nat) : (s.put x i v).heats = s.heats := rfl
@[simp] theorem State.put_heatOf (x : Fld) (i v : Nat) : (s.put x i v).heatOf = s.heatOf := rfl
@[simp] theorem State.put_gates (x : Fld) (i v : Nat) : (s.put x i v).gates = s.gates := rfl
@[simp] theorem State.put_merges (x : Fld) (i v : Nat) : (s.put x i v).merges = s.merges := rfl
@[simp] theorem State.put_domV (x : Fld) (i v : Nat) : (s.put x i v).domV = s.domV := rfl
@[simp] theorem State.put_place (x : Fld) (i v : Nat) : (s.put x i v).place = s.place := rfl
@[simp] theorem State.put_gatesOk (x : Fld) (i v : Nat) : (s.put x i v).gatesOk = s.gatesOk := rfl
@[simp] theorem State.put_plan (x : Fld) (i v : Nat) : (s.put x i v).plan = s.plan := rfl
@[simp] theorem State.put_planLeft (x : Fld) (i v : Nat) : (s.put x i v).planLeft = s.planLeft := rfl
@[simp] theorem State.put_baton (x : Fld) (i v : Nat) : (s.put x i v).baton = s.baton := rfl
@[simp] theorem State.put_slots (x : Fld) (i v : Nat) : (s.put x i v).slots = s.slots := rfl
@[simp] theorem State.put_pacer (x : Fld) (i v : Nat) : (s.put x i v).pacer = s.pacer := rfl
@[simp] theorem State.put_coll (x : Fld) (i v : Nat) : (s.put x i v).coll = s.coll := rfl
@[simp] theorem State.put_lim (x : Fld) (i v : Nat) : (s.put x i v).lim = s.lim := rfl
@[simp] theorem State.put_gauge (x : Fld) (i v : Nat) : (s.put x i v).gauge = s.gauge := rfl
@[simp] theorem State.put_led (x : Fld) (i v : Nat) : (s.put x i v).led = s.led := rfl
@[simp] theorem State.put_relay (x : Fld) (i v : Nat) : (s.put x i v).relay = s.relay := rfl
@[simp] theorem State.put_opal (x : Fld) (i v : Nat) : (s.put x i v).opal = s.opal := rfl
@[simp] theorem State.put_nvm (x : Fld) (i v : Nat) : (s.put x i v).nvm = s.nvm := rfl
@[simp] theorem State.put_boot (x : Fld) (i v : Nat) : (s.put x i v).boot = s.boot := rfl
@[simp] theorem State.put_host (x : Fld) (i v : Nat) : (s.put x i v).host = s.host := rfl
@[simp] theorem State.put_test (x : Fld) (i v : Nat) : (s.put x i v).test = s.test := rfl
@[simp] theorem State.put_pf (x : Fld) (i v : Nat) : (s.put x i v).pf = s.pf := rfl
@[simp] theorem State.put_out (x : Fld) (i v : Nat) : (s.put x i v).out = s.out := rfl
@[simp] theorem State.put_freeCtr (x : Fld) (i v : Nat) : (s.put x i v).freeCtr = s.freeCtr := rfl

/-! ### rst -/

@[simp] theorem State.rst_pending (x : Fld) (i : Nat) : (s.rst x i).pending = s.pending := rfl
@[simp] theorem State.rst_now (x : Fld) (i : Nat) : (s.rst x i).now = s.now := rfl
@[simp] theorem State.rst_powered (x : Fld) (i : Nat) : (s.rst x i).powered = s.powered := rfl
@[simp] theorem State.rst_blockReset (x : Fld) (i : Nat) : (s.rst x i).blockReset = s.blockReset := rfl
@[simp] theorem State.rst_resume (x : Fld) (i : Nat) : (s.rst x i).resume = s.resume := rfl
@[simp] theorem State.rst_brReaction (x : Fld) (i : Nat) : (s.rst x i).brReaction = s.brReaction := rfl
@[simp] theorem State.rst_refLost (x : Fld) (i : Nat) : (s.rst x i).refLost = s.refLost := rfl
@[simp] theorem State.rst_backup (x : Fld) (i : Nat) : (s.rst x i).backup = s.backup := rfl
@[simp] theorem State.rst_tablesInit (x : Fld) (i : Nat) : (s.rst x i).tablesInit = s.tablesInit := rfl
@[simp] theorem State.rst_badWords (x : Fld) (i : Nat) : (s.rst x i).badWords = s.badWords := rfl
@[simp] theorem State.rst_step (x : Fld) (i : Nat) : (s.rst x i).step = s.step := rfl
@[simp] theorem State.rst_balCtr (x : Fld) (i : Nat) : (s.rst x i).balCtr = s.balCtr := rfl
@[simp] theorem State.rst_lanes (x : Fld) (i : Nat) : (s.rst x i).lanes = s.lanes := rfl
@[simp] theorem State.rst_rgns (x : Fld) (i : Nat) : (s.rst x i).rgns = s.rgns := rfl
@[simp] theorem State.rst_heats (x : Fld) (i : Nat) : (s.rst x i).heats = s.heats := rfl
@[simp] theorem State.rst_heatOf (x : Fld) (i : Nat) : (s.rst x i).heatOf = s.heatOf := rfl
@[simp] theorem State.rst_gates (x : Fld) (i : Nat) : (s.rst x i).gates = s.gates := rfl
@[simp] theorem State.rst_merges (x : Fld) (i : Nat) : (s.rst x i).merges = s.merges := rfl
@[simp] theorem State.rst_domV (x : Fld) (i : Nat) : (s.rst x i).domV = s.domV := rfl
@[simp] theorem State.rst_place (x : Fld) (i : Nat) : (s.rst x i).place = s.place := rfl
@[simp] theorem State.rst_gatesOk (x : Fld) (i : Nat) : (s.rst x i).gatesOk = s.gatesOk := rfl
@[simp] theorem State.rst_plan (x : Fld) (i : Nat) : (s.rst x i).plan = s.plan := rfl
@[simp] theorem State.rst_planLeft (x : Fld) (i : Nat) : (s.rst x i).planLeft = s.planLeft := rfl
@[simp] theorem State.rst_baton (x : Fld) (i : Nat) : (s.rst x i).baton = s.baton := rfl
@[simp] theorem State.rst_slots (x : Fld) (i : Nat) : (s.rst x i).slots = s.slots := rfl
@[simp] theorem State.rst_pacer (x : Fld) (i : Nat) : (s.rst x i).pacer = s.pacer := rfl
@[simp] theorem State.rst_coll (x : Fld) (i : Nat) : (s.rst x i).coll = s.coll := rfl
@[simp] theorem State.rst_lim (x : Fld) (i : Nat) : (s.rst x i).lim = s.lim := rfl
@[simp] theorem State.rst_gauge (x : Fld) (i : Nat) : (s.rst x i).gauge = s.gauge := rfl
@[simp] theorem State.rst_led (x : Fld) (i : Nat) : (s.rst x i).led = s.led := rfl
@[simp] theorem State.rst_relay (x : Fld) (i : Nat) : (s.rst x i).relay = s.relay := rfl
@[simp] theorem State.rst_opal (x : Fld) (i : Nat) : (s.rst x i).opal = s.opal := rfl
@[simp] theorem State.rst_nvm (x : Fld) (i : Nat) : (s.rst x i).nvm = s.nvm := rfl
@[simp] theorem State.rst_boot (x : Fld) (i : Nat) : (s.rst x i).boot = s.boot := rfl
@[simp] theorem State.rst_host (x : Fld) (i : Nat) : (s.rst x i).host = s.host := rfl
@[simp] theorem State.rst_test (x : Fld) (i : Nat) : (s.rst x i).test = s.test := rfl
@[simp] theorem State.rst_pf (x : Fld) (i : Nat) : (s.rst x i).pf = s.pf := rfl
@[simp] theorem State.rst_out (x : Fld) (i : Nat) : (s.rst x i).out = s.out := rfl
@[simp] theorem State.rst_freeCtr (x : Fld) (i : Nat) : (s.rst x i).freeCtr = s.freeCtr := rfl

/-! ### bump -/

@[simp] theorem State.bump_pending (x : Fld) (i : Nat) : (s.bump x i).pending = s.pending := rfl
@[simp] theorem State.bump_now (x : Fld) (i : Nat) : (s.bump x i).now = s.now := rfl
@[simp] theorem State.bump_powered (x : Fld) (i : Nat) : (s.bump x i).powered = s.powered := rfl
@[simp] theorem State.bump_blockReset (x : Fld) (i : Nat) : (s.bump x i).blockReset = s.blockReset := rfl
@[simp] theorem State.bump_resume (x : Fld) (i : Nat) : (s.bump x i).resume = s.resume := rfl
@[simp] theorem State.bump_brReaction (x : Fld) (i : Nat) : (s.bump x i).brReaction = s.brReaction := rfl
@[simp] theorem State.bump_refLost (x : Fld) (i : Nat) : (s.bump x i).refLost = s.refLost := rfl
@[simp] theorem State.bump_backup (x : Fld) (i : Nat) : (s.bump x i).backup = s.backup := rfl
@[simp] theorem State.bump_tablesInit (x : Fld) (i : Nat) : (s.bump x i).tablesInit = s.tablesInit := rfl
@[simp] theorem State.bump_badWords (x : Fld) (i : Nat) : (s.bump x i).badWords = s.badWords := rfl
@[simp] theorem State.bump_step (x : Fld) (i : Nat) : (s.bump x i).step = s.step := rfl
@[simp] theorem State.bump_balCtr (x : Fld) (i : Nat) : (s.bump x i).balCtr = s.balCtr := rfl
@[simp] theorem State.bump_lanes (x : Fld) (i : Nat) : (s.bump x i).lanes = s.lanes := rfl
@[simp] theorem State.bump_rgns (x : Fld) (i : Nat) : (s.bump x i).rgns = s.rgns := rfl
@[simp] theorem State.bump_heats (x : Fld) (i : Nat) : (s.bump x i).heats = s.heats := rfl
@[simp] theorem State.bump_heatOf (x : Fld) (i : Nat) : (s.bump x i).heatOf = s.heatOf := rfl
@[simp] theorem State.bump_gates (x : Fld) (i : Nat) : (s.bump x i).gates = s.gates := rfl
@[simp] theorem State.bump_merges (x : Fld) (i : Nat) : (s.bump x i).merges = s.merges := rfl
@[simp] theorem State.bump_domV (x : Fld) (i : Nat) : (s.bump x i).domV = s.domV := rfl
@[simp] theorem State.bump_place (x : Fld) (i : Nat) : (s.bump x i).place = s.place := rfl
@[simp] theorem State.bump_gatesOk (x : Fld) (i : Nat) : (s.bump x i).gatesOk = s.gatesOk := rfl
@[simp] theorem State.bump_plan (x : Fld) (i : Nat) : (s.bump x i).plan = s.plan := rfl
@[simp] theorem State.bump_planLeft (x : Fld) (i : Nat) : (s.bump x i).planLeft = s.planLeft := rfl
@[simp] theorem State.bump_baton (x : Fld) (i : Nat) : (s.bump x i).baton = s.baton := rfl
@[simp] theorem State.bump_slots (x : Fld) (i : Nat) : (s.bump x i).slots = s.slots := rfl
@[simp] theorem State.bump_pacer (x : Fld) (i : Nat) : (s.bump x i).pacer = s.pacer := rfl
@[simp] theorem State.bump_coll (x : Fld) (i : Nat) : (s.bump x i).coll = s.coll := rfl
@[simp] theorem State.bump_lim (x : Fld) (i : Nat) : (s.bump x i).lim = s.lim := rfl
@[simp] theorem State.bump_gauge (x : Fld) (i : Nat) : (s.bump x i).gauge = s.gauge := rfl
@[simp] theorem State.bump_led (x : Fld) (i : Nat) : (s.bump x i).led = s.led := rfl
@[simp] theorem State.bump_relay (x : Fld) (i : Nat) : (s.bump x i).relay = s.relay := rfl
@[simp] theorem State.bump_opal (x : Fld) (i : Nat) : (s.bump x i).opal = s.opal := rfl
@[simp] theorem State.bump_nvm (x : Fld) (i : Nat) : (s.bump x i).nvm = s.nvm := rfl
@[simp] theorem State.bump_boot (x : Fld) (i : Nat) : (s.bump x i).boot = s.boot := rfl
@[simp] theorem State.bump_host (x : Fld) (i : Nat) : (s.bump x i).host = s.host := rfl
@[simp] theorem State.bump_test (x : Fld) (i : Nat) : (s.bump x i).test = s.test := rfl
@[simp] theorem State.bump_pf (x : Fld) (i : Nat) : (s.bump x i).pf = s.pf := rfl
@[simp] theorem State.bump_out (x : Fld) (i : Nat) : (s.bump x i).out = s.out := rfl
@[simp] theorem State.bump_freeCtr (x : Fld) (i : Nat) : (s.bump x i).freeCtr = s.freeCtr := rfl

/-! ### modLane -/

@[simp] theorem State.modLane_pending (m : Nat) (g : Lane → Lane) : (s.modLane m g).pending = s.pending := rfl
@[simp] theorem State.modLane_now (m : Nat) (g : Lane → Lane) : (s.modLane m g).now = s.now := rfl
@[simp] theorem State.modLane_powered (m : Nat) (g : Lane → Lane) : (s.modLane m g).powered = s.powered := rfl
@[simp] theorem State.modLane_blockReset (m : Nat) (g : Lane → Lane) : (s.modLane m g).blockReset = s.blockReset := rfl
@[simp] theorem State.modLane_resume (m : Nat) (g : Lane → Lane) : (s.modLane m g).resume = s.resume := rfl
@[simp] theorem State.modLane_brReaction (m : Nat) (g : Lane → Lane) : (s.modLane m g).brReaction = s.brReaction := rfl
@[simp] theorem State.modLane_refLost (m : Nat) (g : Lane → Lane) : (s.modLane m g).refLost = s.refLost := rfl
@[simp] theorem State.modLane_backup (m : Nat) (g : Lane → Lane) : (s.modLane m g).backup = s.backup := rfl
@[simp] theorem State.modLane_tablesInit (m : Nat) (g : Lane → Lane) : (s.modLane m g).tablesInit = s.tablesInit := rfl
@[simp] theorem State.modLane_badWords (m : Nat) (g : Lane → Lane) : (s.modLane m g).badWords = s.badWords := rfl
@[simp] theorem State.modLane_regs (m : Nat) (g : Lane → Lane) : (s.modLane m g).regs = s.regs := rfl
@[simp] theorem State.modLane_step (m : Nat) (g : Lane → Lane) : (s.modLane m g).step = s.step := rfl
@[simp] theorem State.modLane_balCtr (m : Nat) (g : Lane → Lane) : (s.modLane m g).balCtr = s.balCtr := rfl
@[simp] theorem State.modLane_rgns (m : Nat) (g : Lane → Lane) : (s.modLane m g).rgns = s.rgns := rfl
@[simp] theorem State.modLane_heats (m : Nat) (g : Lane → Lane) : (s.modLane m g).heats = s.heats := rfl
@[simp] theorem State.modLane_heatOf (m : Nat) (g : Lane → Lane) : (s.modLane m g).heatOf = s.heatOf := rfl
@[simp] theorem State.modLane_gates (m : Nat) (g : Lane → Lane) : (s.modLane m g).gates = s.gates := rfl
@[simp] theorem State.modLane_merges (m : Nat) (g : Lane → Lane) : (s.modLane m g).merges = s.merges := rfl
@[simp] theorem State.modLane_domV (m : Nat) (g : Lane → Lane) : (s.modLane m g).domV = s.domV := rfl
@[simp] theorem State.modLane_place (m : Nat) (g : Lane → Lane) : (s.modLane m g).place = s.place := rfl
@[simp] theorem State.modLane_gatesOk (m : Nat) (g : Lane → Lane) : (s.modLane m g).gatesOk = s.gatesOk := rfl
@[simp] theorem State.modLane_plan (m : Nat) (g : Lane → Lane) : (s.modLane m g).plan = s.plan := rfl
@[simp] theorem State.modLane_planLeft (m : Nat) (g : Lane → Lane) : (s.modLane m g).planLeft = s.planLeft := rfl
@[simp] theorem State.modLane_baton (m : Nat) (g : Lane → Lane) : (s.modLane m g).baton = s.baton := rfl
@[simp] theorem State.modLane_slots (m : Nat) (g : Lane → Lane) : (s.modLane m g).slots = s.slots := rfl
@[simp] theorem State.modLane_pacer (m : Nat) (g : Lane → Lane) : (s.modLane m g).pacer = s.pacer := rfl
@[simp] theorem State.modLane_coll (m : Nat) (g : Lane → Lane) : (s.modLane m g).coll = s.coll := rfl
@[simp] theorem State.modLane_lim (m : Nat) (g : Lane → Lane) : (s.modLane m g).lim = s.lim := rfl
@[simp] theorem State.modLane_gauge (m : Nat) (g : Lane → Lane) : (s.modLane m g).gauge = s.gauge := rfl
@[simp] theorem State.modLane_led (m : Nat) (g : Lane → Lane) : (s.modLane m g).led = s.led := rfl
@[simp] theorem State.modLane_relay (m : Nat) (g : Lane → Lane) : (s.modLane m g).relay = s.relay := rfl
@[simp] theorem State.modLane_opal (m : Nat) (g : Lane → Lane) : (s.modLane m g).opal = s.opal := rfl
@[simp] theorem State.modLane_nvm (m : Nat) (g : Lane → Lane) : (s.modLane m g).nvm = s.nvm := rfl
@[simp] theorem State.modLane_boot (m : Nat) (g : Lane → Lane) : (s.modLane m g).boot = s.boot := rfl
@[simp] theorem State.modLane_host (m : Nat) (g : Lane → Lane) : (s.modLane m g).host = s.host := rfl
@[simp] theorem State.modLane_test (m : Nat) (g : Lane → Lane) : (s.modLane m g).test = s.test := rfl
@[simp] theorem State.modLane_pf (m : Nat) (g : Lane → Lane) : (s.modLane m g).pf = s.pf := rfl
@[simp] theorem State.modLane_out (m : Nat) (g : Lane → Lane) : (s.modLane m g).out = s.out := rfl
@[simp] theorem State.modLane_freeCtr (m : Nat) (g : Lane → Lane) : (s.modLane m g).freeCtr = s.freeCtr := rfl

/-! ### modRgn -/

@[simp] theorem State.modRgn_pending (n : Nat) (g : Rgn → Rgn) : (s.modRgn n g).pending = s.pending := rfl
@[simp] theorem State.modRgn_now (n : Nat) (g : Rgn → Rgn) : (s.modRgn n g).now = s.now := rfl
@[simp] theorem State.modRgn_powered (n : Nat) (g : Rgn → Rgn) : (s.modRgn n g).powered = s.powered := rfl
@[simp] theorem State.modRgn_blockReset (n : Nat) (g : Rgn → Rgn) : (s.modRgn n g).blockReset = s.blockReset := rfl
@[simp] theorem State.modRgn_resume (n : Nat) (g : Rgn → Rgn) : (s.modRgn n g).resume = s.resume := rfl
@[simp] theorem State.modRgn_brReaction (n : Nat) (g : Rgn → Rgn) : (s.modRgn n g).brReaction = s.brReaction := rfl
@[simp] theorem State.modRgn_refLost (n : Nat) (g : Rgn → Rgn) : (s.modRgn n g).refLost = s.refLost := rfl
@[simp] theorem State.modRgn_backup (n : Nat) (g : Rgn → Rgn) : (s.modRgn n g).backup = s.backup := rfl
@[simp] theorem State.modRgn_tablesInit (n : Nat) (g : Rgn → Rgn) : (s.modRgn n g).tablesInit = s.tablesInit := rfl
@[simp] theorem State.modRgn_badWords (n : Nat) (g : Rgn → Rgn) : (s.modRgn n g).badWords = s.badWords := rfl
@[simp] theorem State.modRgn_regs (n : Nat) (g : Rgn → Rgn) : (s.modRgn n g).regs = s.regs := rfl
@[simp] theorem State.modRgn_step (n : Nat) (g : Rgn → Rgn) : (s.modRgn n g).step = s.step := rfl
@[simp] theorem State.modRgn_balCtr (n : Nat) (g : Rgn → Rgn) : (s.modRgn n g).balCtr = s.balCtr := rfl
@[simp] theorem State.modRgn_lanes (n : Nat) (g : Rgn → Rgn) : (s.modRgn n g).lanes = s.lanes := rfl
@[simp] theorem State.modRgn_heats (n : Nat) (g : Rgn → Rgn) : (s.modRgn n g).heats = s.heats := rfl
@[simp] theorem State.modRgn_heatOf (n : Nat) (g : Rgn → Rgn) : (s.modRgn n g).heatOf = s.heatOf := rfl
@[simp] theorem State.modRgn_gates (n : Nat) (g : Rgn → Rgn) : (s.modRgn n g).gates = s.gates := rfl
@[simp] theorem State.modRgn_merges (n : Nat) (g : Rgn → Rgn) : (s.modRgn n g).merges = s.merges := rfl
@[simp] theorem State.modRgn_domV (n : Nat) (g : Rgn → Rgn) : (s.modRgn n g).domV = s.domV := rfl
@[simp] theorem State.modRgn_place (n : Nat) (g : Rgn → Rgn) : (s.modRgn n g).place = s.place := rfl
@[simp] theorem State.modRgn_gatesOk (n : Nat) (g : Rgn → Rgn) : (s.modRgn n g).gatesOk = s.gatesOk := rfl
@[simp] theorem State.modRgn_plan (n : Nat) (g : Rgn → Rgn) : (s.modRgn n g).plan = s.plan := rfl
@[simp] theorem State.modRgn_planLeft (n : Nat) (g : Rgn → Rgn) : (s.modRgn n g).planLeft = s.planLeft := rfl
@[simp] theorem State.modRgn_baton (n : Nat) (g : Rgn → Rgn) : (s.modRgn n g).baton = s.baton := rfl
@[simp] theorem State.modRgn_slots (n : Nat) (g : Rgn → Rgn) : (s.modRgn n g).slots = s.slots := rfl
@[simp] theorem State.modRgn_pacer (n : Nat) (g : Rgn → Rgn) : (s.modRgn n g).pacer = s.pacer := rfl
@[simp] theorem State.modRgn_coll (n : Nat) (g : Rgn → Rgn) : (s.modRgn n g).coll = s.coll := rfl
@[simp] theorem State.modRgn_lim (n : Nat) (g : Rgn → Rgn) : (s.modRgn n g).lim = s.lim := rfl
@[simp] theorem State.modRgn_gauge (n : Nat) (g : Rgn → Rgn) : (s.modRgn n g).gauge = s.gauge := rfl
@[simp] theorem State.modRgn_led (n : Nat) (g : Rgn → Rgn) : (s.modRgn n g).led = s.led := rfl
@[simp] theorem State.modRgn_relay (n : Nat) (g : Rgn → Rgn) : (s.modRgn n g).relay = s.relay := rfl
@[simp] theorem State.modRgn_opal (n : Nat) (g : Rgn → Rgn) : (s.modRgn n g).opal = s.opal := rfl
@[simp] theorem State.modRgn_nvm (n : Nat) (g : Rgn → Rgn) : (s.modRgn n g).nvm = s.nvm := rfl
@[simp] theorem State.modRgn_boot (n : Nat) (g : Rgn → Rgn) : (s.modRgn n g).boot = s.boot := rfl
@[simp] theorem State.modRgn_host (n : Nat) (g : Rgn → Rgn) : (s.modRgn n g).host = s.host := rfl
@[simp] theorem State.modRgn_test (n : Nat) (g : Rgn → Rgn) : (s.modRgn n g).test = s.test := rfl
@[simp] theorem State.modRgn_pf (n : Nat) (g : Rgn → Rgn) : (s.modRgn n g).pf = s.pf := rfl
@[simp] theorem State.modRgn_out (n : Nat) (g : Rgn → Rgn) : (s.modRgn n g).out = s.out := rfl
@[simp] theorem State.modRgn_freeCtr (n : Nat) (g : Rgn → Rgn) : (s.modRgn n g).freeCtr = s.freeCtr := rfl

/-! ### modHeat -/

@[simp] theorem State.modHeat_pending (h : Nat) (g : Heat → Heat) : (s.modHeat h g).pending = s.pending := rfl
@[simp] theorem State.modHeat_now (h : Nat) (g : Heat → Heat) : (s.modHeat h g).now = s.now := rfl
@[simp] theorem State.modHeat_powered (h : Nat) (g : Heat → Heat) : (s.modHeat h g).powered = s.powered := rfl
@[simp] theorem State.modHeat_blockReset (h : Nat) (g : Heat → Heat) : (s.modHeat h g).blockReset = s.blockReset := rfl
@[simp] theorem State.modHeat_resume (h : Nat) (g : Heat → Heat) : (s.modHeat h g).resume = s.resume := rfl
@[simp] theorem State.modHeat_brReaction (h : Nat) (g : Heat → Heat) : (s.modHeat h g).brReaction = s.brReaction := rfl
@[simp] theorem State.modHeat_refLost (h : Nat) (g : Heat → Heat) : (s.modHeat h g).refLost = s.refLost := rfl
@[simp] theorem State.modHeat_backup (h : Nat) (g : Heat → Heat) : (s.modHeat h g).backup = s.backup := rfl
@[simp] theorem State.modHeat_tablesInit (h : Nat) (g : Heat → Heat) : (s.modHeat h g).tablesInit = s.tablesInit := rfl
@[simp] theorem State.modHeat_badWords (h : Nat) (g : Heat → Heat) : (s.modHeat h g).badWords = s.badWords := rfl
@[simp] theorem State.modHeat_regs (h : Nat) (g : Heat → Heat) : (s.modHeat h g).regs = s.regs := rfl
@[simp] theorem State.modHeat_step (h : Nat) (g : Heat → Heat) : (s.modHeat h g).step = s.step := rfl
@[simp] theorem State.modHeat_balCtr (h : Nat) (g : Heat → Heat) : (s.modHeat h g).balCtr = s.balCtr := rfl
@[simp] theorem State.modHeat_lanes (h : Nat) (g : Heat → Heat) : (s.modHeat h g).lanes = s.lanes := rfl
@[simp] theorem State.modHeat_rgns (h : Nat) (g : Heat → Heat) : (s.modHeat h g).rgns = s.rgns := rfl
@[simp] theorem State.modHeat_heatOf (h : Nat) (g : Heat → Heat) : (s.modHeat h g).heatOf = s.heatOf := rfl
@[simp] theorem State.modHeat_gates (h : Nat) (g : Heat → Heat) : (s.modHeat h g).gates = s.gates := rfl
@[simp] theorem State.modHeat_merges (h : Nat) (g : Heat → Heat) : (s.modHeat h g).merges = s.merges := rfl
@[simp] theorem State.modHeat_domV (h : Nat) (g : Heat → Heat) : (s.modHeat h g).domV = s.domV := rfl
@[simp] theorem State.modHeat_place (h : Nat) (g : Heat → Heat) : (s.modHeat h g).place = s.place := rfl
@[simp] theorem State.modHeat_gatesOk (h : Nat) (g : Heat → Heat) : (s.modHeat h g).gatesOk = s.gatesOk := rfl
@[simp] theorem State.modHeat_plan (h : Nat) (g : Heat → Heat) : (s.modHeat h g).plan = s.plan := rfl
@[simp] theorem State.modHeat_planLeft (h : Nat) (g : Heat → Heat) : (s.modHeat h g).planLeft = s.planLeft := rfl
@[simp] theorem State.modHeat_baton (h : Nat) (g : Heat → Heat) : (s.modHeat h g).baton = s.baton := rfl
@[simp] theorem State.modHeat_slots (h : Nat) (g : Heat → Heat) : (s.modHeat h g).slots = s.slots := rfl
@[simp] theorem State.modHeat_pacer (h : Nat) (g : Heat → Heat) : (s.modHeat h g).pacer = s.pacer := rfl
@[simp] theorem State.modHeat_coll (h : Nat) (g : Heat → Heat) : (s.modHeat h g).coll = s.coll := rfl
@[simp] theorem State.modHeat_lim (h : Nat) (g : Heat → Heat) : (s.modHeat h g).lim = s.lim := rfl
@[simp] theorem State.modHeat_gauge (h : Nat) (g : Heat → Heat) : (s.modHeat h g).gauge = s.gauge := rfl
@[simp] theorem State.modHeat_led (h : Nat) (g : Heat → Heat) : (s.modHeat h g).led = s.led := rfl
@[simp] theorem State.modHeat_relay (h : Nat) (g : Heat → Heat) : (s.modHeat h g).relay = s.relay := rfl
@[simp] theorem State.modHeat_opal (h : Nat) (g : Heat → Heat) : (s.modHeat h g).opal = s.opal := rfl
@[simp] theorem State.modHeat_nvm (h : Nat) (g : Heat → Heat) : (s.modHeat h g).nvm = s.nvm := rfl
@[simp] theorem State.modHeat_boot (h : Nat) (g : Heat → Heat) : (s.modHeat h g).boot = s.boot := rfl
@[simp] theorem State.modHeat_host (h : Nat) (g : Heat → Heat) : (s.modHeat h g).host = s.host := rfl
@[simp] theorem State.modHeat_test (h : Nat) (g : Heat → Heat) : (s.modHeat h g).test = s.test := rfl
@[simp] theorem State.modHeat_pf (h : Nat) (g : Heat → Heat) : (s.modHeat h g).pf = s.pf := rfl
@[simp] theorem State.modHeat_out (h : Nat) (g : Heat → Heat) : (s.modHeat h g).out = s.out := rfl
@[simp] theorem State.modHeat_freeCtr (h : Nat) (g : Heat → Heat) : (s.modHeat h g).freeCtr = s.freeCtr := rfl

/-! ### modSlot -/

@[simp] theorem State.modSlot_pending (t : Nat) (g : Slot → Slot) : (s.modSlot t g).pending = s.pending := rfl
@[simp] theorem State.modSlot_now (t : Nat) (g : Slot → Slot) : (s.modSlot t g).now = s.now := rfl
@[simp] theorem State.modSlot_powered (t : Nat) (g : Slot → Slot) : (s.modSlot t g).powered = s.powered := rfl
@[simp] theorem State.modSlot_blockReset (t : Nat) (g : Slot → Slot) : (s.modSlot t g).blockReset = s.blockReset := rfl
@[simp] theorem State.modSlot_resume (t : Nat) (g : Slot → Slot) : (s.modSlot t g).resume = s.resume := rfl
@[simp] theorem State.modSlot_brReaction (t : Nat) (g : Slot → Slot) : (s.modSlot t g).brReaction = s.brReaction := rfl
@[simp] theorem State.modSlot_refLost (t : Nat) (g : Slot → Slot) : (s.modSlot t g).refLost = s.refLost := rfl
@[simp] theorem State.modSlot_backup (t : Nat) (g : Slot → Slot) : (s.modSlot t g).backup = s.backup := rfl
@[simp] theorem State.modSlot_tablesInit (t : Nat) (g : Slot → Slot) : (s.modSlot t g).tablesInit = s.tablesInit := rfl
@[simp] theorem State.modSlot_badWords (t : Nat) (g : Slot → Slot) : (s.modSlot t g).badWords = s.badWords := rfl
@[simp] theorem State.modSlot_regs (t : Nat) (g : Slot → Slot) : (s.modSlot t g).regs = s.regs := rfl
@[simp] theorem State.modSlot_step (t : Nat) (g : Slot → Slot) : (s.modSlot t g).step = s.step := rfl
@[simp] theorem State.modSlot_balCtr (t : Nat) (g : Slot → Slot) : (s.modSlot t g).balCtr = s.balCtr := rfl
@[simp] theorem State.modSlot_lanes (t : Nat) (g : Slot → Slot) : (s.modSlot t g).lanes = s.lanes := rfl
@[simp] theorem State.modSlot_rgns (t : Nat) (g : Slot → Slot) : (s.modSlot t g).rgns = s.rgns := rfl
@[simp] theorem State.modSlot_heats (t : Nat) (g : Slot → Slot) : (s.modSlot t g).heats = s.heats := rfl
@[simp] theorem State.modSlot_heatOf (t : Nat) (g : Slot → Slot) : (s.modSlot t g).heatOf = s.heatOf := rfl
@[simp] theorem State.modSlot_gates (t : Nat) (g : Slot → Slot) : (s.modSlot t g).gates = s.gates := rfl
@[simp] theorem State.modSlot_merges (t : Nat) (g : Slot → Slot) : (s.modSlot t g).merges = s.merges := rfl
@[simp] theorem State.modSlot_domV (t : Nat) (g : Slot → Slot) : (s.modSlot t g).domV = s.domV := rfl
@[simp] theorem State.modSlot_place (t : Nat) (g : Slot → Slot) : (s.modSlot t g).place = s.place := rfl
@[simp] theorem State.modSlot_gatesOk (t : Nat) (g : Slot → Slot) : (s.modSlot t g).gatesOk = s.gatesOk := rfl
@[simp] theorem State.modSlot_plan (t : Nat) (g : Slot → Slot) : (s.modSlot t g).plan = s.plan := rfl
@[simp] theorem State.modSlot_planLeft (t : Nat) (g : Slot → Slot) : (s.modSlot t g).planLeft = s.planLeft := rfl
@[simp] theorem State.modSlot_baton (t : Nat) (g : Slot → Slot) : (s.modSlot t g).baton = s.baton := rfl
@[simp] theorem State.modSlot_pacer (t : Nat) (g : Slot → Slot) : (s.modSlot t g).pacer = s.pacer := rfl
@[simp] theorem State.modSlot_coll (t : Nat) (g : Slot → Slot) : (s.modSlot t g).coll = s.coll := rfl
@[simp] theorem State.modSlot_lim (t : Nat) (g : Slot → Slot) : (s.modSlot t g).lim = s.lim := rfl
@[simp] theorem State.modSlot_gauge (t : Nat) (g : Slot → Slot) : (s.modSlot t g).gauge = s.gauge := rfl
@[simp] theorem State.modSlot_led (t : Nat) (g : Slot → Slot) : (s.modSlot t g).led = s.led := rfl
@[simp] theorem State.modSlot_relay (t : Nat) (g : Slot → Slot) : (s.modSlot t g).relay = s.relay := rfl
@[simp] theorem State.modSlot_opal (t : Nat) (g : Slot → Slot) : (s.modSlot t g).opal = s.opal := rfl
@[simp] theorem State.modSlot_nvm (t : Nat) (g : Slot → Slot) : (s.modSlot t g).nvm = s.nvm := rfl
@[simp] theorem State.modSlot_boot (t : Nat) (g : Slot → Slot) : (s.modSlot t g).boot = s.boot := rfl
@[simp] theorem State.modSlot_host (t : Nat) (g : Slot → Slot) : (s.modSlot t g).host = s.host := rfl
@[simp] theorem State.modSlot_test (t : Nat) (g : Slot → Slot) : (s.modSlot t g).test = s.test := rfl
@[simp] theorem State.modSlot_pf (t : Nat) (g : Slot → Slot) : (s.modSlot t g).pf = s.pf := rfl
@[simp] theorem State.modSlot_out (t : Nat) (g : Slot → Slot) : (s.modSlot t g).out = s.out := rfl
@[simp] theorem State.modSlot_freeCtr (t : Nat) (g : Slot → Slot) : (s.modSlot t g).freeCtr = s.freeCtr := rfl

/-! ### modPort -/

@[simp] theorem State.modPort_pending (p : Nat) (g : RPort → RPort) : (s.modPort p g).pending = s.pending := rfl
@[simp] theorem State.modPort_now (p : Nat) (g : RPort → RPort) : (s.modPort p g).now = s.now := rfl
@[simp] theorem State.modPort_powered (p : Nat) (g : RPort → RPort) : (s.modPort p g).powered = s.powered := rfl
@[simp] theorem State.modPort_blockReset (p : Nat) (g : RPort → RPort) : (s.modPort p g).blockReset = s.blockReset := rfl
@[simp] theorem State.modPort_resume (p : Nat) (g : RPort → RPort) : (s.modPort p g).resume = s.resume := rfl
@[simp] theorem State.modPort_brReaction (p : Nat) (g : RPort → RPort) : (s.modPort p g).brReaction = s.brReaction := rfl
@[simp] theorem State.modPort_refLost (p : Nat) (g : RPort → RPort) : (s.modPort p g).refLost = s.refLost := rfl
@[simp] theorem State.modPort_backup (p : Nat) (g : RPort → RPort) : (s.modPort p g).backup = s.backup := rfl
@[simp] theorem State.modPort_tablesInit (p : Nat) (g : RPort → RPort) : (s.modPort p g).tablesInit = s.tablesInit := rfl
@[simp] theorem State.modPort_badWords (p : Nat) (g : RPort → RPort) : (s.modPort p g).badWords = s.badWords := rfl
@[simp] theorem State.modPort_regs (p : Nat) (g : RPort → RPort) : (s.modPort p g).regs = s.regs := rfl
@[simp] theorem State.modPort_step (p : Nat) (g : RPort → RPort) : (s.modPort p g).step = s.step := rfl
@[simp] theorem State.modPort_balCtr (p : Nat) (g : RPort → RPort) : (s.modPort p g).balCtr = s.balCtr := rfl
@[simp] theorem State.modPort_lanes (p : Nat) (g : RPort → RPort) : (s.modPort p g).lanes = s.lanes := rfl
@[simp] theorem State.modPort_rgns (p : Nat) (g : RPort → RPort) : (s.modPort p g).rgns = s.rgns := rfl
@[simp] theorem State.modPort_heats (p : Nat) (g : RPort → RPort) : (s.modPort p g).heats = s.heats := rfl
@[simp] theorem State.modPort_heatOf (p : Nat) (g : RPort → RPort) : (s.modPort p g).heatOf = s.heatOf := rfl
@[simp] theorem State.modPort_gates (p : Nat) (g : RPort → RPort) : (s.modPort p g).gates = s.gates := rfl
@[simp] theorem State.modPort_merges (p : Nat) (g : RPort → RPort) : (s.modPort p g).merges = s.merges := rfl
@[simp] theorem State.modPort_domV (p : Nat) (g : RPort → RPort) : (s.modPort p g).domV = s.domV := rfl
@[simp] theorem State.modPort_place (p : Nat) (g : RPort → RPort) : (s.modPort p g).place = s.place := rfl
@[simp] theorem State.modPort_gatesOk (p : Nat) (g : RPort → RPort) : (s.modPort p g).gatesOk = s.gatesOk := rfl
@[simp] theorem State.modPort_plan (p : Nat) (g : RPort → RPort) : (s.modPort p g).plan = s.plan := rfl
@[simp] theorem State.modPort_planLeft (p : Nat) (g : RPort → RPort) : (s.modPort p g).planLeft = s.planLeft := rfl
@[simp] theorem State.modPort_baton (p : Nat) (g : RPort → RPort) : (s.modPort p g).baton = s.baton := rfl
@[simp] theorem State.modPort_slots (p : Nat) (g : RPort → RPort) : (s.modPort p g).slots = s.slots := rfl
@[simp] theorem State.modPort_pacer (p : Nat) (g : RPort → RPort) : (s.modPort p g).pacer = s.pacer := rfl
@[simp] theorem State.modPort_coll (p : Nat) (g : RPort → RPort) : (s.modPort p g).coll = s.coll := rfl
@[simp] theorem State.modPort_lim (p : Nat) (g : RPort → RPort) : (s.modPort p g).lim = s.lim := rfl
@[simp] theorem State.modPort_gauge (p : Nat) (g : RPort → RPort) : (s.modPort p g).gauge = s.gauge := rfl
@[simp] theorem State.modPort_led (p : Nat) (g : RPort → RPort) : (s.modPort p g).led = s.led := rfl
@[simp] theorem State.modPort_opal (p : Nat) (g : RPort → RPort) : (s.modPort p g).opal = s.opal := rfl
@[simp] theorem State.modPort_nvm (p : Nat) (g : RPort → RPort) : (s.modPort p g).nvm = s.nvm := rfl
@[simp] theorem State.modPort_boot (p : Nat) (g : RPort → RPort) : (s.modPort p g).boot = s.boot := rfl
@[simp] theorem State.modPort_host (p : Nat) (g : RPort → RPort) : (s.modPort p g).host = s.host := rfl
@[simp] theorem State.modPort_test (p : Nat) (g : RPort → RPort) : (s.modPort p g).test = s.test := rfl
@[simp] theorem State.modPort_pf (p : Nat) (g : RPort → RPort) : (s.modPort p g).pf = s.pf := rfl
@[simp] theorem State.modPort_out (p : Nat) (g : RPort → RPort) : (s.modPort p g).out = s.out := rfl
@[simp] theorem State.modPort_freeCtr (p : Nat) (g : RPort → RPort) : (s.modPort p g).freeCtr = s.freeCtr := rfl

/-! ### modSrc -/

@[simp] theorem State.modSrc_pending (i : Nat) (g : SrcState → SrcState) : (s.modSrc i g).pending = s.pending := rfl
@[simp] theorem State.modSrc_now (i : Nat) (g : SrcState → SrcState) : (s.modSrc i g).now = s.now := rfl
@[simp] theorem State.modSrc_powered (i : Nat) (g : SrcState → SrcState) : (s.modSrc i g).powered = s.powered := rfl
@[simp] theorem State.modSrc_blockReset (i : Nat) (g : SrcState → SrcState) : (s.modSrc i g).blockReset = s.blockReset := rfl
@[simp] theorem State.modSrc_resume (i : Nat) (g : SrcState → SrcState) : (s.modSrc i g).resume = s.resume := rfl
@[simp] theorem State.modSrc_brReaction (i : Nat) (g : SrcState → SrcState) : (s.modSrc i g).brReaction = s.brReaction := rfl
@[simp] theorem State.modSrc_refLost (i : Nat) (g : SrcState → SrcState) : (s.modSrc i g).refLost = s.refLost := rfl
@[simp] theorem State.modSrc_backup (i : Nat) (g : SrcState → SrcState) : (s.modSrc i g).backup = s.backup := rfl
@[simp] theorem State.modSrc_tablesInit (i : Nat) (g : SrcState → SrcState) : (s.modSrc i g).tablesInit = s.tablesInit := rfl
@[simp] theorem State.modSrc_badWords (i : Nat) (g : SrcState → SrcState) : (s.modSrc i g).badWords = s.badWords := rfl
@[simp] theorem State.modSrc_regs (i : Nat) (g : SrcState → SrcState) : (s.modSrc i g).regs = s.regs := rfl
@[simp] theorem State.modSrc_step (i : Nat) (g : SrcState → SrcState) : (s.modSrc i g).step = s.step := rfl
@[simp] theorem State.modSrc_balCtr (i : Nat) (g : SrcState → SrcState) : (s.modSrc i g).balCtr = s.balCtr := rfl
@[simp] theorem State.modSrc_lanes (i : Nat) (g : SrcState → SrcState) : (s.modSrc i g).lanes = s.lanes := rfl
@[simp] theorem State.modSrc_rgns (i : Nat) (g : SrcState → SrcState) : (s.modSrc i g).rgns = s.rgns := rfl
@[simp] theorem State.modSrc_heats (i : Nat) (g : SrcState → SrcState) : (s.modSrc i g).heats = s.heats := rfl
@[simp] theorem State.modSrc_heatOf (i : Nat) (g : SrcState → SrcState) : (s.modSrc i g).heatOf = s.heatOf := rfl
@[simp] theorem State.modSrc_gates (i : Nat) (g : SrcState → SrcState) : (s.modSrc i g).gates = s.gates := rfl
@[simp] theorem State.modSrc_merges (i : Nat) (g : SrcState → SrcState) : (s.modSrc i g).merges = s.merges := rfl
@[simp] theorem State.modSrc_domV (i : Nat) (g : SrcState → SrcState) : (s.modSrc i g).domV = s.domV := rfl
@[simp] theorem State.modSrc_place (i : Nat) (g : SrcState → SrcState) : (s.modSrc i g).place = s.place := rfl
@[simp] theorem State.modSrc_gatesOk (i : Nat) (g : SrcState → SrcState) : (s.modSrc i g).gatesOk = s.gatesOk := rfl
@[simp] theorem State.modSrc_plan (i : Nat) (g : SrcState → SrcState) : (s.modSrc i g).plan = s.plan := rfl
@[simp] theorem State.modSrc_planLeft (i : Nat) (g : SrcState → SrcState) : (s.modSrc i g).planLeft = s.planLeft := rfl
@[simp] theorem State.modSrc_baton (i : Nat) (g : SrcState → SrcState) : (s.modSrc i g).baton = s.baton := rfl
@[simp] theorem State.modSrc_slots (i : Nat) (g : SrcState → SrcState) : (s.modSrc i g).slots = s.slots := rfl
@[simp] theorem State.modSrc_pacer (i : Nat) (g : SrcState → SrcState) : (s.modSrc i g).pacer = s.pacer := rfl
@[simp] theorem State.modSrc_lim (i : Nat) (g : SrcState → SrcState) : (s.modSrc i g).lim = s.lim := rfl
@[simp] theorem State.modSrc_gauge (i : Nat) (g : SrcState → SrcState) : (s.modSrc i g).gauge = s.gauge := rfl
@[simp] theorem State.modSrc_led (i : Nat) (g : SrcState → SrcState) : (s.modSrc i g).led = s.led := rfl
@[simp] theorem State.modSrc_relay (i : Nat) (g : SrcState → SrcState) : (s.modSrc i g).relay = s.relay := rfl
@[simp] theorem State.modSrc_opal (i : Nat) (g : SrcState → SrcState) : (s.modSrc i g).opal = s.opal := rfl
@[simp] theorem State.modSrc_nvm (i : Nat) (g : SrcState → SrcState) : (s.modSrc i g).nvm = s.nvm := rfl
@[simp] theorem State.modSrc_boot (i : Nat) (g : SrcState → SrcState) : (s.modSrc i g).boot = s.boot := rfl
@[simp] theorem State.modSrc_host (i : Nat) (g : SrcState → SrcState) : (s.modSrc i g).host = s.host := rfl
@[simp] theorem State.modSrc_test (i : Nat) (g : SrcState → SrcState) : (s.modSrc i g).test = s.test := rfl
@[simp] theorem State.modSrc_pf (i : Nat) (g : SrcState → SrcState) : (s.modSrc i g).pf = s.pf := rfl
@[simp] theorem State.modSrc_out (i : Nat) (g : SrcState → SrcState) : (s.modSrc i g).out = s.out := rfl
@[simp] theorem State.modSrc_freeCtr (i : Nat) (g : SrcState → SrcState) : (s.modSrc i g).freeCtr = s.freeCtr := rfl

/-! ### modMod -/

@[simp] theorem State.modMod_pending (k : Nat) (g : Modulator → Modulator) : (s.modMod k g).pending = s.pending := rfl
@[simp] theorem State.modMod_now (k : Nat) (g : Modulator → Modulator) : (s.modMod k g).now = s.now := rfl
@[simp] theorem State.modMod_powered (k : Nat) (g : Modulator → Modulator) : (s.modMod k g).powered = s.powered := rfl
@[simp] theorem State.modMod_blockReset (k : Nat) (g : Modulator → Modulator) : (s.modMod k g).blockReset = s.blockReset := rfl
@[simp] theorem State.modMod_resume (k : Nat) (g : Modulator → Modulator) : (s.modMod k g).resume = s.resume := rfl
@[simp] theorem State.modMod_brReaction (k : Nat) (g : Modulator → Modulator) : (s.modMod k g).brReaction = s.brReaction := rfl
@[simp] theorem State.modMod_refLost (k : Nat) (g : Modulator → Modulator) : (s.modMod k g).refLost = s.refLost := rfl
@[simp] theorem State.modMod_backup (k : Nat) (g : Modulator → Modulator) : (s.modMod k g).backup = s.backup := rfl
@[simp] theorem State.modMod_tablesInit (k : Nat) (g : Modulator → Modulator) : (s.modMod k g).tablesInit = s.tablesInit := rfl
@[simp] theorem State.modMod_badWords (k : Nat) (g : Modulator → Modulator) : (s.modMod k g).badWords = s.badWords := rfl
@[simp] theorem State.modMod_regs (k : Nat) (g : Modulator → Modulator) : (s.modMod k g).regs = s.regs := rfl
@[simp] theorem State.modMod_step (k : Nat) (g : Modulator → Modulator) : (s.modMod k g).step = s.step := rfl
@[simp] theorem State.modMod_balCtr (k : Nat) (g : Modulator → Modulator) : (s.modMod k g).balCtr = s.balCtr := rfl
@[simp] theorem State.modMod_lanes (k : Nat) (g : Modulator → Modulator) : (s.modMod k g).lanes = s.lanes := rfl
@[simp] theorem State.modMod_rgns (k : Nat) (g : Modulator → Modulator) : (s.modMod k g).rgns = s.rgns := rfl
@[simp] theorem State.modMod_heats (k : Nat) (g : Modulator → Modulator) : (s.modMod k g).heats = s.heats := rfl
@[simp] theorem State.modMod_heatOf (k : Nat) (g : Modulator → Modulator) : (s.modMod k g).heatOf = s.heatOf := rfl
@[simp] theorem State.modMod_gates (k : Nat) (g : Modulator → Modulator) : (s.modMod k g).gates = s.gates := rfl
@[simp] theorem State.modMod_merges (k : Nat) (g : Modulator → Modulator) : (s.modMod k g).merges = s.merges := rfl
@[simp] theorem State.modMod_domV (k : Nat) (g : Modulator → Modulator) : (s.modMod k g).domV = s.domV := rfl
@[simp] theorem State.modMod_place (k : Nat) (g : Modulator → Modulator) : (s.modMod k g).place = s.place := rfl
@[simp] theorem State.modMod_gatesOk (k : Nat) (g : Modulator → Modulator) : (s.modMod k g).gatesOk = s.gatesOk := rfl
@[simp] theorem State.modMod_plan (k : Nat) (g : Modulator → Modulator) : (s.modMod k g).plan = s.plan := rfl
@[simp] theorem State.modMod_planLeft (k : Nat) (g : Modulator → Modulator) : (s.modMod k g).planLeft = s.planLeft := rfl
@[simp] theorem State.modMod_baton (k : Nat) (g : Modulator → Modulator) : (s.modMod k g).baton = s.baton := rfl
@[simp] theorem State.modMod_slots (k : Nat) (g : Modulator → Modulator) : (s.modMod k g).slots = s.slots := rfl
@[simp] theorem State.modMod_pacer (k : Nat) (g : Modulator → Modulator) : (s.modMod k g).pacer = s.pacer := rfl
@[simp] theorem State.modMod_coll (k : Nat) (g : Modulator → Modulator) : (s.modMod k g).coll = s.coll := rfl
@[simp] theorem State.modMod_lim (k : Nat) (g : Modulator → Modulator) : (s.modMod k g).lim = s.lim := rfl
@[simp] theorem State.modMod_led (k : Nat) (g : Modulator → Modulator) : (s.modMod k g).led = s.led := rfl
@[simp] theorem State.modMod_relay (k : Nat) (g : Modulator → Modulator) : (s.modMod k g).relay = s.relay := rfl
@[simp] theorem State.modMod_opal (k : Nat) (g : Modulator → Modulator) : (s.modMod k g).opal = s.opal := rfl
@[simp] theorem State.modMod_nvm (k : Nat) (g : Modulator → Modulator) : (s.modMod k g).nvm = s.nvm := rfl
@[simp] theorem State.modMod_boot (k : Nat) (g : Modulator → Modulator) : (s.modMod k g).boot = s.boot := rfl
@[simp] theorem State.modMod_host (k : Nat) (g : Modulator → Modulator) : (s.modMod k g).host = s.host := rfl
@[simp] theorem State.modMod_test (k : Nat) (g : Modulator → Modulator) : (s.modMod k g).test = s.test := rfl
@[simp] theorem State.modMod_pf (k : Nat) (g : Modulator → Modulator) : (s.modMod k g).pf = s.pf := rfl
@[simp] theorem State.modMod_out (k : Nat) (g : Modulator → Modulator) : (s.modMod k g).out = s.out := rfl
@[simp] theorem State.modMod_freeCtr (k : Nat) (g : Modulator → Modulator) : (s.modMod k g).freeCtr = s.freeCtr := rfl

/-! ### setGate -/

@[simp] theorem State.setGate_pending (g : Nat) (c : Bool) : (s.setGate g c).pending = s.pending := rfl
@[simp] theorem State.setGate_now (g : Nat) (c : Bool) : (s.setGate g c).now = s.now := rfl
@[simp] theorem State.setGate_powered (g : Nat) (c : Bool) : (s.setGate g c).powered = s.powered := rfl
@[simp] theorem State.setGate_blockReset (g : Nat) (c : Bool) : (s.setGate g c).blockReset = s.blockReset := rfl
@[simp] theorem State.setGate_resume (g : Nat) (c : Bool) : (s.setGate g c).resume = s.resume := rfl
@[simp] theorem State.setGate_brReaction (g : Nat) (c : Bool) : (s.setGate g c).brReaction = s.brReaction := rfl
@[simp] theorem State.setGate_refLost (g : Nat) (c : Bool) : (s.setGate g c).refLost = s.refLost := rfl
@[simp] theorem State.setGate_backup (g : Nat) (c : Bool) : (s.setGate g c).backup = s.backup := rfl
@[simp] theorem State.setGate_tablesInit (g : Nat) (c : Bool) : (s.setGate g c).tablesInit = s.tablesInit := rfl
@[simp] theorem State.setGate_badWords (g : Nat) (c : Bool) : (s.setGate g c).badWords = s.badWords := rfl
@[simp] theorem State.setGate_regs (g : Nat) (c : Bool) : (s.setGate g c).regs = s.regs := rfl
@[simp] theorem State.setGate_step (g : Nat) (c : Bool) : (s.setGate g c).step = s.step := rfl
@[simp] theorem State.setGate_balCtr (g : Nat) (c : Bool) : (s.setGate g c).balCtr = s.balCtr := rfl
@[simp] theorem State.setGate_lanes (g : Nat) (c : Bool) : (s.setGate g c).lanes = s.lanes := rfl
@[simp] theorem State.setGate_rgns (g : Nat) (c : Bool) : (s.setGate g c).rgns = s.rgns := rfl
@[simp] theorem State.setGate_heats (g : Nat) (c : Bool) : (s.setGate g c).heats = s.heats := rfl
@[simp] theorem State.setGate_heatOf (g : Nat) (c : Bool) : (s.setGate g c).heatOf = s.heatOf := rfl
@[simp] theorem State.setGate_merges (g : Nat) (c : Bool) : (s.setGate g c).merges = s.merges := rfl
@[simp] theorem State.setGate_domV (g : Nat) (c : Bool) : (s.setGate g c).domV = s.domV := rfl
@[simp] theorem State.setGate_place (g : Nat) (c : Bool) : (s.setGate g c).place = s.place := rfl
@[simp] theorem State.setGate_gatesOk (g : Nat) (c : Bool) : (s.setGate g c).gatesOk = s.gatesOk := rfl
@[simp] theorem State.setGate_plan (g : Nat) (c : Bool) : (s.setGate g c).plan = s.plan := rfl
@[simp] theorem State.setGate_planLeft (g : Nat) (c : Bool) : (s.setGate g c).planLeft = s.planLeft := rfl
@[simp] theorem State.setGate_baton (g : Nat) (c : Bool) : (s.setGate g c).baton = s.baton := rfl
@[simp] theorem State.setGate_slots (g : Nat) (c : Bool) : (s.setGate g c).slots = s.slots := rfl
@[simp] theorem State.setGate_pacer (g : Nat) (c : Bool) : (s.setGate g c).pacer = s.pacer := rfl
@[simp] theorem State.setGate_coll (g : Nat) (c : Bool) : (s.setGate g c).coll = s.coll := rfl
@[simp] theorem State.setGate_lim (g : Nat) (c : Bool) : (s.setGate g c).lim = s.lim := rfl
@[simp] theorem State.setGate_gauge (g : Nat) (c : Bool) : (s.setGate g c).gauge = s.gauge := rfl
@[simp] theorem State.setGate_led (g : Nat) (c : Bool) : (s.setGate g c).led = s.led := rfl
@[simp] theorem State.setGate_relay (g : Nat) (c : Bool) : (s.setGate g c).relay = s.relay := rfl
@[simp] theorem State.setGate_opal (g : Nat) (c : Bool) : (s.setGate g c).opal = s.opal := rfl
@[simp] theorem State.setGate_nvm (g : Nat) (c : Bool) : (s.setGate g c).nvm = s.nvm := rfl
@[simp] theorem State.setGate_boot (g : Nat) (c : Bool) : (s.setGate g c).boot = s.boot := rfl
@[simp] theorem State.setGate_host (g : Nat) (c : Bool) : (s.setGate g c).host = s.host := rfl
@[simp] theorem State.setGate_test (g : Nat) (c : Bool) : (s.setGate g c).test = s.test := rfl
@[simp] theorem State.setGate_pf (g : Nat) (c : Bool) : (s.setGate g c).pf = s.pf := rfl
@[simp] theorem State.setGate_out (g : Nat) (c : Bool) : (s.setGate g c).out = s.out := rfl
@[simp] theorem State.setGate_freeCtr (g : Nat) (c : Bool) : (s.setGate g c).freeCtr = s.freeCtr := rfl

/-! ### recompute -/

@[simp] theorem State.recompute_pending : (s.recompute).pending = s.pending := rfl
@[simp] theorem State.recompute_now : (s.recompute).now = s.now := rfl
@[simp] theorem State.recompute_powered : (s.recompute).powered = s.powered := rfl
@[simp] theorem State.recompute_blockReset : (s.recompute).blockReset = s.blockReset := rfl
@[simp] theorem State.recompute_resume : (s.recompute).resume = s.resume := rfl
@[simp] theorem State.recompute_brReaction : (s.recompute).brReaction = s.brReaction := rfl
@[simp] theorem State.recompute_refLost : (s.recompute).refLost = s.refLost := rfl
@[simp] theorem State.recompute_backup : (s.recompute).backup = s.backup := rfl
@[simp] theorem State.recompute_tablesInit : (s.recompute).tablesInit = s.tablesInit := rfl
@[simp] theorem State.recompute_badWords : (s.recompute).badWords = s.badWords := rfl
@[simp] theorem State.recompute_regs : (s.recompute).regs = s.regs := rfl
@[simp] theorem State.recompute_step : (s.recompute).step = s.step := rfl
@[simp] theorem State.recompute_balCtr : (s.recompute).balCtr = s.balCtr := rfl
@[simp] theorem State.recompute_lanes : (s.recompute).lanes = s.lanes := rfl
@[simp] theorem State.recompute_rgns : (s.recompute).rgns = s.rgns := rfl
@[simp] theorem State.recompute_heats : (s.recompute).heats = s.heats := rfl
@[simp] theorem State.recompute_gates : (s.recompute).gates = s.gates := rfl
@[simp] theorem State.recompute_merges : (s.recompute).merges = s.merges := rfl
@[simp] theorem State.recompute_domV : (s.recompute).domV = s.domV := rfl
@[simp] theorem State.recompute_place : (s.recompute).place = s.place := rfl
@[simp] theorem State.recompute_gatesOk : (s.recompute).gatesOk = s.gatesOk := rfl
@[simp] theorem State.recompute_plan : (s.recompute).plan = s.plan := rfl
@[simp] theorem State.recompute_planLeft : (s.recompute).planLeft = s.planLeft := rfl
@[simp] theorem State.recompute_baton : (s.recompute).baton = s.baton := rfl
@[simp] theorem State.recompute_slots : (s.recompute).slots = s.slots := rfl
@[simp] theorem State.recompute_pacer : (s.recompute).pacer = s.pacer := rfl
@[simp] theorem State.recompute_coll : (s.recompute).coll = s.coll := rfl
@[simp] theorem State.recompute_lim : (s.recompute).lim = s.lim := rfl
@[simp] theorem State.recompute_gauge : (s.recompute).gauge = s.gauge := rfl
@[simp] theorem State.recompute_led : (s.recompute).led = s.led := rfl
@[simp] theorem State.recompute_relay : (s.recompute).relay = s.relay := rfl
@[simp] theorem State.recompute_opal : (s.recompute).opal = s.opal := rfl
@[simp] theorem State.recompute_nvm : (s.recompute).nvm = s.nvm := rfl
@[simp] theorem State.recompute_boot : (s.recompute).boot = s.boot := rfl
@[simp] theorem State.recompute_host : (s.recompute).host = s.host := rfl
@[simp] theorem State.recompute_test : (s.recompute).test = s.test := rfl
@[simp] theorem State.recompute_pf : (s.recompute).pf = s.pf := rfl
@[simp] theorem State.recompute_out : (s.recompute).out = s.out := rfl
@[simp] theorem State.recompute_freeCtr : (s.recompute).freeCtr = s.freeCtr := rfl

/-! ### advance -/

@[simp] theorem State.advance_pending (t : Nat) : (s.advance t).pending = s.pending := rfl
@[simp] theorem State.advance_powered (t : Nat) : (s.advance t).powered = s.powered := rfl
@[simp] theorem State.advance_blockReset (t : Nat) : (s.advance t).blockReset = s.blockReset := rfl
@[simp] theorem State.advance_resume (t : Nat) : (s.advance t).resume = s.resume := rfl
@[simp] theorem State.advance_brReaction (t : Nat) : (s.advance t).brReaction = s.brReaction := rfl
@[simp] theorem State.advance_refLost (t : Nat) : (s.advance t).refLost = s.refLost := rfl
@[simp] theorem State.advance_backup (t : Nat) : (s.advance t).backup = s.backup := rfl
@[simp] theorem State.advance_tablesInit (t : Nat) : (s.advance t).tablesInit = s.tablesInit := rfl
@[simp] theorem State.advance_badWords (t : Nat) : (s.advance t).badWords = s.badWords := rfl
@[simp] theorem State.advance_regs (t : Nat) : (s.advance t).regs = s.regs := rfl
@[simp] theorem State.advance_step (t : Nat) : (s.advance t).step = s.step := rfl
@[simp] theorem State.advance_balCtr (t : Nat) : (s.advance t).balCtr = s.balCtr := rfl
@[simp] theorem State.advance_lanes (t : Nat) : (s.advance t).lanes = s.lanes := rfl
@[simp] theorem State.advance_rgns (t : Nat) : (s.advance t).rgns = s.rgns := rfl
@[simp] theorem State.advance_heats (t : Nat) : (s.advance t).heats = s.heats := rfl
@[simp] theorem State.advance_heatOf (t : Nat) : (s.advance t).heatOf = s.heatOf := rfl
@[simp] theorem State.advance_gates (t : Nat) : (s.advance t).gates = s.gates := rfl
@[simp] theorem State.advance_merges (t : Nat) : (s.advance t).merges = s.merges := rfl
@[simp] theorem State.advance_domV (t : Nat) : (s.advance t).domV = s.domV := rfl
@[simp] theorem State.advance_place (t : Nat) : (s.advance t).place = s.place := rfl
@[simp] theorem State.advance_gatesOk (t : Nat) : (s.advance t).gatesOk = s.gatesOk := rfl
@[simp] theorem State.advance_plan (t : Nat) : (s.advance t).plan = s.plan := rfl
@[simp] theorem State.advance_planLeft (t : Nat) : (s.advance t).planLeft = s.planLeft := rfl
@[simp] theorem State.advance_baton (t : Nat) : (s.advance t).baton = s.baton := rfl
@[simp] theorem State.advance_slots (t : Nat) : (s.advance t).slots = s.slots := rfl
@[simp] theorem State.advance_pacer (t : Nat) : (s.advance t).pacer = s.pacer := rfl
@[simp] theorem State.advance_coll (t : Nat) : (s.advance t).coll = s.coll := rfl
@[simp] theorem State.advance_lim (t : Nat) : (s.advance t).lim = s.lim := rfl
@[simp] theorem State.advance_gauge (t : Nat) : (s.advance t).gauge = s.gauge := rfl
@[simp] theorem State.advance_led (t : Nat) : (s.advance t).led = s.led := rfl
@[simp] theorem State.advance_relay (t : Nat) : (s.advance t).relay = s.relay := rfl
@[simp] theorem State.advance_opal (t : Nat) : (s.advance t).opal = s.opal := rfl
@[simp] theorem State.advance_nvm (t : Nat) : (s.advance t).nvm = s.nvm := rfl
@[simp] theorem State.advance_boot (t : Nat) : (s.advance t).boot = s.boot := rfl
@[simp] theorem State.advance_host (t : Nat) : (s.advance t).host = s.host := rfl
@[simp] theorem State.advance_test (t : Nat) : (s.advance t).test = s.test := rfl
@[simp] theorem State.advance_pf (t : Nat) : (s.advance t).pf = s.pf := rfl
@[simp] theorem State.advance_out (t : Nat) : (s.advance t).out = s.out := rfl
@[simp] theorem State.advance_freeCtr (t : Nat) : (s.advance t).freeCtr = s.freeCtr := rfl

/-! ### raise -/

@[simp] theorem State.raise_pending (x : Src) (a : AKind) (n : Nat) (p : FMaster) (c : FAccess) : (s.raise x a n p c).pending = s.pending := rfl
@[simp] theorem State.raise_now (x : Src) (a : AKind) (n : Nat) (p : FMaster) (c : FAccess) : (s.raise x a n p c).now = s.now := rfl
@[simp] theorem State.raise_powered (x : Src) (a : AKind) (n : Nat) (p : FMaster) (c : FAccess) : (s.raise x a n p c).powered = s.powered := rfl
@[simp] theorem State.raise_blockReset (x : Src) (a : AKind) (n : Nat) (p : FMaster) (c : FAccess) : (s.raise x a n p c).blockReset = s.blockReset := rfl
@[simp] theorem State.raise_resume (x : Src) (a : AKind) (n : Nat) (p : FMaster) (c : FAccess) : (s.raise x a n p c).resume = s.resume := rfl
@[simp] theorem State.raise_brReaction (x : Src) (a : AKind) (n : Nat) (p : FMaster) (c : FAccess) : (s.raise x a n p c).brReaction = s.brReaction := rfl
@[simp] theorem State.raise_refLost (x : Src) (a : AKind) (n : Nat) (p : FMaster) (c : FAccess) : (s.raise x a n p c).refLost = s.refLost := rfl
@[simp] theorem State.raise_backup (x : Src) (a : AKind) (n : Nat) (p : FMaster) (c : FAccess) : (s.raise x a n p c).backup = s.backup := rfl
@[simp] theorem State.raise_tablesInit (x : Src) (a : AKind) (n : Nat) (p : FMaster) (c : FAccess) : (s.raise x a n p c).tablesInit = s.tablesInit := rfl
@[simp] theorem State.raise_badWords (x : Src) (a : AKind) (n : Nat) (p : FMaster) (c : FAccess) : (s.raise x a n p c).badWords = s.badWords := rfl
@[simp] theorem State.raise_regs (x : Src) (a : AKind) (n : Nat) (p : FMaster) (c : FAccess) : (s.raise x a n p c).regs = s.regs := rfl
@[simp] theorem State.raise_step (x : Src) (a : AKind) (n : Nat) (p : FMaster) (c : FAccess) : (s.raise x a n p c).step = s.step := rfl
@[simp] theorem State.raise_balCtr (x : Src) (a : AKind) (n : Nat) (p : FMaster) (c : FAccess) : (s.raise x a n p c).balCtr = s.balCtr := rfl
@[simp] theorem State.raise_lanes (x : Src) (a : AKind) (n : Nat) (p : FMaster) (c : FAccess) : (s.raise x a n p c).lanes = s.lanes := rfl
@[simp] theorem State.raise_rgns (x : Src) (a : AKind) (n : Nat) (p : FMaster) (c : FAccess) : (s.raise x a n p c).rgns = s.rgns := rfl
@[simp] theorem State.raise_heats (x : Src) (a : AKind) (n : Nat) (p : FMaster) (c : FAccess) : (s.raise x a n p c).heats = s.heats := rfl
@[simp] theorem State.raise_heatOf (x : Src) (a : AKind) (n : Nat) (p : FMaster) (c : FAccess) : (s.raise x a n p c).heatOf = s.heatOf := rfl
@[simp] theorem State.raise_gates (x : Src) (a : AKind) (n : Nat) (p : FMaster) (c : FAccess) : (s.raise x a n p c).gates = s.gates := rfl
@[simp] theorem State.raise_merges (x : Src) (a : AKind) (n : Nat) (p : FMaster) (c : FAccess) : (s.raise x a n p c).merges = s.merges := rfl
@[simp] theorem State.raise_domV (x : Src) (a : AKind) (n : Nat) (p : FMaster) (c : FAccess) : (s.raise x a n p c).domV = s.domV := rfl
@[simp] theorem State.raise_place (x : Src) (a : AKind) (n : Nat) (p : FMaster) (c : FAccess) : (s.raise x a n p c).place = s.place := rfl
@[simp] theorem State.raise_gatesOk (x : Src) (a : AKind) (n : Nat) (p : FMaster) (c : FAccess) : (s.raise x a n p c).gatesOk = s.gatesOk := rfl
@[simp] theorem State.raise_plan (x : Src) (a : AKind) (n : Nat) (p : FMaster) (c : FAccess) : (s.raise x a n p c).plan = s.plan := rfl
@[simp] theorem State.raise_planLeft (x : Src) (a : AKind) (n : Nat) (p : FMaster) (c : FAccess) : (s.raise x a n p c).planLeft = s.planLeft := rfl
@[simp] theorem State.raise_baton (x : Src) (a : AKind) (n : Nat) (p : FMaster) (c : FAccess) : (s.raise x a n p c).baton = s.baton := rfl
@[simp] theorem State.raise_slots (x : Src) (a : AKind) (n : Nat) (p : FMaster) (c : FAccess) : (s.raise x a n p c).slots = s.slots := rfl
@[simp] theorem State.raise_pacer (x : Src) (a : AKind) (n : Nat) (p : FMaster) (c : FAccess) : (s.raise x a n p c).pacer = s.pacer := rfl
@[simp] theorem State.raise_lim (x : Src) (a : AKind) (n : Nat) (p : FMaster) (c : FAccess) : (s.raise x a n p c).lim = s.lim := rfl
@[simp] theorem State.raise_gauge (x : Src) (a : AKind) (n : Nat) (p : FMaster) (c : FAccess) : (s.raise x a n p c).gauge = s.gauge := rfl
@[simp] theorem State.raise_led (x : Src) (a : AKind) (n : Nat) (p : FMaster) (c : FAccess) : (s.raise x a n p c).led = s.led := rfl
@[simp] theorem State.raise_relay (x : Src) (a : AKind) (n : Nat) (p : FMaster) (c : FAccess) : (s.raise x a n p c).relay = s.relay := rfl
@[simp] theorem State.raise_opal (x : Src) (a : AKind) (n : Nat) (p : FMaster) (c : FAccess) : (s.raise x a n p c).opal = s.opal := rfl
@[simp] theorem State.raise_nvm (x : Src) (a : AKind) (n : Nat) (p : FMaster) (c : FAccess) : (s.raise x a n p c).nvm = s.nvm := rfl
@[simp] theorem State.raise_boot (x : Src) (a : AKind) (n : Nat) (p : FMaster) (c : FAccess) : (s.raise x a n p c).boot = s.boot := rfl
@[simp] theorem State.raise_host (x : Src) (a : AKind) (n : Nat) (p : FMaster) (c : FAccess) : (s.raise x a n p c).host = s.host := rfl
@[simp] theorem State.raise_test (x : Src) (a : AKind) (n : Nat) (p : FMaster) (c : FAccess) : (s.raise x a n p c).test = s.test := rfl
@[simp] theorem State.raise_pf (x : Src) (a : AKind) (n : Nat) (p : FMaster) (c : FAccess) : (s.raise x a n p c).pf = s.pf := rfl
@[simp] theorem State.raise_out (x : Src) (a : AKind) (n : Nat) (p : FMaster) (c : FAccess) : (s.raise x a n p c).out = s.out := rfl
@[simp] theorem State.raise_freeCtr (x : Src) (a : AKind) (n : Nat) (p : FMaster) (c : FAccess) : (s.raise x a n p c).freeCtr = s.freeCtr := rfl

/-! ### raiseHw -/

@[simp] theorem State.raiseHw_pending (x : Src) (a : AKind) (n : Nat) : (s.raiseHw x a n).pending = s.pending := rfl
@[simp] theorem State.raiseHw_now (x : Src) (a : AKind) (n : Nat) : (s.raiseHw x a n).now = s.now := rfl
@[simp] theorem State.raiseHw_powered (x : Src) (a : AKind) (n : Nat) : (s.raiseHw x a n).powered = s.powered := rfl
@[simp] theorem State.raiseHw_blockReset (x : Src) (a : AKind) (n : Nat) : (s.raiseHw x a n).blockReset = s.blockReset := rfl
@[simp] theorem State.raiseHw_resume (x : Src) (a : AKind) (n : Nat) : (s.raiseHw x a n).resume = s.resume := rfl
@[simp] theorem State.raiseHw_brReaction (x : Src) (a : AKind) (n : Nat) : (s.raiseHw x a n).brReaction = s.brReaction := rfl
@[simp] theorem State.raiseHw_refLost (x : Src) (a : AKind) (n : Nat) : (s.raiseHw x a n).refLost = s.refLost := rfl
@[simp] theorem State.raiseHw_backup (x : Src) (a : AKind) (n : Nat) : (s.raiseHw x a n).backup = s.backup := rfl
@[simp] theorem State.raiseHw_tablesInit (x : Src) (a : AKind) (n : Nat) : (s.raiseHw x a n).tablesInit = s.tablesInit := rfl
@[simp] theorem State.raiseHw_badWords (x : Src) (a : AKind) (n : Nat) : (s.raiseHw x a n).badWords = s.badWords := rfl
@[simp] theorem State.raiseHw_regs (x : Src) (a : AKind) (n : Nat) : (s.raiseHw x a n).regs = s.regs := rfl
@[simp] theorem State.raiseHw_step (x : Src) (a : AKind) (n : Nat) : (s.raiseHw x a n).step = s.step := rfl
@[simp] theorem State.raiseHw_balCtr (x : Src) (a : AKind) (n : Nat) : (s.raiseHw x a n).balCtr = s.balCtr := rfl
@[simp] theorem State.raiseHw_lanes (x : Src) (a : AKind) (n : Nat) : (s.raiseHw x a n).lanes = s.lanes := rfl
@[simp] theorem State.raiseHw_rgns (x : Src) (a : AKind) (n : Nat) : (s.raiseHw x a n).rgns = s.rgns := rfl
@[simp] theorem State.raiseHw_heats (x : Src) (a : AKind) (n : Nat) : (s.raiseHw x a n).heats = s.heats := rfl
@[simp] theorem State.raiseHw_heatOf (x : Src) (a : AKind) (n : Nat) : (s.raiseHw x a n).heatOf = s.heatOf := rfl
@[simp] theorem State.raiseHw_gates (x : Src) (a : AKind) (n : Nat) : (s.raiseHw x a n).gates = s.gates := rfl
@[simp] theorem State.raiseHw_merges (x : Src) (a : AKind) (n : Nat) : (s.raiseHw x a n).merges = s.merges := rfl
@[simp] theorem State.raiseHw_domV (x : Src) (a : AKind) (n : Nat) : (s.raiseHw x a n).domV = s.domV := rfl
@[simp] theorem State.raiseHw_place (x : Src) (a : AKind) (n : Nat) : (s.raiseHw x a n).place = s.place := rfl
@[simp] theorem State.raiseHw_gatesOk (x : Src) (a : AKind) (n : Nat) : (s.raiseHw x a n).gatesOk = s.gatesOk := rfl
@[simp] theorem State.raiseHw_plan (x : Src) (a : AKind) (n : Nat) : (s.raiseHw x a n).plan = s.plan := rfl
@[simp] theorem State.raiseHw_planLeft (x : Src) (a : AKind) (n : Nat) : (s.raiseHw x a n).planLeft = s.planLeft := rfl
@[simp] theorem State.raiseHw_baton (x : Src) (a : AKind) (n : Nat) : (s.raiseHw x a n).baton = s.baton := rfl
@[simp] theorem State.raiseHw_slots (x : Src) (a : AKind) (n : Nat) : (s.raiseHw x a n).slots = s.slots := rfl
@[simp] theorem State.raiseHw_pacer (x : Src) (a : AKind) (n : Nat) : (s.raiseHw x a n).pacer = s.pacer := rfl
@[simp] theorem State.raiseHw_lim (x : Src) (a : AKind) (n : Nat) : (s.raiseHw x a n).lim = s.lim := rfl
@[simp] theorem State.raiseHw_gauge (x : Src) (a : AKind) (n : Nat) : (s.raiseHw x a n).gauge = s.gauge := rfl
@[simp] theorem State.raiseHw_led (x : Src) (a : AKind) (n : Nat) : (s.raiseHw x a n).led = s.led := rfl
@[simp] theorem State.raiseHw_relay (x : Src) (a : AKind) (n : Nat) : (s.raiseHw x a n).relay = s.relay := rfl
@[simp] theorem State.raiseHw_opal (x : Src) (a : AKind) (n : Nat) : (s.raiseHw x a n).opal = s.opal := rfl
@[simp] theorem State.raiseHw_nvm (x : Src) (a : AKind) (n : Nat) : (s.raiseHw x a n).nvm = s.nvm := rfl
@[simp] theorem State.raiseHw_boot (x : Src) (a : AKind) (n : Nat) : (s.raiseHw x a n).boot = s.boot := rfl
@[simp] theorem State.raiseHw_host (x : Src) (a : AKind) (n : Nat) : (s.raiseHw x a n).host = s.host := rfl
@[simp] theorem State.raiseHw_test (x : Src) (a : AKind) (n : Nat) : (s.raiseHw x a n).test = s.test := rfl
@[simp] theorem State.raiseHw_pf (x : Src) (a : AKind) (n : Nat) : (s.raiseHw x a n).pf = s.pf := rfl
@[simp] theorem State.raiseHw_out (x : Src) (a : AKind) (n : Nat) : (s.raiseHw x a n).out = s.out := rfl
@[simp] theorem State.raiseHw_freeCtr (x : Src) (a : AKind) (n : Nat) : (s.raiseHw x a n).freeCtr = s.freeCtr := rfl

/-! ### condEnds -/

@[simp] theorem State.condEnds_pending (x : Src) : (s.condEnds x).pending = s.pending := rfl
@[simp] theorem State.condEnds_now (x : Src) : (s.condEnds x).now = s.now := rfl
@[simp] theorem State.condEnds_powered (x : Src) : (s.condEnds x).powered = s.powered := rfl
@[simp] theorem State.condEnds_blockReset (x : Src) : (s.condEnds x).blockReset = s.blockReset := rfl
@[simp] theorem State.condEnds_resume (x : Src) : (s.condEnds x).resume = s.resume := rfl
@[simp] theorem State.condEnds_brReaction (x : Src) : (s.condEnds x).brReaction = s.brReaction := rfl
@[simp] theorem State.condEnds_refLost (x : Src) : (s.condEnds x).refLost = s.refLost := rfl
@[simp] theorem State.condEnds_backup (x : Src) : (s.condEnds x).backup = s.backup := rfl
@[simp] theorem State.condEnds_tablesInit (x : Src) : (s.condEnds x).tablesInit = s.tablesInit := rfl
@[simp] theorem State.condEnds_badWords (x : Src) : (s.condEnds x).badWords = s.badWords := rfl
@[simp] theorem State.condEnds_regs (x : Src) : (s.condEnds x).regs = s.regs := rfl
@[simp] theorem State.condEnds_step (x : Src) : (s.condEnds x).step = s.step := rfl
@[simp] theorem State.condEnds_balCtr (x : Src) : (s.condEnds x).balCtr = s.balCtr := rfl
@[simp] theorem State.condEnds_lanes (x : Src) : (s.condEnds x).lanes = s.lanes := rfl
@[simp] theorem State.condEnds_rgns (x : Src) : (s.condEnds x).rgns = s.rgns := rfl
@[simp] theorem State.condEnds_heats (x : Src) : (s.condEnds x).heats = s.heats := rfl
@[simp] theorem State.condEnds_heatOf (x : Src) : (s.condEnds x).heatOf = s.heatOf := rfl
@[simp] theorem State.condEnds_gates (x : Src) : (s.condEnds x).gates = s.gates := rfl
@[simp] theorem State.condEnds_merges (x : Src) : (s.condEnds x).merges = s.merges := rfl
@[simp] theorem State.condEnds_domV (x : Src) : (s.condEnds x).domV = s.domV := rfl
@[simp] theorem State.condEnds_place (x : Src) : (s.condEnds x).place = s.place := rfl
@[simp] theorem State.condEnds_gatesOk (x : Src) : (s.condEnds x).gatesOk = s.gatesOk := rfl
@[simp] theorem State.condEnds_plan (x : Src) : (s.condEnds x).plan = s.plan := rfl
@[simp] theorem State.condEnds_planLeft (x : Src) : (s.condEnds x).planLeft = s.planLeft := rfl
@[simp] theorem State.condEnds_baton (x : Src) : (s.condEnds x).baton = s.baton := rfl
@[simp] theorem State.condEnds_slots (x : Src) : (s.condEnds x).slots = s.slots := rfl
@[simp] theorem State.condEnds_pacer (x : Src) : (s.condEnds x).pacer = s.pacer := rfl
@[simp] theorem State.condEnds_lim (x : Src) : (s.condEnds x).lim = s.lim := rfl
@[simp] theorem State.condEnds_gauge (x : Src) : (s.condEnds x).gauge = s.gauge := rfl
@[simp] theorem State.condEnds_led (x : Src) : (s.condEnds x).led = s.led := rfl
@[simp] theorem State.condEnds_relay (x : Src) : (s.condEnds x).relay = s.relay := rfl
@[simp] theorem State.condEnds_opal (x : Src) : (s.condEnds x).opal = s.opal := rfl
@[simp] theorem State.condEnds_nvm (x : Src) : (s.condEnds x).nvm = s.nvm := rfl
@[simp] theorem State.condEnds_boot (x : Src) : (s.condEnds x).boot = s.boot := rfl
@[simp] theorem State.condEnds_host (x : Src) : (s.condEnds x).host = s.host := rfl
@[simp] theorem State.condEnds_test (x : Src) : (s.condEnds x).test = s.test := rfl
@[simp] theorem State.condEnds_pf (x : Src) : (s.condEnds x).pf = s.pf := rfl
@[simp] theorem State.condEnds_out (x : Src) : (s.condEnds x).out = s.out := rfl
@[simp] theorem State.condEnds_freeCtr (x : Src) : (s.condEnds x).freeCtr = s.freeCtr := rfl

/-! ### queueFull -/

@[simp] theorem State.queueFull_pending (p : FMaster) : (s.queueFull p).pending = s.pending := rfl
@[simp] theorem State.queueFull_now (p : FMaster) : (s.queueFull p).now = s.now := rfl
@[simp] theorem State.queueFull_powered (p : FMaster) : (s.queueFull p).powered = s.powered := rfl
@[simp] theorem State.queueFull_blockReset (p : FMaster) : (s.queueFull p).blockReset = s.blockReset := rfl
@[simp] theorem State.queueFull_resume (p : FMaster) : (s.queueFull p).resume = s.resume := rfl
@[simp] theorem State.queueFull_brReaction (p : FMaster) : (s.queueFull p).brReaction = s.brReaction := rfl
@[simp] theorem State.queueFull_refLost (p : FMaster) : (s.queueFull p).refLost = s.refLost := rfl
@[simp] theorem State.queueFull_backup (p : FMaster) : (s.queueFull p).backup = s.backup := rfl
@[simp] theorem State.queueFull_tablesInit (p : FMaster) : (s.queueFull p).tablesInit = s.tablesInit := rfl
@[simp] theorem State.queueFull_badWords (p : FMaster) : (s.queueFull p).badWords = s.badWords := rfl
@[simp] theorem State.queueFull_regs (p : FMaster) : (s.queueFull p).regs = s.regs := rfl
@[simp] theorem State.queueFull_step (p : FMaster) : (s.queueFull p).step = s.step := rfl
@[simp] theorem State.queueFull_balCtr (p : FMaster) : (s.queueFull p).balCtr = s.balCtr := rfl
@[simp] theorem State.queueFull_lanes (p : FMaster) : (s.queueFull p).lanes = s.lanes := rfl
@[simp] theorem State.queueFull_rgns (p : FMaster) : (s.queueFull p).rgns = s.rgns := rfl
@[simp] theorem State.queueFull_heats (p : FMaster) : (s.queueFull p).heats = s.heats := rfl
@[simp] theorem State.queueFull_heatOf (p : FMaster) : (s.queueFull p).heatOf = s.heatOf := rfl
@[simp] theorem State.queueFull_gates (p : FMaster) : (s.queueFull p).gates = s.gates := rfl
@[simp] theorem State.queueFull_merges (p : FMaster) : (s.queueFull p).merges = s.merges := rfl
@[simp] theorem State.queueFull_domV (p : FMaster) : (s.queueFull p).domV = s.domV := rfl
@[simp] theorem State.queueFull_place (p : FMaster) : (s.queueFull p).place = s.place := rfl
@[simp] theorem State.queueFull_gatesOk (p : FMaster) : (s.queueFull p).gatesOk = s.gatesOk := rfl
@[simp] theorem State.queueFull_plan (p : FMaster) : (s.queueFull p).plan = s.plan := rfl
@[simp] theorem State.queueFull_planLeft (p : FMaster) : (s.queueFull p).planLeft = s.planLeft := rfl
@[simp] theorem State.queueFull_baton (p : FMaster) : (s.queueFull p).baton = s.baton := rfl
@[simp] theorem State.queueFull_slots (p : FMaster) : (s.queueFull p).slots = s.slots := rfl
@[simp] theorem State.queueFull_pacer (p : FMaster) : (s.queueFull p).pacer = s.pacer := rfl
@[simp] theorem State.queueFull_lim (p : FMaster) : (s.queueFull p).lim = s.lim := rfl
@[simp] theorem State.queueFull_gauge (p : FMaster) : (s.queueFull p).gauge = s.gauge := rfl
@[simp] theorem State.queueFull_led (p : FMaster) : (s.queueFull p).led = s.led := rfl
@[simp] theorem State.queueFull_relay (p : FMaster) : (s.queueFull p).relay = s.relay := rfl
@[simp] theorem State.queueFull_opal (p : FMaster) : (s.queueFull p).opal = s.opal := rfl
@[simp] theorem State.queueFull_nvm (p : FMaster) : (s.queueFull p).nvm = s.nvm := rfl
@[simp] theorem State.queueFull_boot (p : FMaster) : (s.queueFull p).boot = s.boot := rfl
@[simp] theorem State.queueFull_host (p : FMaster) : (s.queueFull p).host = s.host := rfl
@[simp] theorem State.queueFull_test (p : FMaster) : (s.queueFull p).test = s.test := rfl
@[simp] theorem State.queueFull_pf (p : FMaster) : (s.queueFull p).pf = s.pf := rfl
@[simp] theorem State.queueFull_out (p : FMaster) : (s.queueFull p).out = s.out := rfl
@[simp] theorem State.queueFull_freeCtr (p : FMaster) : (s.queueFull p).freeCtr = s.freeCtr := rfl

/-! ### enqueue -/

@[simp] theorem State.enqueue_pending (d : Nat) (a : Action) : (s.enqueue d a).pending = s.pending := rfl
@[simp] theorem State.enqueue_now (d : Nat) (a : Action) : (s.enqueue d a).now = s.now := rfl
@[simp] theorem State.enqueue_powered (d : Nat) (a : Action) : (s.enqueue d a).powered = s.powered := rfl
@[simp] theorem State.enqueue_blockReset (d : Nat) (a : Action) : (s.enqueue d a).blockReset = s.blockReset := rfl
@[simp] theorem State.enqueue_resume (d : Nat) (a : Action) : (s.enqueue d a).resume = s.resume := rfl
@[simp] theorem State.enqueue_brReaction (d : Nat) (a : Action) : (s.enqueue d a).brReaction = s.brReaction := rfl
@[simp] theorem State.enqueue_refLost (d : Nat) (a : Action) : (s.enqueue d a).refLost = s.refLost := rfl
@[simp] theorem State.enqueue_backup (d : Nat) (a : Action) : (s.enqueue d a).backup = s.backup := rfl
@[simp] theorem State.enqueue_tablesInit (d : Nat) (a : Action) : (s.enqueue d a).tablesInit = s.tablesInit := rfl
@[simp] theorem State.enqueue_badWords (d : Nat) (a : Action) : (s.enqueue d a).badWords = s.badWords := rfl
@[simp] theorem State.enqueue_regs (d : Nat) (a : Action) : (s.enqueue d a).regs = s.regs := rfl
@[simp] theorem State.enqueue_balCtr (d : Nat) (a : Action) : (s.enqueue d a).balCtr = s.balCtr := rfl
@[simp] theorem State.enqueue_lanes (d : Nat) (a : Action) : (s.enqueue d a).lanes = s.lanes := rfl
@[simp] theorem State.enqueue_rgns (d : Nat) (a : Action) : (s.enqueue d a).rgns = s.rgns := rfl
@[simp] theorem State.enqueue_heats (d : Nat) (a : Action) : (s.enqueue d a).heats = s.heats := rfl
@[simp] theorem State.enqueue_heatOf (d : Nat) (a : Action) : (s.enqueue d a).heatOf = s.heatOf := rfl
@[simp] theorem State.enqueue_gates (d : Nat) (a : Action) : (s.enqueue d a).gates = s.gates := rfl
@[simp] theorem State.enqueue_merges (d : Nat) (a : Action) : (s.enqueue d a).merges = s.merges := rfl
@[simp] theorem State.enqueue_domV (d : Nat) (a : Action) : (s.enqueue d a).domV = s.domV := rfl
@[simp] theorem State.enqueue_place (d : Nat) (a : Action) : (s.enqueue d a).place = s.place := rfl
@[simp] theorem State.enqueue_gatesOk (d : Nat) (a : Action) : (s.enqueue d a).gatesOk = s.gatesOk := rfl
@[simp] theorem State.enqueue_plan (d : Nat) (a : Action) : (s.enqueue d a).plan = s.plan := rfl
@[simp] theorem State.enqueue_planLeft (d : Nat) (a : Action) : (s.enqueue d a).planLeft = s.planLeft := rfl
@[simp] theorem State.enqueue_baton (d : Nat) (a : Action) : (s.enqueue d a).baton = s.baton := rfl
@[simp] theorem State.enqueue_slots (d : Nat) (a : Action) : (s.enqueue d a).slots = s.slots := rfl
@[simp] theorem State.enqueue_pacer (d : Nat) (a : Action) : (s.enqueue d a).pacer = s.pacer := rfl
@[simp] theorem State.enqueue_coll (d : Nat) (a : Action) : (s.enqueue d a).coll = s.coll := rfl
@[simp] theorem State.enqueue_lim (d : Nat) (a : Action) : (s.enqueue d a).lim = s.lim := rfl
@[simp] theorem State.enqueue_gauge (d : Nat) (a : Action) : (s.enqueue d a).gauge = s.gauge := rfl
@[simp] theorem State.enqueue_led (d : Nat) (a : Action) : (s.enqueue d a).led = s.led := rfl
@[simp] theorem State.enqueue_relay (d : Nat) (a : Action) : (s.enqueue d a).relay = s.relay := rfl
@[simp] theorem State.enqueue_opal (d : Nat) (a : Action) : (s.enqueue d a).opal = s.opal := rfl
@[simp] theorem State.enqueue_nvm (d : Nat) (a : Action) : (s.enqueue d a).nvm = s.nvm := rfl
@[simp] theorem State.enqueue_boot (d : Nat) (a : Action) : (s.enqueue d a).boot = s.boot := rfl
@[simp] theorem State.enqueue_host (d : Nat) (a : Action) : (s.enqueue d a).host = s.host := rfl
@[simp] theorem State.enqueue_test (d : Nat) (a : Action) : (s.enqueue d a).test = s.test := rfl
@[simp] theorem State.enqueue_pf (d : Nat) (a : Action) : (s.enqueue d a).pf = s.pf := rfl
@[simp] theorem State.enqueue_out (d : Nat) (a : Action) : (s.enqueue d a).out = s.out := rfl
@[simp] theorem State.enqueue_freeCtr (d : Nat) (a : Action) : (s.enqueue d a).freeCtr = s.freeCtr := rfl

/-! ### dequeue -/

@[simp] theorem State.dequeue_pending (p : Action → Bool) : (s.dequeue p).pending = s.pending := rfl
@[simp] theorem State.dequeue_now (p : Action → Bool) : (s.dequeue p).now = s.now := rfl
@[simp] theorem State.dequeue_powered (p : Action → Bool) : (s.dequeue p).powered = s.powered := rfl
@[simp] theorem State.dequeue_blockReset (p : Action → Bool) : (s.dequeue p).blockReset = s.blockReset := rfl
@[simp] theorem State.dequeue_resume (p : Action → Bool) : (s.dequeue p).resume = s.resume := rfl
@[simp] theorem State.dequeue_brReaction (p : Action → Bool) : (s.dequeue p).brReaction = s.brReaction := rfl
@[simp] theorem State.dequeue_refLost (p : Action → Bool) : (s.dequeue p).refLost = s.refLost := rfl
@[simp] theorem State.dequeue_backup (p : Action → Bool) : (s.dequeue p).backup = s.backup := rfl
@[simp] theorem State.dequeue_tablesInit (p : Action → Bool) : (s.dequeue p).tablesInit = s.tablesInit := rfl
@[simp] theorem State.dequeue_badWords (p : Action → Bool) : (s.dequeue p).badWords = s.badWords := rfl
@[simp] theorem State.dequeue_regs (p : Action → Bool) : (s.dequeue p).regs = s.regs := rfl
@[simp] theorem State.dequeue_balCtr (p : Action → Bool) : (s.dequeue p).balCtr = s.balCtr := rfl
@[simp] theorem State.dequeue_lanes (p : Action → Bool) : (s.dequeue p).lanes = s.lanes := rfl
@[simp] theorem State.dequeue_rgns (p : Action → Bool) : (s.dequeue p).rgns = s.rgns := rfl
@[simp] theorem State.dequeue_heats (p : Action → Bool) : (s.dequeue p).heats = s.heats := rfl
@[simp] theorem State.dequeue_heatOf (p : Action → Bool) : (s.dequeue p).heatOf = s.heatOf := rfl
@[simp] theorem State.dequeue_gates (p : Action → Bool) : (s.dequeue p).gates = s.gates := rfl
@[simp] theorem State.dequeue_merges (p : Action → Bool) : (s.dequeue p).merges = s.merges := rfl
@[simp] theorem State.dequeue_domV (p : Action → Bool) : (s.dequeue p).domV = s.domV := rfl
@[simp] theorem State.dequeue_place (p : Action → Bool) : (s.dequeue p).place = s.place := rfl
@[simp] theorem State.dequeue_gatesOk (p : Action → Bool) : (s.dequeue p).gatesOk = s.gatesOk := rfl
@[simp] theorem State.dequeue_plan (p : Action → Bool) : (s.dequeue p).plan = s.plan := rfl
@[simp] theorem State.dequeue_planLeft (p : Action → Bool) : (s.dequeue p).planLeft = s.planLeft := rfl
@[simp] theorem State.dequeue_baton (p : Action → Bool) : (s.dequeue p).baton = s.baton := rfl
@[simp] theorem State.dequeue_slots (p : Action → Bool) : (s.dequeue p).slots = s.slots := rfl
@[simp] theorem State.dequeue_pacer (p : Action → Bool) : (s.dequeue p).pacer = s.pacer := rfl
@[simp] theorem State.dequeue_coll (p : Action → Bool) : (s.dequeue p).coll = s.coll := rfl
@[simp] theorem State.dequeue_lim (p : Action → Bool) : (s.dequeue p).lim = s.lim := rfl
@[simp] theorem State.dequeue_gauge (p : Action → Bool) : (s.dequeue p).gauge = s.gauge := rfl
@[simp] theorem State.dequeue_led (p : Action → Bool) : (s.dequeue p).led = s.led := rfl
@[simp] theorem State.dequeue_relay (p : Action → Bool) : (s.dequeue p).relay = s.relay := rfl
@[simp] theorem State.dequeue_opal (p : Action → Bool) : (s.dequeue p).opal = s.opal := rfl
@[simp] theorem State.dequeue_nvm (p : Action → Bool) : (s.dequeue p).nvm = s.nvm := rfl
@[simp] theorem State.dequeue_boot (p : Action → Bool) : (s.dequeue p).boot = s.boot := rfl
@[simp] theorem State.dequeue_host (p : Action → Bool) : (s.dequeue p).host = s.host := rfl
@[simp] theorem State.dequeue_test (p : Action → Bool) : (s.dequeue p).test = s.test := rfl
@[simp] theorem State.dequeue_pf (p : Action → Bool) : (s.dequeue p).pf = s.pf := rfl
@[simp] theorem State.dequeue_out (p : Action → Bool) : (s.dequeue p).out = s.out := rfl
@[simp] theorem State.dequeue_freeCtr (p : Action → Bool) : (s.dequeue p).freeCtr = s.freeCtr := rfl

/-! ### setCtx -/

@[simp] theorem State.setCtx_pending (c : Nat) (x : CtxState) : (s.setCtx c x).pending = s.pending := rfl
@[simp] theorem State.setCtx_now (c : Nat) (x : CtxState) : (s.setCtx c x).now = s.now := rfl
@[simp] theorem State.setCtx_powered (c : Nat) (x : CtxState) : (s.setCtx c x).powered = s.powered := rfl
@[simp] theorem State.setCtx_blockReset (c : Nat) (x : CtxState) : (s.setCtx c x).blockReset = s.blockReset := rfl
@[simp] theorem State.setCtx_resume (c : Nat) (x : CtxState) : (s.setCtx c x).resume = s.resume := rfl
@[simp] theorem State.setCtx_brReaction (c : Nat) (x : CtxState) : (s.setCtx c x).brReaction = s.brReaction := rfl
@[simp] theorem State.setCtx_refLost (c : Nat) (x : CtxState) : (s.setCtx c x).refLost = s.refLost := rfl
@[simp] theorem State.setCtx_backup (c : Nat) (x : CtxState) : (s.setCtx c x).backup = s.backup := rfl
@[simp] theorem State.setCtx_tablesInit (c : Nat) (x : CtxState) : (s.setCtx c x).tablesInit = s.tablesInit := rfl
@[simp] theorem State.setCtx_badWords (c : Nat) (x : CtxState) : (s.setCtx c x).badWords = s.badWords := rfl
@[simp] theorem State.setCtx_regs (c : Nat) (x : CtxState) : (s.setCtx c x).regs = s.regs := rfl
@[simp] theorem State.setCtx_step (c : Nat) (x : CtxState) : (s.setCtx c x).step = s.step := rfl
@[simp] theorem State.setCtx_balCtr (c : Nat) (x : CtxState) : (s.setCtx c x).balCtr = s.balCtr := rfl
@[simp] theorem State.setCtx_lanes (c : Nat) (x : CtxState) : (s.setCtx c x).lanes = s.lanes := rfl
@[simp] theorem State.setCtx_rgns (c : Nat) (x : CtxState) : (s.setCtx c x).rgns = s.rgns := rfl
@[simp] theorem State.setCtx_heats (c : Nat) (x : CtxState) : (s.setCtx c x).heats = s.heats := rfl
@[simp] theorem State.setCtx_heatOf (c : Nat) (x : CtxState) : (s.setCtx c x).heatOf = s.heatOf := rfl
@[simp] theorem State.setCtx_gates (c : Nat) (x : CtxState) : (s.setCtx c x).gates = s.gates := rfl
@[simp] theorem State.setCtx_merges (c : Nat) (x : CtxState) : (s.setCtx c x).merges = s.merges := rfl
@[simp] theorem State.setCtx_domV (c : Nat) (x : CtxState) : (s.setCtx c x).domV = s.domV := rfl
@[simp] theorem State.setCtx_place (c : Nat) (x : CtxState) : (s.setCtx c x).place = s.place := rfl
@[simp] theorem State.setCtx_gatesOk (c : Nat) (x : CtxState) : (s.setCtx c x).gatesOk = s.gatesOk := rfl
@[simp] theorem State.setCtx_plan (c : Nat) (x : CtxState) : (s.setCtx c x).plan = s.plan := rfl
@[simp] theorem State.setCtx_planLeft (c : Nat) (x : CtxState) : (s.setCtx c x).planLeft = s.planLeft := rfl
@[simp] theorem State.setCtx_baton (c : Nat) (x : CtxState) : (s.setCtx c x).baton = s.baton := rfl
@[simp] theorem State.setCtx_slots (c : Nat) (x : CtxState) : (s.setCtx c x).slots = s.slots := rfl
@[simp] theorem State.setCtx_pacer (c : Nat) (x : CtxState) : (s.setCtx c x).pacer = s.pacer := rfl
@[simp] theorem State.setCtx_coll (c : Nat) (x : CtxState) : (s.setCtx c x).coll = s.coll := rfl
@[simp] theorem State.setCtx_lim (c : Nat) (x : CtxState) : (s.setCtx c x).lim = s.lim := rfl
@[simp] theorem State.setCtx_gauge (c : Nat) (x : CtxState) : (s.setCtx c x).gauge = s.gauge := rfl
@[simp] theorem State.setCtx_relay (c : Nat) (x : CtxState) : (s.setCtx c x).relay = s.relay := rfl
@[simp] theorem State.setCtx_opal (c : Nat) (x : CtxState) : (s.setCtx c x).opal = s.opal := rfl
@[simp] theorem State.setCtx_nvm (c : Nat) (x : CtxState) : (s.setCtx c x).nvm = s.nvm := rfl
@[simp] theorem State.setCtx_boot (c : Nat) (x : CtxState) : (s.setCtx c x).boot = s.boot := rfl
@[simp] theorem State.setCtx_host (c : Nat) (x : CtxState) : (s.setCtx c x).host = s.host := rfl
@[simp] theorem State.setCtx_test (c : Nat) (x : CtxState) : (s.setCtx c x).test = s.test := rfl
@[simp] theorem State.setCtx_pf (c : Nat) (x : CtxState) : (s.setCtx c x).pf = s.pf := rfl
@[simp] theorem State.setCtx_out (c : Nat) (x : CtxState) : (s.setCtx c x).out = s.out := rfl
@[simp] theorem State.setCtx_freeCtr (c : Nat) (x : CtxState) : (s.setCtx c x).freeCtr = s.freeCtr := rfl

/-! ### record -/

@[simp] theorem State.record_pending (r : BootRec) : (s.record r).pending = s.pending := rfl
@[simp] theorem State.record_now (r : BootRec) : (s.record r).now = s.now := rfl
@[simp] theorem State.record_powered (r : BootRec) : (s.record r).powered = s.powered := rfl
@[simp] theorem State.record_blockReset (r : BootRec) : (s.record r).blockReset = s.blockReset := rfl
@[simp] theorem State.record_resume (r : BootRec) : (s.record r).resume = s.resume := rfl
@[simp] theorem State.record_brReaction (r : BootRec) : (s.record r).brReaction = s.brReaction := rfl
@[simp] theorem State.record_refLost (r : BootRec) : (s.record r).refLost = s.refLost := rfl
@[simp] theorem State.record_backup (r : BootRec) : (s.record r).backup = s.backup := rfl
@[simp] theorem State.record_tablesInit (r : BootRec) : (s.record r).tablesInit = s.tablesInit := rfl
@[simp] theorem State.record_badWords (r : BootRec) : (s.record r).badWords = s.badWords := rfl
@[simp] theorem State.record_regs (r : BootRec) : (s.record r).regs = s.regs := rfl
@[simp] theorem State.record_step (r : BootRec) : (s.record r).step = s.step := rfl
@[simp] theorem State.record_balCtr (r : BootRec) : (s.record r).balCtr = s.balCtr := rfl
@[simp] theorem State.record_lanes (r : BootRec) : (s.record r).lanes = s.lanes := rfl
@[simp] theorem State.record_rgns (r : BootRec) : (s.record r).rgns = s.rgns := rfl
@[simp] theorem State.record_heats (r : BootRec) : (s.record r).heats = s.heats := rfl
@[simp] theorem State.record_heatOf (r : BootRec) : (s.record r).heatOf = s.heatOf := rfl
@[simp] theorem State.record_gates (r : BootRec) : (s.record r).gates = s.gates := rfl
@[simp] theorem State.record_merges (r : BootRec) : (s.record r).merges = s.merges := rfl
@[simp] theorem State.record_domV (r : BootRec) : (s.record r).domV = s.domV := rfl
@[simp] theorem State.record_place (r : BootRec) : (s.record r).place = s.place := rfl
@[simp] theorem State.record_gatesOk (r : BootRec) : (s.record r).gatesOk = s.gatesOk := rfl
@[simp] theorem State.record_plan (r : BootRec) : (s.record r).plan = s.plan := rfl
@[simp] theorem State.record_planLeft (r : BootRec) : (s.record r).planLeft = s.planLeft := rfl
@[simp] theorem State.record_baton (r : BootRec) : (s.record r).baton = s.baton := rfl
@[simp] theorem State.record_slots (r : BootRec) : (s.record r).slots = s.slots := rfl
@[simp] theorem State.record_pacer (r : BootRec) : (s.record r).pacer = s.pacer := rfl
@[simp] theorem State.record_coll (r : BootRec) : (s.record r).coll = s.coll := rfl
@[simp] theorem State.record_lim (r : BootRec) : (s.record r).lim = s.lim := rfl
@[simp] theorem State.record_gauge (r : BootRec) : (s.record r).gauge = s.gauge := rfl
@[simp] theorem State.record_led (r : BootRec) : (s.record r).led = s.led := rfl
@[simp] theorem State.record_relay (r : BootRec) : (s.record r).relay = s.relay := rfl
@[simp] theorem State.record_opal (r : BootRec) : (s.record r).opal = s.opal := rfl
@[simp] theorem State.record_boot (r : BootRec) : (s.record r).boot = s.boot := rfl
@[simp] theorem State.record_host (r : BootRec) : (s.record r).host = s.host := rfl
@[simp] theorem State.record_test (r : BootRec) : (s.record r).test = s.test := rfl
@[simp] theorem State.record_pf (r : BootRec) : (s.record r).pf = s.pf := rfl
@[simp] theorem State.record_out (r : BootRec) : (s.record r).out = s.out := rfl
@[simp] theorem State.record_freeCtr (r : BootRec) : (s.record r).freeCtr = s.freeCtr := rfl

/-! ### loadIr -/

@[simp] theorem State.loadIr_pending (c : Nat) : (s.loadIr c).pending = s.pending := rfl
@[simp] theorem State.loadIr_now (c : Nat) : (s.loadIr c).now = s.now := rfl
@[simp] theorem State.loadIr_powered (c : Nat) : (s.loadIr c).powered = s.powered := rfl
@[simp] theorem State.loadIr_blockReset (c : Nat) : (s.loadIr c).blockReset = s.blockReset := rfl
@[simp] theorem State.loadIr_resume (c : Nat) : (s.loadIr c).resume = s.resume := rfl
@[simp] theorem State.loadIr_brReaction (c : Nat) : (s.loadIr c).brReaction = s.brReaction := rfl
@[simp] theorem State.loadIr_refLost (c : Nat) : (s.loadIr c).refLost = s.refLost := rfl
@[simp] theorem State.loadIr_backup (c : Nat) : (s.loadIr c).backup = s.backup := rfl
@[simp] theorem State.loadIr_tablesInit (c : Nat) : (s.loadIr c).tablesInit = s.tablesInit := rfl
@[simp] theorem State.loadIr_badWords (c : Nat) : (s.loadIr c).badWords = s.badWords := rfl
@[simp] theorem State.loadIr_regs (c : Nat) : (s.loadIr c).regs = s.regs := rfl
@[simp] theorem State.loadIr_step (c : Nat) : (s.loadIr c).step = s.step := rfl
@[simp] theorem State.loadIr_balCtr (c : Nat) : (s.loadIr c).balCtr = s.balCtr := rfl
@[simp] theorem State.loadIr_lanes (c : Nat) : (s.loadIr c).lanes = s.lanes := rfl
@[simp] theorem State.loadIr_rgns (c : Nat) : (s.loadIr c).rgns = s.rgns := rfl
@[simp] theorem State.loadIr_heats (c : Nat) : (s.loadIr c).heats = s.heats := rfl
@[simp] theorem State.loadIr_heatOf (c : Nat) : (s.loadIr c).heatOf = s.heatOf := rfl
@[simp] theorem State.loadIr_gates (c : Nat) : (s.loadIr c).gates = s.gates := rfl
@[simp] theorem State.loadIr_merges (c : Nat) : (s.loadIr c).merges = s.merges := rfl
@[simp] theorem State.loadIr_domV (c : Nat) : (s.loadIr c).domV = s.domV := rfl
@[simp] theorem State.loadIr_place (c : Nat) : (s.loadIr c).place = s.place := rfl
@[simp] theorem State.loadIr_gatesOk (c : Nat) : (s.loadIr c).gatesOk = s.gatesOk := rfl
@[simp] theorem State.loadIr_plan (c : Nat) : (s.loadIr c).plan = s.plan := rfl
@[simp] theorem State.loadIr_planLeft (c : Nat) : (s.loadIr c).planLeft = s.planLeft := rfl
@[simp] theorem State.loadIr_baton (c : Nat) : (s.loadIr c).baton = s.baton := rfl
@[simp] theorem State.loadIr_slots (c : Nat) : (s.loadIr c).slots = s.slots := rfl
@[simp] theorem State.loadIr_pacer (c : Nat) : (s.loadIr c).pacer = s.pacer := rfl
@[simp] theorem State.loadIr_coll (c : Nat) : (s.loadIr c).coll = s.coll := rfl
@[simp] theorem State.loadIr_lim (c : Nat) : (s.loadIr c).lim = s.lim := rfl
@[simp] theorem State.loadIr_gauge (c : Nat) : (s.loadIr c).gauge = s.gauge := rfl
@[simp] theorem State.loadIr_led (c : Nat) : (s.loadIr c).led = s.led := rfl
@[simp] theorem State.loadIr_relay (c : Nat) : (s.loadIr c).relay = s.relay := rfl
@[simp] theorem State.loadIr_opal (c : Nat) : (s.loadIr c).opal = s.opal := rfl
@[simp] theorem State.loadIr_nvm (c : Nat) : (s.loadIr c).nvm = s.nvm := rfl
@[simp] theorem State.loadIr_boot (c : Nat) : (s.loadIr c).boot = s.boot := rfl
@[simp] theorem State.loadIr_host (c : Nat) : (s.loadIr c).host = s.host := rfl
@[simp] theorem State.loadIr_pf (c : Nat) : (s.loadIr c).pf = s.pf := rfl
@[simp] theorem State.loadIr_out (c : Nat) : (s.loadIr c).out = s.out := rfl
@[simp] theorem State.loadIr_freeCtr (c : Nat) : (s.loadIr c).freeCtr = s.freeCtr := rfl

/-! ### loadWir -/

@[simp] theorem State.loadWir_pending (c : Nat) : (s.loadWir c).pending = s.pending := rfl
@[simp] theorem State.loadWir_now (c : Nat) : (s.loadWir c).now = s.now := rfl
@[simp] theorem State.loadWir_powered (c : Nat) : (s.loadWir c).powered = s.powered := rfl
@[simp] theorem State.loadWir_blockReset (c : Nat) : (s.loadWir c).blockReset = s.blockReset := rfl
@[simp] theorem State.loadWir_resume (c : Nat) : (s.loadWir c).resume = s.resume := rfl
@[simp] theorem State.loadWir_brReaction (c : Nat) : (s.loadWir c).brReaction = s.brReaction := rfl
@[simp] theorem State.loadWir_refLost (c : Nat) : (s.loadWir c).refLost = s.refLost := rfl
@[simp] theorem State.loadWir_backup (c : Nat) : (s.loadWir c).backup = s.backup := rfl
@[simp] theorem State.loadWir_tablesInit (c : Nat) : (s.loadWir c).tablesInit = s.tablesInit := rfl
@[simp] theorem State.loadWir_badWords (c : Nat) : (s.loadWir c).badWords = s.badWords := rfl
@[simp] theorem State.loadWir_regs (c : Nat) : (s.loadWir c).regs = s.regs := rfl
@[simp] theorem State.loadWir_step (c : Nat) : (s.loadWir c).step = s.step := rfl
@[simp] theorem State.loadWir_balCtr (c : Nat) : (s.loadWir c).balCtr = s.balCtr := rfl
@[simp] theorem State.loadWir_lanes (c : Nat) : (s.loadWir c).lanes = s.lanes := rfl
@[simp] theorem State.loadWir_rgns (c : Nat) : (s.loadWir c).rgns = s.rgns := rfl
@[simp] theorem State.loadWir_heats (c : Nat) : (s.loadWir c).heats = s.heats := rfl
@[simp] theorem State.loadWir_heatOf (c : Nat) : (s.loadWir c).heatOf = s.heatOf := rfl
@[simp] theorem State.loadWir_gates (c : Nat) : (s.loadWir c).gates = s.gates := rfl
@[simp] theorem State.loadWir_merges (c : Nat) : (s.loadWir c).merges = s.merges := rfl
@[simp] theorem State.loadWir_domV (c : Nat) : (s.loadWir c).domV = s.domV := rfl
@[simp] theorem State.loadWir_place (c : Nat) : (s.loadWir c).place = s.place := rfl
@[simp] theorem State.loadWir_gatesOk (c : Nat) : (s.loadWir c).gatesOk = s.gatesOk := rfl
@[simp] theorem State.loadWir_plan (c : Nat) : (s.loadWir c).plan = s.plan := rfl
@[simp] theorem State.loadWir_planLeft (c : Nat) : (s.loadWir c).planLeft = s.planLeft := rfl
@[simp] theorem State.loadWir_baton (c : Nat) : (s.loadWir c).baton = s.baton := rfl
@[simp] theorem State.loadWir_slots (c : Nat) : (s.loadWir c).slots = s.slots := rfl
@[simp] theorem State.loadWir_pacer (c : Nat) : (s.loadWir c).pacer = s.pacer := rfl
@[simp] theorem State.loadWir_coll (c : Nat) : (s.loadWir c).coll = s.coll := rfl
@[simp] theorem State.loadWir_lim (c : Nat) : (s.loadWir c).lim = s.lim := rfl
@[simp] theorem State.loadWir_gauge (c : Nat) : (s.loadWir c).gauge = s.gauge := rfl
@[simp] theorem State.loadWir_led (c : Nat) : (s.loadWir c).led = s.led := rfl
@[simp] theorem State.loadWir_relay (c : Nat) : (s.loadWir c).relay = s.relay := rfl
@[simp] theorem State.loadWir_opal (c : Nat) : (s.loadWir c).opal = s.opal := rfl
@[simp] theorem State.loadWir_nvm (c : Nat) : (s.loadWir c).nvm = s.nvm := rfl
@[simp] theorem State.loadWir_boot (c : Nat) : (s.loadWir c).boot = s.boot := rfl
@[simp] theorem State.loadWir_host (c : Nat) : (s.loadWir c).host = s.host := rfl
@[simp] theorem State.loadWir_pf (c : Nat) : (s.loadWir c).pf = s.pf := rfl
@[simp] theorem State.loadWir_out (c : Nat) : (s.loadWir c).out = s.out := rfl
@[simp] theorem State.loadWir_freeCtr (c : Nat) : (s.loadWir c).freeCtr = s.freeCtr := rfl

/-! ### shiftOut -/

@[simp] theorem State.shiftOut_pending (v : Nat) : (s.shiftOut v).pending = s.pending := rfl
@[simp] theorem State.shiftOut_now (v : Nat) : (s.shiftOut v).now = s.now := rfl
@[simp] theorem State.shiftOut_powered (v : Nat) : (s.shiftOut v).powered = s.powered := rfl
@[simp] theorem State.shiftOut_blockReset (v : Nat) : (s.shiftOut v).blockReset = s.blockReset := rfl
@[simp] theorem State.shiftOut_resume (v : Nat) : (s.shiftOut v).resume = s.resume := rfl
@[simp] theorem State.shiftOut_brReaction (v : Nat) : (s.shiftOut v).brReaction = s.brReaction := rfl
@[simp] theorem State.shiftOut_refLost (v : Nat) : (s.shiftOut v).refLost = s.refLost := rfl
@[simp] theorem State.shiftOut_backup (v : Nat) : (s.shiftOut v).backup = s.backup := rfl
@[simp] theorem State.shiftOut_tablesInit (v : Nat) : (s.shiftOut v).tablesInit = s.tablesInit := rfl
@[simp] theorem State.shiftOut_badWords (v : Nat) : (s.shiftOut v).badWords = s.badWords := rfl
@[simp] theorem State.shiftOut_regs (v : Nat) : (s.shiftOut v).regs = s.regs := rfl
@[simp] theorem State.shiftOut_step (v : Nat) : (s.shiftOut v).step = s.step := rfl
@[simp] theorem State.shiftOut_balCtr (v : Nat) : (s.shiftOut v).balCtr = s.balCtr := rfl
@[simp] theorem State.shiftOut_lanes (v : Nat) : (s.shiftOut v).lanes = s.lanes := rfl
@[simp] theorem State.shiftOut_rgns (v : Nat) : (s.shiftOut v).rgns = s.rgns := rfl
@[simp] theorem State.shiftOut_heats (v : Nat) : (s.shiftOut v).heats = s.heats := rfl
@[simp] theorem State.shiftOut_heatOf (v : Nat) : (s.shiftOut v).heatOf = s.heatOf := rfl
@[simp] theorem State.shiftOut_gates (v : Nat) : (s.shiftOut v).gates = s.gates := rfl
@[simp] theorem State.shiftOut_merges (v : Nat) : (s.shiftOut v).merges = s.merges := rfl
@[simp] theorem State.shiftOut_domV (v : Nat) : (s.shiftOut v).domV = s.domV := rfl
@[simp] theorem State.shiftOut_place (v : Nat) : (s.shiftOut v).place = s.place := rfl
@[simp] theorem State.shiftOut_gatesOk (v : Nat) : (s.shiftOut v).gatesOk = s.gatesOk := rfl
@[simp] theorem State.shiftOut_plan (v : Nat) : (s.shiftOut v).plan = s.plan := rfl
@[simp] theorem State.shiftOut_planLeft (v : Nat) : (s.shiftOut v).planLeft = s.planLeft := rfl
@[simp] theorem State.shiftOut_baton (v : Nat) : (s.shiftOut v).baton = s.baton := rfl
@[simp] theorem State.shiftOut_slots (v : Nat) : (s.shiftOut v).slots = s.slots := rfl
@[simp] theorem State.shiftOut_pacer (v : Nat) : (s.shiftOut v).pacer = s.pacer := rfl
@[simp] theorem State.shiftOut_coll (v : Nat) : (s.shiftOut v).coll = s.coll := rfl
@[simp] theorem State.shiftOut_lim (v : Nat) : (s.shiftOut v).lim = s.lim := rfl
@[simp] theorem State.shiftOut_gauge (v : Nat) : (s.shiftOut v).gauge = s.gauge := rfl
@[simp] theorem State.shiftOut_led (v : Nat) : (s.shiftOut v).led = s.led := rfl
@[simp] theorem State.shiftOut_relay (v : Nat) : (s.shiftOut v).relay = s.relay := rfl
@[simp] theorem State.shiftOut_opal (v : Nat) : (s.shiftOut v).opal = s.opal := rfl
@[simp] theorem State.shiftOut_nvm (v : Nat) : (s.shiftOut v).nvm = s.nvm := rfl
@[simp] theorem State.shiftOut_boot (v : Nat) : (s.shiftOut v).boot = s.boot := rfl
@[simp] theorem State.shiftOut_host (v : Nat) : (s.shiftOut v).host = s.host := rfl
@[simp] theorem State.shiftOut_test (v : Nat) : (s.shiftOut v).test = s.test := rfl
@[simp] theorem State.shiftOut_pf (v : Nat) : (s.shiftOut v).pf = s.pf := rfl
@[simp] theorem State.shiftOut_freeCtr (v : Nat) : (s.shiftOut v).freeCtr = s.freeCtr := rfl

/-! ### toStage -/

@[simp] theorem State.toStage_pending (k : Nat) : (s.toStage k).pending = s.pending := rfl
@[simp] theorem State.toStage_now (k : Nat) : (s.toStage k).now = s.now := rfl
@[simp] theorem State.toStage_powered (k : Nat) : (s.toStage k).powered = s.powered := rfl
@[simp] theorem State.toStage_blockReset (k : Nat) : (s.toStage k).blockReset = s.blockReset := rfl
@[simp] theorem State.toStage_resume (k : Nat) : (s.toStage k).resume = s.resume := rfl
@[simp] theorem State.toStage_brReaction (k : Nat) : (s.toStage k).brReaction = s.brReaction := rfl
@[simp] theorem State.toStage_refLost (k : Nat) : (s.toStage k).refLost = s.refLost := rfl
@[simp] theorem State.toStage_backup (k : Nat) : (s.toStage k).backup = s.backup := rfl
@[simp] theorem State.toStage_tablesInit (k : Nat) : (s.toStage k).tablesInit = s.tablesInit := rfl
@[simp] theorem State.toStage_badWords (k : Nat) : (s.toStage k).badWords = s.badWords := rfl
@[simp] theorem State.toStage_step (k : Nat) : (s.toStage k).step = s.step := rfl
@[simp] theorem State.toStage_balCtr (k : Nat) : (s.toStage k).balCtr = s.balCtr := rfl
@[simp] theorem State.toStage_lanes (k : Nat) : (s.toStage k).lanes = s.lanes := rfl
@[simp] theorem State.toStage_rgns (k : Nat) : (s.toStage k).rgns = s.rgns := rfl
@[simp] theorem State.toStage_heats (k : Nat) : (s.toStage k).heats = s.heats := rfl
@[simp] theorem State.toStage_heatOf (k : Nat) : (s.toStage k).heatOf = s.heatOf := rfl
@[simp] theorem State.toStage_gates (k : Nat) : (s.toStage k).gates = s.gates := rfl
@[simp] theorem State.toStage_merges (k : Nat) : (s.toStage k).merges = s.merges := rfl
@[simp] theorem State.toStage_domV (k : Nat) : (s.toStage k).domV = s.domV := rfl
@[simp] theorem State.toStage_place (k : Nat) : (s.toStage k).place = s.place := rfl
@[simp] theorem State.toStage_gatesOk (k : Nat) : (s.toStage k).gatesOk = s.gatesOk := rfl
@[simp] theorem State.toStage_plan (k : Nat) : (s.toStage k).plan = s.plan := rfl
@[simp] theorem State.toStage_planLeft (k : Nat) : (s.toStage k).planLeft = s.planLeft := rfl
@[simp] theorem State.toStage_baton (k : Nat) : (s.toStage k).baton = s.baton := rfl
@[simp] theorem State.toStage_slots (k : Nat) : (s.toStage k).slots = s.slots := rfl
@[simp] theorem State.toStage_pacer (k : Nat) : (s.toStage k).pacer = s.pacer := rfl
@[simp] theorem State.toStage_coll (k : Nat) : (s.toStage k).coll = s.coll := rfl
@[simp] theorem State.toStage_lim (k : Nat) : (s.toStage k).lim = s.lim := rfl
@[simp] theorem State.toStage_gauge (k : Nat) : (s.toStage k).gauge = s.gauge := rfl
@[simp] theorem State.toStage_led (k : Nat) : (s.toStage k).led = s.led := rfl
@[simp] theorem State.toStage_relay (k : Nat) : (s.toStage k).relay = s.relay := rfl
@[simp] theorem State.toStage_opal (k : Nat) : (s.toStage k).opal = s.opal := rfl
@[simp] theorem State.toStage_nvm (k : Nat) : (s.toStage k).nvm = s.nvm := rfl
@[simp] theorem State.toStage_boot (k : Nat) : (s.toStage k).boot = s.boot := rfl
@[simp] theorem State.toStage_host (k : Nat) : (s.toStage k).host = s.host := rfl
@[simp] theorem State.toStage_test (k : Nat) : (s.toStage k).test = s.test := rfl
@[simp] theorem State.toStage_pf (k : Nat) : (s.toStage k).pf = s.pf := rfl
@[simp] theorem State.toStage_out (k : Nat) : (s.toStage k).out = s.out := rfl
@[simp] theorem State.toStage_freeCtr (k : Nat) : (s.toStage k).freeCtr = s.freeCtr := rfl

/-! ### setIrq -/

@[simp] theorem State.setIrq_pending (x : Fld) : (s.setIrq x).pending = s.pending := rfl
@[simp] theorem State.setIrq_now (x : Fld) : (s.setIrq x).now = s.now := rfl
@[simp] theorem State.setIrq_powered (x : Fld) : (s.setIrq x).powered = s.powered := rfl
@[simp] theorem State.setIrq_blockReset (x : Fld) : (s.setIrq x).blockReset = s.blockReset := rfl
@[simp] theorem State.setIrq_resume (x : Fld) : (s.setIrq x).resume = s.resume := rfl
@[simp] theorem State.setIrq_brReaction (x : Fld) : (s.setIrq x).brReaction = s.brReaction := rfl
@[simp] theorem State.setIrq_refLost (x : Fld) : (s.setIrq x).refLost = s.refLost := rfl
@[simp] theorem State.setIrq_backup (x : Fld) : (s.setIrq x).backup = s.backup := rfl
@[simp] theorem State.setIrq_tablesInit (x : Fld) : (s.setIrq x).tablesInit = s.tablesInit := rfl
@[simp] theorem State.setIrq_badWords (x : Fld) : (s.setIrq x).badWords = s.badWords := rfl
@[simp] theorem State.setIrq_step (x : Fld) : (s.setIrq x).step = s.step := rfl
@[simp] theorem State.setIrq_balCtr (x : Fld) : (s.setIrq x).balCtr = s.balCtr := rfl
@[simp] theorem State.setIrq_lanes (x : Fld) : (s.setIrq x).lanes = s.lanes := rfl
@[simp] theorem State.setIrq_rgns (x : Fld) : (s.setIrq x).rgns = s.rgns := rfl
@[simp] theorem State.setIrq_heats (x : Fld) : (s.setIrq x).heats = s.heats := rfl
@[simp] theorem State.setIrq_heatOf (x : Fld) : (s.setIrq x).heatOf = s.heatOf := rfl
@[simp] theorem State.setIrq_gates (x : Fld) : (s.setIrq x).gates = s.gates := rfl
@[simp] theorem State.setIrq_merges (x : Fld) : (s.setIrq x).merges = s.merges := rfl
@[simp] theorem State.setIrq_domV (x : Fld) : (s.setIrq x).domV = s.domV := rfl
@[simp] theorem State.setIrq_place (x : Fld) : (s.setIrq x).place = s.place := rfl
@[simp] theorem State.setIrq_gatesOk (x : Fld) : (s.setIrq x).gatesOk = s.gatesOk := rfl
@[simp] theorem State.setIrq_plan (x : Fld) : (s.setIrq x).plan = s.plan := rfl
@[simp] theorem State.setIrq_planLeft (x : Fld) : (s.setIrq x).planLeft = s.planLeft := rfl
@[simp] theorem State.setIrq_baton (x : Fld) : (s.setIrq x).baton = s.baton := rfl
@[simp] theorem State.setIrq_slots (x : Fld) : (s.setIrq x).slots = s.slots := rfl
@[simp] theorem State.setIrq_pacer (x : Fld) : (s.setIrq x).pacer = s.pacer := rfl
@[simp] theorem State.setIrq_coll (x : Fld) : (s.setIrq x).coll = s.coll := rfl
@[simp] theorem State.setIrq_lim (x : Fld) : (s.setIrq x).lim = s.lim := rfl
@[simp] theorem State.setIrq_gauge (x : Fld) : (s.setIrq x).gauge = s.gauge := rfl
@[simp] theorem State.setIrq_led (x : Fld) : (s.setIrq x).led = s.led := rfl
@[simp] theorem State.setIrq_relay (x : Fld) : (s.setIrq x).relay = s.relay := rfl
@[simp] theorem State.setIrq_opal (x : Fld) : (s.setIrq x).opal = s.opal := rfl
@[simp] theorem State.setIrq_nvm (x : Fld) : (s.setIrq x).nvm = s.nvm := rfl
@[simp] theorem State.setIrq_boot (x : Fld) : (s.setIrq x).boot = s.boot := rfl
@[simp] theorem State.setIrq_host (x : Fld) : (s.setIrq x).host = s.host := rfl
@[simp] theorem State.setIrq_test (x : Fld) : (s.setIrq x).test = s.test := rfl
@[simp] theorem State.setIrq_pf (x : Fld) : (s.setIrq x).pf = s.pf := rfl
@[simp] theorem State.setIrq_out (x : Fld) : (s.setIrq x).out = s.out := rfl
@[simp] theorem State.setIrq_freeCtr (x : Fld) : (s.setIrq x).freeCtr = s.freeCtr := rfl

end Sys2Proof.Machine
end

