-- ==== Sys2Proof/Laws/Access.lean ====
section
/-! SUPPORT. What each update of the state leaves of what its accessors read, and what an accessor of the changed part reads. -/

namespace Sys2Proof.Machine

variable (s : State)

/-! ### setReg -/

@[simp] theorem State.setReg_lane (r : Reg) (i : Nat) (w : Word) (m' : Nat) : (s.setReg r i w).lane m' = s.lane m' := rfl
@[simp] theorem State.setReg_rgn (r : Reg) (i : Nat) (w : Word) (n' : Nat) : (s.setReg r i w).rgn n' = s.rgn n' := rfl
@[simp] theorem State.setReg_heat (r : Reg) (i : Nat) (w : Word) (h' : Nat) : (s.setReg r i w).heat h' = s.heat h' := rfl
@[simp] theorem State.setReg_slot (r : Reg) (i : Nat) (w : Word) (t' : Nat) : (s.setReg r i w).slot t' = s.slot t' := rfl
@[simp] theorem State.setReg_port (r : Reg) (i : Nat) (w : Word) (p' : Nat) : (s.setReg r i w).port p' = s.port p' := rfl
@[simp] theorem State.setReg_src (r : Reg) (i : Nat) (w : Word) (i' : Nat) : (s.setReg r i w).src i' = s.src i' := rfl
@[simp] theorem State.setReg_mod_ (r : Reg) (i : Nat) (w : Word) (k' : Nat) : (s.setReg r i w).mod_ k' = s.mod_ k' := rfl
@[simp] theorem State.setReg_closed (r : Reg) (i : Nat) (w : Word) (g' : Nat) : (s.setReg r i w).closed g' = s.closed g' := rfl
@[simp] theorem State.setReg_placed (r : Reg) (i : Nat) (w : Word) : (s.setReg r i w).placed = s.placed := rfl
@[simp] theorem State.setReg_isPlaced (r : Reg) (i : Nat) (w : Word) (n' : Nat) : (s.setReg r i w).isPlaced n' = s.isPlaced n' := rfl
@[simp] theorem State.setReg_domOf (r : Reg) (i : Nat) (w : Word) (n' : Nat) : (s.setReg r i w).domOf n' = s.domOf n' := rfl
@[simp] theorem State.setReg_heatIx (r : Reg) (i : Nat) (w : Word) (n' : Nat) : (s.setReg r i w).heatIx n' = s.heatIx n' := rfl
@[simp] theorem State.setReg_members (r : Reg) (i : Nat) (w : Word) (h' : Nat) : (s.setReg r i w).members h' = s.members h' := rfl
@[simp] theorem State.setReg_running (r : Reg) (i : Nat) (w : Word) : (s.setReg r i w).running = s.running := rfl
@[simp] theorem State.setReg_ctxSt (r : Reg) (i : Nat) (w : Word) (c' : Nat) : (s.setReg r i w).ctxSt c' = s.ctxSt c' := rfl

/-! ### put -/

@[simp] theorem State.put_lane (x : Fld) (i v : Nat) (m' : Nat) : (s.put x i v).lane m' = s.lane m' := rfl
@[simp] theorem State.put_rgn (x : Fld) (i v : Nat) (n' : Nat) : (s.put x i v).rgn n' = s.rgn n' := rfl
@[simp] theorem State.put_heat (x : Fld) (i v : Nat) (h' : Nat) : (s.put x i v).heat h' = s.heat h' := rfl
@[simp] theorem State.put_slot (x : Fld) (i v : Nat) (t' : Nat) : (s.put x i v).slot t' = s.slot t' := rfl
@[simp] theorem State.put_port (x : Fld) (i v : Nat) (p' : Nat) : (s.put x i v).port p' = s.port p' := rfl
@[simp] theorem State.put_src (x : Fld) (i v : Nat) (i' : Nat) : (s.put x i v).src i' = s.src i' := rfl
@[simp] theorem State.put_mod_ (x : Fld) (i v : Nat) (k' : Nat) : (s.put x i v).mod_ k' = s.mod_ k' := rfl
@[simp] theorem State.put_closed (x : Fld) (i v : Nat) (g' : Nat) : (s.put x i v).closed g' = s.closed g' := rfl
@[simp] theorem State.put_placed (x : Fld) (i v : Nat) : (s.put x i v).placed = s.placed := rfl
@[simp] theorem State.put_isPlaced (x : Fld) (i v : Nat) (n' : Nat) : (s.put x i v).isPlaced n' = s.isPlaced n' := rfl
@[simp] theorem State.put_domOf (x : Fld) (i v : Nat) (n' : Nat) : (s.put x i v).domOf n' = s.domOf n' := rfl
@[simp] theorem State.put_heatIx (x : Fld) (i v : Nat) (n' : Nat) : (s.put x i v).heatIx n' = s.heatIx n' := rfl
@[simp] theorem State.put_members (x : Fld) (i v : Nat) (h' : Nat) : (s.put x i v).members h' = s.members h' := rfl
@[simp] theorem State.put_running (x : Fld) (i v : Nat) : (s.put x i v).running = s.running := rfl
@[simp] theorem State.put_ctxSt (x : Fld) (i v : Nat) (c' : Nat) : (s.put x i v).ctxSt c' = s.ctxSt c' := rfl

/-! ### rst -/

@[simp] theorem State.rst_lane (x : Fld) (i : Nat) (m' : Nat) : (s.rst x i).lane m' = s.lane m' := rfl
@[simp] theorem State.rst_rgn (x : Fld) (i : Nat) (n' : Nat) : (s.rst x i).rgn n' = s.rgn n' := rfl
@[simp] theorem State.rst_heat (x : Fld) (i : Nat) (h' : Nat) : (s.rst x i).heat h' = s.heat h' := rfl
@[simp] theorem State.rst_slot (x : Fld) (i : Nat) (t' : Nat) : (s.rst x i).slot t' = s.slot t' := rfl
@[simp] theorem State.rst_port (x : Fld) (i : Nat) (p' : Nat) : (s.rst x i).port p' = s.port p' := rfl
@[simp] theorem State.rst_src (x : Fld) (i : Nat) (i' : Nat) : (s.rst x i).src i' = s.src i' := rfl
@[simp] theorem State.rst_mod_ (x : Fld) (i : Nat) (k' : Nat) : (s.rst x i).mod_ k' = s.mod_ k' := rfl
@[simp] theorem State.rst_closed (x : Fld) (i : Nat) (g' : Nat) : (s.rst x i).closed g' = s.closed g' := rfl
@[simp] theorem State.rst_placed (x : Fld) (i : Nat) : (s.rst x i).placed = s.placed := rfl
@[simp] theorem State.rst_isPlaced (x : Fld) (i : Nat) (n' : Nat) : (s.rst x i).isPlaced n' = s.isPlaced n' := rfl
@[simp] theorem State.rst_domOf (x : Fld) (i : Nat) (n' : Nat) : (s.rst x i).domOf n' = s.domOf n' := rfl
@[simp] theorem State.rst_heatIx (x : Fld) (i : Nat) (n' : Nat) : (s.rst x i).heatIx n' = s.heatIx n' := rfl
@[simp] theorem State.rst_members (x : Fld) (i : Nat) (h' : Nat) : (s.rst x i).members h' = s.members h' := rfl
@[simp] theorem State.rst_running (x : Fld) (i : Nat) : (s.rst x i).running = s.running := rfl
@[simp] theorem State.rst_ctxSt (x : Fld) (i : Nat) (c' : Nat) : (s.rst x i).ctxSt c' = s.ctxSt c' := rfl

/-! ### bump -/

@[simp] theorem State.bump_lane (x : Fld) (i : Nat) (m' : Nat) : (s.bump x i).lane m' = s.lane m' := rfl
@[simp] theorem State.bump_rgn (x : Fld) (i : Nat) (n' : Nat) : (s.bump x i).rgn n' = s.rgn n' := rfl
@[simp] theorem State.bump_heat (x : Fld) (i : Nat) (h' : Nat) : (s.bump x i).heat h' = s.heat h' := rfl
@[simp] theorem State.bump_slot (x : Fld) (i : Nat) (t' : Nat) : (s.bump x i).slot t' = s.slot t' := rfl
@[simp] theorem State.bump_port (x : Fld) (i : Nat) (p' : Nat) : (s.bump x i).port p' = s.port p' := rfl
@[simp] theorem State.bump_src (x : Fld) (i : Nat) (i' : Nat) : (s.bump x i).src i' = s.src i' := rfl
@[simp] theorem State.bump_mod_ (x : Fld) (i : Nat) (k' : Nat) : (s.bump x i).mod_ k' = s.mod_ k' := rfl
@[simp] theorem State.bump_closed (x : Fld) (i : Nat) (g' : Nat) : (s.bump x i).closed g' = s.closed g' := rfl
@[simp] theorem State.bump_placed (x : Fld) (i : Nat) : (s.bump x i).placed = s.placed := rfl
@[simp] theorem State.bump_isPlaced (x : Fld) (i : Nat) (n' : Nat) : (s.bump x i).isPlaced n' = s.isPlaced n' := rfl
@[simp] theorem State.bump_domOf (x : Fld) (i : Nat) (n' : Nat) : (s.bump x i).domOf n' = s.domOf n' := rfl
@[simp] theorem State.bump_heatIx (x : Fld) (i : Nat) (n' : Nat) : (s.bump x i).heatIx n' = s.heatIx n' := rfl
@[simp] theorem State.bump_members (x : Fld) (i : Nat) (h' : Nat) : (s.bump x i).members h' = s.members h' := rfl
@[simp] theorem State.bump_running (x : Fld) (i : Nat) : (s.bump x i).running = s.running := rfl
@[simp] theorem State.bump_ctxSt (x : Fld) (i : Nat) (c' : Nat) : (s.bump x i).ctxSt c' = s.ctxSt c' := rfl

/-! ### modLane -/

@[simp] theorem State.modLane_rgn (m : Nat) (g : Lane → Lane) (n' : Nat) : (s.modLane m g).rgn n' = s.rgn n' := rfl
@[simp] theorem State.modLane_heat (m : Nat) (g : Lane → Lane) (h' : Nat) : (s.modLane m g).heat h' = s.heat h' := rfl
@[simp] theorem State.modLane_slot (m : Nat) (g : Lane → Lane) (t' : Nat) : (s.modLane m g).slot t' = s.slot t' := rfl
@[simp] theorem State.modLane_port (m : Nat) (g : Lane → Lane) (p' : Nat) : (s.modLane m g).port p' = s.port p' := rfl
@[simp] theorem State.modLane_src (m : Nat) (g : Lane → Lane) (i' : Nat) : (s.modLane m g).src i' = s.src i' := rfl
@[simp] theorem State.modLane_mod_ (m : Nat) (g : Lane → Lane) (k' : Nat) : (s.modLane m g).mod_ k' = s.mod_ k' := rfl
@[simp] theorem State.modLane_closed (m : Nat) (g : Lane → Lane) (g' : Nat) : (s.modLane m g).closed g' = s.closed g' := rfl
@[simp] theorem State.modLane_placed (m : Nat) (g : Lane → Lane) : (s.modLane m g).placed = s.placed := rfl
@[simp] theorem State.modLane_isPlaced (m : Nat) (g : Lane → Lane) (n' : Nat) : (s.modLane m g).isPlaced n' = s.isPlaced n' := rfl
@[simp] theorem State.modLane_domOf (m : Nat) (g : Lane → Lane) (n' : Nat) : (s.modLane m g).domOf n' = s.domOf n' := rfl
@[simp] theorem State.modLane_heatIx (m : Nat) (g : Lane → Lane) (n' : Nat) : (s.modLane m g).heatIx n' = s.heatIx n' := rfl
@[simp] theorem State.modLane_members (m : Nat) (g : Lane → Lane) (h' : Nat) : (s.modLane m g).members h' = s.members h' := rfl
@[simp] theorem State.modLane_reg (m : Nat) (g : Lane → Lane) (r' : Reg) (i' : Nat) : (s.modLane m g).reg r' i' = s.reg r' i' := rfl
@[simp] theorem State.modLane_f (m : Nat) (g : Lane → Lane) (x' : Fld) (i' : Nat) : (s.modLane m g).f x' i' = s.f x' i' := rfl
@[simp] theorem State.modLane_fb (m : Nat) (g : Lane → Lane) (x' : Fld) (i' : Nat) : (s.modLane m g).fb x' i' = s.fb x' i' := rfl
@[simp] theorem State.modLane_running (m : Nat) (g : Lane → Lane) : (s.modLane m g).running = s.running := rfl
@[simp] theorem State.modLane_ctxSt (m : Nat) (g : Lane → Lane) (c' : Nat) : (s.modLane m g).ctxSt c' = s.ctxSt c' := rfl

/-! ### modRgn -/

@[simp] theorem State.modRgn_lane (n : Nat) (g : Rgn → Rgn) (m' : Nat) : (s.modRgn n g).lane m' = s.lane m' := rfl
@[simp] theorem State.modRgn_heat (n : Nat) (g : Rgn → Rgn) (h' : Nat) : (s.modRgn n g).heat h' = s.heat h' := rfl
@[simp] theorem State.modRgn_slot (n : Nat) (g : Rgn → Rgn) (t' : Nat) : (s.modRgn n g).slot t' = s.slot t' := rfl
@[simp] theorem State.modRgn_port (n : Nat) (g : Rgn → Rgn) (p' : Nat) : (s.modRgn n g).port p' = s.port p' := rfl
@[simp] theorem State.modRgn_src (n : Nat) (g : Rgn → Rgn) (i' : Nat) : (s.modRgn n g).src i' = s.src i' := rfl
@[simp] theorem State.modRgn_mod_ (n : Nat) (g : Rgn → Rgn) (k' : Nat) : (s.modRgn n g).mod_ k' = s.mod_ k' := rfl
@[simp] theorem State.modRgn_closed (n : Nat) (g : Rgn → Rgn) (g' : Nat) : (s.modRgn n g).closed g' = s.closed g' := rfl
@[simp] theorem State.modRgn_placed (n : Nat) (g : Rgn → Rgn) : (s.modRgn n g).placed = s.placed := rfl
@[simp] theorem State.modRgn_isPlaced (n : Nat) (g : Rgn → Rgn) (n' : Nat) : (s.modRgn n g).isPlaced n' = s.isPlaced n' := rfl
@[simp] theorem State.modRgn_domOf (n : Nat) (g : Rgn → Rgn) (n' : Nat) : (s.modRgn n g).domOf n' = s.domOf n' := rfl
@[simp] theorem State.modRgn_heatIx (n : Nat) (g : Rgn → Rgn) (n' : Nat) : (s.modRgn n g).heatIx n' = s.heatIx n' := rfl
@[simp] theorem State.modRgn_members (n : Nat) (g : Rgn → Rgn) (h' : Nat) : (s.modRgn n g).members h' = s.members h' := rfl
@[simp] theorem State.modRgn_reg (n : Nat) (g : Rgn → Rgn) (r' : Reg) (i' : Nat) : (s.modRgn n g).reg r' i' = s.reg r' i' := rfl
@[simp] theorem State.modRgn_f (n : Nat) (g : Rgn → Rgn) (x' : Fld) (i' : Nat) : (s.modRgn n g).f x' i' = s.f x' i' := rfl
@[simp] theorem State.modRgn_fb (n : Nat) (g : Rgn → Rgn) (x' : Fld) (i' : Nat) : (s.modRgn n g).fb x' i' = s.fb x' i' := rfl
@[simp] theorem State.modRgn_running (n : Nat) (g : Rgn → Rgn) : (s.modRgn n g).running = s.running := rfl
@[simp] theorem State.modRgn_ctxSt (n : Nat) (g : Rgn → Rgn) (c' : Nat) : (s.modRgn n g).ctxSt c' = s.ctxSt c' := rfl

/-! ### modHeat -/

@[simp] theorem State.modHeat_lane (h : Nat) (g : Heat → Heat) (m' : Nat) : (s.modHeat h g).lane m' = s.lane m' := rfl
@[simp] theorem State.modHeat_rgn (h : Nat) (g : Heat → Heat) (n' : Nat) : (s.modHeat h g).rgn n' = s.rgn n' := rfl
@[simp] theorem State.modHeat_slot (h : Nat) (g : Heat → Heat) (t' : Nat) : (s.modHeat h g).slot t' = s.slot t' := rfl
@[simp] theorem State.modHeat_port (h : Nat) (g : Heat → Heat) (p' : Nat) : (s.modHeat h g).port p' = s.port p' := rfl
@[simp] theorem State.modHeat_src (h : Nat) (g : Heat → Heat) (i' : Nat) : (s.modHeat h g).src i' = s.src i' := rfl
@[simp] theorem State.modHeat_mod_ (h : Nat) (g : Heat → Heat) (k' : Nat) : (s.modHeat h g).mod_ k' = s.mod_ k' := rfl
@[simp] theorem State.modHeat_closed (h : Nat) (g : Heat → Heat) (g' : Nat) : (s.modHeat h g).closed g' = s.closed g' := rfl
@[simp] theorem State.modHeat_placed (h : Nat) (g : Heat → Heat) : (s.modHeat h g).placed = s.placed := rfl
@[simp] theorem State.modHeat_isPlaced (h : Nat) (g : Heat → Heat) (n' : Nat) : (s.modHeat h g).isPlaced n' = s.isPlaced n' := rfl
@[simp] theorem State.modHeat_domOf (h : Nat) (g : Heat → Heat) (n' : Nat) : (s.modHeat h g).domOf n' = s.domOf n' := rfl
@[simp] theorem State.modHeat_heatIx (h : Nat) (g : Heat → Heat) (n' : Nat) : (s.modHeat h g).heatIx n' = s.heatIx n' := rfl
@[simp] theorem State.modHeat_members (h : Nat) (g : Heat → Heat) (h' : Nat) : (s.modHeat h g).members h' = s.members h' := rfl
@[simp] theorem State.modHeat_reg (h : Nat) (g : Heat → Heat) (r' : Reg) (i' : Nat) : (s.modHeat h g).reg r' i' = s.reg r' i' := rfl
@[simp] theorem State.modHeat_f (h : Nat) (g : Heat → Heat) (x' : Fld) (i' : Nat) : (s.modHeat h g).f x' i' = s.f x' i' := rfl
@[simp] theorem State.modHeat_fb (h : Nat) (g : Heat → Heat) (x' : Fld) (i' : Nat) : (s.modHeat h g).fb x' i' = s.fb x' i' := rfl
@[simp] theorem State.modHeat_running (h : Nat) (g : Heat → Heat) : (s.modHeat h g).running = s.running := rfl
@[simp] theorem State.modHeat_ctxSt (h : Nat) (g : Heat → Heat) (c' : Nat) : (s.modHeat h g).ctxSt c' = s.ctxSt c' := rfl

/-! ### modSlot -/

@[simp] theorem State.modSlot_lane (t : Nat) (g : Slot → Slot) (m' : Nat) : (s.modSlot t g).lane m' = s.lane m' := rfl
@[simp] theorem State.modSlot_rgn (t : Nat) (g : Slot → Slot) (n' : Nat) : (s.modSlot t g).rgn n' = s.rgn n' := rfl
@[simp] theorem State.modSlot_heat (t : Nat) (g : Slot → Slot) (h' : Nat) : (s.modSlot t g).heat h' = s.heat h' := rfl
@[simp] theorem State.modSlot_port (t : Nat) (g : Slot → Slot) (p' : Nat) : (s.modSlot t g).port p' = s.port p' := rfl
@[simp] theorem State.modSlot_src (t : Nat) (g : Slot → Slot) (i' : Nat) : (s.modSlot t g).src i' = s.src i' := rfl
@[simp] theorem State.modSlot_mod_ (t : Nat) (g : Slot → Slot) (k' : Nat) : (s.modSlot t g).mod_ k' = s.mod_ k' := rfl
@[simp] theorem State.modSlot_closed (t : Nat) (g : Slot → Slot) (g' : Nat) : (s.modSlot t g).closed g' = s.closed g' := rfl
@[simp] theorem State.modSlot_placed (t : Nat) (g : Slot → Slot) : (s.modSlot t g).placed = s.placed := rfl
@[simp] theorem State.modSlot_isPlaced (t : Nat) (g : Slot → Slot) (n' : Nat) : (s.modSlot t g).isPlaced n' = s.isPlaced n' := rfl
@[simp] theorem State.modSlot_domOf (t : Nat) (g : Slot → Slot) (n' : Nat) : (s.modSlot t g).domOf n' = s.domOf n' := rfl
@[simp] theorem State.modSlot_heatIx (t : Nat) (g : Slot → Slot) (n' : Nat) : (s.modSlot t g).heatIx n' = s.heatIx n' := rfl
@[simp] theorem State.modSlot_members (t : Nat) (g : Slot → Slot) (h' : Nat) : (s.modSlot t g).members h' = s.members h' := rfl
@[simp] theorem State.modSlot_reg (t : Nat) (g : Slot → Slot) (r' : Reg) (i' : Nat) : (s.modSlot t g).reg r' i' = s.reg r' i' := rfl
@[simp] theorem State.modSlot_f (t : Nat) (g : Slot → Slot) (x' : Fld) (i' : Nat) : (s.modSlot t g).f x' i' = s.f x' i' := rfl
@[simp] theorem State.modSlot_fb (t : Nat) (g : Slot → Slot) (x' : Fld) (i' : Nat) : (s.modSlot t g).fb x' i' = s.fb x' i' := rfl
@[simp] theorem State.modSlot_running (t : Nat) (g : Slot → Slot) : (s.modSlot t g).running = s.running := rfl
@[simp] theorem State.modSlot_ctxSt (t : Nat) (g : Slot → Slot) (c' : Nat) : (s.modSlot t g).ctxSt c' = s.ctxSt c' := rfl

/-! ### modPort -/

@[simp] theorem State.modPort_lane (p : Nat) (g : RPort → RPort) (m' : Nat) : (s.modPort p g).lane m' = s.lane m' := rfl
@[simp] theorem State.modPort_rgn (p : Nat) (g : RPort → RPort) (n' : Nat) : (s.modPort p g).rgn n' = s.rgn n' := rfl
@[simp] theorem State.modPort_heat (p : Nat) (g : RPort → RPort) (h' : Nat) : (s.modPort p g).heat h' = s.heat h' := rfl
@[simp] theorem State.modPort_slot (p : Nat) (g : RPort → RPort) (t' : Nat) : (s.modPort p g).slot t' = s.slot t' := rfl
@[simp] theorem State.modPort_src (p : Nat) (g : RPort → RPort) (i' : Nat) : (s.modPort p g).src i' = s.src i' := rfl
@[simp] theorem State.modPort_mod_ (p : Nat) (g : RPort → RPort) (k' : Nat) : (s.modPort p g).mod_ k' = s.mod_ k' := rfl
@[simp] theorem State.modPort_closed (p : Nat) (g : RPort → RPort) (g' : Nat) : (s.modPort p g).closed g' = s.closed g' := rfl
@[simp] theorem State.modPort_placed (p : Nat) (g : RPort → RPort) : (s.modPort p g).placed = s.placed := rfl
@[simp] theorem State.modPort_isPlaced (p : Nat) (g : RPort → RPort) (n' : Nat) : (s.modPort p g).isPlaced n' = s.isPlaced n' := rfl
@[simp] theorem State.modPort_domOf (p : Nat) (g : RPort → RPort) (n' : Nat) : (s.modPort p g).domOf n' = s.domOf n' := rfl
@[simp] theorem State.modPort_heatIx (p : Nat) (g : RPort → RPort) (n' : Nat) : (s.modPort p g).heatIx n' = s.heatIx n' := rfl
@[simp] theorem State.modPort_members (p : Nat) (g : RPort → RPort) (h' : Nat) : (s.modPort p g).members h' = s.members h' := rfl
@[simp] theorem State.modPort_reg (p : Nat) (g : RPort → RPort) (r' : Reg) (i' : Nat) : (s.modPort p g).reg r' i' = s.reg r' i' := rfl
@[simp] theorem State.modPort_f (p : Nat) (g : RPort → RPort) (x' : Fld) (i' : Nat) : (s.modPort p g).f x' i' = s.f x' i' := rfl
@[simp] theorem State.modPort_fb (p : Nat) (g : RPort → RPort) (x' : Fld) (i' : Nat) : (s.modPort p g).fb x' i' = s.fb x' i' := rfl
@[simp] theorem State.modPort_running (p : Nat) (g : RPort → RPort) : (s.modPort p g).running = s.running := rfl
@[simp] theorem State.modPort_ctxSt (p : Nat) (g : RPort → RPort) (c' : Nat) : (s.modPort p g).ctxSt c' = s.ctxSt c' := rfl

/-! ### modSrc -/

@[simp] theorem State.modSrc_lane (i : Nat) (g : SrcState → SrcState) (m' : Nat) : (s.modSrc i g).lane m' = s.lane m' := rfl
@[simp] theorem State.modSrc_rgn (i : Nat) (g : SrcState → SrcState) (n' : Nat) : (s.modSrc i g).rgn n' = s.rgn n' := rfl
@[simp] theorem State.modSrc_heat (i : Nat) (g : SrcState → SrcState) (h' : Nat) : (s.modSrc i g).heat h' = s.heat h' := rfl
@[simp] theorem State.modSrc_slot (i : Nat) (g : SrcState → SrcState) (t' : Nat) : (s.modSrc i g).slot t' = s.slot t' := rfl
@[simp] theorem State.modSrc_port (i : Nat) (g : SrcState → SrcState) (p' : Nat) : (s.modSrc i g).port p' = s.port p' := rfl
@[simp] theorem State.modSrc_mod_ (i : Nat) (g : SrcState → SrcState) (k' : Nat) : (s.modSrc i g).mod_ k' = s.mod_ k' := rfl
@[simp] theorem State.modSrc_closed (i : Nat) (g : SrcState → SrcState) (g' : Nat) : (s.modSrc i g).closed g' = s.closed g' := rfl
@[simp] theorem State.modSrc_placed (i : Nat) (g : SrcState → SrcState) : (s.modSrc i g).placed = s.placed := rfl
@[simp] theorem State.modSrc_isPlaced (i : Nat) (g : SrcState → SrcState) (n' : Nat) : (s.modSrc i g).isPlaced n' = s.isPlaced n' := rfl
@[simp] theorem State.modSrc_domOf (i : Nat) (g : SrcState → SrcState) (n' : Nat) : (s.modSrc i g).domOf n' = s.domOf n' := rfl
@[simp] theorem State.modSrc_heatIx (i : Nat) (g : SrcState → SrcState) (n' : Nat) : (s.modSrc i g).heatIx n' = s.heatIx n' := rfl
@[simp] theorem State.modSrc_members (i : Nat) (g : SrcState → SrcState) (h' : Nat) : (s.modSrc i g).members h' = s.members h' := rfl
@[simp] theorem State.modSrc_reg (i : Nat) (g : SrcState → SrcState) (r' : Reg) (i' : Nat) : (s.modSrc i g).reg r' i' = s.reg r' i' := rfl
@[simp] theorem State.modSrc_f (i : Nat) (g : SrcState → SrcState) (x' : Fld) (i' : Nat) : (s.modSrc i g).f x' i' = s.f x' i' := rfl
@[simp] theorem State.modSrc_fb (i : Nat) (g : SrcState → SrcState) (x' : Fld) (i' : Nat) : (s.modSrc i g).fb x' i' = s.fb x' i' := rfl
@[simp] theorem State.modSrc_running (i : Nat) (g : SrcState → SrcState) : (s.modSrc i g).running = s.running := rfl
@[simp] theorem State.modSrc_ctxSt (i : Nat) (g : SrcState → SrcState) (c' : Nat) : (s.modSrc i g).ctxSt c' = s.ctxSt c' := rfl

/-! ### modMod -/

@[simp] theorem State.modMod_lane (k : Nat) (g : Modulator → Modulator) (m' : Nat) : (s.modMod k g).lane m' = s.lane m' := rfl
@[simp] theorem State.modMod_rgn (k : Nat) (g : Modulator → Modulator) (n' : Nat) : (s.modMod k g).rgn n' = s.rgn n' := rfl
@[simp] theorem State.modMod_heat (k : Nat) (g : Modulator → Modulator) (h' : Nat) : (s.modMod k g).heat h' = s.heat h' := rfl
@[simp] theorem State.modMod_slot (k : Nat) (g : Modulator → Modulator) (t' : Nat) : (s.modMod k g).slot t' = s.slot t' := rfl
@[simp] theorem State.modMod_port (k : Nat) (g : Modulator → Modulator) (p' : Nat) : (s.modMod k g).port p' = s.port p' := rfl
@[simp] theorem State.modMod_src (k : Nat) (g : Modulator → Modulator) (i' : Nat) : (s.modMod k g).src i' = s.src i' := rfl
@[simp] theorem State.modMod_closed (k : Nat) (g : Modulator → Modulator) (g' : Nat) : (s.modMod k g).closed g' = s.closed g' := rfl
@[simp] theorem State.modMod_placed (k : Nat) (g : Modulator → Modulator) : (s.modMod k g).placed = s.placed := rfl
@[simp] theorem State.modMod_isPlaced (k : Nat) (g : Modulator → Modulator) (n' : Nat) : (s.modMod k g).isPlaced n' = s.isPlaced n' := rfl
@[simp] theorem State.modMod_domOf (k : Nat) (g : Modulator → Modulator) (n' : Nat) : (s.modMod k g).domOf n' = s.domOf n' := rfl
@[simp] theorem State.modMod_heatIx (k : Nat) (g : Modulator → Modulator) (n' : Nat) : (s.modMod k g).heatIx n' = s.heatIx n' := rfl
@[simp] theorem State.modMod_members (k : Nat) (g : Modulator → Modulator) (h' : Nat) : (s.modMod k g).members h' = s.members h' := rfl
@[simp] theorem State.modMod_reg (k : Nat) (g : Modulator → Modulator) (r' : Reg) (i' : Nat) : (s.modMod k g).reg r' i' = s.reg r' i' := rfl
@[simp] theorem State.modMod_f (k : Nat) (g : Modulator → Modulator) (x' : Fld) (i' : Nat) : (s.modMod k g).f x' i' = s.f x' i' := rfl
@[simp] theorem State.modMod_fb (k : Nat) (g : Modulator → Modulator) (x' : Fld) (i' : Nat) : (s.modMod k g).fb x' i' = s.fb x' i' := rfl
@[simp] theorem State.modMod_running (k : Nat) (g : Modulator → Modulator) : (s.modMod k g).running = s.running := rfl
@[simp] theorem State.modMod_ctxSt (k : Nat) (g : Modulator → Modulator) (c' : Nat) : (s.modMod k g).ctxSt c' = s.ctxSt c' := rfl

/-! ### setGate -/

@[simp] theorem State.setGate_lane (g : Nat) (c : Bool) (m' : Nat) : (s.setGate g c).lane m' = s.lane m' := rfl
@[simp] theorem State.setGate_rgn (g : Nat) (c : Bool) (n' : Nat) : (s.setGate g c).rgn n' = s.rgn n' := rfl
@[simp] theorem State.setGate_heat (g : Nat) (c : Bool) (h' : Nat) : (s.setGate g c).heat h' = s.heat h' := rfl
@[simp] theorem State.setGate_slot (g : Nat) (c : Bool) (t' : Nat) : (s.setGate g c).slot t' = s.slot t' := rfl
@[simp] theorem State.setGate_port (g : Nat) (c : Bool) (p' : Nat) : (s.setGate g c).port p' = s.port p' := rfl
@[simp] theorem State.setGate_src (g : Nat) (c : Bool) (i' : Nat) : (s.setGate g c).src i' = s.src i' := rfl
@[simp] theorem State.setGate_mod_ (g : Nat) (c : Bool) (k' : Nat) : (s.setGate g c).mod_ k' = s.mod_ k' := rfl
@[simp] theorem State.setGate_placed (g : Nat) (c : Bool) : (s.setGate g c).placed = s.placed := rfl
@[simp] theorem State.setGate_isPlaced (g : Nat) (c : Bool) (n' : Nat) : (s.setGate g c).isPlaced n' = s.isPlaced n' := rfl
@[simp] theorem State.setGate_domOf (g : Nat) (c : Bool) (n' : Nat) : (s.setGate g c).domOf n' = s.domOf n' := rfl
@[simp] theorem State.setGate_heatIx (g : Nat) (c : Bool) (n' : Nat) : (s.setGate g c).heatIx n' = s.heatIx n' := rfl
@[simp] theorem State.setGate_members (g : Nat) (c : Bool) (h' : Nat) : (s.setGate g c).members h' = s.members h' := rfl
@[simp] theorem State.setGate_reg (g : Nat) (c : Bool) (r' : Reg) (i' : Nat) : (s.setGate g c).reg r' i' = s.reg r' i' := rfl
@[simp] theorem State.setGate_f (g : Nat) (c : Bool) (x' : Fld) (i' : Nat) : (s.setGate g c).f x' i' = s.f x' i' := rfl
@[simp] theorem State.setGate_fb (g : Nat) (c : Bool) (x' : Fld) (i' : Nat) : (s.setGate g c).fb x' i' = s.fb x' i' := rfl
@[simp] theorem State.setGate_running (g : Nat) (c : Bool) : (s.setGate g c).running = s.running := rfl
@[simp] theorem State.setGate_ctxSt (g : Nat) (c : Bool) (c' : Nat) : (s.setGate g c).ctxSt c' = s.ctxSt c' := rfl

/-! ### recompute -/

@[simp] theorem State.recompute_lane (m' : Nat) : (s.recompute).lane m' = s.lane m' := rfl
@[simp] theorem State.recompute_rgn (n' : Nat) : (s.recompute).rgn n' = s.rgn n' := rfl
@[simp] theorem State.recompute_heat (h' : Nat) : (s.recompute).heat h' = s.heat h' := rfl
@[simp] theorem State.recompute_slot (t' : Nat) : (s.recompute).slot t' = s.slot t' := rfl
@[simp] theorem State.recompute_port (p' : Nat) : (s.recompute).port p' = s.port p' := rfl
@[simp] theorem State.recompute_src (i' : Nat) : (s.recompute).src i' = s.src i' := rfl
@[simp] theorem State.recompute_mod_ (k' : Nat) : (s.recompute).mod_ k' = s.mod_ k' := rfl
@[simp] theorem State.recompute_closed (g' : Nat) : (s.recompute).closed g' = s.closed g' := rfl
@[simp] theorem State.recompute_placed : (s.recompute).placed = s.placed := rfl
@[simp] theorem State.recompute_isPlaced (n' : Nat) : (s.recompute).isPlaced n' = s.isPlaced n' := rfl
@[simp] theorem State.recompute_domOf (n' : Nat) : (s.recompute).domOf n' = s.domOf n' := rfl
@[simp] theorem State.recompute_reg (r' : Reg) (i' : Nat) : (s.recompute).reg r' i' = s.reg r' i' := rfl
@[simp] theorem State.recompute_f (x' : Fld) (i' : Nat) : (s.recompute).f x' i' = s.f x' i' := rfl
@[simp] theorem State.recompute_fb (x' : Fld) (i' : Nat) : (s.recompute).fb x' i' = s.fb x' i' := rfl
@[simp] theorem State.recompute_running : (s.recompute).running = s.running := rfl
@[simp] theorem State.recompute_ctxSt (c' : Nat) : (s.recompute).ctxSt c' = s.ctxSt c' := rfl

/-! ### advance -/

@[simp] theorem State.advance_lane (t : Nat) (m' : Nat) : (s.advance t).lane m' = s.lane m' := rfl
@[simp] theorem State.advance_rgn (t : Nat) (n' : Nat) : (s.advance t).rgn n' = s.rgn n' := rfl
@[simp] theorem State.advance_heat (t : Nat) (h' : Nat) : (s.advance t).heat h' = s.heat h' := rfl
@[simp] theorem State.advance_slot (t : Nat) (t' : Nat) : (s.advance t).slot t' = s.slot t' := rfl
@[simp] theorem State.advance_port (t : Nat) (p' : Nat) : (s.advance t).port p' = s.port p' := rfl
@[simp] theorem State.advance_src (t : Nat) (i' : Nat) : (s.advance t).src i' = s.src i' := rfl
@[simp] theorem State.advance_mod_ (t : Nat) (k' : Nat) : (s.advance t).mod_ k' = s.mod_ k' := rfl
@[simp] theorem State.advance_closed (t : Nat) (g' : Nat) : (s.advance t).closed g' = s.closed g' := rfl
@[simp] theorem State.advance_placed (t : Nat) : (s.advance t).placed = s.placed := rfl
@[simp] theorem State.advance_isPlaced (t : Nat) (n' : Nat) : (s.advance t).isPlaced n' = s.isPlaced n' := rfl
@[simp] theorem State.advance_domOf (t : Nat) (n' : Nat) : (s.advance t).domOf n' = s.domOf n' := rfl
@[simp] theorem State.advance_heatIx (t : Nat) (n' : Nat) : (s.advance t).heatIx n' = s.heatIx n' := rfl
@[simp] theorem State.advance_members (t : Nat) (h' : Nat) : (s.advance t).members h' = s.members h' := rfl
@[simp] theorem State.advance_reg (t : Nat) (r' : Reg) (i' : Nat) : (s.advance t).reg r' i' = s.reg r' i' := rfl
@[simp] theorem State.advance_f (t : Nat) (x' : Fld) (i' : Nat) : (s.advance t).f x' i' = s.f x' i' := rfl
@[simp] theorem State.advance_fb (t : Nat) (x' : Fld) (i' : Nat) : (s.advance t).fb x' i' = s.fb x' i' := rfl
@[simp] theorem State.advance_running (t : Nat) : (s.advance t).running = s.running := rfl
@[simp] theorem State.advance_ctxSt (t : Nat) (c' : Nat) : (s.advance t).ctxSt c' = s.ctxSt c' := rfl

/-! ### raise -/

@[simp] theorem State.raise_lane (x : Src) (a : AKind) (n : Nat) (p : FMaster) (c : FAccess) (m' : Nat) : (s.raise x a n p c).lane m' = s.lane m' := rfl
@[simp] theorem State.raise_rgn (x : Src) (a : AKind) (n : Nat) (p : FMaster) (c : FAccess) (n' : Nat) : (s.raise x a n p c).rgn n' = s.rgn n' := rfl
@[simp] theorem State.raise_heat (x : Src) (a : AKind) (n : Nat) (p : FMaster) (c : FAccess) (h' : Nat) : (s.raise x a n p c).heat h' = s.heat h' := rfl
@[simp] theorem State.raise_slot (x : Src) (a : AKind) (n : Nat) (p : FMaster) (c : FAccess) (t' : Nat) : (s.raise x a n p c).slot t' = s.slot t' := rfl
@[simp] theorem State.raise_port (x : Src) (a : AKind) (n : Nat) (p : FMaster) (c : FAccess) (p' : Nat) : (s.raise x a n p c).port p' = s.port p' := rfl
@[simp] theorem State.raise_mod_ (x : Src) (a : AKind) (n : Nat) (p : FMaster) (c : FAccess) (k' : Nat) : (s.raise x a n p c).mod_ k' = s.mod_ k' := rfl
@[simp] theorem State.raise_closed (x : Src) (a : AKind) (n : Nat) (p : FMaster) (c : FAccess) (g' : Nat) : (s.raise x a n p c).closed g' = s.closed g' := rfl
@[simp] theorem State.raise_placed (x : Src) (a : AKind) (n : Nat) (p : FMaster) (c : FAccess) : (s.raise x a n p c).placed = s.placed := rfl
@[simp] theorem State.raise_isPlaced (x : Src) (a : AKind) (n : Nat) (p : FMaster) (c : FAccess) (n' : Nat) : (s.raise x a n p c).isPlaced n' = s.isPlaced n' := rfl
@[simp] theorem State.raise_domOf (x : Src) (a : AKind) (n : Nat) (p : FMaster) (c : FAccess) (n' : Nat) : (s.raise x a n p c).domOf n' = s.domOf n' := rfl
@[simp] theorem State.raise_heatIx (x : Src) (a : AKind) (n : Nat) (p : FMaster) (c : FAccess) (n' : Nat) : (s.raise x a n p c).heatIx n' = s.heatIx n' := rfl
@[simp] theorem State.raise_members (x : Src) (a : AKind) (n : Nat) (p : FMaster) (c : FAccess) (h' : Nat) : (s.raise x a n p c).members h' = s.members h' := rfl
@[simp] theorem State.raise_reg (x : Src) (a : AKind) (n : Nat) (p : FMaster) (c : FAccess) (r' : Reg) (i' : Nat) : (s.raise x a n p c).reg r' i' = s.reg r' i' := rfl
@[simp] theorem State.raise_f (x : Src) (a : AKind) (n : Nat) (p : FMaster) (c : FAccess) (x' : Fld) (i' : Nat) : (s.raise x a n p c).f x' i' = s.f x' i' := rfl
@[simp] theorem State.raise_fb (x : Src) (a : AKind) (n : Nat) (p : FMaster) (c : FAccess) (x' : Fld) (i' : Nat) : (s.raise x a n p c).fb x' i' = s.fb x' i' := rfl
@[simp] theorem State.raise_running (x : Src) (a : AKind) (n : Nat) (p : FMaster) (c : FAccess) : (s.raise x a n p c).running = s.running := rfl
@[simp] theorem State.raise_ctxSt (x : Src) (a : AKind) (n : Nat) (p : FMaster) (c : FAccess) (c' : Nat) : (s.raise x a n p c).ctxSt c' = s.ctxSt c' := rfl

/-! ### raiseHw -/

@[simp] theorem State.raiseHw_lane (x : Src) (a : AKind) (n : Nat) (m' : Nat) : (s.raiseHw x a n).lane m' = s.lane m' := rfl
@[simp] theorem State.raiseHw_rgn (x : Src) (a : AKind) (n : Nat) (n' : Nat) : (s.raiseHw x a n).rgn n' = s.rgn n' := rfl
@[simp] theorem State.raiseHw_heat (x : Src) (a : AKind) (n : Nat) (h' : Nat) : (s.raiseHw x a n).heat h' = s.heat h' := rfl
@[simp] theorem State.raiseHw_slot (x : Src) (a : AKind) (n : Nat) (t' : Nat) : (s.raiseHw x a n).slot t' = s.slot t' := rfl
@[simp] theorem State.raiseHw_port (x : Src) (a : AKind) (n : Nat) (p' : Nat) : (s.raiseHw x a n).port p' = s.port p' := rfl
@[simp] theorem State.raiseHw_mod_ (x : Src) (a : AKind) (n : Nat) (k' : Nat) : (s.raiseHw x a n).mod_ k' = s.mod_ k' := rfl
@[simp] theorem State.raiseHw_closed (x : Src) (a : AKind) (n : Nat) (g' : Nat) : (s.raiseHw x a n).closed g' = s.closed g' := rfl
@[simp] theorem State.raiseHw_placed (x : Src) (a : AKind) (n : Nat) : (s.raiseHw x a n).placed = s.placed := rfl
@[simp] theorem State.raiseHw_isPlaced (x : Src) (a : AKind) (n : Nat) (n' : Nat) : (s.raiseHw x a n).isPlaced n' = s.isPlaced n' := rfl
@[simp] theorem State.raiseHw_domOf (x : Src) (a : AKind) (n : Nat) (n' : Nat) : (s.raiseHw x a n).domOf n' = s.domOf n' := rfl
@[simp] theorem State.raiseHw_heatIx (x : Src) (a : AKind) (n : Nat) (n' : Nat) : (s.raiseHw x a n).heatIx n' = s.heatIx n' := rfl
@[simp] theorem State.raiseHw_members (x : Src) (a : AKind) (n : Nat) (h' : Nat) : (s.raiseHw x a n).members h' = s.members h' := rfl
@[simp] theorem State.raiseHw_reg (x : Src) (a : AKind) (n : Nat) (r' : Reg) (i' : Nat) : (s.raiseHw x a n).reg r' i' = s.reg r' i' := rfl
@[simp] theorem State.raiseHw_f (x : Src) (a : AKind) (n : Nat) (x' : Fld) (i' : Nat) : (s.raiseHw x a n).f x' i' = s.f x' i' := rfl
@[simp] theorem State.raiseHw_fb (x : Src) (a : AKind) (n : Nat) (x' : Fld) (i' : Nat) : (s.raiseHw x a n).fb x' i' = s.fb x' i' := rfl
@[simp] theorem State.raiseHw_running (x : Src) (a : AKind) (n : Nat) : (s.raiseHw x a n).running = s.running := rfl
@[simp] theorem State.raiseHw_ctxSt (x : Src) (a : AKind) (n : Nat) (c' : Nat) : (s.raiseHw x a n).ctxSt c' = s.ctxSt c' := rfl

/-! ### condEnds -/

@[simp] theorem State.condEnds_lane (x : Src) (m' : Nat) : (s.condEnds x).lane m' = s.lane m' := rfl
@[simp] theorem State.condEnds_rgn (x : Src) (n' : Nat) : (s.condEnds x).rgn n' = s.rgn n' := rfl
@[simp] theorem State.condEnds_heat (x : Src) (h' : Nat) : (s.condEnds x).heat h' = s.heat h' := rfl
@[simp] theorem State.condEnds_slot (x : Src) (t' : Nat) : (s.condEnds x).slot t' = s.slot t' := rfl
@[simp] theorem State.condEnds_port (x : Src) (p' : Nat) : (s.condEnds x).port p' = s.port p' := rfl
@[simp] theorem State.condEnds_mod_ (x : Src) (k' : Nat) : (s.condEnds x).mod_ k' = s.mod_ k' := rfl
@[simp] theorem State.condEnds_closed (x : Src) (g' : Nat) : (s.condEnds x).closed g' = s.closed g' := rfl
@[simp] theorem State.condEnds_placed (x : Src) : (s.condEnds x).placed = s.placed := rfl
@[simp] theorem State.condEnds_isPlaced (x : Src) (n' : Nat) : (s.condEnds x).isPlaced n' = s.isPlaced n' := rfl
@[simp] theorem State.condEnds_domOf (x : Src) (n' : Nat) : (s.condEnds x).domOf n' = s.domOf n' := rfl
@[simp] theorem State.condEnds_heatIx (x : Src) (n' : Nat) : (s.condEnds x).heatIx n' = s.heatIx n' := rfl
@[simp] theorem State.condEnds_members (x : Src) (h' : Nat) : (s.condEnds x).members h' = s.members h' := rfl
@[simp] theorem State.condEnds_reg (x : Src) (r' : Reg) (i' : Nat) : (s.condEnds x).reg r' i' = s.reg r' i' := rfl
@[simp] theorem State.condEnds_f (x : Src) (x' : Fld) (i' : Nat) : (s.condEnds x).f x' i' = s.f x' i' := rfl
@[simp] theorem State.condEnds_fb (x : Src) (x' : Fld) (i' : Nat) : (s.condEnds x).fb x' i' = s.fb x' i' := rfl
@[simp] theorem State.condEnds_running (x : Src) : (s.condEnds x).running = s.running := rfl
@[simp] theorem State.condEnds_ctxSt (x : Src) (c' : Nat) : (s.condEnds x).ctxSt c' = s.ctxSt c' := rfl

/-! ### queueFull -/

@[simp] theorem State.queueFull_lane (p : FMaster) (m' : Nat) : (s.queueFull p).lane m' = s.lane m' := rfl
@[simp] theorem State.queueFull_rgn (p : FMaster) (n' : Nat) : (s.queueFull p).rgn n' = s.rgn n' := rfl
@[simp] theorem State.queueFull_heat (p : FMaster) (h' : Nat) : (s.queueFull p).heat h' = s.heat h' := rfl
@[simp] theorem State.queueFull_slot (p : FMaster) (t' : Nat) : (s.queueFull p).slot t' = s.slot t' := rfl
@[simp] theorem State.queueFull_port (p : FMaster) (p' : Nat) : (s.queueFull p).port p' = s.port p' := rfl
@[simp] theorem State.queueFull_mod_ (p : FMaster) (k' : Nat) : (s.queueFull p).mod_ k' = s.mod_ k' := rfl
@[simp] theorem State.queueFull_closed (p : FMaster) (g' : Nat) : (s.queueFull p).closed g' = s.closed g' := rfl
@[simp] theorem State.queueFull_placed (p : FMaster) : (s.queueFull p).placed = s.placed := rfl
@[simp] theorem State.queueFull_isPlaced (p : FMaster) (n' : Nat) : (s.queueFull p).isPlaced n' = s.isPlaced n' := rfl
@[simp] theorem State.queueFull_domOf (p : FMaster) (n' : Nat) : (s.queueFull p).domOf n' = s.domOf n' := rfl
@[simp] theorem State.queueFull_heatIx (p : FMaster) (n' : Nat) : (s.queueFull p).heatIx n' = s.heatIx n' := rfl
@[simp] theorem State.queueFull_members (p : FMaster) (h' : Nat) : (s.queueFull p).members h' = s.members h' := rfl
@[simp] theorem State.queueFull_reg (p : FMaster) (r' : Reg) (i' : Nat) : (s.queueFull p).reg r' i' = s.reg r' i' := rfl
@[simp] theorem State.queueFull_f (p : FMaster) (x' : Fld) (i' : Nat) : (s.queueFull p).f x' i' = s.f x' i' := rfl
@[simp] theorem State.queueFull_fb (p : FMaster) (x' : Fld) (i' : Nat) : (s.queueFull p).fb x' i' = s.fb x' i' := rfl
@[simp] theorem State.queueFull_running (p : FMaster) : (s.queueFull p).running = s.running := rfl
@[simp] theorem State.queueFull_ctxSt (p : FMaster) (c' : Nat) : (s.queueFull p).ctxSt c' = s.ctxSt c' := rfl

/-! ### enqueue -/

@[simp] theorem State.enqueue_lane (d : Nat) (a : Action) (m' : Nat) : (s.enqueue d a).lane m' = s.lane m' := rfl
@[simp] theorem State.enqueue_rgn (d : Nat) (a : Action) (n' : Nat) : (s.enqueue d a).rgn n' = s.rgn n' := rfl
@[simp] theorem State.enqueue_heat (d : Nat) (a : Action) (h' : Nat) : (s.enqueue d a).heat h' = s.heat h' := rfl
@[simp] theorem State.enqueue_slot (d : Nat) (a : Action) (t' : Nat) : (s.enqueue d a).slot t' = s.slot t' := rfl
@[simp] theorem State.enqueue_port (d : Nat) (a : Action) (p' : Nat) : (s.enqueue d a).port p' = s.port p' := rfl
@[simp] theorem State.enqueue_src (d : Nat) (a : Action) (i' : Nat) : (s.enqueue d a).src i' = s.src i' := rfl
@[simp] theorem State.enqueue_mod_ (d : Nat) (a : Action) (k' : Nat) : (s.enqueue d a).mod_ k' = s.mod_ k' := rfl
@[simp] theorem State.enqueue_closed (d : Nat) (a : Action) (g' : Nat) : (s.enqueue d a).closed g' = s.closed g' := rfl
@[simp] theorem State.enqueue_placed (d : Nat) (a : Action) : (s.enqueue d a).placed = s.placed := rfl
@[simp] theorem State.enqueue_isPlaced (d : Nat) (a : Action) (n' : Nat) : (s.enqueue d a).isPlaced n' = s.isPlaced n' := rfl
@[simp] theorem State.enqueue_domOf (d : Nat) (a : Action) (n' : Nat) : (s.enqueue d a).domOf n' = s.domOf n' := rfl
@[simp] theorem State.enqueue_heatIx (d : Nat) (a : Action) (n' : Nat) : (s.enqueue d a).heatIx n' = s.heatIx n' := rfl
@[simp] theorem State.enqueue_members (d : Nat) (a : Action) (h' : Nat) : (s.enqueue d a).members h' = s.members h' := rfl
@[simp] theorem State.enqueue_reg (d : Nat) (a : Action) (r' : Reg) (i' : Nat) : (s.enqueue d a).reg r' i' = s.reg r' i' := rfl
@[simp] theorem State.enqueue_f (d : Nat) (a : Action) (x' : Fld) (i' : Nat) : (s.enqueue d a).f x' i' = s.f x' i' := rfl
@[simp] theorem State.enqueue_fb (d : Nat) (a : Action) (x' : Fld) (i' : Nat) : (s.enqueue d a).fb x' i' = s.fb x' i' := rfl
@[simp] theorem State.enqueue_ctxSt (d : Nat) (a : Action) (c' : Nat) : (s.enqueue d a).ctxSt c' = s.ctxSt c' := rfl

/-! ### dequeue -/

@[simp] theorem State.dequeue_lane (p : Action → Bool) (m' : Nat) : (s.dequeue p).lane m' = s.lane m' := rfl
@[simp] theorem State.dequeue_rgn (p : Action → Bool) (n' : Nat) : (s.dequeue p).rgn n' = s.rgn n' := rfl
@[simp] theorem State.dequeue_heat (p : Action → Bool) (h' : Nat) : (s.dequeue p).heat h' = s.heat h' := rfl
@[simp] theorem State.dequeue_slot (p : Action → Bool) (t' : Nat) : (s.dequeue p).slot t' = s.slot t' := rfl
@[simp] theorem State.dequeue_port (p : Action → Bool) (p' : Nat) : (s.dequeue p).port p' = s.port p' := rfl
@[simp] theorem State.dequeue_src (p : Action → Bool) (i' : Nat) : (s.dequeue p).src i' = s.src i' := rfl
@[simp] theorem State.dequeue_mod_ (p : Action → Bool) (k' : Nat) : (s.dequeue p).mod_ k' = s.mod_ k' := rfl
@[simp] theorem State.dequeue_closed (p : Action → Bool) (g' : Nat) : (s.dequeue p).closed g' = s.closed g' := rfl
@[simp] theorem State.dequeue_placed (p : Action → Bool) : (s.dequeue p).placed = s.placed := rfl
@[simp] theorem State.dequeue_isPlaced (p : Action → Bool) (n' : Nat) : (s.dequeue p).isPlaced n' = s.isPlaced n' := rfl
@[simp] theorem State.dequeue_domOf (p : Action → Bool) (n' : Nat) : (s.dequeue p).domOf n' = s.domOf n' := rfl
@[simp] theorem State.dequeue_heatIx (p : Action → Bool) (n' : Nat) : (s.dequeue p).heatIx n' = s.heatIx n' := rfl
@[simp] theorem State.dequeue_members (p : Action → Bool) (h' : Nat) : (s.dequeue p).members h' = s.members h' := rfl
@[simp] theorem State.dequeue_reg (p : Action → Bool) (r' : Reg) (i' : Nat) : (s.dequeue p).reg r' i' = s.reg r' i' := rfl
@[simp] theorem State.dequeue_f (p : Action → Bool) (x' : Fld) (i' : Nat) : (s.dequeue p).f x' i' = s.f x' i' := rfl
@[simp] theorem State.dequeue_fb (p : Action → Bool) (x' : Fld) (i' : Nat) : (s.dequeue p).fb x' i' = s.fb x' i' := rfl
@[simp] theorem State.dequeue_ctxSt (p : Action → Bool) (c' : Nat) : (s.dequeue p).ctxSt c' = s.ctxSt c' := rfl

/-! ### setCtx -/

@[simp] theorem State.setCtx_lane (c : Nat) (x : CtxState) (m' : Nat) : (s.setCtx c x).lane m' = s.lane m' := rfl
@[simp] theorem State.setCtx_rgn (c : Nat) (x : CtxState) (n' : Nat) : (s.setCtx c x).rgn n' = s.rgn n' := rfl
@[simp] theorem State.setCtx_heat (c : Nat) (x : CtxState) (h' : Nat) : (s.setCtx c x).heat h' = s.heat h' := rfl
@[simp] theorem State.setCtx_slot (c : Nat) (x : CtxState) (t' : Nat) : (s.setCtx c x).slot t' = s.slot t' := rfl
@[simp] theorem State.setCtx_port (c : Nat) (x : CtxState) (p' : Nat) : (s.setCtx c x).port p' = s.port p' := rfl
@[simp] theorem State.setCtx_src (c : Nat) (x : CtxState) (i' : Nat) : (s.setCtx c x).src i' = s.src i' := rfl
@[simp] theorem State.setCtx_mod_ (c : Nat) (x : CtxState) (k' : Nat) : (s.setCtx c x).mod_ k' = s.mod_ k' := rfl
@[simp] theorem State.setCtx_closed (c : Nat) (x : CtxState) (g' : Nat) : (s.setCtx c x).closed g' = s.closed g' := rfl
@[simp] theorem State.setCtx_placed (c : Nat) (x : CtxState) : (s.setCtx c x).placed = s.placed := rfl
@[simp] theorem State.setCtx_isPlaced (c : Nat) (x : CtxState) (n' : Nat) : (s.setCtx c x).isPlaced n' = s.isPlaced n' := rfl
@[simp] theorem State.setCtx_domOf (c : Nat) (x : CtxState) (n' : Nat) : (s.setCtx c x).domOf n' = s.domOf n' := rfl
@[simp] theorem State.setCtx_heatIx (c : Nat) (x : CtxState) (n' : Nat) : (s.setCtx c x).heatIx n' = s.heatIx n' := rfl
@[simp] theorem State.setCtx_members (c : Nat) (x : CtxState) (h' : Nat) : (s.setCtx c x).members h' = s.members h' := rfl
@[simp] theorem State.setCtx_reg (c : Nat) (x : CtxState) (r' : Reg) (i' : Nat) : (s.setCtx c x).reg r' i' = s.reg r' i' := rfl
@[simp] theorem State.setCtx_f (c : Nat) (x : CtxState) (x' : Fld) (i' : Nat) : (s.setCtx c x).f x' i' = s.f x' i' := rfl
@[simp] theorem State.setCtx_fb (c : Nat) (x : CtxState) (x' : Fld) (i' : Nat) : (s.setCtx c x).fb x' i' = s.fb x' i' := rfl
@[simp] theorem State.setCtx_running (c : Nat) (x : CtxState) : (s.setCtx c x).running = s.running := rfl

/-! ### record -/

@[simp] theorem State.record_lane (r : BootRec) (m' : Nat) : (s.record r).lane m' = s.lane m' := rfl
@[simp] theorem State.record_rgn (r : BootRec) (n' : Nat) : (s.record r).rgn n' = s.rgn n' := rfl
@[simp] theorem State.record_heat (r : BootRec) (h' : Nat) : (s.record r).heat h' = s.heat h' := rfl
@[simp] theorem State.record_slot (r : BootRec) (t' : Nat) : (s.record r).slot t' = s.slot t' := rfl
@[simp] theorem State.record_port (r : BootRec) (p' : Nat) : (s.record r).port p' = s.port p' := rfl
@[simp] theorem State.record_src (r : BootRec) (i' : Nat) : (s.record r).src i' = s.src i' := rfl
@[simp] theorem State.record_mod_ (r : BootRec) (k' : Nat) : (s.record r).mod_ k' = s.mod_ k' := rfl
@[simp] theorem State.record_closed (r : BootRec) (g' : Nat) : (s.record r).closed g' = s.closed g' := rfl
@[simp] theorem State.record_placed (r : BootRec) : (s.record r).placed = s.placed := rfl
@[simp] theorem State.record_isPlaced (r : BootRec) (n' : Nat) : (s.record r).isPlaced n' = s.isPlaced n' := rfl
@[simp] theorem State.record_domOf (r : BootRec) (n' : Nat) : (s.record r).domOf n' = s.domOf n' := rfl
@[simp] theorem State.record_heatIx (r : BootRec) (n' : Nat) : (s.record r).heatIx n' = s.heatIx n' := rfl
@[simp] theorem State.record_members (r : BootRec) (h' : Nat) : (s.record r).members h' = s.members h' := rfl
@[simp] theorem State.record_reg (r : BootRec) (r' : Reg) (i' : Nat) : (s.record r).reg r' i' = s.reg r' i' := rfl
@[simp] theorem State.record_f (r : BootRec) (x' : Fld) (i' : Nat) : (s.record r).f x' i' = s.f x' i' := rfl
@[simp] theorem State.record_fb (r : BootRec) (x' : Fld) (i' : Nat) : (s.record r).fb x' i' = s.fb x' i' := rfl
@[simp] theorem State.record_running (r : BootRec) : (s.record r).running = s.running := rfl
@[simp] theorem State.record_ctxSt (r : BootRec) (c' : Nat) : (s.record r).ctxSt c' = s.ctxSt c' := rfl

/-! ### loadIr -/

@[simp] theorem State.loadIr_lane (c : Nat) (m' : Nat) : (s.loadIr c).lane m' = s.lane m' := rfl
@[simp] theorem State.loadIr_rgn (c : Nat) (n' : Nat) : (s.loadIr c).rgn n' = s.rgn n' := rfl
@[simp] theorem State.loadIr_heat (c : Nat) (h' : Nat) : (s.loadIr c).heat h' = s.heat h' := rfl
@[simp] theorem State.loadIr_slot (c : Nat) (t' : Nat) : (s.loadIr c).slot t' = s.slot t' := rfl
@[simp] theorem State.loadIr_port (c : Nat) (p' : Nat) : (s.loadIr c).port p' = s.port p' := rfl
@[simp] theorem State.loadIr_src (c : Nat) (i' : Nat) : (s.loadIr c).src i' = s.src i' := rfl
@[simp] theorem State.loadIr_mod_ (c : Nat) (k' : Nat) : (s.loadIr c).mod_ k' = s.mod_ k' := rfl
@[simp] theorem State.loadIr_closed (c : Nat) (g' : Nat) : (s.loadIr c).closed g' = s.closed g' := rfl
@[simp] theorem State.loadIr_placed (c : Nat) : (s.loadIr c).placed = s.placed := rfl
@[simp] theorem State.loadIr_isPlaced (c : Nat) (n' : Nat) : (s.loadIr c).isPlaced n' = s.isPlaced n' := rfl
@[simp] theorem State.loadIr_domOf (c : Nat) (n' : Nat) : (s.loadIr c).domOf n' = s.domOf n' := rfl
@[simp] theorem State.loadIr_heatIx (c : Nat) (n' : Nat) : (s.loadIr c).heatIx n' = s.heatIx n' := rfl
@[simp] theorem State.loadIr_members (c : Nat) (h' : Nat) : (s.loadIr c).members h' = s.members h' := rfl
@[simp] theorem State.loadIr_reg (c : Nat) (r' : Reg) (i' : Nat) : (s.loadIr c).reg r' i' = s.reg r' i' := rfl
@[simp] theorem State.loadIr_f (c : Nat) (x' : Fld) (i' : Nat) : (s.loadIr c).f x' i' = s.f x' i' := rfl
@[simp] theorem State.loadIr_fb (c : Nat) (x' : Fld) (i' : Nat) : (s.loadIr c).fb x' i' = s.fb x' i' := rfl
@[simp] theorem State.loadIr_running (c : Nat) : (s.loadIr c).running = s.running := rfl
@[simp] theorem State.loadIr_ctxSt (c : Nat) (c' : Nat) : (s.loadIr c).ctxSt c' = s.ctxSt c' := rfl

/-! ### loadWir -/

@[simp] theorem State.loadWir_lane (c : Nat) (m' : Nat) : (s.loadWir c).lane m' = s.lane m' := rfl
@[simp] theorem State.loadWir_rgn (c : Nat) (n' : Nat) : (s.loadWir c).rgn n' = s.rgn n' := rfl
@[simp] theorem State.loadWir_heat (c : Nat) (h' : Nat) : (s.loadWir c).heat h' = s.heat h' := rfl
@[simp] theorem State.loadWir_slot (c : Nat) (t' : Nat) : (s.loadWir c).slot t' = s.slot t' := rfl
@[simp] theorem State.loadWir_port (c : Nat) (p' : Nat) : (s.loadWir c).port p' = s.port p' := rfl
@[simp] theorem State.loadWir_src (c : Nat) (i' : Nat) : (s.loadWir c).src i' = s.src i' := rfl
@[simp] theorem State.loadWir_mod_ (c : Nat) (k' : Nat) : (s.loadWir c).mod_ k' = s.mod_ k' := rfl
@[simp] theorem State.loadWir_closed (c : Nat) (g' : Nat) : (s.loadWir c).closed g' = s.closed g' := rfl
@[simp] theorem State.loadWir_placed (c : Nat) : (s.loadWir c).placed = s.placed := rfl
@[simp] theorem State.loadWir_isPlaced (c : Nat) (n' : Nat) : (s.loadWir c).isPlaced n' = s.isPlaced n' := rfl
@[simp] theorem State.loadWir_domOf (c : Nat) (n' : Nat) : (s.loadWir c).domOf n' = s.domOf n' := rfl
@[simp] theorem State.loadWir_heatIx (c : Nat) (n' : Nat) : (s.loadWir c).heatIx n' = s.heatIx n' := rfl
@[simp] theorem State.loadWir_members (c : Nat) (h' : Nat) : (s.loadWir c).members h' = s.members h' := rfl
@[simp] theorem State.loadWir_reg (c : Nat) (r' : Reg) (i' : Nat) : (s.loadWir c).reg r' i' = s.reg r' i' := rfl
@[simp] theorem State.loadWir_f (c : Nat) (x' : Fld) (i' : Nat) : (s.loadWir c).f x' i' = s.f x' i' := rfl
@[simp] theorem State.loadWir_fb (c : Nat) (x' : Fld) (i' : Nat) : (s.loadWir c).fb x' i' = s.fb x' i' := rfl
@[simp] theorem State.loadWir_running (c : Nat) : (s.loadWir c).running = s.running := rfl
@[simp] theorem State.loadWir_ctxSt (c : Nat) (c' : Nat) : (s.loadWir c).ctxSt c' = s.ctxSt c' := rfl

/-! ### shiftOut -/

@[simp] theorem State.shiftOut_lane (v : Nat) (m' : Nat) : (s.shiftOut v).lane m' = s.lane m' := rfl
@[simp] theorem State.shiftOut_rgn (v : Nat) (n' : Nat) : (s.shiftOut v).rgn n' = s.rgn n' := rfl
@[simp] theorem State.shiftOut_heat (v : Nat) (h' : Nat) : (s.shiftOut v).heat h' = s.heat h' := rfl
@[simp] theorem State.shiftOut_slot (v : Nat) (t' : Nat) : (s.shiftOut v).slot t' = s.slot t' := rfl
@[simp] theorem State.shiftOut_port (v : Nat) (p' : Nat) : (s.shiftOut v).port p' = s.port p' := rfl
@[simp] theorem State.shiftOut_src (v : Nat) (i' : Nat) : (s.shiftOut v).src i' = s.src i' := rfl
@[simp] theorem State.shiftOut_mod_ (v : Nat) (k' : Nat) : (s.shiftOut v).mod_ k' = s.mod_ k' := rfl
@[simp] theorem State.shiftOut_closed (v : Nat) (g' : Nat) : (s.shiftOut v).closed g' = s.closed g' := rfl
@[simp] theorem State.shiftOut_placed (v : Nat) : (s.shiftOut v).placed = s.placed := rfl
@[simp] theorem State.shiftOut_isPlaced (v : Nat) (n' : Nat) : (s.shiftOut v).isPlaced n' = s.isPlaced n' := rfl
@[simp] theorem State.shiftOut_domOf (v : Nat) (n' : Nat) : (s.shiftOut v).domOf n' = s.domOf n' := rfl
@[simp] theorem State.shiftOut_heatIx (v : Nat) (n' : Nat) : (s.shiftOut v).heatIx n' = s.heatIx n' := rfl
@[simp] theorem State.shiftOut_members (v : Nat) (h' : Nat) : (s.shiftOut v).members h' = s.members h' := rfl
@[simp] theorem State.shiftOut_reg (v : Nat) (r' : Reg) (i' : Nat) : (s.shiftOut v).reg r' i' = s.reg r' i' := rfl
@[simp] theorem State.shiftOut_f (v : Nat) (x' : Fld) (i' : Nat) : (s.shiftOut v).f x' i' = s.f x' i' := rfl
@[simp] theorem State.shiftOut_fb (v : Nat) (x' : Fld) (i' : Nat) : (s.shiftOut v).fb x' i' = s.fb x' i' := rfl
@[simp] theorem State.shiftOut_running (v : Nat) : (s.shiftOut v).running = s.running := rfl
@[simp] theorem State.shiftOut_ctxSt (v : Nat) (c' : Nat) : (s.shiftOut v).ctxSt c' = s.ctxSt c' := rfl

/-! ### toStage -/

@[simp] theorem State.toStage_lane (k : Nat) (m' : Nat) : (s.toStage k).lane m' = s.lane m' := rfl
@[simp] theorem State.toStage_rgn (k : Nat) (n' : Nat) : (s.toStage k).rgn n' = s.rgn n' := rfl
@[simp] theorem State.toStage_heat (k : Nat) (h' : Nat) : (s.toStage k).heat h' = s.heat h' := rfl
@[simp] theorem State.toStage_slot (k : Nat) (t' : Nat) : (s.toStage k).slot t' = s.slot t' := rfl
@[simp] theorem State.toStage_port (k : Nat) (p' : Nat) : (s.toStage k).port p' = s.port p' := rfl
@[simp] theorem State.toStage_src (k : Nat) (i' : Nat) : (s.toStage k).src i' = s.src i' := rfl
@[simp] theorem State.toStage_mod_ (k : Nat) (k' : Nat) : (s.toStage k).mod_ k' = s.mod_ k' := rfl
@[simp] theorem State.toStage_closed (k : Nat) (g' : Nat) : (s.toStage k).closed g' = s.closed g' := rfl
@[simp] theorem State.toStage_placed (k : Nat) : (s.toStage k).placed = s.placed := rfl
@[simp] theorem State.toStage_isPlaced (k : Nat) (n' : Nat) : (s.toStage k).isPlaced n' = s.isPlaced n' := rfl
@[simp] theorem State.toStage_domOf (k : Nat) (n' : Nat) : (s.toStage k).domOf n' = s.domOf n' := rfl
@[simp] theorem State.toStage_heatIx (k : Nat) (n' : Nat) : (s.toStage k).heatIx n' = s.heatIx n' := rfl
@[simp] theorem State.toStage_members (k : Nat) (h' : Nat) : (s.toStage k).members h' = s.members h' := rfl
@[simp] theorem State.toStage_running (k : Nat) : (s.toStage k).running = s.running := rfl
@[simp] theorem State.toStage_ctxSt (k : Nat) (c' : Nat) : (s.toStage k).ctxSt c' = s.ctxSt c' := rfl

/-! ### setIrq -/

@[simp] theorem State.setIrq_lane (x : Fld) (m' : Nat) : (s.setIrq x).lane m' = s.lane m' := rfl
@[simp] theorem State.setIrq_rgn (x : Fld) (n' : Nat) : (s.setIrq x).rgn n' = s.rgn n' := rfl
@[simp] theorem State.setIrq_heat (x : Fld) (h' : Nat) : (s.setIrq x).heat h' = s.heat h' := rfl
@[simp] theorem State.setIrq_slot (x : Fld) (t' : Nat) : (s.setIrq x).slot t' = s.slot t' := rfl
@[simp] theorem State.setIrq_port (x : Fld) (p' : Nat) : (s.setIrq x).port p' = s.port p' := rfl
@[simp] theorem State.setIrq_src (x : Fld) (i' : Nat) : (s.setIrq x).src i' = s.src i' := rfl
@[simp] theorem State.setIrq_mod_ (x : Fld) (k' : Nat) : (s.setIrq x).mod_ k' = s.mod_ k' := rfl
@[simp] theorem State.setIrq_closed (x : Fld) (g' : Nat) : (s.setIrq x).closed g' = s.closed g' := rfl
@[simp] theorem State.setIrq_placed (x : Fld) : (s.setIrq x).placed = s.placed := rfl
@[simp] theorem State.setIrq_isPlaced (x : Fld) (n' : Nat) : (s.setIrq x).isPlaced n' = s.isPlaced n' := rfl
@[simp] theorem State.setIrq_domOf (x : Fld) (n' : Nat) : (s.setIrq x).domOf n' = s.domOf n' := rfl
@[simp] theorem State.setIrq_heatIx (x : Fld) (n' : Nat) : (s.setIrq x).heatIx n' = s.heatIx n' := rfl
@[simp] theorem State.setIrq_members (x : Fld) (h' : Nat) : (s.setIrq x).members h' = s.members h' := rfl
@[simp] theorem State.setIrq_running (x : Fld) : (s.setIrq x).running = s.running := rfl
@[simp] theorem State.setIrq_ctxSt (x : Fld) (c' : Nat) : (s.setIrq x).ctxSt c' = s.ctxSt c' := rfl

/-! ### The changed part -/

@[simp] theorem State.lane_modLane_same (m : Nat) (g : Lane → Lane) : (s.modLane m g).lane m = g (s.lane m) := by
  simp [State.lane, State.modLane]

theorem State.lane_modLane_ne {m k : Nat} (g : Lane → Lane) (h : k ≠ m) : (s.modLane m g).lane k = s.lane k := by
  simp [State.lane, State.modLane, tblGet_mod, h]

@[simp] theorem State.rgn_modRgn_same (n : Nat) (g : Rgn → Rgn) : (s.modRgn n g).rgn n = g (s.rgn n) := by
  simp [State.rgn, State.modRgn]

theorem State.rgn_modRgn_ne {n k : Nat} (g : Rgn → Rgn) (h : k ≠ n) : (s.modRgn n g).rgn k = s.rgn k := by
  simp [State.rgn, State.modRgn, tblGet_mod, h]

@[simp] theorem State.heat_modHeat_same (n : Nat) (g : Heat → Heat) : (s.modHeat n g).heat n = g (s.heat n) := by
  simp [State.heat, State.modHeat]

theorem State.heat_modHeat_ne {n k : Nat} (g : Heat → Heat) (h : k ≠ n) : (s.modHeat n g).heat k = s.heat k := by
  simp [State.heat, State.modHeat, tblGet_mod, h]

@[simp] theorem State.slot_modSlot_same (n : Nat) (g : Slot → Slot) : (s.modSlot n g).slot n = g (s.slot n) := by
  simp [State.slot, State.modSlot]

theorem State.slot_modSlot_ne {n k : Nat} (g : Slot → Slot) (h : k ≠ n) : (s.modSlot n g).slot k = s.slot k := by
  simp [State.slot, State.modSlot, tblGet_mod, h]

@[simp] theorem State.port_modPort_same (n : Nat) (g : RPort → RPort) : (s.modPort n g).port n = g (s.port n) := by
  simp [State.port, State.modPort]

theorem State.port_modPort_ne {n k : Nat} (g : RPort → RPort) (h : k ≠ n) : (s.modPort n g).port k = s.port k := by
  simp [State.port, State.modPort, tblGet_mod, h]

@[simp] theorem State.src_modSrc_same (n : Nat) (g : SrcState → SrcState) : (s.modSrc n g).src n = g (s.src n) := by
  simp [State.src, State.modSrc]

theorem State.src_modSrc_ne {n k : Nat} (g : SrcState → SrcState) (h : k ≠ n) : (s.modSrc n g).src k = s.src k := by
  simp [State.src, State.modSrc, tblGet_mod, h]

@[simp] theorem State.mod_modMod_same (n : Nat) (g : Modulator → Modulator) : (s.modMod n g).mod_ n = g (s.mod_ n) := by
  simp [State.mod_, State.modMod]

theorem State.mod_modMod_ne {n k : Nat} (g : Modulator → Modulator) (h : k ≠ n) : (s.modMod n g).mod_ k = s.mod_ k := by
  simp [State.mod_, State.modMod, tblGet_mod, h]

@[simp] theorem State.closed_setGate_same (g : Nat) (c : Bool) : (s.setGate g c).closed g = c := by
  simp [State.closed, State.setGate]

theorem State.closed_setGate_ne {g k : Nat} (c : Bool) (h : k ≠ g) : (s.setGate g c).closed k = s.closed k := by
  simp [State.closed, State.setGate, tblGet_set, h]

/-- A condition of a source makes its event pending. -/
@[simp] theorem State.src_raise_pend (x : Src) (a : AKind) (n : Nat) (p : FMaster) (c : FAccess) :
    ((s.raise x a n p c).src x.id).pend.isSome = true := by
  simp [State.src, State.raise]

theorem State.src_raise_ne {x : Src} {k : Nat} (a : AKind) (n : Nat) (p : FMaster) (c : FAccess) (h : k ≠ x.id) :
    (s.raise x a n p c).src k = s.src k := by
  simp [State.src, State.raise, tblGet_set, h]

/-- It changes nothing else of the collector. -/
theorem State.raise_coll (x : Src) (a : AKind) (n : Nat) (p : FMaster) (c : FAccess) :
    (s.raise x a n p c).coll = { s.coll with srcs := (s.raise x a n p c).coll.srcs } := rfl

/-- The time of the last condition of a level source. -/
@[simp] theorem State.src_condEnds_same (x : Src) : (s.condEnds x).src x.id = { s.src x.id with condEnd := s.now } := by
  simp [State.src, State.condEnds]

theorem State.src_condEnds_ne {x : Src} {k : Nat} (h : k ≠ x.id) : (s.condEnds x).src k = s.src k := by
  simp [State.src, State.condEnds, tblGet_mod, h]

end Sys2Proof.Machine
end

