-- ==== Sys2Proof/Laws/Changes.lean ====
section
/-! SUPPORT. Frames of fields and parts: how `Changes` passes through each update of the state. -/

namespace Sys2Proof.Machine

variable {s t : State} {ps : List Part} {fs : List (Fld × Nat)} {m n k : Nat} {l : List Src}

theorem Changes.refl (s : State) (ps : List Part) (fs : List (Fld × Nat)) : Changes s s ps fs :=
  ⟨fun p _ => by cases p <;> rfl, fun _ _ _ _ => rfl, fun _ _ _ _ => rfl⟩

/-- An update of parts alone. -/
theorem Changes.upd {u : State} (h : Changes s t ps fs) (hr : u.regs = t.regs) (hp : ∀ p, p ∉ ps → p.same t u) : Changes s u ps fs where
  left := fun p hn => by
    have h1 := h.1 p hn
    have h2 := hp p hn
    cases p <;> exact Eq.trans h2 h1
  right := by
    have e : ∀ r i, u.reg r i = t.reg r i := fun r i => by unfold State.reg; rw [hr]
    refine ⟨fun x i hx hn => ?_, fun r i hi hn => ?_⟩
    · rw [← h.2.1 x i hx hn]; unfold State.f; rw [e]
    · rw [← h.2.2 r i hi hn, e]

/-- A field is written. -/
theorem Changes.put (h : Changes s t ps fs) {x : Fld} {i : Nat} (v : Nat) (hx : x ∈ x.reg.fields) (hm : (x, i) ∈ fs) :
    Changes s (t.put x i v) ps fs where
  left := fun p hn => by
    have h1 := h.1 p hn
    cases p <;> exact h1
  right := by
    refine ⟨fun y j hy hn => ?_, fun r j hj hn => ?_⟩
    · rw [State.f_put_ne t v hx hy.1 hy.2 (fun e => hn (e ▸ hm))]
      exact h.2.1 y j hy hn
    · rw [← h.2.2 r j hj hn]
      exact State.reg_setReg_ne t _ hj (fun e => hn (List.mem_map.mpr ⟨(x, i), hm, e⟩))

theorem Changes.bump (h : Changes s t ps fs) {x : Fld} {i : Nat} (hx : x ∈ x.reg.fields) (hm : (x, i) ∈ fs) :
    Changes s (t.bump x i) ps fs := h.put _ hx hm

theorem Changes.rst (h : Changes s t ps fs) {x : Fld} {i : Nat} (hx : x ∈ x.reg.fields) (hm : (x, i) ∈ fs) :
    Changes s (t.rst x i) ps fs := h.put _ hx hm

theorem Changes.ite {c : Prop} [Decidable c] {a b : State} (ha : Changes s a ps fs) (hb : Changes s b ps fs) :
    Changes s (if c then a else b) ps fs := by split <;> assumption

theorem Changes.modLane (h : Changes s t ps fs) (m : Nat) (g : Lane → Lane) (hp : .lanes ∈ ps) : Changes s (t.modLane m g) ps fs :=
  h.upd rfl (fun p hn => by cases p <;> first | rfl | exact absurd hp hn)

theorem Changes.modRgn (h : Changes s t ps fs) (n : Nat) (g : Rgn → Rgn) (hp : .rgns ∈ ps) : Changes s (t.modRgn n g) ps fs :=
  h.upd rfl (fun p hn => by cases p <;> first | rfl | exact absurd hp hn)

theorem Changes.modHeat (h : Changes s t ps fs) (n : Nat) (g : Heat → Heat) (hp : .heats ∈ ps) : Changes s (t.modHeat n g) ps fs :=
  h.upd rfl (fun p hn => by cases p <;> first | rfl | exact absurd hp hn)

theorem Changes.modSlot (h : Changes s t ps fs) (n : Nat) (g : Slot → Slot) (hp : .slots ∈ ps) : Changes s (t.modSlot n g) ps fs :=
  h.upd rfl (fun p hn => by cases p <;> first | rfl | exact absurd hp hn)

theorem Changes.modPort (h : Changes s t ps fs) (n : Nat) (g : RPort → RPort) (hp : .relay ∈ ps) : Changes s (t.modPort n g) ps fs :=
  h.upd rfl (fun p hn => by cases p <;> first | rfl | exact absurd hp hn)

theorem Changes.modSrc (h : Changes s t ps fs) (n : Nat) (g : SrcState → SrcState) (hp : .coll ∈ ps) : Changes s (t.modSrc n g) ps fs :=
  h.upd rfl (fun p hn => by cases p <;> first | rfl | exact absurd hp hn)

theorem Changes.modMod (h : Changes s t ps fs) (n : Nat) (g : Modulator → Modulator) (hp : .gauge ∈ ps) : Changes s (t.modMod n g) ps fs :=
  h.upd rfl (fun p hn => by cases p <;> first | rfl | exact absurd hp hn)

theorem Changes.raise (h : Changes s t ps fs) (x : Src) (a : AKind) (n : Nat) (p : FMaster) (c : FAccess) (hp : .coll ∈ ps) :
    Changes s (t.raise x a n p c) ps fs :=
  h.upd rfl (fun p hn => by cases p <;> first | rfl | exact absurd hp hn)

theorem Changes.raiseHw (h : Changes s t ps fs) (x : Src) (a : AKind) (n : Nat) (hp : .coll ∈ ps) : Changes s (t.raiseHw x a n) ps fs :=
  h.raise x a n _ _ hp

theorem Changes.queueFull (h : Changes s t ps fs) (p : FMaster) (hp : .coll ∈ ps) : Changes s (t.queueFull p) ps fs :=
  h.raise _ _ _ _ _ hp

theorem Changes.condEnds (h : Changes s t ps fs) (x : Src) (hp : .coll ∈ ps) : Changes s (t.condEnds x) ps fs :=
  h.upd rfl (fun p hn => by cases p <;> first | rfl | exact absurd hp hn)

theorem Changes.enqueue (h : Changes s t ps fs) (d : Nat) (a : Action) (hp : .step ∈ ps) : Changes s (t.enqueue d a) ps fs :=
  h.upd rfl (fun p hn => by cases p <;> first | rfl | exact absurd hp hn)

theorem Changes.laneEvt (h : Changes s t ps fs) {x : Fld} {src : Src} {m : Nat} (hx : x ∈ x.reg.fields) (hm : (x, m) ∈ fs) (hp : .coll ∈ ps) :
    Changes s (t.laneEvt x src m) ps fs := (h.put 1 hx hm).raiseHw _ _ _ hp

theorem Changes.rgnEvt (h : Changes s t ps fs) {x : Fld} {src : Src} {n : Nat} (hx : x ∈ x.reg.fields) (hm : (x, n) ∈ fs) (hp : .coll ∈ ps) :
    Changes s (t.rgnEvt x src n) ps fs := (h.put 1 hx hm).raiseHw _ _ _ hp

theorem Changes.forEach {α : Type} (l : List α) (g : State → α → State) (h : Changes s t ps fs)
    (hg : ∀ u a, a ∈ l → Changes s u ps fs → Changes s (g u a) ps fs) : Changes s (t.forEach l g) ps fs := by
  unfold State.forEach
  induction l generalizing t with
  | nil => exact h
  | cons a r ih => exact ih (hg t a List.mem_cons_self h) (fun u b hb => hg u b (List.mem_cons_of_mem _ hb))

/-! ### Records and sources -/

theorem lanesKept_modLane (h : lanesKept s t [m]) (g : Lane → Lane) : lanesKept s (t.modLane m g) [m] := fun k hk => by
  rw [State.lane_modLane_ne _ _ (by simpa using hk)]
  exact h k hk

theorem rgnsKept_modRgn (h : rgnsKept s t [n]) (g : Rgn → Rgn) : rgnsKept s (t.modRgn n g) [n] := fun k hk => by
  rw [State.rgn_modRgn_ne _ _ (by simpa using hk)]
  exact h k hk

theorem heatsKept_modHeat (h : heatsKept s t [n]) (g : Heat → Heat) : heatsKept s (t.modHeat n g) [n] := fun k hk => by
  rw [State.heat_modHeat_ne _ _ (by simpa using hk)]
  exact h k hk

theorem slotsKept_modSlot (h : slotsKept s t [k]) (g : Slot → Slot) : slotsKept s (t.modSlot k g) [k] := fun j hj => by
  rw [State.slot_modSlot_ne _ _ (by simpa using hj)]
  exact h j hj

theorem lanesKept_of_eq (h : t.lanes = s.lanes) (l : List Nat) : lanesKept s t l := fun k _ => by unfold State.lane; rw [h]
theorem rgnsKept_of_eq (h : t.rgns = s.rgns) (l : List Nat) : rgnsKept s t l := fun k _ => by unfold State.rgn; rw [h]
theorem heatsKept_of_eq (h : t.heats = s.heats) (l : List Nat) : heatsKept s t l := fun k _ => by unfold State.heat; rw [h]
theorem slotsKept_of_eq (h : t.slots = s.slots) (l : List Nat) : slotsKept s t l := fun k _ => by unfold State.slot; rw [h]

theorem srcsKept_of_eq (h : t.coll = s.coll) (l : List Src) : srcsKept s t l :=
  ⟨by rw [h], fun i _ => by unfold State.src; rw [h]⟩

/-- An event is raised in a state whose collector is as it was. -/
theorem srcsKept_raise (h : srcsKept s t l) {x : Src} (hx : x ∈ l) (a : AKind) (n : Nat) (p : FMaster) (c : FAccess) :
    srcsKept s (t.raise x a n p c) l := by
  refine ⟨?_, fun i hi => ?_⟩
  · rw [State.raise_coll]
    exact congrArg (fun k : Collector => { k with srcs := (t.raise x a n p c).coll.srcs }) h.1
  · rw [State.src_raise_ne _ _ _ _ _ (fun e => hi x hx e.symm)]
    exact h.2 i hi

theorem srcsKept_raiseHw (h : srcsKept s t l) {x : Src} (hx : x ∈ l) (a : AKind) (n : Nat) : srcsKept s (t.raiseHw x a n) l :=
  srcsKept_raise h hx a n _ _

theorem srcsKept_laneEvt (h : srcsKept s t l) {x : Src} (hx : x ∈ l) (y : Fld) (m : Nat) : srcsKept s (t.laneEvt y x m) l :=
  srcsKept_raiseHw (t := t.put y m 1) ⟨h.1, h.2⟩ hx _ _

theorem srcsKept_rgnEvt (h : srcsKept s t l) {x : Src} (hx : x ∈ l) (y : Fld) (n : Nat) : srcsKept s (t.rgnEvt y x n) l :=
  srcsKept_raiseHw (t := t.put y n 1) ⟨h.1, h.2⟩ hx _ _

/-- A pending event stays pending while others are raised. -/
theorem pends_raise {x y : Src} (h : pends t y) (a : AKind) (n : Nat) (p : FMaster) (c : FAccess) : pends (t.raise x a n p c) y := by
  unfold pends at h ⊢
  by_cases e : y.id = x.id
  · rw [e]; exact State.src_raise_pend ..
  · rw [State.src_raise_ne _ _ _ _ _ e]; exact h

theorem pends_raised (s : State) (x : Src) (a : AKind) (n : Nat) (p : FMaster) (c : FAccess) : pends (s.raise x a n p c) x :=
  State.src_raise_pend ..

/-- A lane event: its bit, its source, the lanes. -/
theorem State.f_laneEvt (s : State) {x : Fld} (y : Src) {m : Nat} (hx : x ∈ x.reg.fields) (hm : m < x.reg.count) (h1 : x.hi = x.lo) :
    (s.laneEvt x y m).f x m = 1 := by
  unfold State.laneEvt
  rw [State.raiseHw_f, State.f_put_same _ _ hx hm, h1, Nat.add_sub_cancel_left] <;> rfl

theorem State.f_rgnEvt (s : State) {x : Fld} (y : Src) {n : Nat} (hx : x ∈ x.reg.fields) (hn : n < x.reg.count) (h1 : x.hi = x.lo) :
    (s.rgnEvt x y n).f x n = 1 := by
  unfold State.rgnEvt
  rw [State.raiseHw_f, State.f_put_same _ _ hx hn, h1, Nat.add_sub_cancel_left] <;> rfl

@[simp] theorem State.laneEvt_lane (s : State) (x : Fld) (y : Src) (m k : Nat) : (s.laneEvt x y m).lane k = s.lane k := rfl
@[simp] theorem State.rgnEvt_rgn (s : State) (x : Fld) (y : Src) (n k : Nat) : (s.rgnEvt x y n).rgn k = s.rgn k := rfl
@[simp] theorem State.laneEvt_rgn (s : State) (x : Fld) (y : Src) (m k : Nat) : (s.laneEvt x y m).rgn k = s.rgn k := rfl
@[simp] theorem State.rgnEvt_lane (s : State) (x : Fld) (y : Src) (n k : Nat) : (s.rgnEvt x y n).lane k = s.lane k := rfl
@[simp] theorem State.rgnEvt_heat (s : State) (x : Fld) (y : Src) (n k : Nat) : (s.rgnEvt x y n).heat k = s.heat k := rfl

theorem pends_laneEvt (s : State) (x : Fld) (y : Src) (m : Nat) : pends (s.laneEvt x y m) y := pends_raised ..
theorem pends_rgnEvt (s : State) (x : Fld) (y : Src) (n : Nat) : pends (s.rgnEvt x y n) y := pends_raised ..

/-! ### What is sent -/


theorem Changes.pfWord (h : Changes s t ps fs) (k : Nat) (ws : List Nat) (hp : .pf ∈ ps) (hf : ∀ x ∈ pfFields, x ∈ fs) :
    Changes s (t.pfWord k ws) ps fs := by
  have h0 : ∀ f, Changes s { t with pf := f } ps fs := fun f => h.upd rfl (fun p hn => by cases p <;> first | rfl | exact absurd hp hn)
  unfold State.pfWord
  refine Changes.ite ?_ ?_
  · exact ((h0 _).put _ (by decide) (hf _ (by decide))).put _ (by decide) (hf _ (by decide))
  · exact (h0 _).put _ (by decide) (hf _ (by decide))

theorem Changes.pfRecord (h : Changes s t ps fs) (k : Nat) (ws : List Nat) (hp : .pf ∈ ps) (hf : ∀ x ∈ pfFields, x ∈ fs) :
    Changes s (t.pfRecord k ws) ps fs := by
  have h0 : ∀ f, Changes s { t with pf := f } ps fs := fun f => h.upd rfl (fun p hn => by cases p <;> first | rfl | exact absurd hp hn)
  have h1 : ∀ (c : Bool) (u : State), Changes s u ps fs → Changes s (if c then u.pfWord k ws else u) ps fs :=
    fun c u hu => Changes.ite (hu.pfWord _ _ hp hf) hu
  unfold State.pfRecord
  refine Changes.ite h ?_
  exact h1 _ _ (Changes.ite h ((h0 _).pfWord _ _ hp hf))

theorem Changes.pfTrigger (h : Changes s t ps fs) (c : Nat) (hp : .pf ∈ ps) (hf : ∀ x ∈ pfFields, x ∈ fs) :
    Changes s (t.pfTrigger c) ps fs := by
  have h1 : ∀ u : State, Changes s u ps fs → Changes s { u with pf := { u.pf with post := some (min 2047 (u.f PF_TRIG.POST)) } } ps fs :=
    fun u hu => hu.upd rfl (fun p hn => by cases p <;> first | rfl | exact absurd hp hn)
  have h2 : Changes s (((t.pfRecord 5 [c]).put PF_STATUS.TRIG 0 1).put PF_STATUS.CAUSE 0 c) ps fs :=
    ((h.pfRecord _ _ hp hf).put _ (by decide) (hf _ (by decide))).put _ (by decide) (hf _ (by decide))
  unfold State.pfTrigger
  refine Changes.ite h ?_
  dsimp only
  refine h1 _ ?_
  exact h2

theorem Changes.pfBaton (h : Changes s t ps fs) (a b c : Bool) (q : BitVec 64) (e : Nat) (hp : .pf ∈ ps) (hf : ∀ x ∈ pfFields, x ∈ fs) :
    Changes s (t.pfBaton a b c q e) ps fs := by
  unfold State.pfBaton
  refine Changes.ite h ?_
  extract_lets b s1 lo hi mask val
  have h2 : Changes s s1 ps fs := Changes.ite (h.pfRecord _ _ hp hf) h
  clear_value s1
  exact Changes.ite (h2.pfTrigger _ hp hf) h2

theorem Changes.emit (h : Changes s t ps fs) (q : BitVec 64) (ho : .out ∈ ps) (hp : .pf ∈ ps) (hf : ∀ x ∈ pfFields, x ∈ fs) :
    Changes s (t.emit q) ps fs := by
  have h0 : Changes s { t with out := t.out ++ [Output.baton q] } ps fs :=
    h.upd rfl (fun p hn => by cases p <;> first | rfl | exact absurd ho hn)
  unfold State.emit
  refine Changes.ite ?_ h
  exact h0.pfBaton true true true q (crc16 q) hp hf

theorem Changes.sendAck (h : Changes s t ps fs) (a b : Nat) (hb : .baton ∈ ps) (ho : .out ∈ ps) (hp : .pf ∈ ps) (hf : ∀ x ∈ pfFields, x ∈ fs) :
    Changes s (t.sendAck a b) ps fs := by
  have h0 : ∀ f, Changes s { t with baton := f } ps fs := fun f => h.upd rfl (fun p hn => by cases p <;> first | rfl | exact absurd hb hn)
  unfold State.sendAck
  refine Changes.ite h (Changes.ite ?_ (h0 _))
  exact (h0 _).emit _ ho hp hf

theorem Changes.sendTag (h : Changes s t ps fs) (k a b : Nat) (hs : .slots ∈ ps) (hb : .baton ∈ ps) (ho : .out ∈ ps) (hp : .pf ∈ ps)
    (hf : ∀ x ∈ pfFields, x ∈ fs) : Changes s (t.sendTag k a b) ps fs := (h.sendAck _ _ hb ho hp hf).modSlot _ _ hs

end Sys2Proof.Machine
end

