-- ==== Sys2Proof/Laws/KeptOps.lean ====
section
/-! SUPPORT. Laws.Kept for the operations on registers, records, regions, Relay ports and the Pacer: one law for each operation and each meaning. -/

set_option linter.unusedVariables false

namespace Sys2Proof.Machine

variable {P R : Nat} {o : State}

/-! ### Machine/Ops.lean -/

theorem State.put_kept (s : State) (x : Fld) (i : Nat) (v : Nat) (hx_x : R.testBit (Reg.bit x.reg) = true) (hk0 : Kept P R o
    s) : Kept P R o (State.put s x i v) := by
  delta State.put
  refine State.setReg_kept _ _ _ _ ‹_› ?_
  assumption

theorem State.rst_kept (s : State) (x : Fld) (i : Nat) (hx_x : R.testBit (Reg.bit x.reg) = true) (hk0 : Kept P R o s) : Kept P
    R o (State.rst s x i) := by
  delta State.rst
  refine State.put_kept _ _ _ _ ‹_› ?_
  assumption

theorem State.bump_kept (s : State) (x : Fld) (i : Nat) (hx_x : R.testBit (Reg.bit x.reg) = true) (hk0 : Kept P R o s) : Kept
    P R o (State.bump s x i) := by
  delta State.bump
  refine State.put_kept _ _ _ _ ‹_› ?_
  assumption

theorem State.advance_kept (s : State) (t : Nat) (hP : Sub 2 P) (hk0 : Kept P R o s) : Kept P R o (State.advance s t) := by
  delta State.advance
  refine kept_now (s) _ (hP.bit rfl) ?_
  assumption

theorem State.raise_kept (s : State) (x : Src) (ak : AKind) (addr : Nat) (ms : FMaster) (ac : FAccess) (hP : Sub 67108864 P)
    (hk0 : Kept P R o s) : Kept P R o (State.raise s x ak addr ms ac) := by
  delta State.raise
  extract_lets +onlyGivenNames -underBinder -merge v1
  clear_value v1
  extract_lets +onlyGivenNames -underBinder -merge v2
  clear_value v2
  extract_lets +onlyGivenNames -underBinder -merge v3
  clear_value v3
  refine kept_coll (s) _ (hP.bit rfl) ?_
  assumption

theorem State.raiseHw_kept (s : State) (x : Src) (ak : AKind) (addr : Nat) (hP : Sub 67108864 P) (hk0 : Kept P R o s) : Kept P
    R o (State.raiseHw s x ak addr) := by
  delta State.raiseHw
  refine State.raise_kept _ _ _ _ _ _ (.of rfl hP) ?_
  assumption

theorem State.condEnds_kept (s : State) (x : Src) (hP : Sub 67108864 P) (hk0 : Kept P R o s) : Kept P R o (State.condEnds s x)
    := by
  delta State.condEnds
  refine kept_coll (s) _ (hP.bit rfl) ?_
  assumption

theorem State.laneEvt_kept (s : State) (x : Fld) (src : Src) (m : Nat) (hx_x : R.testBit (Reg.bit x.reg) = true) (hP : Sub
    67108864 P) (hk0 : Kept P R o s) : Kept P R o (State.laneEvt s x src m) := by
  delta State.laneEvt
  refine State.raiseHw_kept _ _ _ _ (.of rfl hP) ?_
  refine State.put_kept _ _ _ _ ‹_› ?_
  assumption

theorem State.rgnEvt_kept (s : State) (x : Fld) (src : Src) (n : Nat) (hx_x : R.testBit (Reg.bit x.reg) = true) (hP : Sub
    67108864 P) (hk0 : Kept P R o s) : Kept P R o (State.rgnEvt s x src n) := by
  delta State.rgnEvt
  refine State.raiseHw_kept _ _ _ _ (.of rfl hP) ?_
  refine State.put_kept _ _ _ _ ‹_› ?_
  assumption

theorem State.enqueue_kept (s : State) (due : Nat) (a : Action) (hP : Sub 1024 P) (hk0 : Kept P R o s) : Kept P R o
    (State.enqueue s due a) := by
  delta State.enqueue
  refine kept_step (s) _ (hP.bit rfl) ?_
  assumption

theorem State.queueFull_kept (s : State) (ms : FMaster) (hP : Sub 67108864 P) (hk0 : Kept P R o s) : Kept P R o
    (State.queueFull s ms) := by
  delta State.queueFull
  refine State.raise_kept _ _ _ _ _ _ (.of rfl hP) ?_
  assumption

theorem State.dequeue_kept (s : State) (drop : Action → Bool) (hP : Sub 1024 P) (hk0 : Kept P R o s) : Kept P R o
    (State.dequeue s drop) := by
  delta State.dequeue
  refine kept_step (s) _ (hP.bit rfl) ?_
  assumption

theorem State.pfWord_kept (s : State) (kind : Nat) (ws : List Nat) (hP : Sub 68719476736 P) (hR : Sub
    0x200000000000000000000000000000000000 R) (hk0 : Kept P R o s) : Kept P R o (State.pfWord s kind ws) := by
  delta State.pfWord
  extract_lets +onlyGivenNames -underBinder -merge v1
  clear_value v1
  extract_lets +onlyGivenNames -underBinder -merge v2
  clear_value v2
  extract_lets +onlyGivenNames -underBinder -merge v3
  clear_value v3
  extract_lets +onlyGivenNames -underBinder -merge v4
  clear_value v4
  extract_lets +onlyGivenNames -underBinder -merge v5
  have hv5 : Kept P R o v5 := by
    unfold v5
    refine kept_pf (s) _ (hP.bit rfl) ?_
    assumption
  clear_value v5
  extract_lets +onlyGivenNames -underBinder -merge v6
  have hv6 : Kept P R o v6 := by
    unfold v6
    refine State.put_kept _ _ _ _ (hR.bit rfl) ?_
    assumption
  clear_value v6
  refine kept_ite _ _ _ ?_ ?_
  · refine State.put_kept _ _ _ _ (hR.bit rfl) ?_
    assumption
  · assumption

theorem State.pfRecord_kept (s : State) (kind : Nat) (ws : List Nat) (hP : Sub 68719476736 P) (hR : Sub
    0x200000000000000000000000000000000000 R) (hk0 : Kept P R o s) : Kept P R o (State.pfRecord s kind ws) := by
  delta State.pfRecord
  refine kept_ite _ _ _ ?_ ?_
  · assumption
  · extract_lets +onlyGivenNames -underBinder -merge v1
    clear_value v1
    extract_lets +onlyGivenNames -underBinder -merge v2
    clear_value v2
    extract_lets +onlyGivenNames -underBinder -merge v3
    have hv3 : Kept P R o v3 := by
      unfold v3
      refine kept_ite _ _ _ ?_ ?_
      · assumption
      · refine State.pfWord_kept _ _ _ (.of rfl hP) (.of rfl hR) ?_
        refine kept_pf (s) _ (hP.bit rfl) ?_
        assumption
    clear_value v3
    refine kept_ite _ _ _ ?_ ?_
    · refine State.pfWord_kept _ _ _ (.of rfl hP) (.of rfl hR) ?_
      assumption
    · assumption

theorem State.pfTrigger_kept (s : State) (cause : Nat) (hP : Sub 68719476736 P) (hR : Sub
    0x200000000000000000000000000000000000 R) (hk0 : Kept P R o s) : Kept P R o (State.pfTrigger s cause) := by
  delta State.pfTrigger
  refine kept_ite _ _ _ ?_ ?_
  · assumption
  · extract_lets +onlyGivenNames -underBinder -merge v1
    have hv1 : Kept P R o v1 := by
      unfold v1
      refine State.put_kept _ _ _ _ (hR.bit rfl) ?_
      refine State.put_kept _ _ _ _ (hR.bit rfl) ?_
      refine State.pfRecord_kept _ _ _ (.of rfl hP) (.of rfl hR) ?_
      assumption
    clear_value v1
    refine kept_pf (v1) _ (hP.bit rfl) ?_
    assumption

theorem State.pfBaton_kept (s : State) (ack : Bool) (crcOk : Bool) (accepted : Bool) (p : BitVec 64) (crc : Nat) (hP : Sub
    68719476736 P) (hR : Sub 0x200000000000000000000000000000000000 R) (hk0 : Kept P R o s) : Kept P R o (State.pfBaton s ack crcOk accepted p crc) :=
    by
  delta State.pfBaton
  refine kept_ite _ _ _ ?_ ?_
  · assumption
  · extract_lets +onlyGivenNames -underBinder -merge v1
    clear_value v1
    extract_lets +onlyGivenNames -underBinder -merge v2
    have hv2 : Kept P R o v2 := by
      unfold v2
      refine kept_ite _ _ _ ?_ ?_
      · refine State.pfRecord_kept _ _ _ (.of rfl hP) (.of rfl hR) ?_
        assumption
      · assumption
    clear_value v2
    extract_lets +onlyGivenNames -underBinder -merge v3
    clear_value v3
    extract_lets +onlyGivenNames -underBinder -merge v4
    clear_value v4
    extract_lets +onlyGivenNames -underBinder -merge v5
    clear_value v5
    extract_lets +onlyGivenNames -underBinder -merge v6
    clear_value v6
    refine kept_ite _ _ _ ?_ ?_
    · refine State.pfTrigger_kept _ _ (.of rfl hP) (.of rfl hR) ?_
      assumption
    · assumption

theorem State.emit_kept (s : State) (p : BitVec 64) (hP : Sub 206158430208 P) (hR : Sub 0x200000000000000000000000000000000000
    R) (hk0 : Kept P R o s) : Kept P R o (State.emit s p) := by
  delta State.emit
  refine kept_ite _ _ _ ?_ ?_
  · refine State.pfBaton_kept _ _ _ _ _ _ (.of rfl hP) (.of rfl hR) ?_
    refine kept_sent (s) _ (hP.bit rfl) ?_
    assumption
  · assumption

theorem State.sendNow_kept (s : State) (typ : Nat) (body : Nat) (hP : Sub 206166818816 P) (hR : Sub
    0x200000000000000000000000000000000000 R) (hk0 : Kept P R o s) : Kept P R o (State.sendNow s typ body) := by
  delta State.sendNow
  extract_lets +onlyGivenNames -underBinder -merge v1
  clear_value v1
  extract_lets +onlyGivenNames -underBinder -merge v2
  clear_value v2
  refine State.emit_kept _ _ (.of rfl hP) (.of rfl hR) ?_
  refine kept_baton (s) _ (hP.bit rfl) ?_
  assumption

theorem State.sendAck_kept (s : State) (typ : Nat) (body : Nat) (hP : Sub 206166818816 P) (hR : Sub
    0x200000000000000000000000000000000000 R) (hk0 : Kept P R o s) : Kept P R o (State.sendAck s typ body) := by
  delta State.sendAck
  refine kept_ite _ _ _ ?_ ?_
  · assumption
  · refine kept_ite _ _ _ ?_ ?_
    · refine State.sendNow_kept _ _ _ (.of rfl hP) (.of rfl hR) ?_
      assumption
    · refine kept_baton (s) _ (hP.bit rfl) ?_
      assumption

theorem State.sendTag_kept (s : State) (tag : Nat) (typ : Nat) (body : Nat) (hP : Sub 206183596032 P) (hR : Sub
    0x200000000000000000000000000000000000 R) (hk0 : Kept P R o s) : Kept P R o (State.sendTag s tag typ body) := by
  delta State.sendTag
  refine State.modSlot_kept _ _ _ (hP.bit rfl) ?_
  refine State.sendAck_kept _ _ _ (.of rfl hP) (.of rfl hR) ?_
  assumption

theorem State.sendLink_kept (s : State) (nak : Bool) (hP : Sub 206166818816 P) (hR : Sub
    0x200000000000000000000000000000000000 R) (hk0 : Kept P R o s) : Kept P R o (State.sendLink s nak) := by
  delta State.sendLink
  extract_lets +onlyGivenNames -underBinder -merge v1
  clear_value v1
  extract_lets +onlyGivenNames -underBinder -merge v2
  clear_value v2
  refine State.emit_kept _ _ (.of rfl hP) (.of rfl hR) ?_
  refine kept_baton (s) _ (hP.bit rfl) ?_
  assumption

theorem State.ackAccept_kept (s : State) (seq : Nat) (ntype : Nat) (tag : Nat) (status : Nat) (hP : Sub 206183596032 P) (hR :
    Sub 0x200000000000000000000000000000000000 R) (hk0 : Kept P R o s) : Kept P R o (State.ackAccept s seq ntype tag status) := by
  delta State.ackAccept
  extract_lets +onlyGivenNames -underBinder -merge v1
  clear_value v1
  refine kept_ite _ _ _ ?_ ?_
  · refine State.sendAck_kept _ _ _ (.of rfl hP) (.of rfl hR) ?_
    assumption
  · refine State.sendTag_kept _ _ _ _ (.of rfl hP) (.of rfl hR) ?_
    assumption

theorem State.ackDone_kept (s : State) (tag : Nat) (status : Nat) (hP : Sub 206183596032 P) (hR : Sub
    0x200000000000000000000000000000000000 R) (hk0 : Kept P R o s) : Kept P R o (State.ackDone s tag status) := by
  delta State.ackDone
  refine State.sendTag_kept _ _ _ _ (.of rfl hP) (.of rfl hR) ?_
  assumption

theorem State.ackStretch_kept (s : State) (tag : Nat) (k : Nat) (newdue : Nat) (hP : Sub 206183596032 P) (hR : Sub
    0x200000000000000000000000000000000000 R) (hk0 : Kept P R o s) : Kept P R o (State.ackStretch s tag k newdue) := by
  delta State.ackStretch
  refine State.sendTag_kept _ _ _ _ (.of rfl hP) (.of rfl hR) ?_
  assumption

theorem State.ackDefer_kept (s : State) (tag : Nat) (cause : Nat) (gateRel : Bool) (hP : Sub 206183596032 P) (hR : Sub
    0x200000000000000000000000000000000000 R) (hk0 : Kept P R o s) : Kept P R o (State.ackDefer s tag cause gateRel) := by
  delta State.ackDefer
  refine State.sendTag_kept _ _ _ _ (.of rfl hP) (.of rfl hR) ?_
  assumption

theorem State.ackNack_kept (s : State) (seq : Nat) (ntype : Nat) (tag : Nat) (status : Nat) (ra : Nat) (hP : Sub 206166818816
    P) (hR : Sub 0x200000000000000000000000000000000000 R) (hk0 : Kept P R o s) : Kept P R o (State.ackNack s seq ntype tag status ra) := by
  delta State.ackNack
  refine State.sendAck_kept _ _ _ (.of rfl hP) (.of rfl hR) ?_
  assumption

theorem State.ackAborted_kept (s : State) (tag : Nat) (status : Nat) (hP : Sub 206183596032 P) (hR : Sub
    0x200000000000000000000000000000000000 R) (hk0 : Kept P R o s) : Kept P R o (State.ackAborted s tag status) := by
  delta State.ackAborted
  refine State.sendTag_kept _ _ _ _ (.of rfl hP) (.of rfl hR) ?_
  assumption

theorem State.ackRgnStat_kept (s : State) (n : Nat) (event : Nat) (deadline : Nat) (hP : Sub 206166818816 P) (hR : Sub
    0x200000000000000000000000000000000000 R) (hk0 : Kept P R o s) : Kept P R o (State.ackRgnStat s n event deadline) := by
  delta State.ackRgnStat
  extract_lets +onlyGivenNames -underBinder -merge v1
  clear_value v1
  refine State.sendAck_kept _ _ _ (.of rfl hP) (.of rfl hR) ?_
  assumption

theorem State.ackFloor_kept (s : State) (fp : Nat) (cause : Nat) (hP : Sub 206166818816 P) (hR : Sub
    0x200000000000000000000000000000000000 R) (hk0 : Kept P R o s) : Kept P R o (State.ackFloor s fp cause) := by
  delta State.ackFloor
  refine State.sendAck_kept _ _ _ (.of rfl hP) (.of rfl hR) ?_
  assumption

theorem State.ackState_kept (s : State) (code : Nat) (hP : Sub 206166818816 P) (hR : Sub
    0x200000000000000000000000000000000000 R) (hk0 : Kept P R o s) : Kept P R o (State.ackState s code) := by
  delta State.ackState
  refine State.sendAck_kept _ _ _ (.of rfl hP) (.of rfl hR) ?_
  assumption

/-! ### Machine/PacerOps.lean -/

theorem State.ringFix_kept (s : State) (d : Nat) (hP : Sub 33554432 P) (hk0 : Kept P R o s) : Kept P R o (State.ringFix s d)
    := by
  delta State.ringFix
  refine kept_pacer (s) _ (hP.bit rfl) ?_
  assumption

theorem State.recordTaken_kept (s : State) (ns : List Nat) (hP : Sub 8192 P) (hk0 : Kept P R o s) : Kept P R o
    (State.recordTaken s ns) := by
  delta State.recordTaken
  refine State.forEach_kept _ _ _ ?_ ?_
  · intro y1_0 y1_1 hy1_2
    refine kept_ite _ _ _ ?_ ?_
    · refine State.modRgn_kept _ _ _ (hP.bit rfl) ?_
      assumption
    · assumption
  · assumption

theorem State.applyRate_kept (s : State) (p : Pend) (hP : Sub 33562624 P) (hR : Sub
    0x100000000000000000000000000000000000000000000000 R) (hk0 : Kept P R o s) : Kept P R o (State.applyRate s p) := by
  delta State.applyRate
  extract_lets +onlyGivenNames -underBinder -merge v1
  clear_value v1
  extract_lets +onlyGivenNames -underBinder -merge v2
  clear_value v2
  extract_lets +onlyGivenNames -underBinder -merge v3
  clear_value v3
  extract_lets +onlyGivenNames -underBinder -merge v4
  have hv4 : Kept P R o v4 := by
    unfold v4
    refine kept_ite _ _ _ ?_ ?_
    · refine kept_pacer (s) _ (hP.bit rfl) ?_
      assumption
    · refine kept_pacer (s) _ (hP.bit rfl) ?_
      assumption
  clear_value v4
  refine kept_ite _ _ _ ?_ ?_
  · refine State.put_kept _ _ _ _ (hR.bit rfl) ?_
    assumption
  · refine kept_ite _ _ _ ?_ ?_
    · assumption
    · refine State.recordTaken_kept _ _ (.of rfl hP) ?_
      assumption

theorem State.openGroup_kept (s : State) (g : Nat) (due : Nat) (hP : Sub 33554432 P) (hk0 : Kept P R o s) : Kept P R o
    (State.openGroup s g due) := by
  delta State.openGroup
  refine kept_ite _ _ _ ?_ ?_
  · assumption
  · extract_lets +onlyGivenNames -underBinder -merge v1
    clear_value v1
    extract_lets +onlyGivenNames -underBinder -merge v2
    clear_value v2
    refine kept_pacer (s) _ (hP.bit rfl) ?_
    assumption

theorem State.endLift_kept (s : State) (id : Nat) (hP : Sub 33571840 P) (hk0 : Kept P R o s) : Kept P R o (State.endLift s id)
    := by
  delta State.endLift
  split
  · assumption
  · extract_lets +onlyGivenNames -underBinder -merge v1
    have hv1 : Kept P R o v1 := by
      unfold v1
      refine kept_ite _ _ _ ?_ ?_
      · refine State.forEach_kept _ _ _ ?_ ?_
        · intro y1_0 y1_1 hy1_2
          refine State.modHeat_kept _ _ _ (hP.bit rfl) ?_
          assumption
        · assumption
      · assumption
    clear_value v1
    extract_lets +onlyGivenNames -underBinder -merge v2
    have hv2 : Kept P R o v2 := by
      unfold v2
      refine State.dequeue_kept _ _ (.of rfl hP) ?_
      assumption
    clear_value v2
    refine kept_pacer (v2) _ (hP.bit rfl) ?_
    assumption

theorem State.withdrawLift_kept (s : State) (id : Nat) (hP : Sub 33571840 P) (hk0 : Kept P R o s) : Kept P R o
    (State.withdrawLift s id) := by
  delta State.withdrawLift
  split
  · assumption
  · refine kept_ite _ _ _ ?_ ?_
    · refine State.endLift_kept _ _ (.of rfl hP) ?_
      assumption
    · refine kept_step (s) _ (hP.bit rfl) ?_
      assumption

theorem State.dropLifts_kept (s : State) (ls : List Lift) (hP : Sub 33571840 P) (hk0 : Kept P R o s) : Kept P R o
    (State.dropLifts s ls) := by
  delta State.dropLifts
  refine State.forEach_kept _ _ _ ?_ ?_
  · intro y1_0 y1_1 hy1_2
    refine State.withdrawLift_kept _ _ (.of rfl hP) ?_
    assumption
  · refine kept_pacer (s) _ (hP.bit rfl) ?_
    assumption

theorem State.dropBarrier_kept (s : State) (bid : Nat) (hP : Sub 33571840 P) (hk0 : Kept P R o s) : Kept P R o
    (State.dropBarrier s bid) := by
  delta State.dropBarrier
  extract_lets +onlyGivenNames -underBinder -merge v1
  clear_value v1
  extract_lets +onlyGivenNames -underBinder -merge v2
  have hv2 : Kept P R o v2 := by
    unfold v2
    refine kept_pacer (s) _ (hP.bit rfl) ?_
    assumption
  clear_value v2
  refine State.dropLifts_kept _ _ (.of rfl hP) ?_
  assumption

/-! ### Machine/RelayOps.lean -/

theorem State.modPort_kept (s : State) (p : Nat) (g : RPort → RPort) (hP : Sub 1073741824 P) (hk0 : Kept P R o s) : Kept P R o
    (State.modPort s p g) := by
  delta State.modPort
  refine kept_relay (s) _ (hP.bit rfl) ?_
  assumption

theorem State.sendFrame_kept (s : State) (p : Nat) (t : Nat) (mseq : Nat) (body : BitVec 272) (hP : Sub 138512695296 P) (hk0 :
    Kept P R o s) : Kept P R o (State.sendFrame s p t mseq body) := by
  delta State.sendFrame
  extract_lets +onlyGivenNames -underBinder -merge v1
  clear_value v1
  split
  · assumption
  · extract_lets +onlyGivenNames -underBinder -merge v8
    have hv8 : Kept P R o v8 := by
      unfold v8
      refine State.modPort_kept _ _ _ (.of rfl hP) ?_
      assumption
    clear_value v8
    refine kept_sent (v8) _ (hP.bit rfl) ?_
    assumption

theorem State.sendMsg_kept (s : State) (p : Nat) (m : RMsg) (hP : Sub 138512695296 P) (hk0 : Kept P R o s) : Kept P R o
    (State.sendMsg s p m) := by
  delta State.sendMsg
  extract_lets +onlyGivenNames -underBinder -merge v1
  clear_value v1
  refine kept_ite _ _ _ ?_ ?_
  · extract_lets +onlyGivenNames -underBinder -merge v2
    have hv2 : Kept P R o v2 := by
      unfold v2
      refine State.modPort_kept _ _ _ (.of rfl hP) ?_
      assumption
    clear_value v2
    refine State.sendFrame_kept _ _ _ _ _ (.of rfl hP) ?_
    assumption
  · refine State.sendFrame_kept _ _ _ _ _ (.of rfl hP) ?_
    assumption

theorem State.drain_kept (p : Nat) (x0 : Nat) (x1 : State) (hP : Sub 138512695296 P) (hk0 : Kept P R o x1) : Kept P R o
    (State.drain p x0 x1) := by
  induction x0 generalizing x1 with
  | zero => exact hk0
  | succ n ih =>
    rw [State.drain]
    split
    · exact hk0
    · exact ih _ (State.sendMsg_kept _ _ _ (.of rfl hP) (State.modPort_kept _ _ _ (.of rfl hP) hk0))

theorem State.post_kept (s : State) (p : Nat) (t : Nat) (body : Nat) (hP : Sub 138512695296 P) (hk0 : Kept P R o s) : Kept P R
    o (State.post s p t body) := by
  delta State.post
  refine kept_ite _ _ _ ?_ ?_
  · extract_lets +onlyGivenNames -underBinder -merge v1
    have hv1 : Kept P R o v1 := by
      unfold v1
      refine State.modPort_kept _ _ _ (.of rfl hP) ?_
      assumption
    clear_value v1
    refine State.drain_kept _ _ _ (.of rfl hP) ?_
    assumption
  · assumption

theorem State.postUp_kept (s : State) (t : Nat) (body : Nat) (hP : Sub 138512695296 P) (hk0 : Kept P R o s) : Kept P R o
    (State.postUp s t body) := by
  delta State.postUp
  refine kept_ite _ _ _ ?_ ?_
  · refine State.post_kept _ _ _ _ (.of rfl hP) ?_
    assumption
  · assumption

theorem State.postDown_kept (s : State) (t : Nat) (body : Nat) (hP : Sub 138512695296 P) (hk0 : Kept P R o s) : Kept P R o
    (State.postDown s t body) := by
  delta State.postDown
  refine State.forEach_kept _ _ _ ?_ ?_
  · intro y1_0 y1_1 hy1_2
    refine State.post_kept _ _ _ _ (.of rfl hP) ?_
    assumption
  · assumption

theorem State.takeOrder_kept (s : State) (step : Nat) (level : Nat) (serial : Nat) (hP : Sub 138579805184 P) (hR : Sub
    0x4000000000000 R) (hk0 : Kept P R o s) : Kept P R o (State.takeOrder s step level serial) := by
  delta State.takeOrder
  extract_lets +onlyGivenNames -underBinder -merge v1
  have hv1 : Kept P R o v1 := by
    unfold v1
    refine kept_ite _ _ _ ?_ ?_
    · refine State.raise_kept _ _ _ _ _ _ (.of rfl hP) ?_
      refine State.put_kept _ _ _ _ (hR.bit rfl) ?_
      assumption
    · assumption
  clear_value v1
  refine kept_ite _ _ _ ?_ ?_
  · refine State.enqueue_kept _ _ _ (.of rfl hP) ?_
    assumption
  · extract_lets +onlyGivenNames -underBinder -merge v2
    have hv2 : Kept P R o v2 := by
      unfold v2
      refine State.queueFull_kept _ _ (.of rfl hP) ?_
      assumption
    clear_value v2
    refine kept_ite _ _ _ ?_ ?_
    · refine kept_relay (v2) _ (hP.bit rfl) ?_
      assumption
    · refine State.postUp_kept _ _ _ (.of rfl hP) ?_
      assumption

theorem State.sendOrder_kept (s : State) (step : Nat) (level : Nat) (hP : Sub 138579805184 P) (hR : Sub 0x4000000000000 R)
    (hk0 : Kept P R o s) : Kept P R o (State.sendOrder s step level) := by
  delta State.sendOrder
  extract_lets +onlyGivenNames -underBinder -merge v1
  clear_value v1
  extract_lets +onlyGivenNames -underBinder -merge v2
  clear_value v2
  extract_lets +onlyGivenNames -underBinder -merge v3
  clear_value v3
  extract_lets +onlyGivenNames -underBinder -merge v4
  clear_value v4
  extract_lets +onlyGivenNames -underBinder -merge v5
  clear_value v5
  extract_lets +onlyGivenNames -underBinder -merge v6
  have hv6 : Kept P R o v6 := by
    unfold v6
    refine kept_relay (s) _ (hP.bit rfl) ?_
    assumption
  clear_value v6
  refine State.takeOrder_kept _ _ _ _ (.of rfl hP) (.of rfl hR) ?_
  refine State.postDown_kept _ _ _ (.of rfl hP) ?_
  assumption

theorem State.masterOrders_kept (s : State) (step : Nat) (hP : Sub 138579805184 P) (hR : Sub 0x4000000000000 R) (hk0 : Kept P
    R o s) : Kept P R o (State.masterOrders s step) := by
  delta State.masterOrders
  refine State.forEach_kept _ _ _ ?_ ?_
  · intro y1_0 y1_1 hy1_2
    extract_lets +onlyGivenNames -underBinder -merge v1
    clear_value v1
    refine kept_ite _ _ _ ?_ ?_
    · assumption
    · refine State.sendOrder_kept _ _ _ (.of rfl hP) (.of rfl hR) ?_
      assumption
  · assumption

theorem State.memberRequests_kept (s : State) (src : Nat) (step : Nat) (hP : Sub 138512695296 P) (hk0 : Kept P R o s) : Kept P
    R o (State.memberRequests s src step) := by
  delta State.memberRequests
  refine State.forEach_kept _ _ _ ?_ ?_
  · intro y1_0 y1_1 hy1_2
    extract_lets +onlyGivenNames -underBinder -merge v1
    clear_value v1
    extract_lets +onlyGivenNames -underBinder -merge v2
    clear_value v2
    refine kept_ite _ _ _ ?_ ?_
    · assumption
    · extract_lets +onlyGivenNames -underBinder -merge v3
      clear_value v3
      refine State.postUp_kept _ _ _ (.of rfl hP) ?_
      refine kept_relay (y1_0) _ (hP.bit rfl) ?_
      assumption
  · assumption

theorem State.recordReq_kept (s : State) (p : Nat) (src : Nat) (step : Nat) (level : Nat) (hP : Sub 138579805184 P) (hR : Sub
    0x4000000000000 R) (hk0 : Kept P R o s) : Kept P R o (State.recordReq s p src step level) := by
  delta State.recordReq
  extract_lets +onlyGivenNames -underBinder -merge v1
  clear_value v1
  extract_lets +onlyGivenNames -underBinder -merge v2
  clear_value v2
  extract_lets +onlyGivenNames -underBinder -merge v3
  clear_value v3
  extract_lets +onlyGivenNames -underBinder -merge v4
  clear_value v4
  extract_lets +onlyGivenNames -underBinder -merge v5
  have hv5 : Kept P R o v5 := by
    unfold v5
    refine kept_relay (s) _ (hP.bit rfl) ?_
    assumption
  clear_value v5
  refine kept_ite _ _ _ ?_ ?_
  · refine State.masterOrders_kept _ _ (.of rfl hP) (.of rfl hR) ?_
    assumption
  · refine State.memberRequests_kept _ _ _ (.of rfl hP) ?_
    assumption

theorem State.requestLevel_kept (s : State) (src : StrSrc) (step : Nat) (level : Nat) (hP : Sub 138579805184 P) (hR : Sub
    0x4000000000000 R) (hk0 : Kept P R o s) : Kept P R o (State.requestLevel s src step level) := by
  delta State.requestLevel
  refine State.recordReq_kept _ _ _ _ _ (.of rfl hP) (.of rfl hR) ?_
  assumption

theorem State.orderEmerg_kept (s : State) (kind : Nat) (cause : Nat) (step : Nat) (hP : Sub 138512695296 P) (hk0 : Kept P R o
    s) : Kept P R o (State.orderEmerg s kind cause step) := by
  delta State.orderEmerg
  extract_lets +onlyGivenNames -underBinder -merge v1
  clear_value v1
  refine State.postDown_kept _ _ _ (.of rfl hP) ?_
  refine kept_relay (s) _ (hP.bit rfl) ?_
  assumption

theorem State.masterEmerg_kept (s : State) (origin : Nat) (causes : Nat) (phase : Nat) (step : Nat) (hP : Sub 138646913024 P)
    (hk0 : Kept P R o s) : Kept P R o (State.masterEmerg s origin causes phase step) := by
  delta State.masterEmerg
  extract_lets +onlyGivenNames -underBinder -merge v1
  clear_value v1
  extract_lets +onlyGivenNames -underBinder -merge v2
  clear_value v2
  split
  · extract_lets +onlyGivenNames -underBinder -merge v3
    have hv3 : Kept P R o v3 := by
      unfold v3
      refine kept_relay (s) _ (hP.bit rfl) ?_
      assumption
    clear_value v3
    refine kept_ite _ _ _ ?_ ?_
    · assumption
    · refine State.orderEmerg_kept _ _ _ _ (.of rfl hP) ?_
      assumption
  · extract_lets +onlyGivenNames -underBinder -merge v3
    have hv3 : Kept P R o v3 := by
      unfold v3
      refine kept_relay (s) _ (hP.bit rfl) ?_
      assumption
    clear_value v3
    refine kept_ite _ _ _ ?_ ?_
    · extract_lets +onlyGivenNames -underBinder -merge v4
      clear_value v4
      extract_lets +onlyGivenNames -underBinder -merge v5
      clear_value v5
      extract_lets +onlyGivenNames -underBinder -merge v6
      have hv6 : Kept P R o v6 := by
        unfold v6
        refine kept_upd (v3) _ 1207959552 rfl ⟨[], (List.append_nil _).symm⟩ rfl (by intro p hp; cases p <;> first | rfl | cases hp) (.of rfl hP) ?_
        assumption
      clear_value v6
      refine State.orderEmerg_kept _ _ _ _ (.of rfl hP) ?_
      assumption
    · assumption
  · extract_lets +onlyGivenNames -underBinder -merge v3
    clear_value v3
    extract_lets +onlyGivenNames -underBinder -merge v4
    have hv4 : Kept P R o v4 := by
      unfold v4
      refine kept_relay (s) _ (hP.bit rfl) ?_
      assumption
    clear_value v4
    extract_lets +onlyGivenNames -underBinder -merge v5
    clear_value v5
    refine kept_ite _ _ _ ?_ ?_
    · extract_lets +onlyGivenNames -underBinder -merge v6
      clear_value v6
      extract_lets +onlyGivenNames -underBinder -merge v7
      clear_value v7
      extract_lets +onlyGivenNames -underBinder -merge v8
      clear_value v8
      extract_lets +onlyGivenNames -underBinder -merge v9
      have hv9 : Kept P R o v9 := by
        unfold v9
        refine kept_upd (v4) _ 1207959552 rfl ⟨[], (List.append_nil _).symm⟩ rfl (by intro p hp; cases p <;> first | rfl | cases hp) (.of rfl hP) ?_
        assumption
      clear_value v9
      refine State.orderEmerg_kept _ _ _ _ (.of rfl hP) ?_
      assumption
    · assumption

theorem State.reportEmerg_kept (s : State) (causes : Nat) (phase : Nat) (hP : Sub 138646913024 P) (hk0 : Kept P R o s) : Kept
    P R o (State.reportEmerg s causes phase) := by
  delta State.reportEmerg
  refine kept_ite _ _ _ ?_ ?_
  · assumption
  · refine kept_ite _ _ _ ?_ ?_
    · refine State.masterEmerg_kept _ _ _ _ _ (.of rfl hP) ?_
      assumption
    · refine State.postUp_kept _ _ _ (.of rfl hP) ?_
      assumption

theorem State.masterDelay_kept (s : State) (rel : Nat) (k : Nat) (hP : Sub 138512695296 P) (hk0 : Kept P R o s) : Kept P R o
    (State.masterDelay s rel k).1 := by
  delta State.masterDelay
  extract_lets +onlyGivenNames -underBinder -merge v1
  clear_value v1
  refine kept_ite_fst _ _ _ ?_ ?_
  · refine kept_pair _ _ ?_
    assumption
  · extract_lets +onlyGivenNames -underBinder -merge v2
    clear_value v2
    refine kept_pair _ _ ?_
    refine State.postDown_kept _ _ _ (.of rfl hP) ?_
    refine kept_relay (s) _ (hP.bit rfl) ?_
    assumption

/-! ### Machine/RegionOps.lean -/

theorem State.releaseHold_kept (s : State) (tag : Nat) (hP : Sub 16778240 P) (hk0 : Kept P R o s) : Kept P R o
    (State.releaseHold s tag) := by
  delta State.releaseHold
  refine kept_ite _ _ _ ?_ ?_
  · extract_lets +onlyGivenNames -underBinder -merge v1
    have hv1 : Kept P R o v1 := by
      unfold v1
      refine State.modSlot_kept _ _ _ (hP.bit rfl) ?_
      assumption
    clear_value v1
    refine kept_step (v1) _ (hP.bit rfl) ?_
    assumption
  · assumption

theorem State.endSlot_kept (s : State) (tag : Nat) (status : Nat) (hP : Sub 206183597056 P) (hR : Sub
    0x200000000000000000000000000000000000 R) (hk0 : Kept P R o s) : Kept P R o (State.endSlot s tag status) := by
  delta State.endSlot
  extract_lets +onlyGivenNames -underBinder -merge v1
  have hv1 : Kept P R o v1 := by
    unfold v1
    refine State.releaseHold_kept _ _ (.of rfl hP) ?_
    assumption
  clear_value v1
  refine kept_ite _ _ _ ?_ ?_
  · refine State.modSlot_kept _ _ _ (hP.bit rfl) ?_
    assumption
  · refine State.ackDone_kept _ _ _ (.of rfl hP) (.of rfl hR) ?_
    refine State.modSlot_kept _ _ _ (hP.bit rfl) ?_
    assumption

theorem State.loseTargets_kept (s : State) (n : Nat) (hP : Sub 206183597056 P) (hR : Sub
    0x200000000000000000000000000000000000 R) (hk0 : Kept P R o s) : Kept P R o (State.loseTargets s n) := by
  delta State.loseTargets
  refine State.forEach_kept _ _ _ ?_ ?_
  · intro y1_0 y1_1 hy1_2
    refine kept_ite _ _ _ ?_ ?_
    · refine State.endSlot_kept _ _ _ (.of rfl hP) (.of rfl hR) ?_
      assumption
    · assumption
  · assumption

theorem State.lanesOff_kept (s : State) (n : Nat) (hP : Sub 4096 P) (hk0 : Kept P R o s) : Kept P R o (State.lanesOff s n) :=
    by
  delta State.lanesOff
  refine State.forEach_kept _ _ _ ?_ ?_
  · intro y1_0 y1_1 hy1_2
    refine State.modLane_kept _ _ _ (hP.bit rfl) ?_
    assumption
  · assumption

theorem State.leaveBurst_kept (s : State) (h1 : Nat) (hP : Sub 20480 P) (hk0 : Kept P R o s) : Kept P R o (State.leaveBurst s
    h1) := by
  delta State.leaveBurst
  refine kept_ite _ _ _ ?_ ?_
  · extract_lets +onlyGivenNames -underBinder -merge v1
    have hv1 : Kept P R o v1 := by
      unfold v1
      refine State.forEach_kept _ _ _ ?_ ?_
      · intro y1_0 y1_1 hy1_2
        refine State.forEach_kept _ _ _ ?_ ?_
        · intro y1_0 y1_1 hy1_2
          refine State.modLane_kept _ _ _ (hP.bit rfl) ?_
          assumption
        · assumption
      · assumption
    clear_value v1
    refine State.modHeat_kept _ _ _ (hP.bit rfl) ?_
    assumption
  · assumption

theorem State.inherit_kept (s : State) (old : Tbl Nat) (hP : Sub 16384 P) (hk0 : Kept P R o s) : Kept P R o (State.inherit s
    old) := by
  delta State.inherit
  extract_lets +onlyGivenNames -underBinder -merge v1
  clear_value v1
  refine State.forEach_kept _ _ _ ?_ ?_
  · intro y1_0 y1_1 hy1_2
    split
    · assumption
    · refine State.modHeat_kept _ _ _ (hP.bit rfl) ?_
      assumption
  · assumption

theorem State.openGates_kept (s : State) (gs : List Nat) (hP : Sub 122880 P) (hk0 : Kept P R o s) : Kept P R o
    (State.openGates s gs) := by
  delta State.openGates
  extract_lets +onlyGivenNames -underBinder -merge v1
  have hv1 : Kept P R o v1 := by
    unfold v1
    refine State.forEach_kept _ _ _ ?_ ?_
    · intro y1_0 y1_1 hy1_2
      refine State.setGate_kept _ _ _ (hP.bit rfl) ?_
      assumption
    · assumption
  clear_value v1
  extract_lets +onlyGivenNames -underBinder -merge v2
  have hv2 : Kept P R o v2 := by
    unfold v2
    refine State.inherit_kept _ _ (.of rfl hP) ?_
    refine State.recompute_kept _ (hP.bit rfl) ?_
    assumption
  clear_value v2
  refine State.forEach_kept _ _ _ ?_ ?_
  · intro y1_0 y1_1 hy1_2
    split
    · refine State.forEach_kept _ _ _ ?_ ?_
      · intro y1_0 y1_1 hy1_2
        refine State.modRgn_kept _ _ _ (hP.bit rfl) ?_
        assumption
      · assumption
    · assumption
  · assumption

theorem State.degradedEvt_kept (s : State) (n : Nat) (hP : Sub 206233927680 P) (hR : Sub
    0x10000200000000000000000000000000000000000 R) (hk0 : Kept P R o s) : Kept P R o (State.degradedEvt s n) := by
  delta State.degradedEvt
  refine State.ackRgnStat_kept _ _ _ _ (.of rfl hP) (.of rfl hR) ?_
  refine State.rgnEvt_kept _ _ _ _ (hR.bit rfl) (.of rfl hP) ?_
  assumption

theorem State.settle_kept (s : State) (n : Nat) (st : RgnState) (hP : Sub 206233935872 P) (hR : Sub
    0x10000200000000000000000000000000000000000 R) (hk0 : Kept P R o s) : Kept P R o (State.settle s n st) := by
  delta State.settle
  extract_lets +onlyGivenNames -underBinder -merge v1
  clear_value v1
  extract_lets +onlyGivenNames -underBinder -merge v2
  have hv2 : Kept P R o v2 := by
    unfold v2
    refine State.modRgn_kept _ _ _ (hP.bit rfl) ?_
    assumption
  clear_value v2
  refine kept_ite _ _ _ ?_ ?_
  · refine State.degradedEvt_kept _ _ (.of rfl hP) (.of rfl hR) ?_
    assumption
  · assumption

theorem State.mergeEnded_kept (s : State) (n : Nat) (hP : Sub 206233935872 P) (hR : Sub
    0x10000200000000000000000000000000000000000 R) (hk0 : Kept P R o s) : Kept P R o (State.mergeEnded s n) := by
  delta State.mergeEnded
  refine kept_ite _ _ _ ?_ ?_
  · refine State.settle_kept _ _ _ (.of rfl hP) (.of rfl hR) ?_
    assumption
  · assumption

theorem State.result_kept (s : State) (o1 : MergeOrigin) (code : Nat) (hR : Sub 0x40000000000000000000000000000000000000 R)
    (hk0 : Kept P R o s) : Kept P R o (State.result s o1 code) := by
  delta State.result
  split
  · refine State.put_kept _ _ _ _ (hR.bit rfl) ?_
    assumption
  · assumption

theorem State.endMerge_kept (s : State) (x : PMerge) (code : Nat) (hP : Sub 206234066944 P) (hR : Sub
    0x10040200000000000000000000000000000000000 R) (hk0 : Kept P R o s) : Kept P R o (State.endMerge s x code) := by
  delta State.endMerge
  extract_lets +onlyGivenNames -underBinder -merge v1
  have hv1 : Kept P R o v1 := by
    unfold v1
    refine State.result_kept _ _ _ (.of rfl hR) ?_
    refine kept_merges (s) _ (hP.bit rfl) ?_
    assumption
  clear_value v1
  split
  · refine State.mergeEnded_kept _ _ (.of rfl hP) (.of rfl hR) ?_
    refine State.mergeEnded_kept _ _ (.of rfl hP) (.of rfl hR) ?_
    assumption
  · assumption

theorem State.refuseMerges_kept (s : State) (n : Nat) (hP : Sub 206234066944 P) (hR : Sub
    0x10040200000000000000000000000000000000000 R) (hk0 : Kept P R o s) : Kept P R o (State.refuseMerges s n) := by
  delta State.refuseMerges
  refine State.forEach_kept _ _ _ ?_ ?_
  · intro y1_0 y1_1 hy1_2
    refine State.endMerge_kept _ _ _ (.of rfl hP) (.of rfl hR) ?_
    assumption
  · assumption

theorem State.goDark_kept (s : State) (n : Nat) (cause : Nat) (hP : Sub 206250849280 P) (hR : Sub
    0x10040200000000000000000000000000000000000 R) (hk0 : Kept P R o s) : Kept P R o (State.goDark s n cause) := by
  delta State.goDark
  extract_lets +onlyGivenNames -underBinder -merge v1
  have hv1 : Kept P R o v1 := by
    unfold v1
    refine State.modRgn_kept _ _ _ (hP.bit rfl) ?_
    refine State.lanesOff_kept _ _ (.of rfl hP) ?_
    assumption
  clear_value v1
  refine State.ackRgnStat_kept _ _ _ _ (.of rfl hP) (.of rfl hR) ?_
  refine State.rgnEvt_kept _ _ _ _ (hR.bit rfl) (.of rfl hP) ?_
  refine State.refuseMerges_kept _ _ (.of rfl hP) (.of rfl hR) ?_
  refine State.loseTargets_kept _ _ (.of rfl hP) (.of rfl hR) ?_
  assumption

theorem State.startHeat_kept (s : State) (n : Nat) (hP : Sub 24576 P) (hk0 : Kept P R o s) : Kept P R o (State.startHeat s n)
    := by
  delta State.startHeat
  refine State.modRgn_kept _ _ _ (hP.bit rfl) ?_
  refine State.modHeat_kept _ _ _ (hP.bit rfl) ?_
  assumption

theorem State.beginAttempt_kept (s : State) (n : Nat) (byStart : Bool) (hP : Sub 206183621632 P) (hR : Sub
    0x200000000000000000000000000000000000 R) (hk0 : Kept P R o s) : Kept P R o (State.beginAttempt s n byStart) := by
  delta State.beginAttempt
  refine State.loseTargets_kept _ _ (.of rfl hP) (.of rfl hR) ?_
  refine State.modRgn_kept _ _ _ (hP.bit rfl) ?_
  refine State.startHeat_kept _ _ (.of rfl hP) ?_
  assumption

theorem State.failAttempt_kept (s : State) (n : Nat) (cause : Nat) (hP : Sub 206250865664 P) (hR : Sub
    0x10040200000000000000000000000000000000000 R) (hk0 : Kept P R o s) : Kept P R o (State.failAttempt s n cause) := by
  delta State.failAttempt
  extract_lets +onlyGivenNames -underBinder -merge v1
  clear_value v1
  refine kept_ite _ _ _ ?_ ?_
  · refine State.goDark_kept _ _ _ (.of rfl hP) (.of rfl hR) ?_
    refine State.modRgn_kept _ _ _ (hP.bit rfl) ?_
    assumption
  · extract_lets +onlyGivenNames -underBinder -merge v2
    have hv2 : Kept P R o v2 := by
      unfold v2
      refine State.modRgn_kept _ _ _ (hP.bit rfl) ?_
      refine State.startHeat_kept _ _ (.of rfl hP) ?_
      refine State.lanesOff_kept _ _ (.of rfl hP) ?_
      assumption
    clear_value v2
    refine State.refuseMerges_kept _ _ (.of rfl hP) (.of rfl hR) ?_
    refine State.loseTargets_kept _ _ (.of rfl hP) (.of rfl hR) ?_
    assumption

theorem State.islandEntry_kept (s : State) (n : Nat) (hP : Sub 206233935872 P) (hR : Sub
    0x10000200000000000000000000000000000000000 R) (hk0 : Kept P R o s) : Kept P R o (State.islandEntry s n) := by
  delta State.islandEntry
  extract_lets +onlyGivenNames -underBinder -merge v1
  have hv1 : Kept P R o v1 := by
    unfold v1
    refine State.modRgn_kept _ _ _ (hP.bit rfl) ?_
    assumption
  clear_value v1
  refine State.settle_kept _ _ _ (.of rfl hP) (.of rfl hR) ?_
  assumption

theorem State.loseRegulation_kept (s : State) (n : Nat) (cause : Nat) (hP : Sub 206250865664 P) (hR : Sub
    0x10040200000000000000000000000000000000000 R) (hk0 : Kept P R o s) : Kept P R o (State.loseRegulation s n cause) := by
  delta State.loseRegulation
  refine State.ackRgnStat_kept _ _ _ _ (.of rfl hP) (.of rfl hR) ?_
  refine State.rgnEvt_kept _ _ _ _ (hR.bit rfl) (.of rfl hP) ?_
  refine State.failAttempt_kept _ _ _ (.of rfl hP) (.of rfl hR) ?_
  assumption

theorem State.emergOpen_kept (s : State) (gs : List Nat) (hP : Sub 67231744 P) (hR : Sub
    0x10000000000000000000000000000000000000000 R) (hk0 : Kept P R o s) : Kept P R o (State.emergOpen s gs) := by
  delta State.emergOpen
  extract_lets +onlyGivenNames -underBinder -merge v1
  clear_value v1
  refine State.openGates_kept _ _ (.of rfl hP) ?_
  refine State.forEach_kept _ _ _ ?_ ?_
  · intro y1_0 y1_1 hy1_2
    refine State.rgnEvt_kept _ _ _ _ (hR.bit rfl) (.of rfl hP) ?_
    assumption
  · assumption

theorem State.join_kept (s : State) (ha : Nat) (hb : Nat) (g : Nat) (hP : Sub 33681408 P) (hk0 : Kept P R o s) : Kept P R o
    (State.join s ha hb g) := by
  delta State.join
  extract_lets +onlyGivenNames -underBinder -merge v1
  clear_value v1
  extract_lets +onlyGivenNames -underBinder -merge v2
  clear_value v2
  extract_lets +onlyGivenNames -underBinder -merge v3
  clear_value v3
  extract_lets +onlyGivenNames -underBinder -merge v4
  clear_value v4
  extract_lets +onlyGivenNames -underBinder -merge v5
  clear_value v5
  extract_lets +onlyGivenNames -underBinder -merge v6
  clear_value v6
  extract_lets +onlyGivenNames -underBinder -merge v7
  clear_value v7
  extract_lets +onlyGivenNames -underBinder -merge v8
  have hv8 : Kept P R o v8 := by
    unfold v8
    refine State.leaveBurst_kept _ _ (.of rfl hP) ?_
    refine State.leaveBurst_kept _ _ (.of rfl hP) ?_
    assumption
  clear_value v8
  extract_lets +onlyGivenNames -underBinder -merge v9
  have hv9 : Kept P R o v9 := by
    unfold v9
    refine State.recompute_kept _ (hP.bit rfl) ?_
    refine State.setGate_kept _ _ _ (hP.bit rfl) ?_
    assumption
  clear_value v9
  extract_lets +onlyGivenNames -underBinder -merge v10
  clear_value v10
  extract_lets +onlyGivenNames -underBinder -merge v11
  clear_value v11
  extract_lets +onlyGivenNames -underBinder -merge v12
  clear_value v12
  extract_lets +onlyGivenNames -underBinder -merge v13
  have hv13 : Kept P R o v13 := by
    unfold v13
    refine State.modHeat_kept _ _ _ (hP.bit rfl) ?_
    refine State.modHeat_kept _ _ _ (hP.bit rfl) ?_
    assumption
  clear_value v13
  extract_lets +onlyGivenNames -underBinder -merge v14
  have hv14 : Kept P R o v14 := by
    unfold v14
    refine State.forEach_kept _ _ _ ?_ ?_
    · intro y1_0 y1_1 hy1_2
      refine State.modRgn_kept _ _ _ (hP.bit rfl) ?_
      assumption
    · assumption
  clear_value v14
  extract_lets +onlyGivenNames -underBinder -merge v15
  clear_value v15
  refine kept_pacer (v14) _ (hP.bit rfl) ?_
  assumption

theorem State.closeGate_kept (s : State) (x : PMerge) (forced : Bool) (hP : Sub 206267740160 P) (hR : Sub
    0x10040200000000000000000000000000000000000 R) (hk0 : Kept P R o s) : Kept P R o (State.closeGate s x forced) := by
  delta State.closeGate
  split
  · refine State.endMerge_kept _ _ _ (.of rfl hP) (.of rfl hR) ?_
    assumption
  · extract_lets +onlyGivenNames -underBinder -merge v1
    clear_value v1
    extract_lets +onlyGivenNames -underBinder -merge v2
    clear_value v2
    extract_lets +onlyGivenNames -underBinder -merge v3
    have hv3 : Kept P R o v3 := by
      unfold v3
      refine kept_ite _ _ _ ?_ ?_
      · refine State.setGate_kept _ _ _ (hP.bit rfl) ?_
        assumption
      · refine State.join_kept _ _ _ _ (.of rfl hP) ?_
        assumption
    clear_value v3
    extract_lets +onlyGivenNames -underBinder -merge v4
    have hv4 : Kept P R o v4 := by
      unfold v4
      split
      · refine State.rgnEvt_kept _ _ _ _ (hR.bit rfl) (.of rfl hP) ?_
        assumption
      · assumption
    clear_value v4
    refine State.endMerge_kept _ _ _ (.of rfl hP) (.of rfl hR) ?_
    assumption

theorem State.setMerge_kept (s : State) (x : PMerge) (hP : Sub 131072 P) (hk0 : Kept P R o s) : Kept P R o (State.setMerge s
    x) := by
  delta State.setMerge
  refine kept_merges (s) _ (hP.bit rfl) ?_
  assumption

theorem State.judgeClose_kept (s : State) (x : PMerge) (defer : Bool) (hP : Sub 206267740160 P) (hR : Sub
    0x10040200000000000000000000000000000000000 R) (hk0 : Kept P R o s) : Kept P R o (State.judgeClose s x defer) := by
  delta State.judgeClose
  split
  · refine State.endMerge_kept _ _ _ (.of rfl hP) (.of rfl hR) ?_
    assumption
  · refine kept_ite _ _ _ ?_ ?_
    · refine State.endMerge_kept _ _ _ (.of rfl hP) (.of rfl hR) ?_
      assumption
    · refine kept_ite _ _ _ ?_ ?_
      · assumption
      · extract_lets +onlyGivenNames -underBinder -merge v1
        clear_value v1
        extract_lets +onlyGivenNames -underBinder -merge v2
        clear_value v2
        extract_lets +onlyGivenNames -underBinder -merge v3
        clear_value v3
        extract_lets +onlyGivenNames -underBinder -merge v4
        clear_value v4
        extract_lets +onlyGivenNames -underBinder -merge v5
        clear_value v5
        extract_lets +onlyGivenNames -underBinder -merge v6
        clear_value v6
        extract_lets +onlyGivenNames -underBinder -merge v7
        clear_value v7
        extract_lets +onlyGivenNames -underBinder -merge v8
        clear_value v8
        refine kept_ite _ _ _ ?_ ?_
        · refine State.closeGate_kept _ _ _ (.of rfl hP) (.of rfl hR) ?_
          assumption
        · extract_lets +onlyGivenNames -underBinder -merge v9
          clear_value v9
          refine State.result_kept _ _ _ (.of rfl hR) ?_
          refine State.setMerge_kept _ _ (.of rfl hP) ?_
          assumption

theorem State.closeDue_kept (s : State) (g : Nat) (o1 : MergeOrigin) (hP : Sub 139264 P) (hR : Sub
    0x40000000000000000000000000000000000000 R) (hk0 : Kept P R o s) : Kept P R o (State.closeDue s g o1) := by
  delta State.closeDue
  split
  · refine State.result_kept _ _ _ (.of rfl hR) ?_
    assumption
  · refine kept_ite _ _ _ ?_ ?_
    · refine State.result_kept _ _ _ (.of rfl hR) ?_
      assumption
    · refine kept_ite _ _ _ ?_ ?_
      · refine State.result_kept _ _ _ (.of rfl hR) ?_
        assumption
      · extract_lets +onlyGivenNames -underBinder -merge v1
        have hv1 : Kept P R o v1 := by
          unfold v1
          refine State.forEach_kept _ _ _ ?_ ?_
          · intro y1_0 y1_1 hy1_2
            refine State.modRgn_kept _ _ _ (hP.bit rfl) ?_
            assumption
          · assumption
        clear_value v1
        extract_lets +onlyGivenNames -underBinder -merge v2
        clear_value v2
        refine kept_merges (v1) _ (hP.bit rfl) ?_
        assumption

theorem State.openExec_kept (s : State) (g : Nat) (hP : Sub 122880 P) (hk0 : Kept P R o s) : Kept P R o (State.openExec s g)
    := by
  delta State.openExec
  split
  · assumption
  · extract_lets +onlyGivenNames -underBinder -merge v1
    clear_value v1
    extract_lets +onlyGivenNames -underBinder -merge v2
    clear_value v2
    extract_lets +onlyGivenNames -underBinder -merge v3
    have hv3 : Kept P R o v3 := by
      unfold v3
      refine State.openGates_kept _ _ (.of rfl hP) ?_
      assumption
    clear_value v3
    refine kept_ite _ _ _ ?_ ?_
    · assumption
    · refine State.forEach_kept _ _ _ ?_ ?_
      · intro y1_0 y1_1 hy1_2
        extract_lets +onlyGivenNames -underBinder -merge v4
        clear_value v4
        refine kept_ite _ _ _ ?_ ?_
        · refine State.modHeat_kept _ _ _ (hP.bit rfl) ?_
          assumption
        · extract_lets +onlyGivenNames -underBinder -merge v5
          clear_value v5
          refine State.modHeat_kept _ _ _ (hP.bit rfl) ?_
          assumption
      · assumption

theorem State.judgeOpen_kept (s : State) (x : PMerge) (hP : Sub 206234181632 P) (hR : Sub
    0x10040200000000000000000000000000000000000 R) (hk0 : Kept P R o s) : Kept P R o (State.judgeOpen s x) := by
  delta State.judgeOpen
  split
  · refine State.endMerge_kept _ _ _ (.of rfl hP) (.of rfl hR) ?_
    assumption
  · refine kept_ite _ _ _ ?_ ?_
    · refine State.endMerge_kept _ _ _ (.of rfl hP) (.of rfl hR) ?_
      assumption
    · refine kept_ite _ _ _ ?_ ?_
      · refine State.endMerge_kept _ _ _ (.of rfl hP) (.of rfl hR) ?_
        assumption
      · refine kept_ite _ _ _ ?_ ?_
        · assumption
        · refine kept_ite _ _ _ ?_ ?_
          · extract_lets +onlyGivenNames -underBinder -merge v1
            clear_value v1
            refine State.result_kept _ _ _ (.of rfl hR) ?_
            refine State.setMerge_kept _ _ (.of rfl hP) ?_
            assumption
          · refine State.endMerge_kept _ _ _ (.of rfl hP) (.of rfl hR) ?_
            refine State.openExec_kept _ _ (.of rfl hP) ?_
            assumption

theorem State.openDue_kept (s : State) (g : Nat) (o1 : MergeOrigin) (hP : Sub 131072 P) (hR : Sub
    0x40000000000000000000000000000000000000 R) (hk0 : Kept P R o s) : Kept P R o (State.openDue s g o1) := by
  delta State.openDue
  split
  · refine State.result_kept _ _ _ (.of rfl hR) ?_
    assumption
  · refine kept_ite _ _ _ ?_ ?_
    · refine State.result_kept _ _ _ (.of rfl hR) ?_
      assumption
    · refine kept_ite _ _ _ ?_ ?_
      · refine State.result_kept _ _ _ (.of rfl hR) ?_
        assumption
      · refine kept_merges (s) _ (hP.bit rfl) ?_
        assumption

theorem State.orderMergeStretch_kept (s : State) (d : Nat) (f : Nat) (hP : Sub 138714022912 P) (hR : Sub 0x4000000000000 R)
    (hk0 : Kept P R o s) : KeptO P R o (State.orderMergeStretch s d f) := by
  delta State.orderMergeStretch
  extract_lets +onlyGivenNames -underBinder -merge v1
  clear_value v1
  extract_lets +onlyGivenNames -underBinder -merge v2
  clear_value v2
  refine keptO_ite _ _ _ ?_ ?_
  · extract_lets +onlyGivenNames -underBinder -merge v3
    clear_value v3
    extract_lets +onlyGivenNames -underBinder -merge v4
    clear_value v4
    extract_lets +onlyGivenNames -underBinder -merge v5
    clear_value v5
    refine (KeptO_some _).mpr ?_
    refine State.forEach_kept _ _ _ ?_ ?_
    · intro y1_0 y1_1 hy1_2
      refine State.requestLevel_kept _ _ _ _ (.of rfl hP) (.of rfl hR) ?_
      assumption
    · refine kept_lim (s) _ (hP.bit rfl) ?_
      assumption
  · refine keptO_ite _ _ _ ?_ ?_
    · refine (KeptO_some _).mpr ?_
      refine State.enqueue_kept _ _ _ (.of rfl hP) ?_
      assumption
    · trivial

theorem State.scheduleRescue_kept (s : State) (n : Nat) (g : Nat) (hP : Sub 138714031104 P) (hR : Sub 0x4000000000000 R) (hk0
    : Kept P R o s) : Kept P R o (State.scheduleRescue s n g) := by
  delta State.scheduleRescue
  extract_lets +onlyGivenNames -underBinder -merge v1
  clear_value v1
  extract_lets +onlyGivenNames -underBinder -merge v2
  clear_value v2
  extract_lets +onlyGivenNames -underBinder -merge v3
  clear_value v3
  refine kept_ite _ _ _ ?_ ?_
  · extract_lets +onlyGivenNames -underBinder -merge v4
    clear_value v4
    extract_lets +onlyGivenNames -underBinder -merge v5
    have hv5 : Kept P R o v5 := by
      unfold v5
      refine State.modRgn_kept _ _ _ (hP.bit rfl) ?_
      refine State.enqueue_kept _ _ _ (.of rfl hP) ?_
      assumption
    clear_value v5
    refine kept_ite _ _ _ ?_ ?_
    · refine kept_bind _ _ ?_ ?_
      · refine State.orderMergeStretch_kept _ _ _ (.of rfl hP) (.of rfl hR) ?_
        assumption
      · refine State.queueFull_kept _ _ (.of rfl hP) ?_
        assumption
    · assumption
  · refine State.queueFull_kept _ _ (.of rfl hP) ?_
    refine State.modRgn_kept _ _ _ (hP.bit rfl) ?_
    assumption

theorem State.requestRescue_kept (s : State) (n : Nat) (hP : Sub 138714031104 P) (hR : Sub 0x4000000000000 R) (hk0 : Kept P R
    o s) : Kept P R o (State.requestRescue s n) := by
  delta State.requestRescue
  refine kept_ite _ _ _ ?_ ?_
  · split
    · refine State.scheduleRescue_kept _ _ _ (.of rfl hP) (.of rfl hR) ?_
      assumption
    · assumption
  · assumption

theorem State.lanesChanged_kept (s : State) (n : Nat) (hP : Sub 138714031104 P) (hR : Sub 0x4000000000000 R) (hk0 : Kept P R o
    s) : Kept P R o (State.lanesChanged s n) := by
  delta State.lanesChanged
  extract_lets +onlyGivenNames -underBinder -merge v1
  clear_value v1
  extract_lets +onlyGivenNames -underBinder -merge v2
  clear_value v2
  extract_lets +onlyGivenNames -underBinder -merge v3
  clear_value v3
  extract_lets +onlyGivenNames -underBinder -merge v4
  clear_value v4
  extract_lets +onlyGivenNames -underBinder -merge v5
  have hv5 : Kept P R o v5 := by
    unfold v5
    refine kept_ite _ _ _ ?_ ?_
    · refine State.modRgn_kept _ _ _ (hP.bit rfl) ?_
      assumption
    · refine kept_ite _ _ _ ?_ ?_
      · assumption
      · refine State.requestRescue_kept _ _ (.of rfl hP) (.of rfl hR) ?_
        refine State.modRgn_kept _ _ _ (hP.bit rfl) ?_
        assumption
  clear_value v5
  refine kept_ite _ _ _ ?_ ?_
  · refine State.modRgn_kept _ _ _ (hP.bit rfl) ?_
    assumption
  · refine State.modRgn_kept _ _ _ (hP.bit rfl) ?_
    assumption

theorem State.startGrace_kept (s : State) (n : Nat) (hP : Sub 206233935872 P) (hR : Sub
    0x10000200000000000000000000000000000000000 R) (hk0 : Kept P R o s) : Kept P R o (State.startGrace s n) := by
  delta State.startGrace
  refine kept_ite _ _ _ ?_ ?_
  · assumption
  · extract_lets +onlyGivenNames -underBinder -merge v1
    clear_value v1
    extract_lets +onlyGivenNames -underBinder -merge v2
    clear_value v2
    extract_lets +onlyGivenNames -underBinder -merge v3
    have hv3 : Kept P R o v3 := by
      unfold v3
      refine State.modRgn_kept _ _ _ (hP.bit rfl) ?_
      assumption
    clear_value v3
    refine State.ackRgnStat_kept _ _ _ _ (.of rfl hP) (.of rfl hR) ?_
    refine State.rgnEvt_kept _ _ _ _ (hR.bit rfl) (.of rfl hP) ?_
    assumption

theorem State.groupLost_kept (s : State) (n : Nat) (hP : Sub 206233935872 P) (hR : Sub
    0x10000200000000000000000000000000000000000 R) (hk0 : Kept P R o s) : Kept P R o (State.groupLost s n) := by
  delta State.groupLost
  extract_lets +onlyGivenNames -underBinder -merge v1
  have hv1 : Kept P R o v1 := by
    unfold v1
    refine State.rgnEvt_kept _ _ _ _ (hR.bit rfl) (.of rfl hP) ?_
    refine State.modRgn_kept _ _ _ (hP.bit rfl) ?_
    assumption
  clear_value v1
  refine kept_ite _ _ _ ?_ ?_
  · refine State.startGrace_kept _ _ (.of rfl hP) (.of rfl hR) ?_
    assumption
  · assumption

theorem State.mapSpare_kept (s : State) (n : Nat) (g : Nat) (hP : Sub 206233935872 P) (hR : Sub
    0x10000200000000000000000000000000000000000 R) (hk0 : Kept P R o s) : Kept P R o (State.mapSpare s n g) := by
  delta State.mapSpare
  extract_lets +onlyGivenNames -underBinder -merge v1
  clear_value v1
  extract_lets +onlyGivenNames -underBinder -merge v2
  clear_value v2
  extract_lets +onlyGivenNames -underBinder -merge v3
  clear_value v3
  split
  · refine State.modRgn_kept _ _ _ (hP.bit rfl) ?_
    assumption
  · refine State.groupLost_kept _ _ (.of rfl hP) (.of rfl hR) ?_
    assumption

theorem State.degrade_kept (s : State) (n : Nat) (hP : Sub 206233935872 P) (hR : Sub
    0x10000200000000000000000000000000000000000 R) (hk0 : Kept P R o s) : Kept P R o (State.degrade s n) := by
  delta State.degrade
  extract_lets +onlyGivenNames -underBinder -merge v1
  clear_value v1
  refine kept_ite _ _ _ ?_ ?_
  · refine State.settle_kept _ _ _ (.of rfl hP) (.of rfl hR) ?_
    assumption
  · assumption

end Sys2Proof.Machine
end

