-- ==== Sys2Proof/Laws/KeptMesh.lean ====
section
/-! SUPPORT. Laws.Kept for what Stride, the lanes, Baton and the barriers do: one law for each operation and each meaning. -/

set_option linter.unusedVariables false

namespace Sys2Proof.Machine

variable {P R : Nat} {o : State}

/-! ### Machine/Stride.lean -/

theorem State.moveRef_kept (s : State) (h1 : Nat) (hP : Sub 16384 P) (hR : Sub 0x400000000000000000000000000000000000000000 R)
    (hk0 : Kept P R o s) : Kept P R o (State.moveRef s h1) := by
  delta State.moveRef
  refine kept_ite _ _ _ ?_ ?_
  · assumption
  · extract_lets +onlyGivenNames -underBinder -merge v1
    clear_value v1
    extract_lets +onlyGivenNames -underBinder -merge v2
    clear_value v2
    extract_lets +onlyGivenNames -underBinder -merge v3
    clear_value v3
    extract_lets +onlyGivenNames -underBinder -merge v4
    clear_value v4
    extract_lets +onlyGivenNames -underBinder -merge v5
    clear_value v5
    extract_lets +onlyGivenNames -underBinder -merge v6
    have hv6 : Kept P R o v6 := by
      unfold v6
      refine State.modHeat_kept _ _ _ (hP.bit rfl) ?_
      assumption
    clear_value v6
    refine kept_ite _ _ _ ?_ ?_
    · refine State.put_kept _ _ _ _ (hR.bit rfl) ?_
      assumption
    · assumption

theorem State.oscillation_kept (s : State) (n : Nat) (e : Int) (hP : Sub 67117056 P) (hR : Sub
    0x400000000000000000000000000000000000000000 R) (hk0 : Kept P R o s) : Kept P R o (State.oscillation s n e) := by
  delta State.oscillation
  extract_lets +onlyGivenNames -underBinder -merge v1
  clear_value v1
  extract_lets +onlyGivenNames -underBinder -merge v2
  clear_value v2
  extract_lets +onlyGivenNames -underBinder -merge v3
  clear_value v3
  refine kept_ite _ _ _ ?_ ?_
  · refine State.modRgn_kept _ _ _ (hP.bit rfl) ?_
    assumption
  · extract_lets +onlyGivenNames -underBinder -merge v4
    clear_value v4
    extract_lets +onlyGivenNames -underBinder -merge v5
    clear_value v5
    extract_lets +onlyGivenNames -underBinder -merge v6
    clear_value v6
    extract_lets +onlyGivenNames -underBinder -merge v7
    extract_lets +onlyGivenNames -underBinder -merge v8
    clear_value v8
    extract_lets +onlyGivenNames -underBinder -merge v9
    have hv9 : Kept P R o v9 := by
      unfold v9
      refine State.modRgn_kept _ _ _ (hP.bit rfl) ?_
      assumption
    clear_value v9
    refine kept_ite _ _ _ ?_ ?_
    · refine kept_ite _ _ _ ?_ ?_
      · refine State.raiseHw_kept _ _ _ _ (.of rfl hP) ?_
        refine State.modRgn_kept _ _ _ (hP.bit rfl) ?_
        assumption
      · refine State.raiseHw_kept _ _ _ _ (.of rfl hP) ?_
        refine State.put_kept _ _ _ _ (hR.bit rfl) ?_
        refine State.modRgn_kept _ _ _ (hP.bit rfl) ?_
        assumption
    · assumption

theorem State.satEvt_kept (s : State) (n : Nat) (b : Bool) (hP : Sub 67108864 P) (hR : Sub
    0x400000000000000000000000000000000000000000 R) (hk0 : Kept P R o s) : Kept P R o (State.satEvt s n b) := by
  delta State.satEvt
  refine kept_ite _ _ _ ?_ ?_
  · refine State.rgnEvt_kept _ _ _ _ (hR.bit rfl) (.of rfl hP) ?_
    assumption
  · assumption

theorem State.compete_kept (s : State) (n : Nat) (hP : Sub 67117056 P) (hR : Sub 0x400000000000000000000000000000000000000000
    R) (hk0 : Kept P R o s) : Kept P R o (State.compete s n) := by
  delta State.compete
  extract_lets +onlyGivenNames -underBinder -merge v1
  clear_value v1
  extract_lets +onlyGivenNames -underBinder -merge v2
  clear_value v2
  extract_lets +onlyGivenNames -underBinder -merge v3
  clear_value v3
  extract_lets +onlyGivenNames -underBinder -merge v4
  clear_value v4
  extract_lets +onlyGivenNames -underBinder -merge v5
  clear_value v5
  extract_lets +onlyGivenNames -underBinder -merge v6
  clear_value v6
  extract_lets +onlyGivenNames -underBinder -merge v7
  clear_value v7
  extract_lets +onlyGivenNames -underBinder -merge v8
  clear_value v8
  extract_lets +onlyGivenNames -underBinder -merge v9
  clear_value v9
  extract_lets +onlyGivenNames -underBinder -merge v10
  clear_value v10
  extract_lets +onlyGivenNames -underBinder -merge v11
  clear_value v11
  extract_lets +onlyGivenNames -underBinder -merge v12
  clear_value v12
  refine State.satEvt_kept _ _ _ (.of rfl hP) (.of rfl hR) ?_
  refine State.modRgn_kept _ _ _ (hP.bit rfl) ?_
  assumption

theorem State.writeLanes_kept (s : State) (old : State) (n : Nat) (hP : Sub 67112960 P) (hR : Sub
    0x400000000000000000000000000000000000000000 R) (hk0 : Kept P R o s) : Kept P R o (State.writeLanes s old n) := by
  delta State.writeLanes
  extract_lets +onlyGivenNames -underBinder -merge v1
  clear_value v1
  extract_lets +onlyGivenNames -underBinder -merge v2
  clear_value v2
  extract_lets +onlyGivenNames -underBinder -merge v3
  clear_value v3
  extract_lets +onlyGivenNames -underBinder -merge v4
  clear_value v4
  extract_lets +onlyGivenNames -underBinder -merge v5
  clear_value v5
  extract_lets +onlyGivenNames -underBinder -merge v6
  clear_value v6
  extract_lets +onlyGivenNames -underBinder -merge v7
  extract_lets +onlyGivenNames -underBinder -merge v8
  clear_value v8
  extract_lets +onlyGivenNames -underBinder -merge v9
  clear_value v9
  refine State.satEvt_kept _ _ _ (.of rfl hP) (.of rfl hR) ?_
  refine State.forEach_kept _ _ _ ?_ ?_
  · intro y1_0 y1_1 hy1_2
    refine State.modLane_kept _ _ _ (hP.bit rfl) ?_
    assumption
  · assumption

theorem State.macros_kept (s : State) (n : Nat) (out : Int) (hP : Sub 4096 P) (hk0 : Kept P R o s) : Kept P R o (State.macros
    s n out) := by
  delta State.macros
  extract_lets +onlyGivenNames -underBinder -merge v1
  clear_value v1
  extract_lets +onlyGivenNames -underBinder -merge v2
  clear_value v2
  extract_lets +onlyGivenNames -underBinder -merge v3
  clear_value v3
  refine State.forEach_kept _ _ _ ?_ ?_
  · intro y1_0 y1_1 hy1_2
    refine State.modLane_kept _ _ _ (hP.bit rfl) ?_
    assumption
  · assumption

theorem State.regionCounts_kept (s : State) (n : Nat) (a : Int) (out : Int) (hP : Sub 8192 P) (hk0 : Kept P R o s) : Kept P R
    o (State.regionCounts s n a out) := by
  delta State.regionCounts
  extract_lets +onlyGivenNames -underBinder -merge v1
  clear_value v1
  extract_lets +onlyGivenNames -underBinder -merge v2
  clear_value v2
  extract_lets +onlyGivenNames -underBinder -merge v3
  clear_value v3
  extract_lets +onlyGivenNames -underBinder -merge v4
  clear_value v4
  extract_lets +onlyGivenNames -underBinder -merge v5
  clear_value v5
  extract_lets +onlyGivenNames -underBinder -merge v6
  clear_value v6
  extract_lets +onlyGivenNames -underBinder -merge v7
  clear_value v7
  extract_lets +onlyGivenNames -underBinder -merge v8
  clear_value v8
  extract_lets +onlyGivenNames -underBinder -merge v9
  clear_value v9
  extract_lets +onlyGivenNames -underBinder -merge v10
  clear_value v10
  refine State.modRgn_kept _ _ _ (hP.bit rfl) ?_
  assumption

theorem State.leaveHold_kept (s : State) (n : Nat) (hP : Sub 12288 P) (hk0 : Kept P R o s) : Kept P R o (State.leaveHold s n)
    := by
  delta State.leaveHold
  refine kept_ite _ _ _ ?_ ?_
  · refine State.modRgn_kept _ _ _ (hP.bit rfl) ?_
    refine State.forEach_kept _ _ _ ?_ ?_
    · intro y1_0 y1_1 hy1_2
      refine State.modLane_kept _ _ _ (hP.bit rfl) ?_
      assumption
    · assumption
  · assumption

theorem State.takeReading_kept (s : State) (n : Nat) (rd : RgnRead) (hP : Sub 8192 P) (hk0 : Kept P R o s) : Kept P R o
    (State.takeReading s n rd) := by
  delta State.takeReading
  refine State.modRgn_kept _ _ _ (hP.bit rfl) ?_
  assumption

theorem State.issue_kept (s : State) (old : State) (n : Nat) (rd : RgnRead) (md : StrideMode) (hP : Sub 67121152 P) (hR : Sub
    0x400000000000000000000000000000000000000000 R) (hk0 : Kept P R o s) : Kept P R o (State.issue s old n rd md) := by
  delta State.issue
  extract_lets +onlyGivenNames -underBinder -merge v1
  clear_value v1
  extract_lets +onlyGivenNames -underBinder -merge v2
  clear_value v2
  split
  · refine State.regionCounts_kept _ _ _ _ (.of rfl hP) ?_
    refine State.macros_kept _ _ _ (.of rfl hP) ?_
    refine State.modRgn_kept _ _ _ (hP.bit rfl) ?_
    assumption
  · extract_lets +onlyGivenNames -underBinder -merge v3
    have hv3 : Kept P R o v3 := by
      unfold v3
      refine kept_ite _ _ _ ?_ ?_
      · refine State.leaveHold_kept _ _ (.of rfl hP) ?_
        assumption
      · assumption
    clear_value v3
    extract_lets +onlyGivenNames -underBinder -merge v4
    clear_value v4
    extract_lets +onlyGivenNames -underBinder -merge v5
    have hv5 : Kept P R o v5 := by
      unfold v5
      refine State.modRgn_kept _ _ _ (hP.bit rfl) ?_
      assumption
    clear_value v5
    extract_lets +onlyGivenNames -underBinder -merge v6
    have hv6 : Kept P R o v6 := by
      unfold v6
      refine State.compete_kept _ _ (.of rfl hP) (.of rfl hR) ?_
      refine State.oscillation_kept _ _ _ (.of rfl hP) (.of rfl hR) ?_
      assumption
    clear_value v6
    extract_lets +onlyGivenNames -underBinder -merge v7
    have hv7 : Kept P R o v7 := by
      unfold v7
      refine kept_ite _ _ _ ?_ ?_
      · refine State.writeLanes_kept _ _ _ (.of rfl hP) (.of rfl hR) ?_
        assumption
      · assumption
    clear_value v7
    refine State.regionCounts_kept _ _ _ _ (.of rfl hP) ?_
    refine State.macros_kept _ _ _ (.of rfl hP) ?_
    assumption

theorem State.specUpdate_kept (s : State) (h1 : Nat) (hP : Sub 24576 P) (hk0 : Kept P R o s) : Kept P R o (State.specUpdate s
    h1) := by
  delta State.specUpdate
  extract_lets +onlyGivenNames -underBinder -merge v1
  clear_value v1
  extract_lets +onlyGivenNames -underBinder -merge v2
  clear_value v2
  extract_lets +onlyGivenNames -underBinder -merge v3
  clear_value v3
  extract_lets +onlyGivenNames -underBinder -merge v4
  clear_value v4
  extract_lets +onlyGivenNames -underBinder -merge v5
  clear_value v5
  extract_lets +onlyGivenNames -underBinder -merge v6
  clear_value v6
  extract_lets +onlyGivenNames -underBinder -merge v7
  have hv7 : Kept P R o v7 := by
    unfold v7
    refine State.forEach_kept _ _ _ ?_ ?_
    · intro y1_0 y1_1 hy1_2
      refine State.modRgn_kept _ _ _ (hP.bit rfl) ?_
      assumption
    · assumption
  clear_value v7
  refine State.modHeat_kept _ _ _ (hP.bit rfl) ?_
  assumption

theorem State.combine_kept (s : State) (h1 : Nat) (run : CombRun) (hP : Sub 67133440 P) (hR : Sub
    0x400000000000000000000000000000000000000000 R) (hk0 : Kept P R o s) : Kept P R o (State.combine s h1 run) := by
  delta State.combine
  extract_lets +onlyGivenNames -underBinder -merge v1
  clear_value v1
  extract_lets +onlyGivenNames -underBinder -merge v2
  clear_value v2
  extract_lets +onlyGivenNames -underBinder -merge v3
  clear_value v3
  extract_lets +onlyGivenNames -underBinder -merge v4
  clear_value v4
  extract_lets +onlyGivenNames -underBinder -merge v5
  clear_value v5
  extract_lets +onlyGivenNames -underBinder -merge v6
  clear_value v6
  extract_lets +onlyGivenNames -underBinder -merge v7
  clear_value v7
  extract_lets +onlyGivenNames -underBinder -merge v8
  clear_value v8
  extract_lets +onlyGivenNames -underBinder -merge v9
  clear_value v9
  extract_lets +onlyGivenNames -underBinder -merge v10
  clear_value v10
  extract_lets +onlyGivenNames -underBinder -merge v11
  clear_value v11
  extract_lets +onlyGivenNames -underBinder -merge v12
  clear_value v12
  extract_lets +onlyGivenNames -underBinder -merge v13
  clear_value v13
  extract_lets +onlyGivenNames -underBinder -merge v14
  clear_value v14
  extract_lets +onlyGivenNames -underBinder -merge v15
  clear_value v15
  extract_lets +onlyGivenNames -underBinder -merge v16
  clear_value v16
  extract_lets +onlyGivenNames -underBinder -merge v17
  extract_lets +onlyGivenNames -underBinder -merge v18
  clear_value v18
  extract_lets +onlyGivenNames -underBinder -merge v19
  clear_value v19
  extract_lets +onlyGivenNames -underBinder -merge v20
  clear_value v20
  extract_lets +onlyGivenNames -underBinder -merge v21
  clear_value v21
  extract_lets +onlyGivenNames -underBinder -merge v22
  clear_value v22
  extract_lets +onlyGivenNames -underBinder -merge v23
  clear_value v23
  extract_lets +onlyGivenNames -underBinder -merge v24
  clear_value v24
  extract_lets +onlyGivenNames -underBinder -merge v25
  clear_value v25
  extract_lets +onlyGivenNames -underBinder -merge v26
  clear_value v26
  extract_lets +onlyGivenNames -underBinder -merge v27
  clear_value v27
  extract_lets +onlyGivenNames -underBinder -merge v28
  clear_value v28
  extract_lets +onlyGivenNames -underBinder -merge v29
  clear_value v29
  extract_lets +onlyGivenNames -underBinder -merge v30
  clear_value v30
  extract_lets +onlyGivenNames -underBinder -merge v31
  clear_value v31
  extract_lets +onlyGivenNames -underBinder -merge v32
  clear_value v32
  extract_lets +onlyGivenNames -underBinder -merge v33
  clear_value v33
  extract_lets +onlyGivenNames -underBinder -merge v34
  have hv34 : Kept P R o v34 := by
    unfold v34
    refine State.modHeat_kept _ _ _ (hP.bit rfl) ?_
    assumption
  clear_value v34
  refine State.specUpdate_kept _ _ (.of rfl hP) ?_
  refine State.satEvt_kept _ _ _ (.of rfl hP) (.of rfl hR) ?_
  assumption

theorem State.splitRuns_kept (s : State) (hP : Sub 67133440 P) (hR : Sub 0x400000000000000000000000000000000000000000 R) (hk0
    : Kept P R o s) : Kept P R o (State.splitRuns s) := by
  delta State.splitRuns
  refine State.forEach_kept _ _ _ ?_ ?_
  · intro y1_0 y1_1 hy1_2
    refine State.combine_kept _ _ _ (.of rfl hP) (.of rfl hR) ?_
    assumption
  · assumption

theorem State.burstCount_kept (s : State) (h1 : Nat) (hP : Sub 16384 P) (hk0 : Kept P R o s) : Kept P R o (State.burstCount s
    h1) := by
  delta State.burstCount
  refine kept_ite _ _ _ ?_ ?_
  · assumption
  · refine State.modHeat_kept _ _ _ (hP.bit rfl) ?_
    assumption

theorem State.burstExit_kept (s : State) (h1 : Nat) (hP : Sub 20480 P) (hk0 : Kept P R o s) : Kept P R o (State.burstExit s
    h1) := by
  delta State.burstExit
  extract_lets +onlyGivenNames -underBinder -merge v1
  clear_value v1
  refine kept_ite _ _ _ ?_ ?_
  · assumption
  · extract_lets +onlyGivenNames -underBinder -merge v2
    clear_value v2
    extract_lets +onlyGivenNames -underBinder -merge v3
    clear_value v3
    refine kept_ite _ _ _ ?_ ?_
    · refine State.leaveBurst_kept _ _ (.of rfl hP) ?_
      assumption
    · assumption

theorem State.burstLanes_kept (s : State) (n : Nat) (r : Nat) (hP : Sub 4096 P) (hk0 : Kept P R o s) : Kept P R o
    (State.burstLanes s n r) := by
  delta State.burstLanes
  extract_lets +onlyGivenNames -underBinder -merge v1
  clear_value v1
  extract_lets +onlyGivenNames -underBinder -merge v2
  clear_value v2
  refine State.forEach_kept _ _ _ ?_ ?_
  · intro y1_0 y1_1 hy1_2
    refine State.modLane_kept _ _ _ (hP.bit rfl) ?_
    assumption
  · assumption

theorem State.burstRefill_kept (s : State) (h1 : Nat) (hP : Sub 4096 P) (hk0 : Kept P R o s) : Kept P R o (State.burstRefill s
    h1) := by
  delta State.burstRefill
  refine kept_ite _ _ _ ?_ ?_
  · refine State.forEach_kept _ _ _ ?_ ?_
    · intro y1_0 y1_1 hy1_2
      refine State.burstLanes_kept _ _ _ (.of rfl hP) ?_
      assumption
    · assumption
  · assumption

theorem State.stride_kept (s : State) (rs : List (Nat × RgnRead)) (hP : Sub 67139600 P) (hR : Sub
    0x400000000000000000000000000000000000000000 R) (hk0 : Kept P R o s) : Kept P R o (State.stride s rs) := by
  delta State.stride
  extract_lets +onlyGivenNames -underBinder -merge v1
  clear_value v1
  extract_lets +onlyGivenNames -underBinder -merge v2
  clear_value v2
  extract_lets +onlyGivenNames -underBinder -merge v3
  have hv3 : Kept P R o v3 := by
    unfold v3
    refine State.forEach_kept _ _ _ ?_ ?_
    · intro y1_0 y1_1 hy1_2
      extract_lets +onlyGivenNames -underBinder -merge v4
      clear_value v4
      refine State.forEach_kept _ _ _ ?_ ?_
      · intro y1_0 y1_1 hy1_2
        extract_lets +onlyGivenNames -underBinder -merge v5
        clear_value v5
        refine State.modLane_kept _ _ _ (hP.bit rfl) ?_
        assumption
      · assumption
    · assumption
  clear_value v3
  extract_lets +onlyGivenNames -underBinder -merge v4
  have hv4 : Kept P R o v4 := by
    unfold v4
    refine kept_ite _ _ _ ?_ ?_
    · assumption
    · refine State.forEach_kept _ _ _ ?_ ?_
      · intro y1_0 y1_1 hy1_2
        refine State.moveRef_kept _ _ (.of rfl hP) (.of rfl hR) ?_
        assumption
      · assumption
  clear_value v4
  extract_lets +onlyGivenNames -underBinder -merge v5
  have hv5 : Kept P R o v5 := by
    unfold v5
    refine State.forEach_kept _ _ _ ?_ ?_
    · intro y1_0 y1_1 hy1_2
      refine State.takeReading_kept _ _ _ (.of rfl hP) ?_
      assumption
    · assumption
  clear_value v5
  extract_lets +onlyGivenNames -underBinder -merge v6
  have hv6 : Kept P R o v6 := by
    unfold v6
    refine State.forEach_kept _ _ _ ?_ ?_
    · intro y1_0 y1_1 hy1_2
      refine State.burstExit_kept _ _ (.of rfl hP) ?_
      assumption
    · assumption
  clear_value v6
  extract_lets +onlyGivenNames -underBinder -merge v7
  have hv7 : Kept P R o v7 := by
    unfold v7
    refine State.forEach_kept _ _ _ ?_ ?_
    · intro y1_0 y1_1 hy1_2
      refine State.issue_kept _ _ _ _ _ (.of rfl hP) (.of rfl hR) ?_
      assumption
    · assumption
  clear_value v7
  extract_lets +onlyGivenNames -underBinder -merge v8
  have hv8 : Kept P R o v8 := by
    unfold v8
    refine kept_ite _ _ _ ?_ ?_
    · assumption
    · refine State.forEach_kept _ _ _ ?_ ?_
      · intro y1_0 y1_1 hy1_2
        refine State.combine_kept _ _ _ (.of rfl hP) (.of rfl hR) ?_
        assumption
      · assumption
  clear_value v8
  extract_lets +onlyGivenNames -underBinder -merge v9
  have hv9 : Kept P R o v9 := by
    unfold v9
    refine State.forEach_kept _ _ _ ?_ ?_
    · intro y1_0 y1_1 hy1_2
      refine State.burstCount_kept _ _ (.of rfl hP) ?_
      refine State.burstRefill_kept _ _ (.of rfl hP) ?_
      assumption
    · assumption
  clear_value v9
  refine kept_upd (v9) _ 2064 rfl ⟨[], (List.append_nil _).symm⟩ rfl (by intro p hp; cases p <;> first | rfl | cases hp) (.of rfl hP) ?_
  assumption

/-! ### Machine/Lanes.lean -/

theorem State.failLane_kept (s : State) (m : Nat) (cause : Nat) (hP : Sub 138714035200 P) (hR : Sub
    0x8000000000000000000000000000000004000000000000 R) (hk0 : Kept P R o s) : Kept P R o (State.failLane s m cause) := by
  delta State.failLane
  refine State.lanesChanged_kept _ _ (.of rfl hP) (.of rfl hR) ?_
  refine State.laneEvt_kept _ _ _ _ (hR.bit rfl) (.of rfl hP) ?_
  refine State.modLane_kept _ _ _ (hP.bit rfl) ?_
  assumption

theorem State.fastLatch_kept (s : State) (m : Nat) (hP : Sub 138714035200 P) (hR : Sub
    0x8000000000000000000000000000000004000000000000 R) (hk0 : Kept P R o s) : Kept P R o (State.fastLatch s m) := by
  delta State.fastLatch
  extract_lets +onlyGivenNames -underBinder -merge v1
  clear_value v1
  extract_lets +onlyGivenNames -underBinder -merge v2
  refine kept_ite _ _ _ ?_ ?_
  · assumption
  · refine kept_ite _ _ _ ?_ ?_
    · refine State.failLane_kept _ _ _ (.of rfl hP) (.of rfl hR) ?_
      assumption
    · extract_lets +onlyGivenNames -underBinder -merge v3
      have hv3 : Kept P R o v3 := by
        unfold v3
        refine State.modLane_kept _ _ _ (hP.bit rfl) ?_
        assumption
      clear_value v3
      refine kept_ite _ _ _ ?_ ?_
      · refine State.laneEvt_kept _ _ _ _ (hR.bit rfl) (.of rfl hP) ?_
        assumption
      · refine State.laneEvt_kept _ _ _ _ (hR.bit rfl) (.of rfl hP) ?_
        assumption

theorem execFastLimitLatch_kept (m : Fin 2048) (s : State) (hP : Sub 138714035200 P) (hR : Sub
    0x8000000000000000000000000000000004000000000000 R) (hk0 : Kept P R o s) : KeptR P R o (execFastLimitLatch m s) := by
  delta execFastLimitLatch
  refine (KeptR_next _).mpr ?_
  refine State.fastLatch_kept _ _ (.of rfl hP) (.of rfl hR) ?_
  assumption

theorem execLatchEnd_kept (m : Fin 2048) (s : State) (hP : Sub 4096 P) (hk0 : Kept P R o s) : KeptR P R o (execLatchEnd m s)
    := by
  delta execLatchEnd
  extract_lets +onlyGivenNames -underBinder -merge v1
  clear_value v1
  refine keptR_ite _ _ _ ?_ ?_
  · extract_lets +onlyGivenNames -underBinder -merge v2
    clear_value v2
    extract_lets +onlyGivenNames -underBinder -merge v3
    clear_value v3
    refine (KeptR_next _).mpr ?_
    refine State.modLane_kept _ _ _ (hP.bit rfl) ?_
    assumption
  · refine (KeptR_next _).mpr ?_
    assumption

theorem execRetryCountClear_kept (m : Fin 2048) (s : State) (hP : Sub 4096 P) (hk0 : Kept P R o s) : KeptR P R o
    (execRetryCountClear m s) := by
  delta execRetryCountClear
  extract_lets +onlyGivenNames -underBinder -merge v1
  clear_value v1
  refine keptR_ite _ _ _ ?_ ?_
  · refine (KeptR_next _).mpr ?_
    refine State.modLane_kept _ _ _ (hP.bit rfl) ?_
    assumption
  · refine (KeptR_next _).mpr ?_
    assumption

theorem execOpenPhase_kept (m : Fin 2048) (s : State) (hP : Sub 138714035200 P) (hR : Sub
    0x8000000000000000000000000000000004000000000000 R) (hk0 : Kept P R o s) : KeptR P R o (execOpenPhase m s) := by
  delta execOpenPhase
  extract_lets +onlyGivenNames -underBinder -merge v1
  clear_value v1
  extract_lets +onlyGivenNames -underBinder -merge v2
  refine keptR_ite _ _ _ ?_ ?_
  · refine (KeptR_next _).mpr ?_
    refine State.failLane_kept _ _ _ (.of rfl hP) (.of rfl hR) ?_
    refine State.laneEvt_kept _ _ _ _ (hR.bit rfl) (.of rfl hP) ?_
    assumption
  · refine (KeptR_next _).mpr ?_
    assumption

theorem execSenseMismatch_kept (m : Fin 2048) (s : State) (hP : Sub 138714035200 P) (hR : Sub
    0x8000000000000000000000000000000004000000000000 R) (hk0 : Kept P R o s) : KeptR P R o (execSenseMismatch m s) := by
  delta execSenseMismatch
  extract_lets +onlyGivenNames -underBinder -merge v1
  clear_value v1
  refine keptR_ite _ _ _ ?_ ?_
  · refine (KeptR_next _).mpr ?_
    refine State.lanesChanged_kept _ _ (.of rfl hP) (.of rfl hR) ?_
    refine State.laneEvt_kept _ _ _ _ (hR.bit rfl) (.of rfl hP) ?_
    refine State.modLane_kept _ _ _ (hP.bit rfl) ?_
    assumption
  · refine (KeptR_next _).mpr ?_
    assumption

theorem State.balanceRgn_kept (s : State) (n : Nat) (hP : Sub 4096 P) (hk0 : Kept P R o s) : Kept P R o (State.balanceRgn s n)
    := by
  delta State.balanceRgn
  refine kept_ite _ _ _ ?_ ?_
  · refine State.forEach_kept _ _ _ ?_ ?_
    · intro y1_0 y1_1 hy1_2
      refine State.modLane_kept _ _ _ (hP.bit rfl) ?_
      assumption
    · assumption
  · extract_lets +onlyGivenNames -underBinder -merge v1
    clear_value v1
    extract_lets +onlyGivenNames -underBinder -merge v2
    clear_value v2
    refine kept_ite _ _ _ ?_ ?_
    · assumption
    · extract_lets +onlyGivenNames -underBinder -merge v3
      clear_value v3
      extract_lets +onlyGivenNames -underBinder -merge v4
      clear_value v4
      extract_lets +onlyGivenNames -underBinder -merge v5
      have hv5 : Kept P R o v5 := by
        unfold v5
        refine State.forEach_kept _ _ _ ?_ ?_
        · intro y1_0 y1_1 hy1_2
          extract_lets +onlyGivenNames -underBinder -merge v6
          clear_value v6
          refine kept_ite _ _ _ ?_ ?_
          · refine State.modLane_kept _ _ _ (hP.bit rfl) ?_
            assumption
          · assumption
        · assumption
      clear_value v5
      extract_lets +onlyGivenNames -underBinder -merge v6
      clear_value v6
      refine State.forEach_kept _ _ _ ?_ ?_
      · intro y1_0 y1_1 hy1_2
        refine State.modLane_kept _ _ _ (hP.bit rfl) ?_
        assumption
      · assumption

theorem execBalancePass_kept (s : State) (hP : Sub 6144 P) (hk0 : Kept P R o s) : KeptR P R o (execBalancePass s) := by
  delta execBalancePass
  refine keptR_ite _ _ _ ?_ ?_
  · refine (KeptR_next _).mpr ?_
    assumption
  · extract_lets +onlyGivenNames -underBinder -merge v1
    have hv1 : Kept P R o v1 := by
      unfold v1
      refine State.forEach_kept _ _ _ ?_ ?_
      · intro y1_0 y1_1 hy1_2
        refine State.balanceRgn_kept _ _ (.of rfl hP) ?_
        assumption
      · assumption
    clear_value v1
    refine (KeptR_next _).mpr ?_
    extract_lets +onlyGivenNames -underBinder -merge v2
    have hv2 : Kept P R o v2 := by
      unfold v2
      refine State.forEach_kept _ _ _ ?_ ?_
      · intro y1_0 y1_1 hy1_2
        refine State.modLane_kept _ _ _ (hP.bit rfl) ?_
        assumption
      · assumption
    clear_value v2
    refine kept_balCtr (v2) _ (hP.bit rfl) ?_
    assumption

theorem execStartMeasurementDone_kept (n : Fin 256) (code : Fin 601) (s : State) (hP : Sub 28672 P) (hk0 : Kept P R o s) :
    KeptR P R o (execStartMeasurementDone n code s) := by
  delta execStartMeasurementDone
  split
  · refine keptR_ite _ _ _ ?_ ?_
    · extract_lets +onlyGivenNames -underBinder -merge v1
      clear_value v1
      extract_lets +onlyGivenNames -underBinder -merge v2
      clear_value v2
      extract_lets +onlyGivenNames -underBinder -merge v3
      clear_value v3
      extract_lets +onlyGivenNames -underBinder -merge v4
      have hv4 : Kept P R o v4 := by
        unfold v4
        refine State.modHeat_kept _ _ _ (hP.bit rfl) ?_
        assumption
      clear_value v4
      extract_lets +onlyGivenNames -underBinder -merge v5
      have hv5 : Kept P R o v5 := by
        unfold v5
        refine State.modRgn_kept _ _ _ (hP.bit rfl) ?_
        assumption
      clear_value v5
      refine (KeptR_next _).mpr ?_
      refine State.forEach_kept _ _ _ ?_ ?_
      · intro y1_0 y1_1 hy1_2
        refine kept_ite _ _ _ ?_ ?_
        · refine State.modLane_kept _ _ _ (hP.bit rfl) ?_
          assumption
        · assumption
      · assumption
    · refine (KeptR_next _).mpr ?_
      assumption
  · refine (KeptR_next _).mpr ?_
    assumption

theorem execRampEnd_kept (n : Fin 256) (s : State) (hP : Sub 206233939968 P) (hR : Sub
    0x10000200000000000000000000000000000000000 R) (hk0 : Kept P R o s) : KeptR P R o (execRampEnd n s) := by
  delta execRampEnd
  extract_lets +onlyGivenNames -underBinder -merge v1
  clear_value v1
  extract_lets +onlyGivenNames -underBinder -merge v2
  clear_value v2
  refine keptR_ite _ _ _ ?_ ?_
  · extract_lets +onlyGivenNames -underBinder -merge v3
    have hv3 : Kept P R o v3 := by
      unfold v3
      refine State.modRgn_kept _ _ _ (hP.bit rfl) ?_
      refine State.forEach_kept _ _ _ ?_ ?_
      · intro y1_0 y1_1 hy1_2
        refine State.modLane_kept _ _ _ (hP.bit rfl) ?_
        assumption
      · assumption
    clear_value v3
    refine (KeptR_next _).mpr ?_
    refine kept_ite _ _ _ ?_ ?_
    · refine State.islandEntry_kept _ _ (.of rfl hP) (.of rfl hR) ?_
      assumption
    · assumption
  · refine (KeptR_next _).mpr ?_
    assumption

theorem execFalseStart_kept (n : Fin 256) (s : State) (hP : Sub 206250865664 P) (hR : Sub
    0x10040200000000000000000000000000000000000 R) (hk0 : Kept P R o s) : KeptR P R o (execFalseStart n s) := by
  delta execFalseStart
  extract_lets +onlyGivenNames -underBinder -merge v1
  clear_value v1
  refine keptR_ite _ _ _ ?_ ?_
  · refine (KeptR_next _).mpr ?_
    refine State.failAttempt_kept _ _ _ (.of rfl hP) (.of rfl hR) ?_
    refine State.rgnEvt_kept _ _ _ _ (hR.bit rfl) (.of rfl hP) ?_
    assumption
  · refine (KeptR_next _).mpr ?_
    assumption

theorem execFalseStartRetry_kept (n : Fin 256) (s : State) (hP : Sub 206183621632 P) (hR : Sub
    0x200000000000000000000000000000000000 R) (hk0 : Kept P R o s) : KeptR P R o (execFalseStartRetry n s) := by
  delta execFalseStartRetry
  extract_lets +onlyGivenNames -underBinder -merge v1
  clear_value v1
  split
  · extract_lets +onlyGivenNames -underBinder -merge v2
    clear_value v2
    extract_lets +onlyGivenNames -underBinder -merge v3
    clear_value v3
    refine keptR_ite _ _ _ ?_ ?_
    · refine (KeptR_next _).mpr ?_
      refine State.beginAttempt_kept _ _ _ (.of rfl hP) (.of rfl hR) ?_
      assumption
    · refine (KeptR_next _).mpr ?_
      assumption
  · refine (KeptR_next _).mpr ?_
    assumption

theorem execAttemptCountClear_kept (n : Fin 256) (s : State) (hP : Sub 8192 P) (hk0 : Kept P R o s) : KeptR P R o
    (execAttemptCountClear n s) := by
  delta execAttemptCountClear
  split
  · refine keptR_ite _ _ _ ?_ ?_
    · refine (KeptR_next _).mpr ?_
      refine State.modRgn_kept _ _ _ (hP.bit rfl) ?_
      assumption
    · refine (KeptR_next _).mpr ?_
      assumption
  · refine (KeptR_next _).mpr ?_
    assumption

theorem execOverloadFlagSet_kept (n : Fin 256) (s : State) (hP : Sub 8192 P) (hk0 : Kept P R o s) : KeptR P R o
    (execOverloadFlagSet n s) := by
  delta execOverloadFlagSet
  extract_lets +onlyGivenNames -underBinder -merge v1
  clear_value v1
  refine keptR_ite _ _ _ ?_ ?_
  · refine (KeptR_next _).mpr ?_
    refine State.modRgn_kept _ _ _ (hP.bit rfl) ?_
    assumption
  · refine (KeptR_next _).mpr ?_
    assumption

theorem execOverloadFlagClear_kept (n : Fin 256) (s : State) (hP : Sub 67117056 P) (hk0 : Kept P R o s) : KeptR P R o
    (execOverloadFlagClear n s) := by
  delta execOverloadFlagClear
  extract_lets +onlyGivenNames -underBinder -merge v1
  clear_value v1
  refine keptR_ite _ _ _ ?_ ?_
  · extract_lets +onlyGivenNames -underBinder -merge v2
    have hv2 : Kept P R o v2 := by
      unfold v2
      refine State.modRgn_kept _ _ _ (hP.bit rfl) ?_
      assumption
    clear_value v2
    refine (KeptR_next _).mpr ?_
    refine kept_ite _ _ _ ?_ ?_
    · assumption
    · refine State.condEnds_kept _ _ (.of rfl hP) ?_
      assumption
  · refine (KeptR_next _).mpr ?_
    assumption

theorem execRegionOverloadFault_kept (n : Fin 256) (s : State) (hP : Sub 67117056 P) (hk0 : Kept P R o s) : KeptR P R o
    (execRegionOverloadFault n s) := by
  delta execRegionOverloadFault
  extract_lets +onlyGivenNames -underBinder -merge v1
  clear_value v1
  refine keptR_ite _ _ _ ?_ ?_
  · refine (KeptR_next _).mpr ?_
    refine State.modRgn_kept _ _ _ (hP.bit rfl) ?_
    refine State.raiseHw_kept _ _ _ _ (.of rfl hP) ?_
    assumption
  · refine (KeptR_next _).mpr ?_
    assumption

theorem execCapacityExceeded_kept (n : Fin 256) (s : State) (hP : Sub 138714031104 P) (hR : Sub 0x4000000000000 R) (hk0 : Kept
    P R o s) : KeptR P R o (execCapacityExceeded n s) := by
  delta execCapacityExceeded
  extract_lets +onlyGivenNames -underBinder -merge v1
  clear_value v1
  refine keptR_ite _ _ _ ?_ ?_
  · refine (KeptR_next _).mpr ?_
    refine State.requestRescue_kept _ _ (.of rfl hP) (.of rfl hR) ?_
    refine State.raiseHw_kept _ _ _ _ (.of rfl hP) ?_
    refine State.modRgn_kept _ _ _ (hP.bit rfl) ?_
    assumption
  · refine (KeptR_next _).mpr ?_
    assumption

theorem State.enterBurst_kept (s : State) (h1 : Nat) (hP : Sub 28672 P) (hk0 : Kept P R o s) : Kept P R o (State.enterBurst s
    h1) := by
  delta State.enterBurst
  extract_lets +onlyGivenNames -underBinder -merge v1
  have hv1 : Kept P R o v1 := by
    unfold v1
    refine State.modHeat_kept _ _ _ (hP.bit rfl) ?_
    assumption
  clear_value v1
  refine kept_ite _ _ _ ?_ ?_
  · assumption
  · refine State.modHeat_kept _ _ _ (hP.bit rfl) ?_
    refine State.forEach_kept _ _ _ ?_ ?_
    · intro y1_0 y1_1 hy1_2
      refine State.modRgn_kept _ _ _ (hP.bit rfl) ?_
      refine State.burstLanes_kept _ _ _ (.of rfl hP) ?_
      assumption
    · assumption

theorem execBurstEntryTest_kept (h1 : Fin 256) (s : State) (hP : Sub 67138560 P) (hk0 : Kept P R o s) : KeptR P R o
    (execBurstEntryTest h1 s) := by
  delta execBurstEntryTest
  extract_lets +onlyGivenNames -underBinder -merge v1
  clear_value v1
  refine keptR_ite _ _ _ ?_ ?_
  · refine (KeptR_next _).mpr ?_
    assumption
  · refine keptR_ite _ _ _ ?_ ?_
    · refine (KeptR_next _).mpr ?_
      assumption
    · refine keptR_ite _ _ _ ?_ ?_
      · refine (KeptR_next _).mpr ?_
        refine State.enterBurst_kept _ _ (.of rfl hP) ?_
        assumption
      · refine keptR_ite _ _ _ ?_ ?_
        · refine (KeptR_next _).mpr ?_
          refine State.modHeat_kept _ _ _ (hP.bit rfl) ?_
          refine State.enqueue_kept _ _ _ (.of rfl hP) ?_
          assumption
        · refine (KeptR_next _).mpr ?_
          refine State.queueFull_kept _ _ (.of rfl hP) ?_
          refine State.modHeat_kept _ _ _ (hP.bit rfl) ?_
          assumption

theorem State.enterKeeper_kept (s : State) (n : Nat) (hP : Sub 12288 P) (hk0 : Kept P R o s) : Kept P R o (State.enterKeeper s
    n) := by
  delta State.enterKeeper
  extract_lets +onlyGivenNames -underBinder -merge v1
  clear_value v1
  extract_lets +onlyGivenNames -underBinder -merge v2
  clear_value v2
  refine State.modRgn_kept _ _ _ (hP.bit rfl) ?_
  refine State.forEach_kept _ _ _ ?_ ?_
  · intro y1_0 y1_1 hy1_2
    refine State.modLane_kept _ _ _ (hP.bit rfl) ?_
    assumption
  · assumption

theorem execKeeperEntry_kept (n : Fin 256) (s : State) (hP : Sub 12288 P) (hk0 : Kept P R o s) : KeptR P R o (execKeeperEntry
    n s) := by
  delta execKeeperEntry
  extract_lets +onlyGivenNames -underBinder -merge v1
  clear_value v1
  refine keptR_ite _ _ _ ?_ ?_
  · refine (KeptR_next _).mpr ?_
    refine State.enterKeeper_kept _ _ (.of rfl hP) ?_
    assumption
  · refine (KeptR_next _).mpr ?_
    assumption

theorem State.keeperLanes_kept (s : State) (n : Nat) (hP : Sub 67112960 P) (hR : Sub
    0x8000000000000000000000000000000000000000000000 R) (hk0 : Kept P R o s) : Kept P R o (State.keeperLanes s n) := by
  delta State.keeperLanes
  refine State.forEach_kept _ _ _ ?_ ?_
  · intro y1_0 y1_1 hy1_2
    refine kept_ite _ _ _ ?_ ?_
    · refine State.laneEvt_kept _ _ _ _ (hR.bit rfl) (.of rfl hP) ?_
      refine State.modLane_kept _ _ _ (hP.bit rfl) ?_
      assumption
    · assumption
  · assumption

theorem execKeeperTimeout_kept (n : Fin 256) (s : State) (hP : Sub 206250963968 P) (hR : Sub
    0x8000010040200000000000000000000000000000000000 R) (hk0 : Kept P R o s) : KeptR P R o (execKeeperTimeout n s) := by
  delta execKeeperTimeout
  split
  · refine keptR_ite _ _ _ ?_ ?_
    · extract_lets +onlyGivenNames -underBinder -merge v1
      clear_value v1
      extract_lets +onlyGivenNames -underBinder -merge v2
      have hv2 : Kept P R o v2 := by
        unfold v2
        refine State.forEach_kept _ _ _ ?_ ?_
        · intro y1_0 y1_1 hy1_2
          split
          · refine State.modRgn_kept _ _ _ (hP.bit rfl) ?_
            refine kept_ite _ _ _ ?_ ?_
            · refine State.keeperLanes_kept _ _ (.of rfl hP) (.of rfl hR) ?_
              assumption
            · assumption
          · assumption
        · assumption
      clear_value v2
      extract_lets +onlyGivenNames -underBinder -merge v3
      clear_value v3
      extract_lets +onlyGivenNames -underBinder -merge v4
      have hv4 : Kept P R o v4 := by
        unfold v4
        refine kept_ite _ _ _ ?_ ?_
        · assumption
        · refine State.emergOpen_kept _ _ (.of rfl hP) (.of rfl hR) ?_
          assumption
      clear_value v4
      refine (KeptR_next _).mpr ?_
      refine State.forEach_kept _ _ _ ?_ ?_
      · intro y1_0 y1_1 hy1_2
        refine kept_ite _ _ _ ?_ ?_
        · assumption
        · refine State.loseRegulation_kept _ _ _ (.of rfl hP) (.of rfl hR) ?_
          assumption
      · assumption
    · refine (KeptR_next _).mpr ?_
      assumption
  · refine (KeptR_next _).mpr ?_
    assumption

theorem State.laneEn_kept (s : State) (p : FMaster) (m : Nat) (en : Bool) (hP : Sub 67109888 P) (hR : Sub
    0x400000000000000000000000000000000000000000000 R) (hk0 : Kept P R o s) : Kept P R o (State.laneEn s p m en) := by
  delta State.laneEn
  refine kept_ite _ _ _ ?_ ?_
  · assumption
  · extract_lets +onlyGivenNames -underBinder -merge v1
    have hv1 : Kept P R o v1 := by
      unfold v1
      refine State.put_kept _ _ _ _ (hR.bit rfl) ?_
      assumption
    clear_value v1
    refine kept_ite _ _ _ ?_ ?_
    · refine State.enqueue_kept _ _ _ (.of rfl hP) ?_
      assumption
    · refine State.queueFull_kept _ _ (.of rfl hP) ?_
      assumption

theorem State.laneClrFail_kept (s : State) (p : FMaster) (m : Nat) (hP : Sub 138714035200 P) (hR : Sub 0x4000000000000 R) (hk0
    : Kept P R o s) : Kept P R o (State.laneClrFail s p m) := by
  delta State.laneClrFail
  extract_lets +onlyGivenNames -underBinder -merge v1
  clear_value v1
  refine kept_ite _ _ _ ?_ ?_
  · extract_lets +onlyGivenNames -underBinder -merge v2
    have hv2 : Kept P R o v2 := by
      unfold v2
      refine State.lanesChanged_kept _ _ (.of rfl hP) (.of rfl hR) ?_
      refine State.modLane_kept _ _ _ (hP.bit rfl) ?_
      assumption
    clear_value v2
    refine kept_ite _ _ _ ?_ ?_
    · refine State.enqueue_kept _ _ _ (.of rfl hP) ?_
      assumption
    · refine State.queueFull_kept _ _ (.of rfl hP) ?_
      assumption
  · assumption

theorem State.laneRetire_kept (s : State) (p : FMaster) (m : Nat) (hP : Sub 67109888 P) (hR : Sub
    0x400000000000000000000000000000000000000000000 R) (hk0 : Kept P R o s) : Kept P R o (State.laneRetire s p m) := by
  delta State.laneRetire
  refine kept_ite _ _ _ ?_ ?_
  · assumption
  · refine kept_ite _ _ _ ?_ ?_
    · refine State.enqueue_kept _ _ _ (.of rfl hP) ?_
      refine State.put_kept _ _ _ _ (hR.bit rfl) ?_
      assumption
    · refine State.queueFull_kept _ _ (.of rfl hP) ?_
      assumption

theorem State.retireLane_kept (s : State) (m : Nat) (cause : Nat) (hP : Sub 138714035200 P) (hR : Sub
    0x400000000000000000000000000000004000000000000 R) (hk0 : Kept P R o s) : Kept P R o (State.retireLane s m cause) := by
  delta State.retireLane
  refine State.lanesChanged_kept _ _ (.of rfl hP) (.of rfl hR) ?_
  refine State.put_kept _ _ _ _ (hR.bit rfl) ?_
  refine State.modLane_kept _ _ _ (hP.bit rfl) ?_
  assumption

theorem State.wakeLane_kept (s : State) (m : Nat) (hP : Sub 138714035200 P) (hR : Sub 0x4000000000000 R) (hk0 : Kept P R o s)
    : Kept P R o (State.wakeLane s m) := by
  delta State.wakeLane
  extract_lets +onlyGivenNames -underBinder -merge v1
  clear_value v1
  refine kept_ite _ _ _ ?_ ?_
  · assumption
  · extract_lets +onlyGivenNames -underBinder -merge v2
    clear_value v2
    refine State.lanesChanged_kept _ _ (.of rfl hP) (.of rfl hR) ?_
    refine State.modLane_kept _ _ _ (hP.bit rfl) ?_
    assumption

theorem State.wakeHeat_kept (s : State) (h1 : Nat) (hP : Sub 20480 P) (hk0 : Kept P R o s) : Kept P R o (State.wakeHeat s h1)
    := by
  delta State.wakeHeat
  refine State.leaveBurst_kept _ _ (.of rfl hP) ?_
  assumption

theorem State.laneOffAt_kept (s : State) (m : Nat) (hP : Sub 138714035200 P) (hR : Sub 0x4000000000000 R) (hk0 : Kept P R o s)
    : Kept P R o (State.laneOffAt s m) := by
  delta State.laneOffAt
  refine kept_ite _ _ _ ?_ ?_
  · assumption
  · refine State.lanesChanged_kept _ _ (.of rfl hP) (.of rfl hR) ?_
    refine State.modLane_kept _ _ _ (hP.bit rfl) ?_
    assumption

/-! ### Machine/Baton.lean -/

theorem State.countErr_kept (s : State) (x : Fld) (src : Src) (hx_x : R.testBit (Reg.bit x.reg) = true) (hP : Sub 67108864 P)
    (hk0 : Kept P R o s) : Kept P R o (State.countErr s x src) := by
  delta State.countErr
  refine kept_ite _ _ _ ?_ ?_
  · assumption
  · refine State.raise_kept _ _ _ _ _ _ (.of rfl hP) ?_
    refine State.bump_kept _ _ _ ‹_› ?_
    assumption

theorem State.dropNotice_kept (s : State) (hP : Sub 67108864 P) (hR : Sub 0x10000000000 R) (hk0 : Kept P R o s) : Kept P R o
    (State.dropNotice s) := by
  delta State.dropNotice
  refine State.countErr_kept _ _ _ (hR.bit rfl) (.of rfl hP) ?_
  assumption

theorem State.packet_kept (s : State) (bits : BitVec 80) (edges : Nat) (hP : Sub 206233927680 P) (hR : Sub
    0x200000000000000000000000010000000000 R) (hk0 : Kept P R o s) : Kept P R o (State.packet s bits edges) := by
  delta State.packet
  extract_lets +onlyGivenNames -underBinder -merge v1
  refine kept_ite _ _ _ ?_ ?_
  · refine State.countErr_kept _ _ _ (hR.bit rfl) (.of rfl hP) ?_
    assumption
  · refine kept_ite _ _ _ ?_ ?_
    · refine State.dropNotice_kept _ (.of rfl hP) (.of rfl hR) ?_
      assumption
    · extract_lets +onlyGivenNames -underBinder -merge v2
      extract_lets +onlyGivenNames -underBinder -merge v3
      refine kept_ite _ _ _ ?_ ?_
      · refine kept_baton (s) _ (hP.bit rfl) ?_
        assumption
      · refine kept_ite _ _ _ ?_ ?_
        · extract_lets +onlyGivenNames -underBinder -merge v4
          have hv4 : Kept P R o v4 := by
            unfold v4
            refine kept_baton (s) _ (hP.bit rfl) ?_
            assumption
          refine kept_ite _ _ _ ?_ ?_
          · refine State.sendLink_kept _ _ (.of rfl hP) (.of rfl hR) ?_
            unfold v4
            refine kept_baton (s) _ (hP.bit rfl) ?_
            assumption
          · unfold v4
            refine kept_baton (s) _ (hP.bit rfl) ?_
            assumption
        · extract_lets +onlyGivenNames -underBinder -merge v4
          have hv4 : Kept P R o v4 := by
            unfold v4
            refine State.countErr_kept _ _ _ (hR.bit rfl) (.of rfl hP) ?_
            assumption
          clear_value v4
          refine kept_ite _ _ _ ?_ ?_
          · assumption
          · extract_lets +onlyGivenNames -underBinder -merge v5
            have hv5 : Kept P R o v5 := by
              unfold v5
              refine State.sendLink_kept _ _ (.of rfl hP) (.of rfl hR) ?_
              assumption
            clear_value v5
            refine kept_baton (v5) _ (hP.bit rfl) ?_
            assumption

theorem execBatonPacket_kept (bits : BitVec 80) (edges : Nat) (s : State) (hP : Sub 206233927680 P) (hR : Sub
    0x200000000000000000000000010000000000 R) (hk0 : Kept P R o s) : KeptR P R o (execBatonPacket bits edges s) := by
  delta execBatonPacket
  refine keptR_ite _ _ _ ?_ ?_
  · refine (KeptR_next _).mpr ?_
    assumption
  · extract_lets +onlyGivenNames -underBinder -merge v1
    clear_value v1
    extract_lets +onlyGivenNames -underBinder -merge v2
    have hv2 : Kept P R o v2 := by
      unfold v2
      refine State.packet_kept _ _ _ (.of rfl hP) (.of rfl hR) ?_
      assumption
    clear_value v2
    extract_lets +onlyGivenNames -underBinder -merge v3
    clear_value v3
    refine (KeptR_next _).mpr ?_
    refine kept_ite _ _ _ ?_ ?_
    · assumption
    · refine State.pfBaton_kept _ _ _ _ _ _ (.of rfl hP) (.of rfl hR) ?_
      assumption

theorem execBatonLinkAckDue_kept (s : State) (hP : Sub 206166818816 P) (hR : Sub 0x200000000000000000000000000000000000 R)
    (hk0 : Kept P R o s) : KeptR P R o (execBatonLinkAckDue s) := by
  delta execBatonLinkAckDue
  refine (KeptR_next _).mpr ?_
  refine kept_ite _ _ _ ?_ ?_
  · refine State.sendLink_kept _ _ (.of rfl hP) (.of rfl hR) ?_
    assumption
  · assumption

theorem State.resend_kept (s : State) (hP : Sub 206166818816 P) (hR : Sub 0x200000000000000000000000000000000000 R) (hk0 :
    Kept P R o s) : Kept P R o (State.resend s) := by
  delta State.resend
  extract_lets +onlyGivenNames -underBinder -merge v1
  clear_value v1
  extract_lets +onlyGivenNames -underBinder -merge v2
  have hv2 : Kept P R o v2 := by
    unfold v2
    refine kept_baton (s) _ (hP.bit rfl) ?_
    assumption
  clear_value v2
  refine State.forEach_kept _ _ _ ?_ ?_
  · intro y1_0 y1_1 hy1_2
    refine State.emit_kept _ _ (.of rfl hP) (.of rfl hR) ?_
    assumption
  · assumption

theorem execBatonResendTimeout_kept (s : State) (hP : Sub 206166818816 P) (hR : Sub 0x200000000000000000000000000000000000 R)
    (hk0 : Kept P R o s) : KeptR P R o (execBatonResendTimeout s) := by
  delta execBatonResendTimeout
  split
  · refine keptR_ite _ _ _ ?_ ?_
    · refine (KeptR_next _).mpr ?_
      refine State.resend_kept _ (.of rfl hP) (.of rfl hR) ?_
      assumption
    · refine (KeptR_next _).mpr ?_
      assumption
  · refine (KeptR_next _).mpr ?_
    assumption

theorem State.flushAcks_kept (x0 : Nat) (x1 : State) (hP : Sub 206166818816 P) (hR : Sub
    0x200000000000000000000000000000000000 R) (hk0 : Kept P R o x1) : Kept P R o (State.flushAcks x0 x1) := by
  induction x0 generalizing x1 with
  | zero => exact hk0
  | succ n ih =>
    rw [State.flushAcks]
    split
    · exact hk0
    · split
      · exact ih _ (State.sendNow_kept _ _ _ (.of rfl hP) (.of rfl hR) (kept_baton _ _ (hP.bit rfl) hk0))
      · exact hk0

theorem State.linkNotice_kept (s : State) (body : BitVec 52) (hP : Sub 206166818816 P) (hR : Sub
    0x200000000000000000000000000000000000 R) (hk0 : Kept P R o s) : Kept P R o (State.linkNotice s body) := by
  delta State.linkNotice
  refine kept_ite _ _ _ ?_ ?_
  · refine kept_baton (s) _ (hP.bit rfl) ?_
    assumption
  · extract_lets +onlyGivenNames -underBinder -merge v1
    clear_value v1
    extract_lets +onlyGivenNames -underBinder -merge v2
    have hv2 : Kept P R o v2 := by
      unfold v2
      refine kept_baton (s) _ (hP.bit rfl) ?_
      assumption
    clear_value v2
    extract_lets +onlyGivenNames -underBinder -merge v3
    have hv3 : Kept P R o v3 := by
      unfold v3
      refine kept_ite _ _ _ ?_ ?_
      · refine State.resend_kept _ (.of rfl hP) (.of rfl hR) ?_
        assumption
      · assumption
    clear_value v3
    refine State.flushAcks_kept _ _ (.of rfl hP) (.of rfl hR) ?_
    assumption

theorem State.popNotice_kept (s : State) (p : BitVec 64) (hP : Sub 41943040 P) (hk0 : Kept P R o s) : Kept P R o
    (State.popNotice s p) := by
  delta State.popNotice
  refine kept_upd (s) _ 41943040 rfl ⟨[], (List.append_nil _).symm⟩ rfl (by intro p hp; cases p <;> first | rfl | cases hp) (.of rfl hP) ?_
  assumption

theorem State.refuse_kept (s : State) (typ : Nat) (seq : Nat) (body : BitVec 52) (status : Nat) (ra : Nat) (hP : Sub
    206250704896 P) (hR : Sub 0x200000000000000000000000010000000000 R) (hk0 : Kept P R o s) : Kept P R o (State.refuse s typ seq body status ra) :=
    by
  delta State.refuse
  extract_lets +onlyGivenNames -underBinder -merge v1
  clear_value v1
  extract_lets +onlyGivenNames -underBinder -merge v2
  have hv2 : Kept P R o v2 := by
    unfold v2
    refine kept_ite _ _ _ ?_ ?_
    · refine State.countErr_kept _ _ _ (hR.bit rfl) (.of rfl hP) ?_
      assumption
    · assumption
  clear_value v2
  extract_lets +onlyGivenNames -underBinder -merge v3
  have hv3 : Kept P R o v3 := by
    unfold v3
    refine State.ackNack_kept _ _ _ _ _ _ (.of rfl hP) (.of rfl hR) ?_
    assumption
  clear_value v3
  refine kept_ite _ _ _ ?_ ?_
  · refine State.modSlot_kept _ _ _ (hP.bit rfl) ?_
    assumption
  · assumption

theorem State.acceptTag_kept (s : State) (typ : Nat) (seq : Nat) (tag : Nat) (status : Nat) (hP : Sub 206183596032 P) (hR :
    Sub 0x200000000000000000000000000000000000 R) (hk0 : Kept P R o s) : Kept P R o (State.acceptTag s typ seq tag status) := by
  delta State.acceptTag
  refine State.ackAccept_kept _ _ _ _ _ (.of rfl hP) (.of rfl hR) ?_
  refine State.modSlot_kept _ _ _ (hP.bit rfl) ?_
  assumption

theorem State.refuseRetry_kept (s : State) (typ : Nat) (seq : Nat) (body : BitVec 52) (hP : Sub 481128611840 P) (hR : Sub
    0x200000000000000000000000010000000000 R) (hk0 : Kept P R o s) : Kept P R o (State.refuseRetry s typ seq body) := by
  delta State.refuseRetry
  extract_lets +onlyGivenNames -underBinder -merge v1
  have hv1 : Kept P R o v1 := by
    unfold v1
    refine State.refuse_kept _ _ _ _ _ _ (.of rfl hP) (.of rfl hR) ?_
    assumption
  clear_value v1
  refine kept_freeCtr (v1) _ (hP.bit rfl) ?_
  assumption

theorem State.takeNotice_kept (s : State) (typ : Nat) (seq : Nat) (body : BitVec 52) (timed : Bool) (retry : Bool) (act :
    State → State) (hact : ∀ (y0 : State), Kept P R o y0 → Kept P R o (act y0)) (hP : Sub 481162166272 P) (hR : Sub
    0x200000000000000000000000010000000000 R) (hk0 : Kept P R o s) : Kept P R o (State.takeNotice s typ seq body timed retry act) := by
  delta State.takeNotice
  refine kept_ite _ _ _ ?_ ?_
  · refine State.dropNotice_kept _ (.of rfl hP) (.of rfl hR) ?_
    assumption
  · extract_lets +onlyGivenNames -underBinder -merge v1
    have hv1 : Kept P R o v1 := by
      unfold v1
      refine State.popNotice_kept _ _ (.of rfl hP) ?_
      assumption
    clear_value v1
    refine kept_ite _ _ _ ?_ ?_
    · refine State.refuse_kept _ _ _ _ _ _ (.of rfl hP) (.of rfl hR) ?_
      assumption
    · refine kept_ite _ _ _ ?_ ?_
      · refine State.refuse_kept _ _ _ _ _ _ (.of rfl hP) (.of rfl hR) ?_
        assumption
      · refine kept_ite _ _ _ ?_ ?_
        · refine State.refuseRetry_kept _ _ _ _ (.of rfl hP) (.of rfl hR) ?_
          assumption
        · refine kept_ite _ _ _ ?_ ?_
          · refine State.refuse_kept _ _ _ _ _ _ (.of rfl hP) (.of rfl hR) ?_
            assumption
          · refine hact _ ?_
            assumption

theorem execNop_kept (seq : BitVec 8) (body : BitVec 52) (s : State) (hP : Sub 109051904 P) (hR : Sub 0x10000000000 R) (hk0 :
    Kept P R o s) : KeptR P R o (execNop seq body s) := by
  delta execNop
  refine (KeptR_next _).mpr ?_
  refine kept_ite _ _ _ ?_ ?_
  · refine State.popNotice_kept _ _ (.of rfl hP) ?_
    assumption
  · refine State.dropNotice_kept _ (.of rfl hP) (.of rfl hR) ?_
    assumption

theorem State.linkPacket_kept (s : State) (seq : BitVec 8) (body : BitVec 52) (hP : Sub 206267482112 P) (hR : Sub
    0x200000000000000000000000010000000000 R) (hk0 : Kept P R o s) : Kept P R o (State.linkPacket s seq body) := by
  delta State.linkPacket
  refine kept_ite _ _ _ ?_ ?_
  · refine State.dropNotice_kept _ (.of rfl hP) (.of rfl hR) ?_
    assumption
  · extract_lets +onlyGivenNames -underBinder -merge v1
    have hv1 : Kept P R o v1 := by
      unfold v1
      refine State.popNotice_kept _ _ (.of rfl hP) ?_
      assumption
    clear_value v1
    refine kept_ite _ _ _ ?_ ?_
    · refine State.countErr_kept _ _ _ (hR.bit rfl) (.of rfl hP) ?_
      assumption
    · refine State.linkNotice_kept _ _ (.of rfl hP) (.of rfl hR) ?_
      assumption

theorem execLink_kept (seq : BitVec 8) (body : BitVec 52) (s : State) (hP : Sub 206267482112 P) (hR : Sub
    0x200000000000000000000000010000000000 R) (hk0 : Kept P R o s) : KeptR P R o (execLink seq body s) := by
  delta execLink
  refine (KeptR_next _).mpr ?_
  refine State.linkPacket_kept _ _ _ (.of rfl hP) (.of rfl hR) ?_
  assumption

theorem execLinkReset_kept (seq : BitVec 8) (body : BitVec 52) (s : State) (hP : Sub 206267482112 P) (hR : Sub
    0x200000000000000000000000010000000000 R) (hk0 : Kept P R o s) : KeptR P R o (execLinkReset seq body s) := by
  delta execLinkReset
  refine (KeptR_next _).mpr ?_
  refine State.linkPacket_kept _ _ _ (.of rfl hP) (.of rfl hR) ?_
  assumption

theorem execNoticeUndefined_kept (ntype : BitVec 4) (seq : BitVec 8) (body : BitVec 52) (s : State) (hP : Sub 206284259328 P)
    (hR : Sub 0x200000000000000000000000010000000000 R) (hk0 : Kept P R o s) : KeptR P R o (execNoticeUndefined ntype seq body s) := by
  delta execNoticeUndefined
  refine checked_kept _ _ _ ?_
  refine (KeptR_next _).mpr ?_
  refine kept_ite _ _ _ ?_ ?_
  · refine State.dropNotice_kept _ (.of rfl hP) (.of rfl hR) ?_
    assumption
  · refine State.refuse_kept _ _ _ _ _ _ (.of rfl hP) (.of rfl hR) ?_
    refine State.popNotice_kept _ _ (.of rfl hP) ?_
    assumption

theorem State.execSetpt_kept (s : State) (tag : Nat) (late : Bool) (hP : Sub 206183621632 P) (hR : Sub
    0x200000000000000000000000000000000000 R) (hk0 : Kept P R o s) : Kept P R o (State.execSetpt s tag late) := by
  delta State.execSetpt
  extract_lets +onlyGivenNames -underBinder -merge v1
  clear_value v1
  extract_lets +onlyGivenNames -underBinder -merge v2
  have hv2 : Kept P R o v2 := by
    unfold v2
    refine State.forEach_kept _ _ _ ?_ ?_
    · intro y1_0 y1_1 hy1_2
      refine kept_ite _ _ _ ?_ ?_
      · refine State.endSlot_kept _ _ _ (.of rfl hP) (.of rfl hR) ?_
        assumption
      · assumption
    · assumption
  clear_value v2
  extract_lets +onlyGivenNames -underBinder -merge v3
  clear_value v3
  extract_lets +onlyGivenNames -underBinder -merge v4
  clear_value v4
  extract_lets +onlyGivenNames -underBinder -merge v5
  clear_value v5
  extract_lets +onlyGivenNames -underBinder -merge v6
  have hv6 : Kept P R o v6 := by
    unfold v6
    refine State.forEach_kept _ _ _ ?_ ?_
    · intro y1_0 y1_1 hy1_2
      refine State.modRgn_kept _ _ _ (hP.bit rfl) ?_
      assumption
    · assumption
  clear_value v6
  extract_lets +onlyGivenNames -underBinder -merge v7
  have hv7 : Kept P R o v7 := by
    unfold v7
    refine State.forEach_kept _ _ _ ?_ ?_
    · intro y1_0 y1_1 hy1_2
      refine kept_ite _ _ _ ?_ ?_
      · assumption
      · refine State.modHeat_kept _ _ _ (hP.bit rfl) ?_
        assumption
    · assumption
  clear_value v7
  refine State.modSlot_kept _ _ _ (hP.bit rfl) ?_
  assumption

theorem State.setptDue_kept (s : State) (tag : Nat) (late : Bool) (hP : Sub 206183621632 P) (hR : Sub
    0x200000000000000000000000000000000000 R) (hk0 : Kept P R o s) : Kept P R o (State.setptDue s tag late) := by
  delta State.setptDue
  extract_lets +onlyGivenNames -underBinder -merge v1
  clear_value v1
  refine kept_ite _ _ _ ?_ ?_
  · refine State.execSetpt_kept _ _ _ (.of rfl hP) (.of rfl hR) ?_
    assumption
  · extract_lets +onlyGivenNames -underBinder -merge v2
    clear_value v2
    refine State.ackDefer_kept _ _ _ _ (.of rfl hP) (.of rfl hR) ?_
    refine State.modSlot_kept _ _ _ (hP.bit rfl) ?_
    assumption

theorem State.setptRetry_kept (s : State) (tag : Nat) (hP : Sub 206183621632 P) (hR : Sub
    0x200000000000000000000000000000000000 R) (hk0 : Kept P R o s) : Kept P R o (State.setptRetry s tag) := by
  delta State.setptRetry
  split
  · refine State.execSetpt_kept _ _ _ (.of rfl hP) (.of rfl hR) ?_
    assumption
  · assumption
  · refine State.modSlot_kept _ _ _ (hP.bit rfl) ?_
    assumption

theorem State.finishSlots_kept (s : State) (hP : Sub 206183597056 P) (hR : Sub 0x200000000000000000000000000000000000 R) (hk0
    : Kept P R o s) : Kept P R o (State.finishSlots s) := by
  delta State.finishSlots
  refine State.forEach_kept _ _ _ ?_ ?_
  · intro y1_0 y1_1 hy1_2
    extract_lets +onlyGivenNames -underBinder -merge v1
    clear_value v1
    extract_lets +onlyGivenNames -underBinder -merge v2
    clear_value v2
    refine kept_ite _ _ _ ?_ ?_
    · refine State.endSlot_kept _ _ _ (.of rfl hP) (.of rfl hR) ?_
      assumption
    · assumption
  · assumption

theorem State.immSetpts_kept (s : State) (hP : Sub 206183621632 P) (hR : Sub 0x200000000000000000000000000000000000 R) (hk0 :
    Kept P R o s) : Kept P R o (State.immSetpts s) := by
  delta State.immSetpts
  refine State.forEach_kept _ _ _ ?_ ?_
  · intro y1_0 y1_1 hy1_2
    refine State.execSetpt_kept _ _ _ (.of rfl hP) (.of rfl hR) ?_
    assumption
  · assumption

theorem State.acceptSetpt_kept (s : State) (seq : Nat) (body : BitVec 52) (hP : Sub 206183597056 P) (hR : Sub
    0x200000000000000000000000000000000000 R) (hk0 : Kept P R o s) : Kept P R o (State.acceptSetpt s seq body) := by
  delta State.acceptSetpt
  extract_lets +onlyGivenNames -underBinder -merge v1
  clear_value v1
  extract_lets +onlyGivenNames -underBinder -merge v2
  clear_value v2
  extract_lets +onlyGivenNames -underBinder -merge v3
  clear_value v3
  extract_lets +onlyGivenNames -underBinder -merge v4
  have hv4 : Kept P R o v4 := by
    unfold v4
    refine State.modSlot_kept _ _ _ (hP.bit rfl) ?_
    assumption
  clear_value v4
  extract_lets +onlyGivenNames -underBinder -merge v5
  have hv5 : Kept P R o v5 := by
    unfold v5
    refine kept_ite _ _ _ ?_ ?_
    · assumption
    · refine State.enqueue_kept _ _ _ (.of rfl hP) ?_
      assumption
  clear_value v5
  refine State.ackAccept_kept _ _ _ _ _ (.of rfl hP) (.of rfl hR) ?_
  assumption

theorem State.setptNotice_kept (s : State) (seq : Nat) (body : BitVec 52) (hP : Sub 481162167296 P) (hR : Sub
    0x200000000000000000000000010000000000 R) (hk0 : Kept P R o s) : Kept P R o (State.setptNotice s seq body) := by
  delta State.setptNotice
  extract_lets +onlyGivenNames -underBinder -merge v1
  clear_value v1
  refine State.takeNotice_kept _ _ _ _ _ _ _ ?_ (.of rfl hP) (.of rfl hR) ?_
  · intro y1_0 hy1_1
    extract_lets +onlyGivenNames -underBinder -merge v2
    clear_value v2
    extract_lets +onlyGivenNames -underBinder -merge v3
    clear_value v3
    extract_lets +onlyGivenNames -underBinder -merge v4
    clear_value v4
    extract_lets +onlyGivenNames -underBinder -merge v5
    extract_lets +onlyGivenNames -underBinder -merge v6
    clear_value v6
    extract_lets +onlyGivenNames -underBinder -merge v7
    clear_value v7
    refine kept_ite _ _ _ ?_ ?_
    · refine State.refuse_kept _ _ _ _ _ _ (.of rfl hP) (.of rfl hR) ?_
      assumption
    · refine kept_ite _ _ _ ?_ ?_
      · refine State.refuse_kept _ _ _ _ _ _ (.of rfl hP) (.of rfl hR) ?_
        assumption
      · refine kept_ite _ _ _ ?_ ?_
        · refine State.queueFull_kept _ _ (.of rfl hP) ?_
          refine State.refuse_kept _ _ _ _ _ _ (.of rfl hP) (.of rfl hR) ?_
          assumption
        · refine State.acceptSetpt_kept _ _ _ (.of rfl hP) (.of rfl hR) ?_
          assumption
  · assumption

theorem execSetpoint_kept (seq : BitVec 8) (body : BitVec 52) (s : State) (hP : Sub 481162167296 P) (hR : Sub
    0x200000000000000000000000010000000000 R) (hk0 : Kept P R o s) : KeptR P R o (execSetpoint seq body s) := by
  delta execSetpoint
  refine (KeptR_next _).mpr ?_
  refine State.setptNotice_kept _ _ _ (.of rfl hP) (.of rfl hR) ?_
  assumption

theorem execSetpointImmediate_kept (seq : BitVec 8) (body : BitVec 52) (s : State) (hP : Sub 481162167296 P) (hR : Sub
    0x200000000000000000000000010000000000 R) (hk0 : Kept P R o s) : KeptR P R o (execSetpointImmediate seq body s) := by
  delta execSetpointImmediate
  refine (KeptR_next _).mpr ?_
  refine State.setptNotice_kept _ _ _ (.of rfl hP) (.of rfl hR) ?_
  assumption

theorem execSetpointTimeout_kept (tag : BitVec 8) (s : State) (hP : Sub 206183597056 P) (hR : Sub
    0x200000000000000000000000000000000000 R) (hk0 : Kept P R o s) : KeptR P R o (execSetpointTimeout tag s) := by
  delta execSetpointTimeout
  extract_lets +onlyGivenNames -underBinder -merge v1
  clear_value v1
  refine (KeptR_next _).mpr ?_
  refine kept_ite _ _ _ ?_ ?_
  · refine State.endSlot_kept _ _ _ (.of rfl hP) (.of rfl hR) ?_
    assumption
  · assumption

theorem execGateTimeout_kept (tag : BitVec 8) (s : State) (hP : Sub 206183597056 P) (hR : Sub
    0x200000000000000000000000000000000000 R) (hk0 : Kept P R o s) : KeptR P R o (execGateTimeout tag s) := by
  delta execGateTimeout
  extract_lets +onlyGivenNames -underBinder -merge v1
  clear_value v1
  refine (KeptR_next _).mpr ?_
  refine kept_ite _ _ _ ?_ ?_
  · refine State.endSlot_kept _ _ _ (.of rfl hP) (.of rfl hR) ?_
    assumption
  · assumption

theorem execDeferTimeout_kept (tag : BitVec 8) (s : State) (hP : Sub 206183597056 P) (hR : Sub
    0x200000000000000000000000000000000000 R) (hk0 : Kept P R o s) : KeptR P R o (execDeferTimeout tag s) := by
  delta execDeferTimeout
  extract_lets +onlyGivenNames -underBinder -merge v1
  clear_value v1
  refine (KeptR_next _).mpr ?_
  refine kept_ite _ _ _ ?_ ?_
  · refine State.endSlot_kept _ _ _ (.of rfl hP) (.of rfl hR) ?_
    assumption
  · assumption

theorem State.undoSetpt_kept (s : State) (tag : Nat) (hP : Sub 8192 P) (hk0 : Kept P R o s) : Kept P R o (State.undoSetpt s
    tag) := by
  delta State.undoSetpt
  refine State.forEach_kept _ _ _ ?_ ?_
  · intro y1_0 y1_1 hy1_2
    refine State.modRgn_kept _ _ _ (hP.bit rfl) ?_
    assumption
  · assumption

theorem State.abortSlot_kept (s : State) (tag : Nat) (hP : Sub 206183605248 P) (hR : Sub
    0x200000000000000000000000000000000000 R) (hk0 : Kept P R o s) : Kept P R o (State.abortSlot s tag) := by
  delta State.abortSlot
  extract_lets +onlyGivenNames -underBinder -merge v1
  clear_value v1
  extract_lets +onlyGivenNames -underBinder -merge v2
  have hv2 : ∀ (y0 : State), Kept P R o y0 → Kept P R o (v2 y0) := by
    intro y1_0 hy1_1
    unfold v2
    refine State.ackAborted_kept _ _ _ (.of rfl hP) (.of rfl hR) ?_
    refine State.modSlot_kept _ _ _ (hP.bit rfl) ?_
    assumption
  clear_value v2
  refine kept_ite _ _ _ ?_ ?_
  · refine State.ackAborted_kept _ _ _ (.of rfl hP) (.of rfl hR) ?_
    assumption
  · split
    · refine hv2 _ ?_
      refine State.dequeue_kept _ _ (.of rfl hP) ?_
      assumption
    · refine hv2 _ ?_
      refine State.dequeue_kept _ _ (.of rfl hP) ?_
      assumption
    · refine hv2 _ ?_
      refine State.releaseHold_kept _ _ (.of rfl hP) ?_
      refine State.undoSetpt_kept _ _ (.of rfl hP) ?_
      assumption
    · refine State.ackAborted_kept _ _ _ (.of rfl hP) (.of rfl hR) ?_
      assumption
    · refine State.ackAborted_kept _ _ _ (.of rfl hP) (.of rfl hR) ?_
      assumption

theorem execAbort_kept (seq : BitVec 8) (body : BitVec 52) (s : State) (hP : Sub 481162175488 P) (hR : Sub
    0x200000000000000000000000010000000000 R) (hk0 : Kept P R o s) : KeptR P R o (execAbort seq body s) := by
  delta execAbort
  refine (KeptR_next _).mpr ?_
  refine State.takeNotice_kept _ _ _ _ _ _ _ ?_ (.of rfl hP) (.of rfl hR) ?_
  · intro y1_0 hy1_1
    refine State.abortSlot_kept _ _ (.of rfl hP) (.of rfl hR) ?_
    assumption
  · assumption

theorem State.queueNotice_kept (s : State) (typ : Nat) (seq : Nat) (body : BitVec 52) (due : Nat × Bool) (a : Action) (hP :
    Sub 206250705920 P) (hR : Sub 0x200000000000000000000000010000000000 R) (hk0 : Kept P R o s) : Kept P R o (State.queueNotice s typ seq body due a)
    := by
  delta State.queueNotice
  refine kept_ite _ _ _ ?_ ?_
  · refine State.acceptTag_kept _ _ _ _ _ (.of rfl hP) (.of rfl hR) ?_
    refine State.enqueue_kept _ _ _ (.of rfl hP) ?_
    assumption
  · refine State.queueFull_kept _ _ (.of rfl hP) ?_
    refine State.refuse_kept _ _ _ _ _ _ (.of rfl hP) (.of rfl hR) ?_
    assumption

theorem State.contextNotice_kept (s : State) (seq : Nat) (body : BitVec 52) (hP : Sub 481162167296 P) (hR : Sub
    0x200000000000000000000000010000000000 R) (hk0 : Kept P R o s) : Kept P R o (State.contextNotice s seq body) := by
  delta State.contextNotice
  refine State.takeNotice_kept _ _ _ _ _ _ _ ?_ (.of rfl hP) (.of rfl hR) ?_
  · intro y1_0 hy1_1
    extract_lets +onlyGivenNames -underBinder -merge v1
    clear_value v1
    extract_lets +onlyGivenNames -underBinder -merge v2
    clear_value v2
    refine State.queueNotice_kept _ _ _ _ _ _ (.of rfl hP) (.of rfl hR) ?_
    assumption
  · assumption

theorem execContextSwitch_kept (seq : BitVec 8) (body : BitVec 52) (s : State) (hP : Sub 481162167296 P) (hR : Sub
    0x200000000000000000000000010000000000 R) (hk0 : Kept P R o s) : KeptR P R o (execContextSwitch seq body s) := by
  delta execContextSwitch
  refine (KeptR_next _).mpr ?_
  refine State.contextNotice_kept _ _ _ (.of rfl hP) (.of rfl hR) ?_
  assumption

theorem execContextSwitchNewUser_kept (seq : BitVec 8) (body : BitVec 52) (s : State) (hP : Sub 481162167296 P) (hR : Sub
    0x200000000000000000000000010000000000 R) (hk0 : Kept P R o s) : KeptR P R o (execContextSwitchNewUser seq body s) := by
  delta execContextSwitchNewUser
  refine (KeptR_next _).mpr ?_
  refine State.contextNotice_kept _ _ _ (.of rfl hP) (.of rfl hR) ?_
  assumption

theorem execContextClose_kept (seq : BitVec 8) (body : BitVec 52) (s : State) (hP : Sub 481162167296 P) (hR : Sub
    0x200000000000000000000000010000000000 R) (hk0 : Kept P R o s) : KeptR P R o (execContextClose seq body s) := by
  delta execContextClose
  refine (KeptR_next _).mpr ?_
  refine State.contextNotice_kept _ _ _ (.of rfl hP) (.of rfl hR) ?_
  assumption

theorem execPeriod_kept (seq : BitVec 8) (body : BitVec 52) (s : State) (hP : Sub 481162167296 P) (hR : Sub
    0x200000000000000000000000010000000000 R) (hk0 : Kept P R o s) : KeptR P R o (execPeriod seq body s) := by
  delta execPeriod
  refine (KeptR_next _).mpr ?_
  refine State.takeNotice_kept _ _ _ _ _ _ _ ?_ (.of rfl hP) (.of rfl hR) ?_
  · intro y1_0 hy1_1
    extract_lets +onlyGivenNames -underBinder -merge v1
    clear_value v1
    refine kept_ite _ _ _ ?_ ?_
    · refine State.refuse_kept _ _ _ _ _ _ (.of rfl hP) (.of rfl hR) ?_
      assumption
    · refine State.queueNotice_kept _ _ _ _ _ _ (.of rfl hP) (.of rfl hR) ?_
      assumption
  · assumption

theorem State.reachTarget_kept (s : State) (h1 : Nat) (hP : Sub 206183613440 P) (hR : Sub
    0x200000000000000000000000000000000000 R) (hk0 : Kept P R o s) : Kept P R o (State.reachTarget s h1) := by
  delta State.reachTarget
  refine kept_ite _ _ _ ?_ ?_
  · assumption
  · refine State.finishSlots_kept _ (.of rfl hP) (.of rfl hR) ?_
    refine State.modHeat_kept _ _ _ (hP.bit rfl) ?_
    assumption

/-! ### Machine/Barriers.lean -/

theorem State.noticeWakes_kept (s : State) (ns : List Nat) (due : Nat) (hP : Sub 67130368 P) (hk0 : Kept P R o s) : Kept P R o
    (State.noticeWakes s ns due) := by
  delta State.noticeWakes
  refine State.forEach_kept _ _ _ ?_ ?_
  · intro y1_0 y1_1 hy1_2
    extract_lets +onlyGivenNames -underBinder -merge v1
    clear_value v1
    extract_lets +onlyGivenNames -underBinder -merge v2
    clear_value v2
    refine kept_ite _ _ _ ?_ ?_
    · assumption
    · refine kept_ite _ _ _ ?_ ?_
      · refine State.enqueue_kept _ _ _ (.of rfl hP) ?_
        assumption
      · refine State.queueFull_kept _ _ (.of rfl hP) ?_
        refine State.wakeHeat_kept _ _ (.of rfl hP) ?_
        assumption
  · assumption

theorem State.enterActivity_kept (s : State) (body : BitVec 52) (hP : Sub 100684800 P) (hR : Sub
    0x400000000000000000000000000000000000010000000000 R) (hk0 : Kept P R o s) : Kept P R o (State.enterActivity s body) := by
  delta State.enterActivity
  extract_lets +onlyGivenNames -underBinder -merge v1
  clear_value v1
  extract_lets +onlyGivenNames -underBinder -merge v2
  clear_value v2
  extract_lets +onlyGivenNames -underBinder -merge v3
  clear_value v3
  extract_lets +onlyGivenNames -underBinder -merge v4
  clear_value v4
  extract_lets +onlyGivenNames -underBinder -merge v5
  clear_value v5
  extract_lets +onlyGivenNames -underBinder -merge v6
  have hv6 : Kept P R o v6 := by
    unfold v6
    refine kept_ite _ _ _ ?_ ?_
    · refine State.countErr_kept _ _ _ (hR.bit rfl) (.of rfl hP) ?_
      assumption
    · assumption
  clear_value v6
  extract_lets +onlyGivenNames -underBinder -merge v7
  have hv7 : Kept P R o v7 := by
    unfold v7
    refine kept_ite _ _ _ ?_ ?_
    · refine State.bump_kept _ _ _ (hR.bit rfl) ?_
      assumption
    · assumption
  clear_value v7
  extract_lets +onlyGivenNames -underBinder -merge v8
  clear_value v8
  extract_lets +onlyGivenNames -underBinder -merge v9
  have hv9 : Kept P R o v9 := by
    unfold v9
    refine State.ringFix_kept _ _ (.of rfl hP) ?_
    refine State.openGroup_kept _ _ _ (.of rfl hP) ?_
    refine kept_pacer (v7) _ (hP.bit rfl) ?_
    assumption
  clear_value v9
  refine State.noticeWakes_kept _ _ _ (.of rfl hP) ?_
  assumption

theorem execActivity_kept (seq : BitVec 8) (body : BitVec 52) (s : State) (hP : Sub 109073408 P) (hR : Sub
    0x400000000000000000000000000000000000010000000000 R) (hk0 : Kept P R o s) : KeptR P R o (execActivity seq body s) := by
  delta execActivity
  refine keptR_ite _ _ _ ?_ ?_
  · refine (KeptR_next _).mpr ?_
    refine State.dropNotice_kept _ (.of rfl hP) (.of rfl hR) ?_
    assumption
  · extract_lets +onlyGivenNames -underBinder -merge v1
    have hv1 : Kept P R o v1 := by
      unfold v1
      refine State.popNotice_kept _ _ (.of rfl hP) ?_
      assumption
    clear_value v1
    refine (KeptR_next _).mpr ?_
    refine kept_ite _ _ _ ?_ ?_
    · refine State.dropNotice_kept _ (.of rfl hP) (.of rfl hR) ?_
      refine State.countErr_kept _ _ _ (hR.bit rfl) (.of rfl hP) ?_
      assumption
    · refine kept_ite _ _ _ ?_ ?_
      · refine State.dropNotice_kept _ (.of rfl hP) (.of rfl hR) ?_
        assumption
      · refine kept_ite _ _ _ ?_ ?_
        · refine State.dropNotice_kept _ (.of rfl hP) (.of rfl hR) ?_
          assumption
        · refine kept_ite _ _ _ ?_ ?_
          · refine State.dropNotice_kept _ (.of rfl hP) (.of rfl hR) ?_
            assumption
          · refine State.enterActivity_kept _ _ (.of rfl hP) (.of rfl hR) ?_
            assumption

theorem State.heatsAt_kept (s : State) (t : Nat) (hP : Sub 98304 P) (hk0 : Kept P R o s) : Kept P R o (State.heatsAt s t) :=
    by
  delta State.heatsAt
  extract_lets +onlyGivenNames -underBinder -merge v1
  clear_value v1
  refine State.recompute_kept _ (hP.bit rfl) ?_
  refine foldl_kept _ _ _ ?_ ?_
  · intro y1_0 y1_1 hy1_2
    split
    · refine State.setGate_kept _ _ _ (hP.bit rfl) ?_
      assumption
    · refine State.setGate_kept _ _ _ (hP.bit rfl) ?_
      assumption
    · assumption
  · assumption

theorem State.moveRelease_kept (s : State) (regions : List Nat) (rel : Nat) (t : Nat) (hP : Sub 33554432 P) (hk0 : Kept P R o
    s) : Kept P R o (State.moveRelease s regions rel t) := by
  delta State.moveRelease
  refine kept_pacer (s) _ (hP.bit rfl) ?_
  assumption

theorem State.requeue_kept (s : State) (a : Action) (due : Nat) (hP : Sub 1024 P) (hk0 : Kept P R o s) : Kept P R o
    (State.requeue s a due) := by
  delta State.requeue
  refine kept_step (s) _ (hP.bit rfl) ?_
  assumption

theorem State.orderLift_kept (s : State) (b : Barrier) (ms : List Nat) (t : Nat) (hP : Sub 100664320 P) (hR : Sub
    0x400000000000000000000000000000000000000000000000 R) (hk0 : Kept P R o s) : Kept P R o (State.orderLift s b ms t) := by
  delta State.orderLift
  extract_lets +onlyGivenNames -underBinder -merge v1
  clear_value v1
  extract_lets +onlyGivenNames -underBinder -merge v2
  clear_value v2
  extract_lets +onlyGivenNames -underBinder -merge v3
  clear_value v3
  extract_lets +onlyGivenNames -underBinder -merge v4
  clear_value v4
  extract_lets +onlyGivenNames -underBinder -merge v5
  clear_value v5
  extract_lets +onlyGivenNames -underBinder -merge v6
  clear_value v6
  split
  · extract_lets +onlyGivenNames -underBinder -merge v7
    clear_value v7
    refine State.requeue_kept _ _ _ (.of rfl hP) ?_
    refine State.requeue_kept _ _ _ (.of rfl hP) ?_
    refine kept_pacer (s) _ (hP.bit rfl) ?_
    assumption
  · refine kept_ite _ _ _ ?_ ?_
    · extract_lets +onlyGivenNames -underBinder -merge v7
      clear_value v7
      extract_lets +onlyGivenNames -underBinder -merge v8
      clear_value v8
      refine State.enqueue_kept _ _ _ (.of rfl hP) ?_
      refine State.enqueue_kept _ _ _ (.of rfl hP) ?_
      refine kept_pacer (s) _ (hP.bit rfl) ?_
      assumption
    · refine State.queueFull_kept _ _ (.of rfl hP) ?_
      refine State.bump_kept _ _ _ (hR.bit rfl) ?_
      assumption

theorem State.prepare_kept (s : State) (b : Barrier) (hP : Sub 100672512 P) (hR : Sub
    0x400000000000000000000000000000000000000000000000 R) (hk0 : Kept P R o s) : Kept P R o (State.prepare s b) := by
  delta State.prepare
  extract_lets +onlyGivenNames -underBinder -merge v1
  have hv1 : Kept P R o v1 := by
    unfold v1
    refine State.forEach_kept _ _ _ ?_ ?_
    · intro y1_0 y1_1 hy1_2
      extract_lets +onlyGivenNames -underBinder -merge v2
      clear_value v2
      refine kept_ite _ _ _ ?_ ?_
      · refine State.orderLift_kept _ _ _ _ (.of rfl hP) (.of rfl hR) ?_
        assumption
      · assumption
    · assumption
  clear_value v1
  refine State.forEach_kept _ _ _ ?_ ?_
  · intro y1_0 y1_1 hy1_2
    refine kept_ite _ _ _ ?_ ?_
    · refine State.modRgn_kept _ _ _ (hP.bit rfl) ?_
      assumption
    · assumption
  · assumption

theorem State.execLift_kept (s : State) (id : Nat) (hP : Sub 33570816 P) (hk0 : Kept P R o s) : Kept P R o (State.execLift s
    id) := by
  delta State.execLift
  split
  · assumption
  · extract_lets +onlyGivenNames -underBinder -merge v1
    clear_value v1
    extract_lets +onlyGivenNames -underBinder -merge v2
    have hv2 : Kept P R o v2 := by
      unfold v2
      refine kept_pacer (s) _ (hP.bit rfl) ?_
      assumption
    clear_value v2
    refine State.forEach_kept _ _ _ ?_ ?_
    · intro y1_0 y1_1 hy1_2
      refine State.modHeat_kept _ _ _ (hP.bit rfl) ?_
      assumption
    · assumption

theorem State.setBarrier_kept (s : State) (b : Barrier) (hP : Sub 33554432 P) (hk0 : Kept P R o s) : Kept P R o
    (State.setBarrier s b) := by
  delta State.setBarrier
  refine kept_pacer (s) _ (hP.bit rfl) ?_
  assumption

theorem State.enterBarrier_kept (s : State) (seq : Nat) (body : BitVec 52) (rs : List Nat) (hP : Sub 206284289024 P) (hR : Sub
    0x400000000000200000000000000000000000000000000000 R) (hk0 : Kept P R o s) : Kept P R o (State.enterBarrier s seq body rs) := by
  delta State.enterBarrier
  extract_lets +onlyGivenNames -underBinder -merge v1
  clear_value v1
  extract_lets +onlyGivenNames -underBinder -merge v2
  clear_value v2
  extract_lets +onlyGivenNames -underBinder -merge v3
  clear_value v3
  extract_lets +onlyGivenNames -underBinder -merge v4
  clear_value v4
  extract_lets +onlyGivenNames -underBinder -merge v5
  clear_value v5
  extract_lets +onlyGivenNames -underBinder -merge v6
  clear_value v6
  extract_lets +onlyGivenNames -underBinder -merge v7
  clear_value v7
  extract_lets +onlyGivenNames -underBinder -merge v8
  have hv8 : Kept P R o v8 := by
    unfold v8
    refine State.modSlot_kept _ _ _ (hP.bit rfl) ?_
    refine State.openGroup_kept _ _ _ (.of rfl hP) ?_
    refine kept_pacer (s) _ (hP.bit rfl) ?_
    assumption
  clear_value v8
  extract_lets +onlyGivenNames -underBinder -merge v9
  have hv9 : Kept P R o v9 := by
    unfold v9
    refine State.noticeWakes_kept _ _ _ (.of rfl hP) ?_
    assumption
  clear_value v9
  refine kept_ite _ _ _ ?_ ?_
  · assumption
  · extract_lets +onlyGivenNames -underBinder -merge v10
    have hv10 : Kept P R o v10 := by
      unfold v10
      refine State.acceptTag_kept _ _ _ _ _ (.of rfl hP) (.of rfl hR) ?_
      refine State.bump_kept _ _ _ (hR.bit rfl) ?_
      assumption
    clear_value v10
    refine kept_ite _ _ _ ?_ ?_
    · refine State.prepare_kept _ _ (.of rfl hP) (.of rfl hR) ?_
      assumption
    · assumption

theorem execBarrier_kept (seq : BitVec 8) (body : BitVec 52) (s : State) (hP : Sub 481162195968 P) (hR : Sub
    0x400000000000200000000000000000000000010000000000 R) (hk0 : Kept P R o s) : KeptR P R o (execBarrier seq body s) := by
  delta execBarrier
  refine (KeptR_next _).mpr ?_
  refine State.takeNotice_kept _ _ _ _ _ _ _ ?_ (.of rfl hP) (.of rfl hR) ?_
  · intro y1_0 hy1_1
    extract_lets +onlyGivenNames -underBinder -merge v1
    clear_value v1
    refine kept_ite _ _ _ ?_ ?_
    · refine State.refuse_kept _ _ _ _ _ _ (.of rfl hP) (.of rfl hR) ?_
      assumption
    · refine kept_ite _ _ _ ?_ ?_
      · refine State.refuse_kept _ _ _ _ _ _ (.of rfl hP) (.of rfl hR) ?_
        assumption
      · refine State.enterBarrier_kept _ _ _ _ (.of rfl hP) (.of rfl hR) ?_
        assumption
  · assumption

theorem State.moveBarrier_kept (s : State) (b : Barrier) (t : Nat) (k : Nat) (hP : Sub 33554432 P) (hk0 : Kept P R o s) : Kept
    P R o (State.moveBarrier s b t k) := by
  delta State.moveBarrier
  extract_lets +onlyGivenNames -underBinder -merge v1
  have hv1 : Kept P R o v1 := by
    unfold v1
    refine State.moveRelease_kept _ _ _ _ (.of rfl hP) ?_
    assumption
  clear_value v1
  refine State.ringFix_kept _ _ (.of rfl hP) ?_
  refine State.openGroup_kept _ _ _ (.of rfl hP) ?_
  refine State.setBarrier_kept _ _ (.of rfl hP) ?_
  assumption

theorem State.applyDelay_kept (s : State) (rel : Nat) (k : Nat) (hP : Sub 206217159680 P) (hR : Sub
    0x200000000000000000000000000000000000 R) (hk0 : Kept P R o s) : Kept P R o (State.applyDelay s rel k) := by
  delta State.applyDelay
  refine State.forEach_kept _ _ _ ?_ ?_
  · intro y1_0 y1_1 hy1_2
    extract_lets +onlyGivenNames -underBinder -merge v1
    clear_value v1
    extract_lets +onlyGivenNames -underBinder -merge v2
    have hv2 : Kept P R o v2 := by
      unfold v2
      refine State.moveBarrier_kept _ _ _ _ (.of rfl hP) ?_
      assumption
    clear_value v2
    extract_lets +onlyGivenNames -underBinder -merge v3
    clear_value v3
    extract_lets +onlyGivenNames -underBinder -merge v4
    clear_value v4
    extract_lets +onlyGivenNames -underBinder -merge v5
    have hv5 : Kept P R o v5 := by
      unfold v5
      refine State.forEach_kept _ _ _ ?_ ?_
      · intro y1_0 y1_1 hy1_2
        refine State.requeue_kept _ _ _ (.of rfl hP) ?_
        refine kept_pacer (y1_0) _ (hP.bit rfl) ?_
        assumption
      · assumption
    clear_value v5
    extract_lets +onlyGivenNames -underBinder -merge v6
    have hv6 : Kept P R o v6 := by
      unfold v6
      refine State.forEach_kept _ _ _ ?_ ?_
      · intro y1_0 y1_1 hy1_2
        refine State.modRgn_kept _ _ _ (hP.bit rfl) ?_
        assumption
      · assumption
    clear_value v6
    refine State.ackStretch_kept _ _ _ _ (.of rfl hP) (.of rfl hR) ?_
    refine State.modSlot_kept _ _ _ (hP.bit rfl) ?_
    assumption
  · assumption

theorem State.reportDelay_kept (s : State) (rel : Nat) (k : Nat) (hP : Sub 207290901504 P) (hR : Sub
    0x200000000000000000000000000000000000 R) (hk0 : Kept P R o s) : Kept P R o (State.reportDelay s rel k) := by
  delta State.reportDelay
  refine kept_ite _ _ _ ?_ ?_
  · assumption
  · refine kept_ite _ _ _ ?_ ?_
    · extract_lets +onlyGivenNames -underBinder -merge v1
      have hv1 : Kept P R o v1.1 := by
        unfold v1
        refine State.masterDelay_kept _ _ _ (.of rfl hP) ?_
        assumption
      clear_value v1
      refine kept_ite _ _ _ ?_ ?_
      · refine State.applyDelay_kept _ _ _ (.of rfl hP) (.of rfl hR) ?_
        assumption
      · assumption
    · refine State.postUp_kept _ _ _ (.of rfl hP) ?_
      assumption

theorem execSlopeCheckDone_kept (tag : BitVec 8) (s : State) (hP : Sub 207358010368 P) (hR : Sub
    0x400000000000200000000000000000000000000000000000 R) (hk0 : Kept P R o s) : KeptR P R o (execSlopeCheckDone tag s) := by
  delta execSlopeCheckDone
  split
  · refine (KeptR_next _).mpr ?_
    assumption
  · extract_lets +onlyGivenNames -underBinder -merge v1
    clear_value v1
    extract_lets +onlyGivenNames -underBinder -merge v2
    clear_value v2
    extract_lets +onlyGivenNames -underBinder -merge v3
    have hv3 : Kept P R o v3 := by
      unfold v3
      refine kept_ite _ _ _ ?_ ?_
      · refine State.bump_kept _ _ _ (hR.bit rfl) ?_
        assumption
      · assumption
    clear_value v3
    extract_lets +onlyGivenNames -underBinder -merge v4
    clear_value v4
    extract_lets +onlyGivenNames -underBinder -merge v5
    have hv5 : Kept P R o v5 := by
      unfold v5
      refine State.moveBarrier_kept _ _ _ _ (.of rfl hP) ?_
      assumption
    clear_value v5
    extract_lets +onlyGivenNames -underBinder -merge v6
    have hv6 : Kept P R o v6 := by
      unfold v6
      refine kept_ite _ _ _ ?_ ?_
      · refine State.acceptTag_kept _ _ _ _ _ (.of rfl hP) (.of rfl hR) ?_
        assumption
      · refine State.reportDelay_kept _ _ _ (.of rfl hP) (.of rfl hR) ?_
        refine State.ackStretch_kept _ _ _ _ (.of rfl hP) (.of rfl hR) ?_
        refine State.modSlot_kept _ _ _ (hP.bit rfl) ?_
        assumption
    clear_value v6
    refine (KeptR_next _).mpr ?_
    refine State.prepare_kept _ _ (.of rfl hP) (.of rfl hR) ?_
    assumption

theorem State.endPrebias_kept (s : State) (b : Barrier) (hP : Sub 8192 P) (hk0 : Kept P R o s) : Kept P R o (State.endPrebias
    s b) := by
  delta State.endPrebias
  refine State.forEach_kept _ _ _ ?_ ?_
  · intro y1_0 y1_1 hy1_2
    refine kept_ite _ _ _ ?_ ?_
    · assumption
    · refine State.modRgn_kept _ _ _ (hP.bit rfl) ?_
      assumption
  · assumption

theorem State.withdrawBarrier_kept (s : State) (b : Barrier) (hP : Sub 206217176064 P) (hR : Sub
    0x200000000000000000000000000000000000 R) (hk0 : Kept P R o s) : Kept P R o (State.withdrawBarrier s b) := by
  delta State.withdrawBarrier
  extract_lets +onlyGivenNames -underBinder -merge v1
  have hv1 : Kept P R o v1 := by
    unfold v1
    refine kept_ite _ _ _ ?_ ?_
    · refine State.acceptTag_kept _ _ _ _ _ (.of rfl hP) (.of rfl hR) ?_
      assumption
    · assumption
  clear_value v1
  refine State.endPrebias_kept _ _ (.of rfl hP) ?_
  refine State.dropBarrier_kept _ _ (.of rfl hP) ?_
  assumption

theorem State.confirmGroup_kept (s : State) (g : Nat) (hP : Sub 33554432 P) (hk0 : Kept P R o s) : Kept P R o
    (State.confirmGroup s g) := by
  delta State.confirmGroup
  refine State.ringFix_kept _ _ (.of rfl hP) ?_
  refine kept_pacer (s) _ (hP.bit rfl) ?_
  assumption

theorem State.cancelGroup_kept (s : State) (g : Nat) (hP : Sub 206217176064 P) (hR : Sub
    0x200000000000000000000000000000000000 R) (hk0 : Kept P R o s) : Kept P R o (State.cancelGroup s g) := by
  delta State.cancelGroup
  extract_lets +onlyGivenNames -underBinder -merge v1
  clear_value v1
  extract_lets +onlyGivenNames -underBinder -merge v2
  have hv2 : Kept P R o v2 := by
    unfold v2
    refine State.ringFix_kept _ _ (.of rfl hP) ?_
    refine kept_pacer (s) _ (hP.bit rfl) ?_
    assumption
  clear_value v2
  refine State.forEach_kept _ _ _ ?_ ?_
  · intro y1_0 y1_1 hy1_2
    refine State.withdrawBarrier_kept _ _ (.of rfl hP) (.of rfl hR) ?_
    assumption
  · assumption

theorem execConfirm_kept (seq : BitVec 8) (body : BitVec 52) (s : State) (hP : Sub 481162166272 P) (hR : Sub
    0x200000000000000000000000010000000000 R) (hk0 : Kept P R o s) : KeptR P R o (execConfirm seq body s) := by
  delta execConfirm
  refine (KeptR_next _).mpr ?_
  refine State.takeNotice_kept _ _ _ _ _ _ _ ?_ (.of rfl hP) (.of rfl hR) ?_
  · intro y1_0 hy1_1
    extract_lets +onlyGivenNames -underBinder -merge v1
    clear_value v1
    refine kept_ite _ _ _ ?_ ?_
    · refine State.ackAccept_kept _ _ _ _ _ (.of rfl hP) (.of rfl hR) ?_
      refine State.confirmGroup_kept _ _ (.of rfl hP) ?_
      assumption
    · refine State.refuse_kept _ _ _ _ _ _ (.of rfl hP) (.of rfl hR) ?_
      assumption
  · assumption

theorem execCancel_kept (seq : BitVec 8) (body : BitVec 52) (s : State) (hP : Sub 481162191872 P) (hR : Sub
    0x200000000000000000000000010000000000 R) (hk0 : Kept P R o s) : KeptR P R o (execCancel seq body s) := by
  delta execCancel
  refine (KeptR_next _).mpr ?_
  refine State.takeNotice_kept _ _ _ _ _ _ _ ?_ (.of rfl hP) (.of rfl hR) ?_
  · intro y1_0 hy1_1
    extract_lets +onlyGivenNames -underBinder -merge v1
    clear_value v1
    refine kept_ite _ _ _ ?_ ?_
    · refine State.ackAccept_kept _ _ _ _ _ (.of rfl hP) (.of rfl hR) ?_
      refine State.cancelGroup_kept _ _ (.of rfl hP) (.of rfl hR) ?_
      assumption
    · refine State.refuse_kept _ _ _ _ _ _ (.of rfl hP) (.of rfl hR) ?_
      assumption
  · assumption

theorem State.applyDue_kept (s : State) (c : Nat) (hP : Sub 33562624 P) (hR : Sub
    0x100000000000000000000000000000000000000000000000 R) (hk0 : Kept P R o s) : Kept P R o (State.applyDue s c) := by
  delta State.applyDue
  extract_lets +onlyGivenNames -underBinder -merge v1
  clear_value v1
  extract_lets +onlyGivenNames -underBinder -merge v2
  clear_value v2
  extract_lets +onlyGivenNames -underBinder -merge v3
  clear_value v3
  extract_lets +onlyGivenNames -underBinder -merge v4
  clear_value v4
  extract_lets +onlyGivenNames -underBinder -merge v5
  have hv5 : Kept P R o v5 := by
    unfold v5
    refine kept_pacer (s) _ (hP.bit rfl) ?_
    assumption
  clear_value v5
  refine kept_ite _ _ _ ?_ ?_
  · assumption
  · refine State.forEach_kept _ _ _ ?_ ?_
    · intro y1_0 y1_1 hy1_2
      refine State.applyRate_kept _ _ (.of rfl hP) (.of rfl hR) ?_
      assumption
    · assumption

theorem State.passBarriers_kept (s : State) (c : Nat) (hP : Sub 206217176064 P) (hR : Sub
    0x200000000000000000000000000000000000 R) (hk0 : Kept P R o s) : Kept P R o (State.passBarriers s c) := by
  delta State.passBarriers
  extract_lets +onlyGivenNames -underBinder -merge v1
  clear_value v1
  extract_lets +onlyGivenNames -underBinder -merge v2
  have hv2 : Kept P R o v2 := by
    unfold v2
    refine State.forEach_kept _ _ _ ?_ ?_
    · intro y1_0 y1_1 hy1_2
      refine kept_ite _ _ _ ?_ ?_
      · refine kept_pacer (y1_0) _ (hP.bit rfl) ?_
        assumption
      · refine State.withdrawBarrier_kept _ _ (.of rfl hP) (.of rfl hR) ?_
        assumption
    · assumption
  clear_value v2
  refine kept_pacer (v2) _ (hP.bit rfl) ?_
  assumption

theorem State.clearPacer_kept (s : State) (ord : Nat) (hP : Sub 33562624 P) (hk0 : Kept P R o s) : Kept P R o
    (State.clearPacer s ord) := by
  delta State.clearPacer
  extract_lets +onlyGivenNames -underBinder -merge v1
  clear_value v1
  extract_lets +onlyGivenNames -underBinder -merge v2
  clear_value v2
  extract_lets +onlyGivenNames -underBinder -merge v3
  clear_value v3
  extract_lets +onlyGivenNames -underBinder -merge v4
  clear_value v4
  extract_lets +onlyGivenNames -underBinder -merge v5
  have hv5 : Kept P R o v5 := by
    unfold v5
    refine kept_pacer (s) _ (hP.bit rfl) ?_
    assumption
  clear_value v5
  refine State.forEach_kept _ _ _ ?_ ?_
  · intro y1_0 y1_1 hy1_2
    refine State.modRgn_kept _ _ _ (hP.bit rfl) ?_
    assumption
  · assumption

theorem State.judgeWindow_kept (s : State) (n : Nat) (hP : Sub 67117056 P) (hR : Sub
    0x5000000000000000000000000000000000000000000 R) (hk0 : Kept P R o s) : Kept P R o (State.judgeWindow s n) := by
  delta State.judgeWindow
  extract_lets +onlyGivenNames -underBinder -merge v1
  clear_value v1
  refine kept_ite _ _ _ ?_ ?_
  · assumption
  · extract_lets +onlyGivenNames -underBinder -merge v2
    clear_value v2
    extract_lets +onlyGivenNames -underBinder -merge v3
    clear_value v3
    extract_lets +onlyGivenNames -underBinder -merge v4
    clear_value v4
    extract_lets +onlyGivenNames -underBinder -merge v5
    have hv5 : Kept P R o v5 := by
      unfold v5
      refine State.put_kept _ _ _ _ (hR.bit rfl) ?_
      refine State.put_kept _ _ _ _ (hR.bit rfl) ?_
      refine State.modRgn_kept _ _ _ (hP.bit rfl) ?_
      assumption
    clear_value v5
    refine kept_ite _ _ _ ?_ ?_
    · refine State.rgnEvt_kept _ _ _ _ (hR.bit rfl) (.of rfl hP) ?_
      refine State.modRgn_kept _ _ _ (hP.bit rfl) ?_
      assumption
    · refine kept_ite _ _ _ ?_ ?_
      · refine State.rgnEvt_kept _ _ _ _ (hR.bit rfl) (.of rfl hP) ?_
        refine State.modRgn_kept _ _ _ (hP.bit rfl) ?_
        assumption
      · assumption

theorem execMismatchWindowEnd_kept (s : State) (hP : Sub 100671488 P) (hR : Sub 0x5000000000000000000000000000000000000000000
    R) (hk0 : Kept P R o s) : KeptR P R o (execMismatchWindowEnd s) := by
  delta execMismatchWindowEnd
  refine keptR_ite _ _ _ ?_ ?_
  · refine (KeptR_next _).mpr ?_
    assumption
  · extract_lets +onlyGivenNames -underBinder -merge v1
    have hv1 : Kept P R o v1 := by
      unfold v1
      refine kept_ite _ _ _ ?_ ?_
      · assumption
      · refine State.forEach_kept _ _ _ ?_ ?_
        · intro y1_0 y1_1 hy1_2
          refine State.judgeWindow_kept _ _ (.of rfl hP) (.of rfl hR) ?_
          assumption
        · assumption
    clear_value v1
    extract_lets +onlyGivenNames -underBinder -merge v2
    have hv2 : Kept P R o v2 := by
      unfold v2
      refine State.forEach_kept _ _ _ ?_ ?_
      · intro y1_0 y1_1 hy1_2
        refine State.modRgn_kept _ _ _ (hP.bit rfl) ?_
        assumption
      · assumption
    clear_value v2
    refine (KeptR_next _).mpr ?_
    refine kept_pacer (v2) _ (hP.bit rfl) ?_
    assumption

theorem State.computeRowMax_kept (s : State) (hP : Sub 33554432 P) (hk0 : Kept P R o s) : Kept P R o (State.computeRowMax s)
    := by
  delta State.computeRowMax
  extract_lets +onlyGivenNames -underBinder -merge v1
  clear_value v1
  extract_lets +onlyGivenNames -underBinder -merge v2
  clear_value v2
  refine kept_pacer (s) _ (hP.bit rfl) ?_
  assumption

theorem State.coefEnabled_kept (s : State) (hP : Sub 33562624 P) (hk0 : Kept P R o s) : Kept P R o (State.coefEnabled s) := by
  delta State.coefEnabled
  extract_lets +onlyGivenNames -underBinder -merge v1
  have hv1 : Kept P R o v1 := by
    unfold v1
    refine State.computeRowMax_kept _ (.of rfl hP) ?_
    assumption
  clear_value v1
  refine State.forEach_kept _ _ _ ?_ ?_
  · intro y1_0 y1_1 hy1_2
    refine State.modRgn_kept _ _ _ (hP.bit rfl) ?_
    assumption
  · assumption

theorem State.clearBins_kept (s : State) (hP : Sub 33554432 P) (hk0 : Kept P R o s) : Kept P R o (State.clearBins s) := by
  delta State.clearBins
  refine kept_pacer (s) _ (hP.bit rfl) ?_
  assumption

theorem State.setPeriod_kept (s : State) (len : Nat) (t0 : Nat) (hP : Sub 8623489024 P) (hk0 : Kept P R o s) : Kept P R o
    (State.setPeriod s len t0) := by
  delta State.setPeriod
  extract_lets +onlyGivenNames -underBinder -merge v1
  clear_value v1
  extract_lets +onlyGivenNames -underBinder -merge v2
  have hv2 : Kept P R o v2 := by
    unfold v2
    refine kept_ite _ _ _ ?_ ?_
    · assumption
    · refine State.clearBins_kept _ (.of rfl hP) ?_
      assumption
  clear_value v2
  refine kept_upd (v2) _ 8623489024 rfl ⟨[], (List.append_nil _).symm⟩ rfl (by intro p hp; cases p <;> first | rfl | cases hp) (.of rfl hP) ?_
  assumption

end Sys2Proof.Machine
end

