-- ==== Sys2Proof/Laws/KeptUnits.lean ====
section
/-! SUPPORT. Laws.Kept for what the limits, the Gauge, the Ledger, resets, the fault collector and the flash do: one law for each operation and each meaning. -/

set_option linter.unusedVariables false

namespace Sys2Proof.Machine

variable {P R : Nat} {o : State}

/-! ### Machine/Limits.lean -/

theorem State.setCap_kept (s : State) (hP : Sub 201326592 P) (hR : Sub 0x200800000000000 R) (hk0 : Kept P R o s) : Kept P R o
    (State.setCap s) := by
  delta State.setCap
  extract_lets +onlyGivenNames -underBinder -merge v1
  clear_value v1
  extract_lets +onlyGivenNames -underBinder -merge v2
  clear_value v2
  extract_lets +onlyGivenNames -underBinder -merge v3
  clear_value v3
  extract_lets +onlyGivenNames -underBinder -merge v4
  have hv4 : Kept P R o v4 := by
    unfold v4
    refine State.put_kept _ _ _ _ (hR.bit rfl) ?_
    refine State.put_kept _ _ _ _ (hR.bit rfl) ?_
    refine kept_lim (s) _ (hP.bit rfl) ?_
    assumption
  clear_value v4
  extract_lets +onlyGivenNames -underBinder -merge v5
  have hv5 : Kept P R o v5 := by
    unfold v5
    refine State.put_kept _ _ _ _ (hR.bit rfl) ?_
    assumption
  clear_value v5
  refine kept_ite _ _ _ ?_ ?_
  · refine State.bump_kept _ _ _ (hR.bit rfl) ?_
    assumption
  · refine kept_ite _ _ _ ?_ ?_
    · refine State.condEnds_kept _ _ (.of rfl hP) ?_
      assumption
    · assumption

theorem State.pcapEdge_kept (s : State) (high : Bool) (t : Nat) (hP : Sub 134217728 P) (hR : Sub 0x800000000000 R) (hk0 : Kept
    P R o s) : Kept P R o (State.pcapEdge s high t) := by
  delta State.pcapEdge
  extract_lets +onlyGivenNames -underBinder -merge v1
  clear_value v1
  refine kept_ite _ _ _ ?_ ?_
  · refine kept_lim (s) _ (hP.bit rfl) ?_
    assumption
  · split
    · extract_lets +onlyGivenNames -underBinder -merge v2
      clear_value v2
      refine kept_ite _ _ _ ?_ ?_
      · extract_lets +onlyGivenNames -underBinder -merge v3
        clear_value v3
        extract_lets +onlyGivenNames -underBinder -merge v4
        clear_value v4
        extract_lets +onlyGivenNames -underBinder -merge v5
        have hv5 : Kept P R o v5 := by
          unfold v5
          refine kept_lim (s) _ (hP.bit rfl) ?_
          assumption
        clear_value v5
        refine State.put_kept _ _ _ _ (hR.bit rfl) ?_
        assumption
      · refine kept_lim (s) _ (hP.bit rfl) ?_
        assumption
    · refine kept_lim (s) _ (hP.bit rfl) ?_
      assumption

theorem execPcapLost_kept (s : State) (hP : Sub 201326592 P) (hR : Sub 0x200800000000000 R) (hk0 : Kept P R o s) : KeptR P R o
    (execPcapLost s) := by
  delta execPcapLost
  extract_lets +onlyGivenNames -underBinder -merge v1
  clear_value v1
  refine keptR_ite _ _ _ ?_ ?_
  · extract_lets +onlyGivenNames -underBinder -merge v2
    clear_value v2
    extract_lets +onlyGivenNames -underBinder -merge v3
    have hv3 : Kept P R o v3 := by
      unfold v3
      refine kept_lim (s) _ (hP.bit rfl) ?_
      assumption
    clear_value v3
    refine (KeptR_next _).mpr ?_
    refine State.raiseHw_kept _ _ _ _ (.of rfl hP) ?_
    refine State.put_kept _ _ _ _ (hR.bit rfl) ?_
    refine State.setCap_kept _ (.of rfl hP) (.of rfl hR) ?_
    assumption
  · refine (KeptR_next _).mpr ?_
    assumption

theorem execCapAnaStale_kept (s : State) (hP : Sub 201326592 P) (hR : Sub 0x200800000000000 R) (hk0 : Kept P R o s) : KeptR P
    R o (execCapAnaStale s) := by
  delta execCapAnaStale
  extract_lets +onlyGivenNames -underBinder -merge v1
  clear_value v1
  refine keptR_ite _ _ _ ?_ ?_
  · refine (KeptR_next _).mpr ?_
    refine State.raiseHw_kept _ _ _ _ (.of rfl hP) ?_
    refine State.put_kept _ _ _ _ (hR.bit rfl) ?_
    refine State.setCap_kept _ (.of rfl hP) (.of rfl hR) ?_
    refine kept_lim (s) _ (hP.bit rfl) ?_
    assumption
  · refine (KeptR_next _).mpr ?_
    assumption

theorem State.offerLevel_kept (s : State) (src : StrSrc) (level : Nat) (hP : Sub 138714022912 P) (hR : Sub 0x204000000000000
    R) (hk0 : Kept P R o s) : Kept P R o (State.offerLevel s src level) := by
  delta State.offerLevel
  extract_lets +onlyGivenNames -underBinder -merge v1
  clear_value v1
  extract_lets +onlyGivenNames -underBinder -merge v2
  clear_value v2
  extract_lets +onlyGivenNames -underBinder -merge v3
  have hv3 : Kept P R o v3 := by
    unfold v3
    refine kept_lim (s) _ (hP.bit rfl) ?_
    assumption
  clear_value v3
  extract_lets +onlyGivenNames -underBinder -merge v4
  clear_value v4
  refine kept_ite _ _ _ ?_ ?_
  · refine State.requestLevel_kept _ _ _ _ (.of rfl hP) (.of rfl hR) ?_
    assumption
  · refine kept_ite _ _ _ ?_ ?_
    · refine State.enqueue_kept _ _ _ (.of rfl hP) ?_
      assumption
    · refine State.queueFull_kept _ _ (.of rfl hP) ?_
      extract_lets +onlyGivenNames -underBinder -merge v5
      have hv5 : Kept P R o v5 := by
        unfold v5
        refine State.bump_kept _ _ _ (hR.bit rfl) ?_
        assumption
      clear_value v5
      refine kept_lim (v5) _ (hP.bit rfl) ?_
      assumption

theorem State.orderLevel_kept (s : State) (src : StrSrc) (level : Nat) (hP : Sub 138714022912 P) (hR : Sub 0x204000000000000
    R) (hk0 : Kept P R o s) : Kept P R o (State.orderLevel s src level) := by
  delta State.orderLevel
  split
  · refine kept_ite _ _ _ ?_ ?_
    · assumption
    · refine State.offerLevel_kept _ _ _ (.of rfl hP) (.of rfl hR) ?_
      refine kept_lim (s) _ (hP.bit rfl) ?_
      assumption
  · refine kept_ite _ _ _ ?_ ?_
    · assumption
    · refine State.offerLevel_kept _ _ _ (.of rfl hP) (.of rfl hR) ?_
      refine kept_lim (s) _ (hP.bit rfl) ?_
      assumption
  · refine kept_ite _ _ _ ?_ ?_
    · assumption
    · refine State.offerLevel_kept _ _ _ (.of rfl hP) (.of rfl hR) ?_
      refine kept_lim (s) _ (hP.bit rfl) ?_
      assumption

theorem State.reoffer_kept (s : State) (hP : Sub 138714022912 P) (hR : Sub 0x204000000000000 R) (hk0 : Kept P R o s) : Kept P
    R o (State.reoffer s) := by
  delta State.reoffer
  refine State.forEach_kept _ _ _ ?_ ?_
  · intro y1_0 y1_1 hy1_2
    refine State.offerLevel_kept _ _ _ (.of rfl hP) (.of rfl hR) ?_
    assumption
  · assumption

theorem State.hostLevel_kept (s : State) (hP : Sub 138714022912 P) (hR : Sub 0x204000000000000 R) (hk0 : Kept P R o s) : Kept
    P R o (State.hostLevel s) := by
  delta State.hostLevel
  refine State.orderLevel_kept _ _ _ (.of rfl hP) (.of rfl hR) ?_
  assumption

theorem State.showLevel_kept (s : State) (hP : Sub 134217728 P) (hk0 : Kept P R o s) : Kept P R o (State.showLevel s) := by
  delta State.showLevel
  extract_lets +onlyGivenNames -underBinder -merge v1
  clear_value v1
  extract_lets +onlyGivenNames -underBinder -merge v2
  clear_value v2
  extract_lets +onlyGivenNames -underBinder -merge v3
  clear_value v3
  extract_lets +onlyGivenNames -underBinder -merge v4
  clear_value v4
  refine kept_lim (s) _ (hP.bit rfl) ?_
  assumption

theorem State.stretchExec_kept (s : State) (due : Nat) (src : StrSrc) (x : Nat) (hP : Sub 134217728 P) (hk0 : Kept P R o s) :
    Kept P R o (State.stretchExec s due src x) := by
  delta State.stretchExec
  split
  · refine kept_lim (s) _ (hP.bit rfl) ?_
    assumption
  · refine kept_lim (s) _ (hP.bit rfl) ?_
    assumption
  · refine kept_lim (s) _ (hP.bit rfl) ?_
    assumption
  · refine kept_lim (s) _ (hP.bit rfl) ?_
    assumption
  · assumption
  · refine kept_lim (s) _ (hP.bit rfl) ?_
    assumption

theorem State.applyLevel_kept (s : State) (hP : Sub 134218752 P) (hR : Sub 0x4000000000000 R) (hk0 : Kept P R o s) : Kept P R
    o (State.applyLevel s) := by
  delta State.applyLevel
  extract_lets +onlyGivenNames -underBinder -merge v1
  clear_value v1
  extract_lets +onlyGivenNames -underBinder -merge v2
  clear_value v2
  extract_lets +onlyGivenNames -underBinder -merge v3
  clear_value v3
  extract_lets +onlyGivenNames -underBinder -merge v4
  extract_lets +onlyGivenNames -underBinder -merge v5
  clear_value v5
  extract_lets +onlyGivenNames -underBinder -merge v6
  have hv6 : Kept P R o v6 := by
    unfold v6
    refine kept_upd (s) _ 134218752 rfl ⟨[], (List.append_nil _).symm⟩ rfl (by intro p hp; cases p <;> first | rfl | cases hp) (.of rfl hP) ?_
    assumption
  clear_value v6
  refine State.put_kept _ _ _ _ (hR.bit rfl) ?_
  refine State.put_kept _ _ _ _ (hR.bit rfl) ?_
  assumption

theorem State.sendFloor_kept (s : State) (hP : Sub 206301036544 P) (hR : Sub 0x200000000000000000000000000000000000 R) (hk0 :
    Kept P R o s) : Kept P R o (State.sendFloor s) := by
  delta State.sendFloor
  refine kept_ite _ _ _ ?_ ?_
  · assumption
  · extract_lets +onlyGivenNames -underBinder -merge v1
    clear_value v1
    extract_lets +onlyGivenNames -underBinder -merge v2
    have hv2 : Kept P R o v2 := by
      unfold v2
      refine State.ackFloor_kept _ _ _ (.of rfl hP) (.of rfl hR) ?_
      assumption
    clear_value v2
    refine kept_lim (v2) _ (hP.bit rfl) ?_
    assumption

theorem State.lowEntry_kept (s : State) (cause : Nat) (hP : Sub 206368145408 P) (hR : Sub
    0x200000000000000000000244000000000000 R) (hk0 : Kept P R o s) : Kept P R o (State.lowEntry s cause) := by
  delta State.lowEntry
  extract_lets +onlyGivenNames -underBinder -merge v1
  clear_value v1
  extract_lets +onlyGivenNames -underBinder -merge v2
  clear_value v2
  extract_lets +onlyGivenNames -underBinder -merge v3
  have hv3 : Kept P R o v3 := by
    unfold v3
    refine kept_lim (s) _ (hP.bit rfl) ?_
    assumption
  clear_value v3
  extract_lets +onlyGivenNames -underBinder -merge v4
  have hv4 : Kept P R o v4 := by
    unfold v4
    refine State.bump_kept _ _ _ (hR.bit rfl) ?_
    refine State.put_kept _ _ _ _ (hR.bit rfl) ?_
    refine State.put_kept _ _ _ _ (hR.bit rfl) ?_
    refine State.put_kept _ _ _ _ (hR.bit rfl) ?_
    assumption
  clear_value v4
  refine State.sendFloor_kept _ (.of rfl hP) (.of rfl hR) ?_
  refine State.showLevel_kept _ (.of rfl hP) ?_
  refine State.raiseHw_kept _ _ _ _ (.of rfl hP) ?_
  assumption

theorem State.enterLowest_kept (s : State) (cause : Nat) (report : Bool) (hP : Sub 207441887232 P) (hR : Sub
    0x200000000000000000000244000000000000 R) (hk0 : Kept P R o s) : Kept P R o (State.enterLowest s cause report) := by
  delta State.enterLowest
  extract_lets +onlyGivenNames -underBinder -merge v1
  clear_value v1
  extract_lets +onlyGivenNames -underBinder -merge v2
  have hv2 : Kept P R o v2 := by
    unfold v2
    refine kept_ite _ _ _ ?_ ?_
    · refine kept_lim (s) _ (hP.bit rfl) ?_
      assumption
    · refine State.lowEntry_kept _ _ (.of rfl hP) (.of rfl hR) ?_
      assumption
  clear_value v2
  refine kept_ite _ _ _ ?_ ?_
  · refine State.reportEmerg_kept _ _ _ (.of rfl hP) ?_
    assumption
  · assumption

theorem State.lowRelease_kept (s : State) (hP : Sub 206301036544 P) (hR : Sub 0x200000000000000000000004000000000000 R) (hk0 :
    Kept P R o s) : Kept P R o (State.lowRelease s) := by
  delta State.lowRelease
  extract_lets +onlyGivenNames -underBinder -merge v1
  clear_value v1
  refine kept_ite _ _ _ ?_ ?_
  · extract_lets +onlyGivenNames -underBinder -merge v2
    clear_value v2
    extract_lets +onlyGivenNames -underBinder -merge v3
    have hv3 : Kept P R o v3 := by
      unfold v3
      refine kept_lim (s) _ (hP.bit rfl) ?_
      assumption
    clear_value v3
    refine State.sendFloor_kept _ (.of rfl hP) (.of rfl hR) ?_
    refine State.put_kept _ _ _ _ (hR.bit rfl) ?_
    assumption
  · assumption

theorem State.lowExit_kept (s : State) (hP : Sub 206301052928 P) (hR : Sub 0x200000000000000000000004000000000000 R) (hk0 :
    Kept P R o s) : Kept P R o (State.lowExit s) := by
  delta State.lowExit
  extract_lets +onlyGivenNames -underBinder -merge v1
  clear_value v1
  extract_lets +onlyGivenNames -underBinder -merge v2
  have hv2 : Kept P R o v2 := by
    unfold v2
    refine kept_lim (s) _ (hP.bit rfl) ?_
    assumption
  clear_value v2
  extract_lets +onlyGivenNames -underBinder -merge v3
  have hv3 : Kept P R o v3 := by
    unfold v3
    refine State.forEach_kept _ _ _ ?_ ?_
    · intro y1_0 y1_1 hy1_2
      refine kept_ite _ _ _ ?_ ?_
      · assumption
      · refine State.modHeat_kept _ _ _ (hP.bit rfl) ?_
        assumption
    · assumption
  clear_value v3
  refine State.lowRelease_kept _ (.of rfl hP) (.of rfl hR) ?_
  assumption

theorem State.apprClear_kept (s : State) (hP : Sub 134217728 P) (hk0 : Kept P R o s) : Kept P R o (State.apprClear s) := by
  delta State.apprClear
  split
  · refine kept_ite _ _ _ ?_ ?_
    · refine kept_lim (s) _ (hP.bit rfl) ?_
      assumption
    · assumption
  · assumption

theorem execAlertNAssert_kept (s : State) (hP : Sub 207441887232 P) (hR : Sub 0x200000000000000000000244000000000000 R) (hk0 :
    Kept P R o s) : KeptR P R o (execAlertNAssert s) := by
  delta execAlertNAssert
  refine keptR_ite _ _ _ ?_ ?_
  · refine (KeptR_next _).mpr ?_
    assumption
  · refine (KeptR_next _).mpr ?_
    refine State.enterLowest_kept _ _ _ (.of rfl hP) (.of rfl hR) ?_
    refine kept_lim (s) _ (hP.bit rfl) ?_
    assumption

theorem execAlertNDeassert_kept (s : State) (hP : Sub 134217728 P) (hk0 : Kept P R o s) : KeptR P R o (execAlertNDeassert s)
    := by
  delta execAlertNDeassert
  refine keptR_ite _ _ _ ?_ ?_
  · refine (KeptR_next _).mpr ?_
    refine kept_lim (s) _ (hP.bit rfl) ?_
    assumption
  · refine (KeptR_next _).mpr ?_
    assumption

theorem execLowestStateHoldEnd_kept (s : State) (hP : Sub 207374794752 P) (hR : Sub 0x200000000000000000000004000000000000 R)
    (hk0 : Kept P R o s) : KeptR P R o (execLowestStateHoldEnd s) := by
  delta execLowestStateHoldEnd
  extract_lets +onlyGivenNames -underBinder -merge v1
  have hv1 : Kept P R o v1 := by
    unfold v1
    refine State.apprClear_kept _ (.of rfl hP) ?_
    assumption
  clear_value v1
  refine keptR_ite _ _ _ ?_ ?_
  · refine keptR_ite _ _ _ ?_ ?_
    · extract_lets +onlyGivenNames -underBinder -merge v2
      have hv2 : Kept P R o v2 := by
        unfold v2
        refine State.reportEmerg_kept _ _ _ (.of rfl hP) ?_
        assumption
      clear_value v2
      refine (KeptR_next _).mpr ?_
      refine kept_ite _ _ _ ?_ ?_
      · refine State.lowExit_kept _ (.of rfl hP) (.of rfl hR) ?_
        assumption
      · assumption
    · refine (KeptR_next _).mpr ?_
      refine State.lowExit_kept _ (.of rfl hP) (.of rfl hR) ?_
      assumption
  · refine (KeptR_next _).mpr ?_
    assumption

theorem execFloorAckTimeout_kept (s : State) (hP : Sub 206368145408 P) (hR : Sub 0x200000000000000000000200000000000000 R)
    (hk0 : Kept P R o s) : KeptR P R o (execFloorAckTimeout s) := by
  delta execFloorAckTimeout
  split
  · refine keptR_ite _ _ _ ?_ ?_
    · refine (KeptR_next _).mpr ?_
      refine State.sendFloor_kept _ (.of rfl hP) (.of rfl hR) ?_
      refine State.bump_kept _ _ _ (hR.bit rfl) ?_
      refine State.raise_kept _ _ _ _ _ _ (.of rfl hP) ?_
      assumption
    · refine (KeptR_next _).mpr ?_
      assumption
  · refine (KeptR_next _).mpr ?_
    assumption

theorem State.lowEnd_kept (s : State) (hP : Sub 201326592 P) (hR : Sub 0x4000000000000 R) (hk0 : Kept P R o s) : Kept P R o
    (State.lowEnd s) := by
  delta State.lowEnd
  extract_lets +onlyGivenNames -underBinder -merge v1
  clear_value v1
  refine kept_ite _ _ _ ?_ ?_
  · refine State.condEnds_kept _ _ (.of rfl hP) ?_
    refine State.put_kept _ _ _ _ (hR.bit rfl) ?_
    refine kept_lim (s) _ (hP.bit rfl) ?_
    assumption
  · assumption

theorem State.thermalRound_kept (s : State) (die : Int) (hP : Sub 207441888256 P) (hR : Sub
    0x8000000200000000000000000000244000000000000 R) (hk0 : Kept P R o s) : Kept P R o (State.thermalRound s die) := by
  delta State.thermalRound
  extract_lets +onlyGivenNames -underBinder -merge v1
  clear_value v1
  extract_lets +onlyGivenNames -underBinder -merge v2
  clear_value v2
  extract_lets +onlyGivenNames -underBinder -merge v3
  clear_value v3
  extract_lets +onlyGivenNames -underBinder -merge v4
  clear_value v4
  extract_lets +onlyGivenNames -underBinder -merge v5
  clear_value v5
  extract_lets +onlyGivenNames -underBinder -merge v6
  clear_value v6
  extract_lets +onlyGivenNames -underBinder -merge v7
  have hv7 : Kept P R o v7 := by
    unfold v7
    refine State.orderLevel_kept _ _ _ (.of rfl hP) (.of rfl hR) ?_
    refine kept_lim (s) _ (hP.bit rfl) ?_
    assumption
  clear_value v7
  extract_lets +onlyGivenNames -underBinder -merge v8
  have hv8 : Kept P R o v8 := by
    unfold v8
    refine State.forEach_kept _ _ _ ?_ ?_
    · intro y1_0 y1_1 hy1_2
      extract_lets +onlyGivenNames -underBinder -merge v9
      clear_value v9
      refine State.put_kept _ _ _ _ (hR.bit rfl) ?_
      assumption
    · assumption
  clear_value v8
  extract_lets +onlyGivenNames -underBinder -merge v9
  clear_value v9
  refine kept_ite _ _ _ ?_ ?_
  · extract_lets +onlyGivenNames -underBinder -merge v10
    clear_value v10
    extract_lets +onlyGivenNames -underBinder -merge v11
    have hv11 : Kept P R o v11 := by
      unfold v11
      refine kept_lim (v8) _ (hP.bit rfl) ?_
      assumption
    clear_value v11
    refine kept_ite _ _ _ ?_ ?_
    · assumption
    · refine State.enterLowest_kept _ _ _ (.of rfl hP) (.of rfl hR) ?_
      refine kept_lim (v11) _ (hP.bit rfl) ?_
      assumption
  · refine kept_ite _ _ _ ?_ ?_
    · refine State.apprClear_kept _ (.of rfl hP) ?_
      refine kept_ite _ _ _ ?_ ?_
      · refine kept_lim (v8) _ (hP.bit rfl) ?_
        assumption
      · refine kept_lim (v8) _ (hP.bit rfl) ?_
        assumption
    · assumption

theorem execThermalCapRun_kept (n : Fin 256) (s : State) (hP : Sub 134217728 P) (hk0 : Kept P R o s) : KeptR P R o
    (execThermalCapRun n s) := by
  delta execThermalCapRun
  refine keptR_ite _ _ _ ?_ ?_
  · refine (KeptR_next _).mpr ?_
    refine kept_lim (s) _ (hP.bit rfl) ?_
    assumption
  · refine (KeptR_next _).mpr ?_
    assumption

theorem State.shares_kept (s : State) (hR : Sub 0x8000000000000000000000000000000000000000000 R) (hk0 : Kept P R o s) : Kept P
    R o (State.shares s) := by
  delta State.shares
  extract_lets +onlyGivenNames -underBinder -merge v1
  clear_value v1
  extract_lets +onlyGivenNames -underBinder -merge v2
  clear_value v2
  extract_lets +onlyGivenNames -underBinder -merge v3
  clear_value v3
  extract_lets +onlyGivenNames -underBinder -merge v4
  clear_value v4
  refine State.forEach_kept _ _ _ ?_ ?_
  · intro y1_0 y1_1 hy1_2
    refine kept_ite _ _ _ ?_ ?_
    · refine State.put_kept _ _ _ _ (hR.bit rfl) ?_
      assumption
    · refine kept_ite _ _ _ ?_ ?_
      · refine State.put_kept _ _ _ _ (hR.bit rfl) ?_
        assumption
      · refine State.put_kept _ _ _ _ (hR.bit rfl) ?_
        assumption
  · assumption

theorem State.creditMove_kept (s : State) (n : Nat) (x : Int) (hP : Sub 536870912 P) (hR : Sub 0x1000000000000000000000000 R)
    (hk0 : Kept P R o s) : Kept P R o (State.creditMove s n x) := by
  delta State.creditMove
  extract_lets +onlyGivenNames -underBinder -merge v1
  clear_value v1
  extract_lets +onlyGivenNames -underBinder -merge v2
  clear_value v2
  refine kept_ite _ _ _ ?_ ?_
  · refine State.put_kept _ _ _ _ (hR.bit rfl) ?_
    assumption
  · refine State.put_kept _ _ _ _ (hR.bit rfl) ?_
    refine kept_led (s) _ (hP.bit rfl) ?_
    assumption

theorem State.refillPool_kept (x0 : Nat) (x1 : State) (hP : Sub 536870912 P) (hk0 : Kept P R o x1) : Kept P R o
    (State.refillPool x0 x1) := by
  induction x0 generalizing x1 with
  | zero => exact hk0
  | succ n ih =>
    rw [State.refillPool]
    split
    · exact hk0
    · split
      · exact hk0
      · exact ih _ (kept_led _ _ (hP.bit rfl) hk0)

theorem State.creditTick_kept (s : State) (hP : Sub 536870912 P) (hR : Sub 0x1000000000000000000000000 R) (hk0 : Kept P R o s)
    : Kept P R o (State.creditTick s) := by
  delta State.creditTick
  extract_lets +onlyGivenNames -underBinder -merge v1
  clear_value v1
  extract_lets +onlyGivenNames -underBinder -merge v2
  have hv2 : Kept P R o v2 := by
    unfold v2
    refine State.forEach_kept _ _ _ ?_ ?_
    · intro y1_0 y1_1 hy1_2
      refine State.creditMove_kept _ _ _ (.of rfl hP) (.of rfl hR) ?_
      assumption
    · refine kept_led (s) _ (hP.bit rfl) ?_
      assumption
  clear_value v2
  refine State.refillPool_kept _ _ (.of rfl hP) ?_
  assumption

theorem State.masterTick_kept (s : State) (hP : Sub 138579805184 P) (hR : Sub 0x100000000000004000000000000 R) (hk0 : Kept P R
    o s) : Kept P R o (State.masterTick s) := by
  delta State.masterTick
  refine kept_ite _ _ _ ?_ ?_
  · assumption
  · extract_lets +onlyGivenNames -underBinder -merge v1
    clear_value v1
    extract_lets +onlyGivenNames -underBinder -merge v2
    clear_value v2
    extract_lets +onlyGivenNames -underBinder -merge v3
    have hv3 : Kept P R o v3 := by
      unfold v3
      refine kept_ite _ _ _ ?_ ?_
      · refine State.sendOrder_kept _ _ _ (.of rfl hP) (.of rfl hR) ?_
        refine kept_relay (s) _ (hP.bit rfl) ?_
        assumption
      · assumption
    clear_value v3
    refine kept_ite _ _ _ ?_ ?_
    · assumption
    · extract_lets +onlyGivenNames -underBinder -merge v4
      clear_value v4
      extract_lets +onlyGivenNames -underBinder -merge v5
      clear_value v5
      extract_lets +onlyGivenNames -underBinder -merge v6
      clear_value v6
      extract_lets +onlyGivenNames -underBinder -merge v7
      clear_value v7
      extract_lets +onlyGivenNames -underBinder -merge v8
      have hv8 : Kept P R o v8 := by
        unfold v8
        refine State.put_kept _ _ _ _ (hR.bit rfl) ?_
        refine State.put_kept _ _ _ _ (hR.bit rfl) ?_
        assumption
      clear_value v8
      refine kept_ite _ _ _ ?_ ?_
      · assumption
      · refine State.recordReq_kept _ _ _ _ _ (.of rfl hP) (.of rfl hR) ?_
        assumption

theorem State.tickFigures_kept (s : State) (hP : Sub 134225920 P) (hR : Sub 0x3000000000000 R) (hk0 : Kept P R o s) : Kept P R
    o (State.tickFigures s) := by
  delta State.tickFigures
  extract_lets +onlyGivenNames -underBinder -merge v1
  clear_value v1
  extract_lets +onlyGivenNames -underBinder -merge v2
  clear_value v2
  extract_lets +onlyGivenNames -underBinder -merge v3
  clear_value v3
  extract_lets +onlyGivenNames -underBinder -merge v4
  clear_value v4
  extract_lets +onlyGivenNames -underBinder -merge v5
  have hv5 : Kept P R o v5 := by
    unfold v5
    refine kept_lim (s) _ (hP.bit rfl) ?_
    assumption
  clear_value v5
  extract_lets +onlyGivenNames -underBinder -merge v6
  have hv6 : Kept P R o v6 := by
    unfold v6
    refine State.forEach_kept _ _ _ ?_ ?_
    · intro y1_0 y1_1 hy1_2
      refine State.modRgn_kept _ _ _ (hP.bit rfl) ?_
      assumption
    · assumption
  clear_value v6
  extract_lets +onlyGivenNames -underBinder -merge v7
  clear_value v7
  refine State.put_kept _ _ _ _ (hR.bit rfl) ?_
  refine State.put_kept _ _ _ _ (hR.bit rfl) ?_
  refine State.put_kept _ _ _ _ (hR.bit rfl) ?_
  refine State.put_kept _ _ _ _ (hR.bit rfl) ?_
  assumption

theorem State.tickThermal_kept (s : State) (hP : Sub 138714022912 P) (hR : Sub 0x204000000000000 R) (hk0 : Kept P R o s) :
    Kept P R o (State.tickThermal s) := by
  delta State.tickThermal
  refine kept_ite _ _ _ ?_ ?_
  · assumption
  · extract_lets +onlyGivenNames -underBinder -merge v1
    clear_value v1
    extract_lets +onlyGivenNames -underBinder -merge v2
    have hv2 : Kept P R o v2 := by
      unfold v2
      refine kept_lim (s) _ (hP.bit rfl) ?_
      assumption
    clear_value v2
    refine State.orderLevel_kept _ _ _ (.of rfl hP) (.of rfl hR) ?_
    assumption

theorem State.limitsTick_kept (s : State) (hP : Sub 139250902016 P) (hR : Sub 0x8000000000000000101000000000217800000000000 R)
    (hk0 : Kept P R o s) : Kept P R o (State.limitsTick s) := by
  delta State.limitsTick
  extract_lets +onlyGivenNames -underBinder -merge v1
  have hv1 : Kept P R o v1 := by
    unfold v1
    refine State.setCap_kept _ (.of rfl hP) (.of rfl hR) ?_
    refine State.tickFigures_kept _ (.of rfl hP) (.of rfl hR) ?_
    assumption
  clear_value v1
  extract_lets +onlyGivenNames -underBinder -merge v2
  clear_value v2
  extract_lets +onlyGivenNames -underBinder -merge v3
  have hv3 : Kept P R o v3 := by
    unfold v3
    refine State.tickThermal_kept _ (.of rfl hP) (.of rfl hR) ?_
    refine State.orderLevel_kept _ _ _ (.of rfl hP) (.of rfl hR) ?_
    refine State.put_kept _ _ _ _ (hR.bit rfl) ?_
    refine State.reoffer_kept _ (.of rfl hP) (.of rfl hR) ?_
    assumption
  clear_value v3
  refine State.masterTick_kept _ (.of rfl hP) (.of rfl hR) ?_
  refine State.shares_kept _ (.of rfl hR) ?_
  refine State.creditTick_kept _ (.of rfl hP) (.of rfl hR) ?_
  assumption

theorem execLimitsTick_kept (s : State) (hP : Sub 139250902016 P) (hR : Sub 0x8000000000000000101000000000217800000000000 R)
    (hk0 : Kept P R o s) : KeptR P R o (execLimitsTick s) := by
  delta execLimitsTick
  refine (KeptR_next _).mpr ?_
  refine kept_ite _ _ _ ?_ ?_
  · refine State.limitsTick_kept _ (.of rfl hP) (.of rfl hR) ?_
    assumption
  · assumption

theorem State.clrPeakPower_kept (s : State) (hR : Sub 0x2000000000000 R) (hk0 : Kept P R o s) : Kept P R o (State.clrPeakPower
    s) := by
  delta State.clrPeakPower
  refine State.put_kept _ _ _ _ (hR.bit rfl) ?_
  assumption

theorem State.floorAcked_kept (s : State) (fp : Nat) (hP : Sub 207391572992 P) (hR : Sub
    0x200000000000000000000084000000000000 R) (hk0 : Kept P R o s) : Kept P R o (State.floorAcked s fp) := by
  delta State.floorAcked
  extract_lets +onlyGivenNames -underBinder -merge v1
  have hv1 : Kept P R o v1 := by
    unfold v1
    refine State.forEach_kept _ _ _ ?_ ?_
    · intro y1_0 y1_1 hy1_2
      refine State.endSlot_kept _ _ _ (.of rfl hP) (.of rfl hR) ?_
      assumption
    · assumption
  clear_value v1
  extract_lets +onlyGivenNames -underBinder -merge v2
  have hv2 : Kept P R o v2 := by
    unfold v2
    refine State.put_kept _ _ _ _ (hR.bit rfl) ?_
    assumption
  clear_value v2
  extract_lets +onlyGivenNames -underBinder -merge v3
  have hv3 : ∀ (y0 : State), Kept P R o y0 → Kept P R o (v3 y0) := by
    intro y1_0 hy1_1
    unfold v3
    extract_lets +onlyGivenNames -underBinder -merge v4
    have hv4 : Kept P R o v4 := by
      unfold v4
      refine State.put_kept _ _ _ _ (hR.bit rfl) ?_
      assumption
    clear_value v4
    refine kept_lim (v4) _ (hP.bit rfl) ?_
    assumption
  clear_value v3
  split
  · extract_lets +onlyGivenNames -underBinder -merge v4
    have hv4 : Kept P R o v4 := by
      unfold v4
      refine hv3 _ ?_
      assumption
    clear_value v4
    extract_lets +onlyGivenNames -underBinder -merge v5
    clear_value v5
    extract_lets +onlyGivenNames -underBinder -merge v6
    have hv6 : Kept P R o v6 := by
      unfold v6
      refine kept_lim (v4) _ (hP.bit rfl) ?_
      assumption
    clear_value v6
    refine State.forEach_kept _ _ _ ?_ ?_
    · intro y1_0 y1_1 hy1_2
      refine kept_ite _ _ _ ?_ ?_
      · assumption
      · refine State.modHeat_kept _ _ _ (hP.bit rfl) ?_
        assumption
    · assumption
  · refine kept_ite _ _ _ ?_ ?_
    · extract_lets +onlyGivenNames -underBinder -merge v4
      have hv4 : Kept P R o v4 := by
        unfold v4
        refine hv3 _ ?_
        assumption
      clear_value v4
      refine State.reportEmerg_kept _ _ _ (.of rfl hP) ?_
      refine kept_lim (v4) _ (hP.bit rfl) ?_
      assumption
    · assumption
  · refine hv3 _ ?_
    assumption

theorem State.freqNotice_kept (s : State) (seq : Nat) (body : BitVec 52) (hP : Sub 482370143232 P) (hR : Sub
    0x200000000000000000000084010000000000 R) (hk0 : Kept P R o s) : Kept P R o (State.freqNotice s seq body) := by
  delta State.freqNotice
  refine State.takeNotice_kept _ _ _ _ _ _ _ ?_ (.of rfl hP) (.of rfl hR) ?_
  · intro y1_0 hy1_1
    extract_lets +onlyGivenNames -underBinder -merge v1
    clear_value v1
    extract_lets +onlyGivenNames -underBinder -merge v2
    clear_value v2
    refine kept_ite _ _ _ ?_ ?_
    · refine kept_ite _ _ _ ?_ ?_
      · refine State.refuse_kept _ _ _ _ _ _ (.of rfl hP) (.of rfl hR) ?_
        assumption
      · refine State.floorAcked_kept _ _ (.of rfl hP) (.of rfl hR) ?_
        refine State.acceptTag_kept _ _ _ _ _ (.of rfl hP) (.of rfl hR) ?_
        assumption
    · refine kept_ite _ _ _ ?_ ?_
      · refine State.put_kept _ _ _ _ (hR.bit rfl) ?_
        refine State.acceptTag_kept _ _ _ _ _ (.of rfl hP) (.of rfl hR) ?_
        assumption
      · refine State.refuse_kept _ _ _ _ _ _ (.of rfl hP) (.of rfl hR) ?_
        assumption
  · assumption

theorem execFreqpt_kept (seq : BitVec 8) (body : BitVec 52) (s : State) (hP : Sub 482370143232 P) (hR : Sub
    0x200000000000000000000084010000000000 R) (hk0 : Kept P R o s) : KeptR P R o (execFreqpt seq body s) := by
  delta execFreqpt
  refine (KeptR_next _).mpr ?_
  refine State.freqNotice_kept _ _ _ (.of rfl hP) (.of rfl hR) ?_
  assumption

theorem execFreqptFloorAck_kept (seq : BitVec 8) (body : BitVec 52) (s : State) (hP : Sub 482370143232 P) (hR : Sub
    0x200000000000000000000084010000000000 R) (hk0 : Kept P R o s) : KeptR P R o (execFreqptFloorAck seq body s) := by
  delta execFreqptFloorAck
  refine (KeptR_next _).mpr ?_
  refine State.freqNotice_kept _ _ _ (.of rfl hP) (.of rfl hR) ?_
  assumption

theorem execHeatAtTarget_kept (h1 : Fin 256) (s : State) (hP : Sub 206317831168 P) (hR : Sub
    0x200000000000000000000004000000000000 R) (hk0 : Kept P R o s) : KeptR P R o (execHeatAtTarget h1 s) := by
  delta execHeatAtTarget
  refine (KeptR_next _).mpr ?_
  refine State.lowRelease_kept _ (.of rfl hP) (.of rfl hR) ?_
  refine State.reachTarget_kept _ _ (.of rfl hP) (.of rfl hR) ?_
  assumption

/-! ### Machine/Gauge.lean -/

theorem State.setIrq_kept (s : State) (x : Fld) (hx_x : R.testBit (Reg.bit x.reg) = true) (hk0 : Kept P R o s) : Kept P R o
    (State.setIrq s x) := by
  delta State.setIrq
  refine State.put_kept _ _ _ _ ‹_› ?_
  refine State.put_kept _ _ _ _ ‹_› ?_
  assumption

theorem State.modMod_kept (s : State) (k : Nat) (f : Modulator → Modulator) (hP : Sub 268435456 P) (hk0 : Kept P R o s) : Kept
    P R o (State.modMod s k f) := by
  delta State.modMod
  refine kept_gauge (s) _ (hP.bit rfl) ?_
  assumption

theorem State.modSensor_kept (s : State) (i : Nat) (f : Sensor → Sensor) (hP : Sub 268435456 P) (hk0 : Kept P R o s) : Kept P
    R o (State.modSensor s i f) := by
  delta State.modSensor
  refine kept_gauge (s) _ (hP.bit rfl) ?_
  assumption

theorem State.regEvent_kept (s : State) (k : Nat) (noDelay : Bool) (hP : Sub 335544320 P) (hR : Sub 0x2000000000000000000 R)
    (hk0 : Kept P R o s) : Kept P R o (State.regEvent s k noDelay) := by
  delta State.regEvent
  extract_lets +onlyGivenNames -underBinder -merge v1
  clear_value v1
  refine kept_ite _ _ _ ?_ ?_
  · assumption
  · refine kept_ite _ _ _ ?_ ?_
    · refine kept_ite _ _ _ ?_ ?_
      · refine State.raiseHw_kept _ _ _ _ (.of rfl hP) ?_
        refine State.bump_kept _ _ _ (hR.bit rfl) ?_
        assumption
      · refine State.modMod_kept _ _ _ (.of rfl hP) ?_
        assumption
    · refine kept_ite _ _ _ ?_ ?_
      · refine State.modMod_kept _ _ _ (.of rfl hP) ?_
        assumption
      · refine State.modMod_kept _ _ _ (.of rfl hP) ?_
        assumption

theorem State.injEvent_kept (s : State) (k : Nat) (noDelay : Bool) (hP : Sub 335544320 P) (hR : Sub 0x2000000000000000000 R)
    (hk0 : Kept P R o s) : Kept P R o (State.injEvent s k noDelay) := by
  delta State.injEvent
  extract_lets +onlyGivenNames -underBinder -merge v1
  clear_value v1
  refine kept_ite _ _ _ ?_ ?_
  · assumption
  · refine kept_ite _ _ _ ?_ ?_
    · refine State.raiseHw_kept _ _ _ _ (.of rfl hP) ?_
      refine State.bump_kept _ _ _ (hR.bit rfl) ?_
      assumption
    · refine kept_ite _ _ _ ?_ ?_
      · refine State.modMod_kept _ _ _ (.of rfl hP) ?_
        assumption
      · refine State.modMod_kept _ _ _ (.of rfl hP) ?_
        assumption

theorem State.fireSource_kept (s : State) (c : Nat) (ok : State → Nat → Bool) (hP : Sub 335544320 P) (hR : Sub
    0x2000000000000000000 R) (hk0 : Kept P R o s) : Kept P R o (State.fireSource s c ok) := by
  delta State.fireSource
  refine kept_ite _ _ _ ?_ ?_
  · assumption
  · refine State.forEach_kept _ _ _ ?_ ?_
    · intro y1_0 y1_1 hy1_2
      extract_lets +onlyGivenNames -underBinder -merge v1
      have hv1 : Kept P R o v1 := by
        unfold v1
        refine kept_ite _ _ _ ?_ ?_
        · refine State.injEvent_kept _ _ _ (.of rfl hP) (.of rfl hR) ?_
          assumption
        · assumption
      clear_value v1
      refine kept_ite _ _ _ ?_ ?_
      · refine State.regEvent_kept _ _ _ (.of rfl hP) (.of rfl hR) ?_
        assumption
      · assumption
    · assumption

theorem State.stepTriggers_kept (s : State) (hP : Sub 335544320 P) (hR : Sub 0x2000000000000000000 R) (hk0 : Kept P R o s) :
    Kept P R o (State.stepTriggers s) := by
  delta State.stepTriggers
  refine State.fireSource_kept _ _ _ (.of rfl hP) (.of rfl hR) ?_
  assumption

theorem execPcapInEdge_kept (pinHigh : Bool) (t : Nat) (s : State) (hP : Sub 469762050 P) (hR : Sub 0x2000000800000000000 R)
    (hk0 : Kept P R o s) : KeptR P R o (execPcapInEdge pinHigh t s) := by
  delta execPcapInEdge
  refine keptR_ite _ _ _ ?_ ?_
  · refine (KeptR_next _).mpr ?_
    assumption
  · refine (KeptR_next _).mpr ?_
    refine State.fireSource_kept _ _ _ (.of rfl hP) (.of rfl hR) ?_
    refine State.pcapEdge_kept _ _ _ (.of rfl hP) (.of rfl hR) ?_
    refine State.advance_kept _ _ (.of rfl hP) ?_
    assumption

theorem execRegularTrigger_kept (k : Fin 16) (s : State) (hP : Sub 335544320 P) (hR : Sub 0x2000000000000000000 R) (hk0 : Kept
    P R o s) : KeptR P R o (execRegularTrigger k s) := by
  delta execRegularTrigger
  refine (KeptR_next _).mpr ?_
  refine kept_ite _ _ _ ?_ ?_
  · refine State.regEvent_kept _ _ _ (.of rfl hP) (.of rfl hR) ?_
    assumption
  · assumption

theorem execUrgentTrigger_kept (k : Fin 16) (s : State) (hP : Sub 335544320 P) (hR : Sub 0x2000000000000000000 R) (hk0 : Kept
    P R o s) : KeptR P R o (execUrgentTrigger k s) := by
  delta execUrgentTrigger
  refine (KeptR_next _).mpr ?_
  refine kept_ite _ _ _ ?_ ?_
  · refine State.injEvent_kept _ _ _ (.of rfl hP) (.of rfl hR) ?_
    assumption
  · assumption

theorem execTriggerDelayEnd_kept (k : Fin 16) (urgent : Bool) (s : State) (hP : Sub 268435456 P) (hk0 : Kept P R o s) : KeptR
    P R o (execTriggerDelayEnd k urgent s) := by
  delta execTriggerDelayEnd
  extract_lets +onlyGivenNames -underBinder -merge v1
  clear_value v1
  refine keptR_ite _ _ _ ?_ ?_
  · split
    · refine (KeptR_next _).mpr ?_
      refine kept_ite _ _ _ ?_ ?_
      · refine State.modMod_kept _ _ _ (.of rfl hP) ?_
        assumption
      · assumption
    · refine (KeptR_next _).mpr ?_
      assumption
  · split
    · refine (KeptR_next _).mpr ?_
      refine kept_ite _ _ _ ?_ ?_
      · refine State.modMod_kept _ _ _ (.of rfl hP) ?_
        assumption
      · assumption
    · refine (KeptR_next _).mpr ?_
      assumption

theorem State.modStop_kept (s : State) (k : Nat) (cur : Option Nat) (hP : Sub 268435456 P) (hk0 : Kept P R o s) : Kept P R o
    (State.modStop s k cur) := by
  delta State.modStop
  refine State.modMod_kept _ _ _ (.of rfl hP) ?_
  assumption

theorem State.wmEdge_kept (s : State) (was : Bool) (hR : Sub 64 R) (hk0 : Kept P R o s) : Kept P R o (State.wmEdge s was) :=
    by
  delta State.wmEdge
  refine kept_ite _ _ _ ?_ ?_
  · refine State.setIrq_kept _ _ (hR.bit rfl) ?_
    assumption
  · assumption

theorem State.enqueueResult_kept (s : State) (result : Nat) (tag : Nat) (ovr : Bool) (inj : Bool) (hk : Bool) (hP : Sub
    335544320 P) (hR : Sub 0x4000000000000040 R) (hk0 : Kept P R o s) : Kept P R o (State.enqueueResult s result tag ovr inj hk) := by
  delta State.enqueueResult
  extract_lets +onlyGivenNames -underBinder -merge v1
  clear_value v1
  extract_lets +onlyGivenNames -underBinder -merge v2
  clear_value v2
  extract_lets +onlyGivenNames -underBinder -merge v3
  clear_value v3
  extract_lets +onlyGivenNames -underBinder -merge v4
  clear_value v4
  extract_lets +onlyGivenNames -underBinder -merge v5
  clear_value v5
  extract_lets +onlyGivenNames -underBinder -merge v6
  clear_value v6
  extract_lets +onlyGivenNames -underBinder -merge v7
  clear_value v7
  extract_lets +onlyGivenNames -underBinder -merge v8
  clear_value v8
  refine kept_ite _ _ _ ?_ ?_
  · refine State.wmEdge_kept _ _ (.of rfl hR) ?_
    refine kept_gauge (s) _ (hP.bit rfl) ?_
    assumption
  · extract_lets +onlyGivenNames -underBinder -merge v9
    have hv9 : Kept P R o v9 := by
      unfold v9
      refine State.put_kept _ _ _ _ (hR.bit rfl) ?_
      assumption
    clear_value v9
    extract_lets +onlyGivenNames -underBinder -merge v10
    have hv10 : Kept P R o v10 := by
      unfold v10
      refine kept_gauge (v9) _ (hP.bit rfl) ?_
      assumption
    clear_value v10
    refine kept_ite _ _ _ ?_ ?_
    · assumption
    · refine State.raiseHw_kept _ _ _ _ (.of rfl hP) ?_
      assumption

theorem State.popResult_kept (s : State) (hP : Sub 268435456 P) (hR : Sub 0x3000000000000000 R) (hk0 : Kept P R o s) : Kept P
    R o (State.popResult s) := by
  delta State.popResult
  split
  · refine State.put_kept _ _ _ _ (hR.bit rfl) ?_
    refine State.put_kept _ _ _ _ (hR.bit rfl) ?_
    assumption
  · extract_lets +onlyGivenNames -underBinder -merge v1
    clear_value v1
    extract_lets +onlyGivenNames -underBinder -merge v2
    have hv2 : Kept P R o v2 := by
      unfold v2
      refine kept_gauge (s) _ (hP.bit rfl) ?_
      assumption
    clear_value v2
    refine State.put_kept _ _ _ _ (hR.bit rfl) ?_
    refine State.put_kept _ _ _ _ (hR.bit rfl) ?_
    assumption

theorem State.clearQueue_kept (s : State) (hP : Sub 268435456 P) (hk0 : Kept P R o s) : Kept P R o (State.clearQueue s) := by
  delta State.clearQueue
  refine kept_gauge (s) _ (hP.bit rfl) ?_
  assumption

theorem State.takeResult_kept (s : State) (k : Nat) (i : Nat) (r : Int) (ovr : Bool) (hk : Bool) (hP : Sub 402653184 P) (hR :
    Sub 0x50000800000000000000000000000000000000000000 R) (hk0 : Kept P R o s) : Kept P R o (State.takeResult s k i r ovr hk) := by
  unfold State.takeResult
  have h0 : Kept P R o { s with gauge := { s.gauge with latest := tblSet none s.gauge.latest (64 * k + i) (some r) } } := kept_gauge s _ (hP.bit rfl) hk0
  refine kept_ite _ _ _ hk0 ?_
  dsimp only
  split
  · refine kept_ite _ _ _ ?_ h0
    refine kept_ite _ _ _ (State.put_kept _ _ _ _ (by split <;> exact hR.bit rfl) (State.modSensor_kept _ _ _ (.of rfl hP) h0))
      (State.modSensor_kept _ _ _ (.of rfl hP) h0)
  · refine kept_ite _ _ _ ?_ (kept_ite _ _ _ ?_ h0)
    · refine kept_ite _ _ _ h0 ?_
      have h1 := fun v => State.put_kept _ RGN_GAU_V.V_MIN (16 * k + i) v (hR.bit rfl) (State.put_kept _ RGN_GAU_V.V (16 * k + i)
        (unsignedOr 65535 (roundEven (((r * 15625 : Int) : Rat) / 2097152))) (hR.bit rfl) h0)
      exact kept_ite _ _ _ (h1 _) (State.put_kept _ _ _ _ (hR.bit rfl) (h1 _))
    · exact kept_upd s _ 402653184 rfl ⟨[], (List.append_nil _).symm⟩ rfl (by intro p hp; cases p <;> first | rfl | cases hp) (.of rfl hP) hk0

theorem State.stopIfOff_kept (s : State) (k : Nat) (hP : Sub 268435456 P) (hk0 : Kept P R o s) : Kept P R o (State.stopIfOff s
    k) := by
  delta State.stopIfOff
  refine kept_ite _ _ _ ?_ ?_
  · assumption
  · refine State.modMod_kept _ _ _ (.of rfl hP) ?_
    assumption

theorem State.conversion_kept (s : State) (k : Nat) (r : Int) (ovr : Bool) (hP : Sub 469762048 P) (hR : Sub
    0x50000800000000000000000000004000000000000040 R) (hk0 : Kept P R o s) : Kept P R o (State.conversion s k r ovr) := by
  delta State.conversion
  extract_lets +onlyGivenNames -underBinder -merge v1
  clear_value v1
  extract_lets +onlyGivenNames -underBinder -merge v2
  have hv2 : ∀ (y0 : State) (y1 : Nat) (y2 : Bool) (y3 : Bool) (y4 : Bool), Kept P R o y0 → Kept P R o (v2 y0 y1 y2 y3 y4) := by
    intro y1_0 y1_1 y1_2 y1_3 y1_4 hy1_5
    unfold v2
    extract_lets +onlyGivenNames -underBinder -merge v3
    have hv3 : Kept P R o v3 := by
      unfold v3
      refine State.takeResult_kept _ _ _ _ _ _ (.of rfl hP) (.of rfl hR) ?_
      assumption
    clear_value v3
    refine kept_ite _ _ _ ?_ ?_
    · refine State.enqueueResult_kept _ _ _ _ _ _ (.of rfl hP) (.of rfl hR) ?_
      assumption
    · assumption
  clear_value v2
  split
  · extract_lets +onlyGivenNames -underBinder -merge v3
    clear_value v3
    refine State.stopIfOff_kept _ _ (.of rfl hP) ?_
    refine State.modMod_kept _ _ _ (.of rfl hP) ?_
    refine hv2 _ _ _ _ _ ?_
    assumption
  · extract_lets +onlyGivenNames -underBinder -merge v3
    clear_value v3
    extract_lets +onlyGivenNames -underBinder -merge v4
    clear_value v4
    extract_lets +onlyGivenNames -underBinder -merge v5
    have hv5 : Kept P R o v5 := by
      unfold v5
      refine State.stopIfOff_kept _ _ (.of rfl hP) ?_
      refine State.modMod_kept _ _ _ (.of rfl hP) ?_
      refine hv2 _ _ _ _ _ ?_
      assumption
    clear_value v5
    refine kept_ite _ _ _ ?_ ?_
    · refine kept_gauge (v5) _ (hP.bit rfl) ?_
      assumption
    · assumption
  · extract_lets +onlyGivenNames -underBinder -merge v3
    clear_value v3
    refine State.stopIfOff_kept _ _ (.of rfl hP) ?_
    refine State.modMod_kept _ _ _ (.of rfl hP) ?_
    refine hv2 _ _ _ _ _ ?_
    assumption
  · assumption

theorem execConversionDone_kept (k : Fin 16) (r : Int) (ovr : Bool) (t : Nat) (s : State) (hP : Sub 469762050 P) (hR : Sub
    0x50000800000000000000000000004000000000000040 R) (hk0 : Kept P R o s) : KeptR P R o (execConversionDone k r ovr t s) := by
  delta execConversionDone
  refine checked_kept _ _ _ ?_
  refine (KeptR_next _).mpr ?_
  refine kept_ite _ _ _ ?_ ?_
  · refine State.conversion_kept _ _ _ _ (.of rfl hP) (.of rfl hR) ?_
    refine State.advance_kept _ _ (.of rfl hP) ?_
    assumption
  · assumption

theorem execHousekeepingTick_kept (s : State) (hP : Sub 335544320 P) (hR : Sub 0x800000000000000 R) (hk0 : Kept P R o s) :
    KeptR P R o (execHousekeepingTick s) := by
  delta execHousekeepingTick
  refine keptR_ite _ _ _ ?_ ?_
  · refine (KeptR_next _).mpr ?_
    assumption
  · refine keptR_ite _ _ _ ?_ ?_
    · refine (KeptR_next _).mpr ?_
      refine State.raiseHw_kept _ _ _ _ (.of rfl hP) ?_
      refine State.bump_kept _ _ _ (hR.bit rfl) ?_
      assumption
    · refine (KeptR_next _).mpr ?_
      refine State.forEach_kept _ _ _ ?_ ?_
      · intro y1_0 y1_1 hy1_2
        refine State.modMod_kept _ _ _ (.of rfl hP) ?_
        assumption
      · assumption

theorem State.evalVin_kept (s : State) (hP : Sub 335544320 P) (hR : Sub 0x8800000000000000 R) (hk0 : Kept P R o s) : Kept P R
    o (State.evalVin s) := by
  unfold State.evalVin
  have h1 : ∀ s1 : State, Kept P R o s1 → Kept P R o (State.evalVin.clearRun s1) := fun s1 h => kept_gauge s1 _ (hP.bit rfl) h
  have h2 : ∀ s1 : State, Kept P R o s1 → Kept P R o (if (s1.f GAU_VIN.VIN) < 16000 ∨ 20000 < (s1.f GAU_VIN.VIN) then
      if ({ s1 with gauge := { s1.gauge with vinRun := s1.gauge.vinRun + 1 } } : State).gauge.vinRun = 3 then
        (({ s1 with gauge := { s1.gauge with vinRun := s1.gauge.vinRun + 1 } } : State).put GAU_STATUS.VIN_BAD 0 1).raiseHw .INPUT_RAIL .none 0
      else { s1 with gauge := { s1.gauge with vinRun := s1.gauge.vinRun + 1 } }
    else State.evalVin.clearRun (if 0 < s1.gauge.vinRun then s1.condEnds .INPUT_RAIL else s1)) := fun s1 h =>
    kept_ite _ _ _
      (kept_ite _ _ _ (State.raiseHw_kept _ _ _ _ (.of rfl hP) (State.put_kept _ _ _ _ (hR.bit rfl) (kept_gauge s1 _ (hP.bit rfl) h)))
        (kept_gauge s1 _ (hP.bit rfl) h))
      (h1 _ (kept_ite _ _ _ (State.condEnds_kept _ _ (.of rfl hP) h) h))
  exact h2 _ (kept_ite _ _ _ hk0 (State.put_kept _ _ _ _ (hR.bit rfl) hk0))

theorem State.evalVin.clearRun_kept (s : State) (hP : Sub 268435456 P) (hk0 : Kept P R o s) : Kept P R o
    (State.evalVin.clearRun s) := by
  delta State.evalVin.clearRun
  refine kept_gauge (s) _ (hP.bit rfl) ?_
  assumption

theorem State.evalSensor_kept (s : State) (q : Nat) (hP : Sub 335544320 P) (hk0 : Kept P R o s) : Kept P R o (State.evalSensor
    s q) := by
  delta State.evalSensor
  extract_lets +onlyGivenNames -underBinder -merge v1
  clear_value v1
  refine kept_ite _ _ _ ?_ ?_
  · refine State.modSensor_kept _ _ _ (.of rfl hP) ?_
    assumption
  · extract_lets +onlyGivenNames -underBinder -merge v2
    clear_value v2
    extract_lets +onlyGivenNames -underBinder -merge v3
    have hv3 : Kept P R o v3 := by
      unfold v3
      refine State.modSensor_kept _ _ _ (.of rfl hP) ?_
      assumption
    clear_value v3
    refine kept_ite _ _ _ ?_ ?_
    · refine State.raiseHw_kept _ _ _ _ (.of rfl hP) ?_
      assumption
    · assumption

theorem State.evalSensors_kept (s : State) (hP : Sub 335544320 P) (hk0 : Kept P R o s) : Kept P R o (State.evalSensors s) :=
    by
  delta State.evalSensors
  extract_lets +onlyGivenNames -underBinder -merge v1
  clear_value v1
  extract_lets +onlyGivenNames -underBinder -merge v2
  clear_value v2
  extract_lets +onlyGivenNames -underBinder -merge v3
  have hv3 : Kept P R o v3 := by
    unfold v3
    refine State.forEach_kept _ _ _ ?_ ?_
    · intro y1_0 y1_1 hy1_2
      refine State.evalSensor_kept _ _ (.of rfl hP) ?_
      assumption
    · assumption
  clear_value v3
  refine kept_ite _ _ _ ?_ ?_
  · refine State.condEnds_kept _ _ (.of rfl hP) ?_
    assumption
  · assumption

theorem State.flagEval_kept (s : State) (x : Fld) (die : Int) (thr : Int) (hys : Int) (hx_x : R.testBit (Reg.bit x.reg) =
    true) (hk0 : Kept P R o s) : Kept P R o (State.flagEval s x die thr hys).1 := by
  delta State.flagEval
  extract_lets +onlyGivenNames -underBinder -merge v1
  clear_value v1
  refine kept_ite_fst _ _ _ ?_ ?_
  · refine kept_pair _ _ ?_
    refine State.put_kept _ _ _ _ ‹_› ?_
    assumption
  · refine kept_ite_fst _ _ _ ?_ ?_
    · refine kept_pair _ _ ?_
      refine State.put_kept _ _ _ _ ‹_› ?_
      assumption
    · refine kept_pair _ _ ?_
      assumption

theorem State.evalRegions_kept (s : State) (die : Option Int) (hP : Sub 268435456 P) (hR : Sub
    0x20000000000000000000000000000000000000000000 R) (hk0 : Kept P R o s) : Kept P R o (State.evalRegions s die) := by
  delta State.evalRegions
  extract_lets +onlyGivenNames -underBinder -merge v1
  clear_value v1
  extract_lets +onlyGivenNames -underBinder -merge v2
  clear_value v2
  extract_lets +onlyGivenNames -underBinder -merge v3
  have hv3 : Kept P R o v3 := by
    unfold v3
    refine kept_gauge (s) _ (hP.bit rfl) ?_
    assumption
  clear_value v3
  refine State.forEach_kept _ _ _ ?_ ?_
  · intro y1_0 y1_1 hy1_2
    extract_lets +onlyGivenNames -underBinder -merge v4
    clear_value v4
    extract_lets +onlyGivenNames -underBinder -merge v5
    clear_value v5
    extract_lets +onlyGivenNames -underBinder -merge v6
    have hv6 : Kept P R o v6 := by
      unfold v6
      refine State.put_kept _ _ _ _ (hR.bit rfl) ?_
      refine State.put_kept _ _ _ _ (hR.bit rfl) ?_
      refine State.put_kept _ _ _ _ (hR.bit rfl) ?_
      assumption
    clear_value v6
    split
    · refine State.put_kept _ _ _ _ (hR.bit rfl) ?_
      refine State.put_kept _ _ _ _ (hR.bit rfl) ?_
      assumption
    · assumption
  · assumption

theorem State.evalFlags_kept (s : State) (die : Int) (hP : Sub 67108864 P) (hR : Sub 0x80000000000000000 R) (hk0 : Kept P R o
    s) : Kept P R o (State.evalFlags s die) := by
  delta State.evalFlags
  extract_lets +onlyGivenNames -underBinder -merge v1
  clear_value v1
  extract_lets +onlyGivenNames -underBinder -merge v2
  have hv2 : Kept P R o v2.1 := by
    unfold v2
    refine State.flagEval_kept _ _ _ _ _ (hR.bit rfl) ?_
    assumption
  clear_value v2
  extract_lets +onlyGivenNames -underBinder -merge v3
  have hv3 : Kept P R o v3 := by
    unfold v3
    refine kept_ite _ _ _ ?_ ?_
    · refine State.raiseHw_kept _ _ _ _ (.of rfl hP) ?_
      assumption
    · assumption
  clear_value v3
  extract_lets +onlyGivenNames -underBinder -merge v4
  have hv4 : Kept P R o v4 := by
    unfold v4
    refine kept_ite _ _ _ ?_ ?_
    · refine State.condEnds_kept _ _ (.of rfl hP) ?_
      assumption
    · assumption
  clear_value v4
  extract_lets +onlyGivenNames -underBinder -merge v5
  have hv5 : Kept P R o v5.1 := by
    unfold v5
    refine State.flagEval_kept _ _ _ _ _ (hR.bit rfl) ?_
    assumption
  clear_value v5
  extract_lets +onlyGivenNames -underBinder -merge v6
  have hv6 : Kept P R o v6.1 := by
    unfold v6
    refine State.flagEval_kept _ _ _ _ _ (hR.bit rfl) ?_
    assumption
  clear_value v6
  extract_lets +onlyGivenNames -underBinder -merge v7
  have hv7 : Kept P R o v7 := by
    unfold v7
    refine kept_ite _ _ _ ?_ ?_
    · refine State.raiseHw_kept _ _ _ _ (.of rfl hP) ?_
      assumption
    · assumption
  clear_value v7
  extract_lets +onlyGivenNames -underBinder -merge v8
  have hv8 : Kept P R o v8 := by
    unfold v8
    refine kept_ite _ _ _ ?_ ?_
    · refine State.condEnds_kept _ _ (.of rfl hP) ?_
      assumption
    · assumption
  clear_value v8
  extract_lets +onlyGivenNames -underBinder -merge v9
  clear_value v9
  extract_lets +onlyGivenNames -underBinder -merge v10
  clear_value v10
  extract_lets +onlyGivenNames -underBinder -merge v11
  have hv11 : Kept P R o v11 := by
    unfold v11
    refine kept_ite _ _ _ ?_ ?_
    · refine State.put_kept _ _ _ _ (hR.bit rfl) ?_
      assumption
    · assumption
  clear_value v11
  refine kept_ite _ _ _ ?_ ?_
  · refine State.put_kept _ _ _ _ (hR.bit rfl) ?_
    assumption
  · refine kept_ite _ _ _ ?_ ?_
    · refine State.put_kept _ _ _ _ (hR.bit rfl) ?_
      assumption
    · assumption

theorem State.roundEval_kept (s : State) (hP : Sub 207710323712 P) (hR : Sub 0x280000002000000000000000000c8a44000000000000 R)
    (hk0 : Kept P R o s) : Kept P R o (State.roundEval s) := by
  have hp : ∀ (y : State) (x : Fld) (t : Option Int), R.testBit (Reg.bit x.reg) = true → Kept P R o y →
      Kept P R o (match t with | some v => y.put x 0 (tempReg v) | none => y) := fun y x t hx hy => by
    cases t with
    | none => exact hy
    | some v => exact State.put_kept _ _ _ _ hx hy
  have he : ∀ (y : State) (d : Int), Kept P R o y → Kept P R o ((({ y with gauge := { y.gauge with dieT := some d } }).evalFlags d).thermalRound d) :=
    fun y d hy => State.thermalRound_kept _ _ (.of rfl hP) (.of rfl hR) (State.evalFlags_kept _ _ (.of rfl hP) (.of rfl hR) (kept_gauge y _ (hP.bit rfl) hy))
  have hs : ∀ (y : State) (z : Option Int), Kept P R o y → Kept P R o (match z with
      | some d => (({ y with gauge := { y.gauge with dieT := some d } }).evalFlags d).thermalRound d
      | none => y) := fun y z hy => by
    cases z with
    | none => exact hy
    | some d => exact he y d hy
  delta State.roundEval
  extract_lets g1 s1 c l die put s2
  have h1 : Kept P R o s1 := State.evalSensors_kept _ (.of rfl hP) (State.evalVin_kept _ (.of rfl hP) (.of rfl hR) (kept_gauge s _ (hP.bit rfl) hk0))
  clear_value s1 die c l
  have h2 : Kept P R o s2 := State.put_kept _ _ _ _ (hR.bit rfl) (hp _ _ _ (hR.bit rfl) (hp _ _ _ (hR.bit rfl)
    (State.evalRegions_kept _ _ (.of rfl hP) (.of rfl hR) h1)))
  clear_value s2
  exact hs _ _ h2

theorem execRoundEvaluation_kept (s : State) (hP : Sub 207710323712 P) (hR : Sub
    0x280000002000000000000000000c8a44000000000000 R) (hk0 : Kept P R o s) : KeptR P R o (execRoundEvaluation s) := by
  delta execRoundEvaluation
  refine (KeptR_next _).mpr ?_
  refine kept_ite _ _ _ ?_ ?_
  · refine State.roundEval_kept _ (.of rfl hP) (.of rfl hR) ?_
    assumption
  · assumption

theorem State.telSample_kept (s : State) (d : Nat) (hP : Sub 268435456 P) (hR : Sub 0x600000000000000000000000000000000000000
    R) (hk0 : Kept P R o s) : Kept P R o (State.telSample s d) := by
  delta State.telSample
  extract_lets +onlyGivenNames -underBinder -merge v1
  clear_value v1
  extract_lets +onlyGivenNames -underBinder -merge v2
  clear_value v2
  extract_lets +onlyGivenNames -underBinder -merge v3
  clear_value v3
  extract_lets +onlyGivenNames -underBinder -merge v4
  clear_value v4
  extract_lets +onlyGivenNames -underBinder -merge v5
  clear_value v5
  extract_lets +onlyGivenNames -underBinder -merge v6
  clear_value v6
  extract_lets +onlyGivenNames -underBinder -merge v7
  have hv7 : Kept P R o v7 := by
    unfold v7
    refine kept_gauge (s) _ (hP.bit rfl) ?_
    assumption
  clear_value v7
  refine kept_ite _ _ _ ?_ ?_
  · assumption
  · extract_lets +onlyGivenNames -underBinder -merge v8
    have hv8 : Kept P R o v8 := by
      unfold v8
      refine State.put_kept _ _ _ _ (hR.bit rfl) ?_
      assumption
    clear_value v8
    refine State.put_kept _ _ _ _ (hR.bit rfl) ?_
    assumption

theorem State.telemetrySample_kept (s : State) (hP : Sub 268435456 P) (hR : Sub 0x600000000000000000000000000000000000000 R)
    (hk0 : Kept P R o s) : Kept P R o (State.telemetrySample s) := by
  delta State.telemetrySample
  extract_lets +onlyGivenNames -underBinder -merge v1
  have hv1 : Kept P R o v1 := by
    unfold v1
    refine State.forEach_kept _ _ _ ?_ ?_
    · intro y1_0 y1_1 hy1_2
      refine State.telSample_kept _ _ (.of rfl hP) (.of rfl hR) ?_
      assumption
    · assumption
  clear_value v1
  refine kept_gauge (v1) _ (hP.bit rfl) ?_
  assumption

theorem execTelemetryUpdate_kept (s : State) (hP : Sub 268435456 P) (hR : Sub 0xe00000000000000000000000000000000000000 R)
    (hk0 : Kept P R o s) : KeptR P R o (execTelemetryUpdate s) := by
  delta execTelemetryUpdate
  extract_lets +onlyGivenNames -underBinder -merge v1
  clear_value v1
  refine keptR_ite _ _ _ ?_ ?_
  · refine (KeptR_next _).mpr ?_
    assumption
  · extract_lets +onlyGivenNames -underBinder -merge v2
    have hv2 : Kept P R o v2 := by
      unfold v2
      refine kept_ite _ _ _ ?_ ?_
      · assumption
      · refine State.forEach_kept _ _ _ ?_ ?_
        · intro y1_0 y1_1 hy1_2
          refine State.put_kept _ _ _ _ (hR.bit rfl) ?_
          refine State.put_kept _ _ _ _ (hR.bit rfl) ?_
          refine State.put_kept _ _ _ _ (hR.bit rfl) ?_
          assumption
        · assumption
    clear_value v2
    refine (KeptR_next _).mpr ?_
    refine kept_gauge (v2) _ (hP.bit rfl) ?_
    assumption

theorem State.clearTel_kept (s : State) (d : Nat) (hR : Sub 0x40000e00000000000000000000000000000000000000 R) (hk0 : Kept P R
    o s) : Kept P R o (State.clearTel s d) := by
  delta State.clearTel
  extract_lets +onlyGivenNames -underBinder -merge v1
  have hv1 : Kept P R o v1 := by
    unfold v1
    refine State.put_kept _ _ _ _ (hR.bit rfl) ?_
    refine State.put_kept _ _ _ _ (hR.bit rfl) ?_
    refine State.put_kept _ _ _ _ (hR.bit rfl) ?_
    assumption
  clear_value v1
  refine State.forEach_kept _ _ _ ?_ ?_
  · intro y1_0 y1_1 hy1_2
    refine State.put_kept _ _ _ _ (hR.bit rfl) ?_
    assumption
  · assumption

theorem State.clearTempPeak_kept (s : State) (hR : Sub 0x80000000000000000 R) (hk0 : Kept P R o s) : Kept P R o
    (State.clearTempPeak s) := by
  delta State.clearTempPeak
  refine State.put_kept _ _ _ _ (hR.bit rfl) ?_
  assumption

theorem State.gaugeReset_kept (s : State) (hP : Sub 268435456 P) (hk0 : Kept P R o s) : Kept P R o (State.gaugeReset s) := by
  delta State.gaugeReset
  refine kept_gauge (s) _ (hP.bit rfl) ?_
  assumption

/-! ### Machine/Ledger.lean -/

theorem State.meter_kept (s : State) (hP : Sub 536870912 P) (hk0 : Kept P R o s) : Kept P R o (State.meter s) := by
  delta State.meter
  extract_lets +onlyGivenNames -underBinder -merge v1
  clear_value v1
  refine State.forEach_kept _ _ _ ?_ ?_
  · intro y1_0 y1_1 hy1_2
    extract_lets +onlyGivenNames -underBinder -merge v2
    clear_value v2
    refine kept_led (y1_0) _ (hP.bit rfl) ?_
    assumption
  · assumption

theorem State.snap_kept (s : State) (sel : Nat) (hP : Sub 536870912 P) (hR : Sub 0x40000000000000000000 R) (hk0 : Kept P R o
    s) : Kept P R o (State.snap s sel) := by
  delta State.snap
  refine kept_ite _ _ _ ?_ ?_
  · assumption
  · refine State.put_kept _ _ _ _ (hR.bit rfl) ?_
    refine State.put_kept _ _ _ _ (hR.bit rfl) ?_
    refine kept_led (s) _ (hP.bit rfl) ?_
    assumption

theorem execSnapshotDone_kept (s : State) (hP : Sub 536870912 P) (hR : Sub 0x3c0000000000000000000 R) (hk0 : Kept P R o s) :
    KeptR P R o (execSnapshotDone s) := by
  have h2 : ∀ s1 : State, Kept P R o s1 →
      KeptR P R o (.next (({ s1 with led := { s1.led with snapBusy := false } } : State).put LED_SNAP.VALID 0 1)) :=
    fun s1 h => (KeptR_next _).mpr (State.put_kept _ _ _ _ (hR.bit rfl) (kept_led s1 _ (hP.bit rfl) h))
  unfold execSnapshotDone
  refine keptR_ite _ _ _ hk0 ?_
  exact h2 _ (State.forEach_kept _ _ _ (fun y a hy => State.put_kept _ _ _ _ (hR.bit rfl) (State.put_kept _ _ _ _ (hR.bit rfl)
    (State.put_kept _ _ _ _ (hR.bit rfl) hy))) hk0)

theorem State.setCtx_kept (s : State) (c : Nat) (x : CtxState) (hP : Sub 536870912 P) (hk0 : Kept P R o s) : Kept P R o
    (State.setCtx s c x) := by
  delta State.setCtx
  refine kept_led (s) _ (hP.bit rfl) ?_
  assumption

theorem State.releaseCtx_kept (s : State) (c : Nat) (hP : Sub 536870912 P) (hk0 : Kept P R o s) : Kept P R o (State.releaseCtx
    s c) := by
  delta State.releaseCtx
  refine State.setCtx_kept _ _ _ (.of rfl hP) ?_
  refine kept_led (s) _ (hP.bit rfl) ?_
  assumption

theorem State.releaseWrite_kept (s : State) (c : Nat) (hP : Sub 536870912 P) (hk0 : Kept P R o s) : Kept P R o
    (State.releaseWrite s c) := by
  delta State.releaseWrite
  refine kept_ite _ _ _ ?_ ?_
  · refine State.releaseCtx_kept _ _ (.of rfl hP) ?_
    assumption
  · assumption

theorem State.switchCtx_kept (s : State) (c : Nat) (hP : Sub 536870912 P) (hR : Sub 0x20000000000000000000 R) (hk0 : Kept P R
    o s) : Kept P R o (State.switchCtx s c) := by
  delta State.switchCtx
  extract_lets +onlyGivenNames -underBinder -merge v1
  have hv1 : Kept P R o v1 := by
    unfold v1
    split
    · refine kept_ite _ _ _ ?_ ?_
      · assumption
      · refine State.setCtx_kept _ _ _ (.of rfl hP) ?_
        assumption
    · assumption
  clear_value v1
  split
  · assumption
  · refine State.setCtx_kept _ _ _ (.of rfl hP) ?_
    refine State.put_kept _ _ _ _ (hR.bit rfl) ?_
    refine State.releaseCtx_kept _ _ (.of rfl hP) ?_
    assumption
  · refine State.setCtx_kept _ _ _ (.of rfl hP) ?_
    assumption

theorem State.closeCtx_kept (s : State) (c : Nat) (end_ : Nat) (hP : Sub 536870912 P) (hR : Sub 0x20000000000000000000000 R)
    (hk0 : Kept P R o s) : Kept P R o (State.closeCtx s c end_) := by
  delta State.closeCtx
  extract_lets +onlyGivenNames -underBinder -merge v1
  clear_value v1
  extract_lets +onlyGivenNames -underBinder -merge v2
  clear_value v2
  extract_lets +onlyGivenNames -underBinder -merge v3
  have hv3 : Kept P R o v3 := by
    unfold v3
    refine kept_ite _ _ _ ?_ ?_
    · refine kept_led (s) _ (hP.bit rfl) ?_
      assumption
    · refine State.bump_kept _ _ _ (hR.bit rfl) ?_
      assumption
  clear_value v3
  extract_lets +onlyGivenNames -underBinder -merge v4
  clear_value v4
  refine State.setCtx_kept _ _ _ (.of rfl hP) ?_
  refine kept_led (v3) _ (hP.bit rfl) ?_
  assumption

theorem State.ctxClose_kept (s : State) (c : Nat) (hP : Sub 536870912 P) (hR : Sub 0x20020000000000000000000 R) (hk0 : Kept P
    R o s) : Kept P R o (State.ctxClose s c) := by
  delta State.ctxClose
  split
  · refine State.closeCtx_kept _ _ _ (.of rfl hP) (.of rfl hR) ?_
    assumption
  · refine State.closeCtx_kept _ _ _ (.of rfl hP) (.of rfl hR) ?_
    assumption
  · refine State.put_kept _ _ _ _ (hR.bit rfl) ?_
    assumption

theorem State.popRecord_kept (s : State) (hP : Sub 536870912 P) (hR : Sub 0x3f800000000000000000000 R) (hk0 : Kept P R o s) :
    Kept P R o (State.popRecord s) := by
  delta State.popRecord
  extract_lets +onlyGivenNames -underBinder -merge v1
  have hv1 : ∀ (y0 : State) (y1 : CloseRec), Kept P R o y0 → Kept P R o (v1 y0 y1) := by
    intro y1_0 y1_1 hy1_2
    unfold v1
    refine State.put_kept _ _ _ _ (hR.bit rfl) ?_
    refine State.put_kept _ _ _ _ (hR.bit rfl) ?_
    refine State.put_kept _ _ _ _ (hR.bit rfl) ?_
    refine State.put_kept _ _ _ _ (hR.bit rfl) ?_
    refine State.put_kept _ _ _ _ (hR.bit rfl) ?_
    refine State.put_kept _ _ _ _ (hR.bit rfl) ?_
    refine State.put_kept _ _ _ _ (hR.bit rfl) ?_
    refine State.put_kept _ _ _ _ (hR.bit rfl) ?_
    assumption
  clear_value v1
  split
  · refine State.put_kept _ _ _ _ (hR.bit rfl) ?_
    refine hv1 _ _ ?_
    assumption
  · refine State.put_kept _ _ _ _ (hR.bit rfl) ?_
    refine hv1 _ _ ?_
    refine kept_led (s) _ (hP.bit rfl) ?_
    assumption

theorem State.readTenant_kept (s : State) (c : Nat) (hP : Sub 536870912 P) (hk0 : Kept P R o s) : Kept P R o (State.readTenant
    s c).1 := by
  delta State.readTenant
  extract_lets +onlyGivenNames -underBinder -merge v1
  clear_value v1
  refine kept_pair _ _ ?_
  refine kept_led (s) _ (hP.bit rfl) ?_
  assumption

theorem execTenantViewRefresh_kept (s : State) (hP : Sub 536870912 P) (hk0 : Kept P R o s) : KeptR P R o
    (execTenantViewRefresh s) := by
  delta execTenantViewRefresh
  refine keptR_ite _ _ _ ?_ ?_
  · refine (KeptR_next _).mpr ?_
    assumption
  · refine (KeptR_next _).mpr ?_
    refine kept_led (s) _ (hP.bit rfl) ?_
    assumption

theorem State.scrubClear_kept (s : State) (hP : Sub 73047998464 P) (hk0 : Kept P R o s) : Kept P R o (State.scrubClear s) :=
    by
  delta State.scrubClear
  refine kept_upd (s) _ 73047998464 rfl ⟨[], (List.append_nil _).symm⟩ rfl (by intro p hp; cases p <;> first | rfl | cases hp) (.of rfl hP) ?_
  assumption

theorem State.scrubPacer_kept (s : State) (ord : Nat) (hP : Sub 206217176064 P) (hR : Sub
    0x200000000000000000000000000000000000 R) (hk0 : Kept P R o s) : Kept P R o (State.scrubPacer s ord) := by
  delta State.scrubPacer
  extract_lets +onlyGivenNames -underBinder -merge v1
  clear_value v1
  extract_lets +onlyGivenNames -underBinder -merge v2
  have hv2 : Kept P R o v2 := by
    unfold v2
    refine State.forEach_kept _ _ _ ?_ ?_
    · intro y1_0 y1_1 hy1_2
      refine State.ackNack_kept _ _ _ _ _ _ (.of rfl hP) (.of rfl hR) ?_
      refine State.modSlot_kept _ _ _ (hP.bit rfl) ?_
      assumption
    · assumption
  clear_value v2
  extract_lets +onlyGivenNames -underBinder -merge v3
  have hv3 : Kept P R o v3 := by
    unfold v3
    refine State.clearPacer_kept _ _ (.of rfl hP) ?_
    assumption
  clear_value v3
  refine State.dropLifts_kept _ _ (.of rfl hP) ?_
  assumption

theorem State.startScrub_kept (s : State) (c : Nat) (ord : Nat) (hP : Sub 211049014272 P) (hR : Sub
    0x200800000000020400000000000000000000 R) (hk0 : Kept P R o s) : Kept P R o (State.startScrub s c ord) := by
  delta State.startScrub
  extract_lets +onlyGivenNames -underBinder -merge v1
  have hv1 : Kept P R o v1 := by
    unfold v1
    refine State.forEach_kept _ _ _ ?_ ?_
    · intro y1_0 y1_1 hy1_2
      refine kept_ite _ _ _ ?_ ?_
      · refine State.closeCtx_kept _ _ _ (.of rfl hP) (.of rfl hR) ?_
        assumption
      · assumption
    · assumption
  clear_value v1
  extract_lets +onlyGivenNames -underBinder -merge v2
  have hv2 : Kept P R o v2 := by
    unfold v2
    refine State.forEach_kept _ _ _ ?_ ?_
    · intro y1_0 y1_1 hy1_2
      refine State.releaseWrite_kept _ _ (.of rfl hP) ?_
      assumption
    · assumption
  clear_value v2
  extract_lets +onlyGivenNames -underBinder -merge v3
  have hv3 : Kept P R o v3 := by
    unfold v3
    refine State.scrubClear_kept _ (.of rfl hP) ?_
    refine State.put_kept _ _ _ _ (hR.bit rfl) ?_
    refine State.scrubPacer_kept _ _ (.of rfl hP) (.of rfl hR) ?_
    assumption
  clear_value v3
  extract_lets +onlyGivenNames -underBinder -merge v4
  clear_value v4
  refine State.put_kept _ _ _ _ (hR.bit rfl) ?_
  refine State.put_kept _ _ _ _ (hR.bit rfl) ?_
  refine kept_led (v3) _ (hP.bit rfl) ?_
  assumption

theorem State.ctxAction_kept (s : State) (a : Action) (hP : Sub 211049014272 P) (hR : Sub
    0x200800000000020420000000000000000000 R) (hk0 : Kept P R o s) : Kept P R o (State.ctxAction s a) := by
  delta State.ctxAction
  refine kept_ite _ _ _ ?_ ?_
  · refine kept_led (s) _ (hP.bit rfl) ?_
    assumption
  · split
    · refine State.switchCtx_kept _ _ (.of rfl hP) (.of rfl hR) ?_
      assumption
    · refine State.startScrub_kept _ _ _ (.of rfl hP) (.of rfl hR) ?_
      assumption
    · refine State.ctxClose_kept _ _ (.of rfl hP) (.of rfl hR) ?_
      assumption
    · assumption

theorem State.finishScrub_kept (s : State) (hP : Sub 211049014272 P) (hR : Sub 0x200800000000020420000000000000000040 R) (hk0
    : Kept P R o s) : Kept P R o (State.finishScrub s) := by
  delta State.finishScrub
  split
  · refine kept_ite _ _ _ ?_ ?_
    · assumption
    · extract_lets +onlyGivenNames -underBinder -merge v1
      clear_value v1
      extract_lets +onlyGivenNames -underBinder -merge v2
      have hv2 : Kept P R o v2 := by
        unfold v2
        refine State.switchCtx_kept _ _ (.of rfl hP) (.of rfl hR) ?_
        refine kept_led (s) _ (hP.bit rfl) ?_
        assumption
      clear_value v2
      extract_lets +onlyGivenNames -underBinder -merge v3
      have hv3 : Kept P R o v3 := by
        unfold v3
        refine State.setIrq_kept _ _ (hR.bit rfl) ?_
        refine State.put_kept _ _ _ _ (hR.bit rfl) ?_
        refine State.put_kept _ _ _ _ (hR.bit rfl) ?_
        assumption
      clear_value v3
      refine State.forEach_kept _ _ _ ?_ ?_
      · intro y1_0 y1_1 hy1_2
        refine State.ctxAction_kept _ _ (.of rfl hP) (.of rfl hR) ?_
        assumption
      · assumption
  · assumption

theorem execScrubEnd_kept (bad : List (Nat × Nat)) (s : State) (hP : Sub 211116123648 P) (hR : Sub
    0x100000000000200800000000020420000000000000000040 R) (hk0 : Kept P R o s) : KeptR P R o (execScrubEnd bad s) := by
  delta execScrubEnd
  split
  · refine (KeptR_next _).mpr ?_
    assumption
  · refine keptR_ite _ _ _ ?_ ?_
    · refine (KeptR_next _).mpr ?_
      assumption
    · extract_lets +onlyGivenNames -underBinder -merge v1
      have hv1 : Kept P R o v1 := by
        unfold v1
        refine State.forEach_kept _ _ _ ?_ ?_
        · intro y1_0 y1_1 hy1_2
          refine State.raise_kept _ _ _ _ _ _ (.of rfl hP) ?_
          assumption
        · refine kept_badWords (s) _ (hP.bit rfl) ?_
          assumption
      clear_value v1
      extract_lets +onlyGivenNames -underBinder -merge v2
      clear_value v2
      extract_lets +onlyGivenNames -underBinder -merge v3
      have hv3 : Kept P R o v3 := by
        unfold v3
        refine State.put_kept _ _ _ _ (hR.bit rfl) ?_
        refine State.put_kept _ _ _ _ (hR.bit rfl) ?_
        refine kept_led (v1) _ (hP.bit rfl) ?_
        assumption
      clear_value v3
      refine keptR_ite _ _ _ ?_ ?_
      · refine (KeptR_next _).mpr ?_
        assumption
      · extract_lets +onlyGivenNames -underBinder -merge v4
        have hv4 : Kept P R o v4 := by
          unfold v4
          refine State.finishScrub_kept _ (.of rfl hP) (.of rfl hR) ?_
          assumption
        clear_value v4
        refine (KeptR_next _).mpr ?_
        refine kept_ite _ _ _ ?_ ?_
        · assumption
        · refine State.applyDue_kept _ _ (.of rfl hP) (.of rfl hR) ?_
          assumption

theorem execScrubOverrun_kept (s : State) (hP : Sub 603979776 P) (hR : Sub 0x400000000000000000000 R) (hk0 : Kept P R o s) :
    KeptR P R o (execScrubOverrun s) := by
  delta execScrubOverrun
  split
  · refine (KeptR_next _).mpr ?_
    assumption
  · refine keptR_ite _ _ _ ?_ ?_
    · refine (KeptR_next _).mpr ?_
      assumption
    · refine (KeptR_next _).mpr ?_
      refine State.raise_kept _ _ _ _ _ _ (.of rfl hP) ?_
      refine State.put_kept _ _ _ _ (hR.bit rfl) ?_
      refine kept_led (s) _ (hP.bit rfl) ?_
      assumption

theorem State.creditAlloc_kept (s : State) (n : Nat) (x : Int) (hP : Sub 536870912 P) (hR : Sub 0x1000000000000000000000000 R)
    (hk0 : Kept P R o s) : Kept P R o (State.creditAlloc s n x) := by
  delta State.creditAlloc
  extract_lets +onlyGivenNames -underBinder -merge v1
  have hv1 : Kept P R o v1 := by
    unfold v1
    refine State.put_kept _ _ _ _ (hR.bit rfl) ?_
    refine State.put_kept _ _ _ _ (hR.bit rfl) ?_
    assumption
  clear_value v1
  refine kept_ite _ _ _ ?_ ?_
  · refine kept_led (v1) _ (hP.bit rfl) ?_
    assumption
  · refine State.put_kept _ _ _ _ (hR.bit rfl) ?_
    assumption

theorem State.enterCredit_kept (s : State) (hP : Sub 1610612736 P) (hk0 : Kept P R o s) : Kept P R o (State.enterCredit s) :=
    by
  delta State.enterCredit
  refine kept_ite _ _ _ ?_ ?_
  · assumption
  · refine kept_upd (s) _ 1610612736 rfl ⟨[], (List.append_nil _).symm⟩ rfl (by intro p hp; cases p <;> first | rfl | cases hp) (.of rfl hP) ?_
    assumption

theorem State.modEntry_kept (s : State) (tid : Nat) (lend : Bool) (f : CrEntry → CrEntry) (hP : Sub 536870912 P) (hk0 : Kept P
    R o s) : Kept P R o (State.modEntry s tid lend f) := by
  delta State.modEntry
  refine kept_led (s) _ (hP.bit rfl) ?_
  assumption

theorem State.crPhase_kept (s : State) (e : CrEntry) (ph : CrPhase) (closed : Bool) (hP : Sub 536870912 P) (hk0 : Kept P R o
    s) : Kept P R o (State.crPhase s e ph closed) := by
  delta State.crPhase
  extract_lets +onlyGivenNames -underBinder -merge v1
  have hv1 : Kept P R o v1 := by
    unfold v1
    refine State.modEntry_kept _ _ _ _ (.of rfl hP) ?_
    assumption
  clear_value v1
  extract_lets +onlyGivenNames -underBinder -merge v2
  clear_value v2
  split
  · refine kept_led (v1) _ (hP.bit rfl) ?_
    assumption
  · refine kept_led (v1) _ (hP.bit rfl) ?_
    assumption
  · refine kept_led (v1) _ (hP.bit rfl) ?_
    assumption
  · refine kept_led (v1) _ (hP.bit rfl) ?_
    assumption
  · assumption

theorem State.crPrepare_kept (s : State) (e : CrEntry) (hP : Sub 536870912 P) (hk0 : Kept P R o s) : Kept P R o
    (State.crPrepare s e) := by
  delta State.crPrepare
  extract_lets +onlyGivenNames -underBinder -merge v1
  clear_value v1
  refine kept_ite _ _ _ ?_ ?_
  · refine kept_led (s) _ (hP.bit rfl) ?_
    assumption
  · refine kept_led (s) _ (hP.bit rfl) ?_
    assumption

/-! ### Machine/Reset.lean -/

theorem State.resetFields_kept (s : State) (hR : Sub 0x84040000000001f803400000000003a00 R) (hk0 : Kept P R o s) : Kept P R o
    (State.resetFields s) := by
  unfold State.resetFields
  refine forEach_kept_mem _ _ _ (fun y a ha hy => ?_) (State.resetRegs_kept _ _ (fun r hr => hR.bit
    ((by decide : ∀ r ∈ blockResetRegs, Nat.testBit 0x84040000000001f803400000000003a00 r.bit = true) r hr)) hk0)
  exact State.forEach_kept _ _ _ (fun z i hz => State.rst_kept _ _ _ (hR.bit
    ((by decide : ∀ a ∈ blockResetFields, Nat.testBit 0x84040000000001f803400000000003a00 a.1.reg.bit = true) a ha)) hz) hy

theorem State.abortSelfTest_kept (s : State) (hP : Sub 34359738368 P) (hR : Sub 0x400000000000000000000000000000000 R) (hk0 :
    Kept P R o s) : Kept P R o (State.abortSelfTest s) := by
  delta State.abortSelfTest
  refine kept_ite _ _ _ ?_ ?_
  · refine State.put_kept _ _ _ _ (hR.bit rfl) ?_
    refine kept_test (s) _ (hP.bit rfl) ?_
    assumption
  · assumption

theorem State.endRights_kept (s : State) (hP : Sub 8589934592 P) (hR : Sub 0x1c0000000000000000000000000000000 R) (hk0 : Kept
    P R o s) : Kept P R o (State.endRights s) := by
  delta State.endRights
  extract_lets +onlyGivenNames -underBinder -merge v1
  have hv1 : Kept P R o v1 := by
    unfold v1
    refine State.put_kept _ _ _ _ (hR.bit rfl) ?_
    refine State.put_kept _ _ _ _ (hR.bit rfl) ?_
    refine State.put_kept _ _ _ _ (hR.bit rfl) ?_
    assumption
  clear_value v1
  extract_lets +onlyGivenNames -underBinder -merge v2
  have hv2 : Kept P R o v2 := by
    unfold v2
    refine State.put_kept _ _ _ _ (hR.bit rfl) ?_
    assumption
  clear_value v2
  refine kept_boot (v2) _ (hP.bit rfl) ?_
  assumption

theorem State.resetPacer_kept (s : State) (hP : Sub 489685000192 P) (hR : Sub
    0x200000000000200000000000000000000000000000000000 R) (hk0 : Kept P R o s) : Kept P R o (State.resetPacer s) := by
  delta State.resetPacer
  extract_lets +onlyGivenNames -underBinder -merge v1
  have hv1 : Kept P R o v1 := by
    unfold v1
    refine State.forEach_kept _ _ _ ?_ ?_
    · intro y1_0 y1_1 hy1_2
      extract_lets +onlyGivenNames -underBinder -merge v2
      have hv2 : Kept P R o v2 := by
        unfold v2
        refine State.ackNack_kept _ _ _ _ _ _ (.of rfl hP) (.of rfl hR) ?_
        refine State.modSlot_kept _ _ _ (hP.bit rfl) ?_
        assumption
      clear_value v2
      refine kept_freeCtr (v2) _ (hP.bit rfl) ?_
      assumption
    · assumption
  clear_value v1
  extract_lets +onlyGivenNames -underBinder -merge v2
  have hv2 : Kept P R o v2 := by
    unfold v2
    refine State.clearPacer_kept _ _ (.of rfl hP) ?_
    assumption
  clear_value v2
  extract_lets +onlyGivenNames -underBinder -merge v3
  clear_value v3
  extract_lets +onlyGivenNames -underBinder -merge v4
  have hv4 : Kept P R o v4 := by
    unfold v4
    refine kept_ite _ _ _ ?_ ?_
    · assumption
    · refine State.put_kept _ _ _ _ (hR.bit rfl) ?_
      refine kept_boot (v2) _ (hP.bit rfl) ?_
      assumption
  clear_value v4
  refine kept_pacer (v4) _ (hP.bit rfl) ?_
  assumption

theorem State.resetStride_kept (s : State) (hP : Sub 24576 P) (hk0 : Kept P R o s) : Kept P R o (State.resetStride s) := by
  delta State.resetStride
  refine State.forEach_kept _ _ _ ?_ ?_
  · intro y1_0 y1_1 hy1_2
    refine State.modRgn_kept _ _ _ (hP.bit rfl) ?_
    assumption
  · refine State.forEach_kept _ _ _ ?_ ?_
    · intro y1_0 y1_1 hy1_2
      refine State.modHeat_kept _ _ _ (hP.bit rfl) ?_
      assumption
    · assumption

theorem State.resetMarshal_kept (s : State) (hP : Sub 25836912640 P) (hR : Sub 0x1c0010000000000000000000000000008 R) (hk0 :
    Kept P R o s) : Kept P R o (State.resetMarshal s) := by
  have h1 : ∀ s1 : State, Kept P R o s1 →
      Kept P R o (if 7 ≤ s1.f BOOT_STATUS.STAGE ∧ s1.f BOOT_STATUS.STAGE ≤ 9 then s1.put BOOT_STATUS.STAGE 0 8 else s1) :=
    fun s1 h => kept_ite _ _ _ (State.put_kept _ _ _ _ (hR.bit rfl) h) h
  unfold State.resetMarshal
  exact h1 _ (State.endRights_kept _ (.of rfl hP) (.of rfl hR) (State.put_kept _ _ _ _ (hR.bit rfl) (State.put_kept _ _ _ _ (hR.bit rfl)
    (kept_upd s _ 25836912640 rfl ⟨[], (List.append_nil _).symm⟩ rfl (by intro p hp; cases p <;> first | rfl | cases hp) (.of rfl hP) hk0))))

theorem State.enterBlockReset_kept (s : State) (reaction : Bool) (hP : Sub 541560168504 P) (hR : Sub
    0x200000000000200dc041000000001f803400000000003a08 R) (hk0 : Kept P R o s) : Kept P R o (State.enterBlockReset s reaction) := by
  delta State.enterBlockReset
  refine kept_ite _ _ _ ?_ ?_
  · assumption
  · extract_lets +onlyGivenNames -underBinder -merge v1
    have hv1 : Kept P R o v1 := by
      unfold v1
      refine State.resetMarshal_kept _ (.of rfl hP) (.of rfl hR) ?_
      refine State.resetStride_kept _ (.of rfl hP) ?_
      refine State.resetPacer_kept _ (.of rfl hP) (.of rfl hR) ?_
      refine State.gaugeReset_kept _ (.of rfl hP) ?_
      refine State.resetFields_kept _ (.of rfl hR) ?_
      refine State.abortSelfTest_kept _ (.of rfl hP) (.of rfl hR) ?_
      assumption
    clear_value v1
    refine State.ackState_kept _ _ (.of rfl hP) (.of rfl hR) ?_
    refine kept_upd (v1) _ 8589934648 rfl ⟨[], (List.append_nil _).symm⟩ rfl (by intro p hp; cases p <;> first | rfl | cases hp) (.of rfl hP) ?_
    assumption

theorem execBlockResetRelease_kept (s : State) (hP : Sub 67108888 P) (hk0 : Kept P R o s) : KeptR P R o (execBlockResetRelease
    s) := by
  delta execBlockResetRelease
  refine (KeptR_next _).mpr ?_
  refine kept_ite _ _ _ ?_ ?_
  · assumption
  · refine kept_upd (s) _ 67108888 rfl ⟨[], (List.append_nil _).symm⟩ rfl (by intro p hp; cases p <;> first | rfl | cases hp) (.of rfl hP) ?_
    assumption

theorem execCacheDieReset_kept (s : State) (hk0 : Kept P R o s) : KeptR P R o (execCacheDieReset s) := by
  delta execCacheDieReset
  refine (KeptR_next _).mpr ?_
  assumption

theorem execTestReset_kept (s : State) (hP : Sub 34359738368 P) (hk0 : Kept P R o s) : KeptR P R o (execTestReset s) := by
  delta execTestReset
  refine (KeptR_next _).mpr ?_
  refine kept_test (s) _ (hP.bit rfl) ?_
  assumption

theorem execPowerOnReset_kept (s : State) (hP : Sub allParts P) (hR : Sub allRegs R) (hk0 : Kept P R o s) : KeptR P R o
    (execPowerOnReset s) := by
  delta execPowerOnReset
  exact kept_of_reset s rfl rfl rfl hP hR hk0

/-! ### Machine/Faults.lean -/

theorem State.holdFaultN_kept (s : State) (i : Nat) (hR : Sub 0x200020000 R) (hk0 : Kept P R o s) : Kept P R o
    (State.holdFaultN s i) := by
  delta State.holdFaultN
  extract_lets +onlyGivenNames -underBinder -merge v1
  have hv1 : Kept P R o v1 := by
    unfold v1
    refine kept_ite _ _ _ ?_ ?_
    · assumption
    · refine State.put_kept _ _ _ _ (hR.bit rfl) ?_
      refine State.put_kept _ _ _ _ (hR.bit rfl) ?_
      assumption
  clear_value v1
  refine State.put_kept _ _ _ _ (hR.bit rfl) ?_
  assumption

theorem State.fnRel_kept (s : State) (hR : Sub 0x200000000 R) (hk0 : Kept P R o s) : Kept P R o (State.fnRel s) := by
  delta State.fnRel
  refine State.forEach_kept _ _ _ ?_ ?_
  · intro y1_0 y1_1 hy1_2
    refine kept_ite _ _ _ ?_ ?_
    · assumption
    · refine State.put_kept _ _ _ _ (hR.bit rfl) ?_
      assumption
  · assumption

theorem State.logWrite_kept (s : State) (r : LogRec) (hP : Sub 67108864 P) (hR : Sub 0x2000000 R) (hk0 : Kept P R o s) : Kept
    P R o (State.logWrite s r) := by
  delta State.logWrite
  split
  · refine kept_ite _ _ _ ?_ ?_
    · refine State.bump_kept _ _ _ (hR.bit rfl) ?_
      refine kept_coll (s) _ (hP.bit rfl) ?_
      assumption
    · refine kept_coll (s) _ (hP.bit rfl) ?_
      assumption
  · refine kept_coll (s) _ (hP.bit rfl) ?_
    assumption

theorem State.loadLog_kept (s : State) (r : LogRec) (hR : Sub 0x7c000000 R) (hk0 : Kept P R o s) : Kept P R o (State.loadLog s
    r) := by
  delta State.loadLog
  extract_lets +onlyGivenNames -underBinder -merge v1
  clear_value v1
  extract_lets +onlyGivenNames -underBinder -merge v2
  have hv2 : Kept P R o v2 := by
    unfold v2
    refine State.put_kept _ _ _ _ (hR.bit rfl) ?_
    refine State.put_kept _ _ _ _ (hR.bit rfl) ?_
    refine State.put_kept _ _ _ _ (hR.bit rfl) ?_
    refine State.put_kept _ _ _ _ (hR.bit rfl) ?_
    refine State.put_kept _ _ _ _ (hR.bit rfl) ?_
    refine State.put_kept _ _ _ _ (hR.bit rfl) ?_
    assumption
  clear_value v2
  refine State.put_kept _ _ _ _ (hR.bit rfl) ?_
  refine State.put_kept _ _ _ _ (hR.bit rfl) ?_
  refine State.put_kept _ _ _ _ (hR.bit rfl) ?_
  refine State.put_kept _ _ _ _ (hR.bit rfl) ?_
  refine State.put_kept _ _ _ _ (hR.bit rfl) ?_
  refine State.put_kept _ _ _ _ (hR.bit rfl) ?_
  assumption

theorem State.popLog_kept (s : State) (hP : Sub 67108864 P) (hR : Sub 0x7e000000 R) (hk0 : Kept P R o s) : Kept P R o
    (State.popLog s) := by
  delta State.popLog
  split
  · refine State.put_kept _ _ _ _ (hR.bit rfl) ?_
    refine State.loadLog_kept _ _ (.of rfl hR) ?_
    assumption
  · refine State.put_kept _ _ _ _ (hR.bit rfl) ?_
    refine State.loadLog_kept _ _ (.of rfl hR) ?_
    refine kept_coll (s) _ (hP.bit rfl) ?_
    assumption

theorem State.logAppend_kept (s : State) (l : List LogEnt) (hP : Sub 4294967296 P) (hk0 : Kept P R o s) : Kept P R o
    (State.logAppend s l) := by
  delta State.logAppend
  refine State.forEach_kept _ _ _ ?_ ?_
  · intro y1_0 y1_1 hy1_2
    refine kept_nvm (y1_0) _ (hP.bit rfl) ?_
    assumption
  · assumption

theorem execLogCopy_kept (s : State) (hP : Sub 12952010752 P) (hR : Sub 0x2000000 R) (hk0 : Kept P R o s) : KeptR P R o
    (execLogCopy s) := by
  delta execLogCopy
  refine keptR_ite _ _ _ ?_ ?_
  · refine (KeptR_next _).mpr ?_
    assumption
  · extract_lets +onlyGivenNames -underBinder -merge v1
    clear_value v1
    extract_lets +onlyGivenNames -underBinder -merge v2
    clear_value v2
    extract_lets +onlyGivenNames -underBinder -merge v3
    have hv3 : Kept P R o v3 := by
      unfold v3
      refine State.logAppend_kept _ _ (.of rfl hP) ?_
      assumption
    clear_value v3
    extract_lets +onlyGivenNames -underBinder -merge v4
    clear_value v4
    extract_lets +onlyGivenNames -underBinder -merge v5
    have hv5 : Kept P R o v5 := by
      unfold v5
      refine kept_ite _ _ _ ?_ ?_
      · assumption
      · refine State.put_kept _ _ _ _ (hR.bit rfl) ?_
        refine State.logAppend_kept _ _ (.of rfl hP) ?_
        assumption
    clear_value v5
    refine (KeptR_next _).mpr ?_
    refine kept_upd (v5) _ 8657043456 rfl ⟨[], (List.append_nil _).symm⟩ rfl (by intro p hp; cases p <;> first | rfl | cases hp) (.of rfl hP) ?_
    assumption

theorem State.feArm_kept (s : State) (hR : Sub 262144 R) (hk0 : Kept P R o s) : Kept P R o (State.feArm s) := by
  delta State.feArm
  refine State.put_kept _ _ _ _ (hR.bit rfl) ?_
  refine State.put_kept _ _ _ _ (hR.bit rfl) ?_
  assumption

theorem State.capture_kept (s : State) (i : Nat) (e : Evt) (sev : Bool) (hR : Sub 0x7c0000 R) (hk0 : Kept P R o s) : Kept P R
    o (State.capture s i e sev) := by
  delta State.capture
  refine kept_ite _ _ _ ?_ ?_
  · refine State.bump_kept _ _ _ (hR.bit rfl) ?_
    assumption
  · extract_lets +onlyGivenNames -underBinder -merge v1
    have hv1 : Kept P R o v1 := by
      unfold v1
      refine State.put_kept _ _ _ _ (hR.bit rfl) ?_
      refine State.put_kept _ _ _ _ (hR.bit rfl) ?_
      refine State.put_kept _ _ _ _ (hR.bit rfl) ?_
      refine State.put_kept _ _ _ _ (hR.bit rfl) ?_
      refine State.put_kept _ _ _ _ (hR.bit rfl) ?_
      assumption
    clear_value v1
    refine State.put_kept _ _ _ _ (hR.bit rfl) ?_
    refine State.put_kept _ _ _ _ (hR.bit rfl) ?_
    refine State.put_kept _ _ _ _ (hR.bit rfl) ?_
    refine State.put_kept _ _ _ _ (hR.bit rfl) ?_
    refine State.put_kept _ _ _ _ (hR.bit rfl) ?_
    refine State.put_kept _ _ _ _ (hR.bit rfl) ?_
    assumption

theorem State.reactC_kept (s : State) (hP : Sub 67108864 P) (hR : Sub 16384 R) (hk0 : Kept P R o s) : Kept P R o (State.reactC
    s) := by
  delta State.reactC
  refine State.put_kept _ _ _ _ (hR.bit rfl) ?_
  refine kept_coll (s) _ (hP.bit rfl) ?_
  assumption

theorem State.reactI_kept (s : State) (i : Nat) (hR : Sub 0x800000 R) (hk0 : Kept P R o s) : Kept P R o (State.reactI s i) :=
    by
  delta State.reactI
  refine State.setReg_kept _ _ _ _ (hR.bit rfl) ?_
  assumption

theorem State.reactT_kept (s : State) (hP : Sub 67108864 P) (hk0 : Kept P R o s) : Kept P R o (State.reactT s) := by
  delta State.reactT
  refine kept_ite _ _ _ ?_ ?_
  · refine kept_coll (s) _ (hP.bit rfl) ?_
    assumption
  · refine kept_coll (s) _ (hP.bit rfl) ?_
    assumption

theorem State.deliverTrap_kept (s : State) (hP : Sub 67108864 P) (hk0 : Kept P R o s) : Kept P R o (State.deliverTrap s) := by
  delta State.deliverTrap
  refine kept_ite _ _ _ ?_ ?_
  · refine State.reactT_kept _ (.of rfl hP) ?_
    refine kept_coll (s) _ (hP.bit rfl) ?_
    assumption
  · assumption

theorem State.reactB_kept (s : State) (i : Nat) (hP : Sub 541560168504 P) (hR : Sub
    0x200000000000200dc041000000001f803400000200027a08 R) (hk0 : Kept P R o s) : Kept P R o (State.reactB s i) := by
  delta State.reactB
  refine kept_ite _ _ _ ?_ ?_
  · assumption
  · refine kept_ite _ _ _ ?_ ?_
    · extract_lets +onlyGivenNames -underBinder -merge v1
      have hv1 : Kept P R o v1 := by
        unfold v1
        refine State.reactC_kept _ (.of rfl hP) (.of rfl hR) ?_
        refine State.holdFaultN_kept _ _ (.of rfl hR) ?_
        assumption
      clear_value v1
      refine State.put_kept _ _ _ _ (hR.bit rfl) ?_
      refine kept_coll (v1) _ (hP.bit rfl) ?_
      assumption
    · refine State.enterBlockReset_kept _ _ (.of rfl hP) (.of rfl hR) ?_
      assumption

theorem State.react_kept (s : State) (i : Nat) (set : Nat) (hP : Sub 541560168504 P) (hR : Sub
    0x200000000000200dc041000000001f803400000200827a08 R) (hk0 : Kept P R o s) : Kept P R o (State.react s i set) := by
  delta State.react
  extract_lets +onlyGivenNames -underBinder -merge v1
  have hv1 : Kept P R o v1 := by
    unfold v1
    refine kept_ite _ _ _ ?_ ?_
    · refine State.holdFaultN_kept _ _ (.of rfl hR) ?_
      assumption
    · assumption
  clear_value v1
  extract_lets +onlyGivenNames -underBinder -merge v2
  have hv2 : Kept P R o v2 := by
    unfold v2
    refine kept_ite _ _ _ ?_ ?_
    · refine State.reactC_kept _ (.of rfl hP) (.of rfl hR) ?_
      assumption
    · assumption
  clear_value v2
  extract_lets +onlyGivenNames -underBinder -merge v3
  have hv3 : Kept P R o v3 := by
    unfold v3
    refine kept_ite _ _ _ ?_ ?_
    · refine State.reactI_kept _ _ (.of rfl hR) ?_
      assumption
    · assumption
  clear_value v3
  extract_lets +onlyGivenNames -underBinder -merge v4
  have hv4 : Kept P R o v4 := by
    unfold v4
    refine kept_ite _ _ _ ?_ ?_
    · refine State.reactT_kept _ (.of rfl hP) ?_
      assumption
    · assumption
  clear_value v4
  refine kept_ite _ _ _ ?_ ?_
  · refine State.reactB_kept _ _ (.of rfl hP) (.of rfl hR) ?_
    assumption
  · assumption

theorem State.modSrc_kept (s : State) (i : Nat) (f : SrcState → SrcState) (hP : Sub 67108864 P) (hk0 : Kept P R o s) : Kept P
    R o (State.modSrc s i f) := by
  delta State.modSrc
  refine kept_coll (s) _ (hP.bit rfl) ?_
  assumption

theorem State.classify_kept (s : State) (i : Nat) (e : Evt) (hP : Sub 67108864 P) (hR : Sub 0x200000000 R) (hk0 : Kept P R o
    s) : Kept P R o (State.classify s i e) := by
  delta State.classify
  extract_lets +onlyGivenNames -underBinder -merge v1
  clear_value v1
  extract_lets +onlyGivenNames -underBinder -merge v2
  clear_value v2
  extract_lets +onlyGivenNames -underBinder -merge v3
  clear_value v3
  extract_lets +onlyGivenNames -underBinder -merge v4
  have hv4 : Kept P R o v4 := by
    unfold v4
    refine State.put_kept _ _ _ _ (hR.bit rfl) ?_
    refine kept_ite _ _ _ ?_ ?_
    · refine State.modSrc_kept _ _ _ (.of rfl hP) ?_
      assumption
    · assumption
  clear_value v4
  refine kept_ite _ _ _ ?_ ?_
  · refine State.put_kept _ _ _ _ (hR.bit rfl) ?_
    assumption
  · assumption

theorem State.processSrc_kept (s : State) (x : Src) (e : Evt) (hP : Sub 541560168504 P) (hR : Sub
    0x200000000000200dc041000000001f803400000202fe7a08 R) (hk0 : Kept P R o s) : Kept P R o (State.processSrc s x e) := by
  have h0 : Kept P R o (({ s with coll := { s.coll with last := x.id } } : State).modSrc x.id
      (fun t => { t with pend := none, lastEvent := s.now, force := false })) :=
    State.modSrc_kept _ _ _ (.of rfl hP) (kept_coll s _ (hP.bit rfl) hk0)
  have hp : ∀ (c : Prop) [Decidable c] (y : State) (k : Nat) (l : List Nat), Kept P R o y →
      Kept P R o (if c then y.pfRecord k l else y) := fun c _ y k l h => kept_ite _ _ _ (State.pfRecord_kept _ _ _ (.of rfl hP) (.of rfl hR) h) h
  have ht : ∀ (c : Prop) [Decidable c] (y : State), Kept P R o y → Kept P R o (if c then y.pfTrigger 1 else y) :=
    fun c _ y h => kept_ite _ _ _ (State.pfTrigger_kept _ _ (.of rfl hP) (.of rfl hR) h) h
  have hc : ∀ (c : Prop) [Decidable c] (y : State) (b : Bool), Kept P R o y → Kept P R o (if c then y else y.capture x.id e b) :=
    fun c _ y b h => kept_ite _ _ _ h (State.capture_kept _ _ _ _ (.of rfl hR) h)
  have hl : ∀ (c : Prop) [Decidable c] (y : State), Kept P R o y → Kept P R o (if c then y.classify x.id e else y) :=
    fun c _ y h => kept_ite _ _ _ (State.classify_kept _ _ _ (.of rfl hP) (.of rfl hR) h) h
  unfold State.processSrc
  exact State.react_kept _ _ _ (.of rfl hP) (.of rfl hR) (ht _ _ (hp _ _ _ _ (State.logWrite_kept _ _ (.of rfl hP) (.of rfl hR)
    (hc _ _ _ (hl _ _ (State.put_kept _ _ _ _ (hR.bit rfl) h0))))))

theorem execFaultProcess_kept (s : State) (hP : Sub 541560168504 P) (hR : Sub
    0x200000000000200dc041000000001f803400000202fe7a08 R) (hk0 : Kept P R o s) : KeptR P R o (execFaultProcess s) := by
  delta execFaultProcess
  refine (KeptR_next _).mpr ?_
  split
  · exact kept_ite _ _ _ (State.put_kept _ _ _ _ (hR.bit rfl) (State.processSrc_kept _ _ _ (.of rfl hP) (.of rfl hR) hk0))
      (State.processSrc_kept _ _ _ (.of rfl hP) (.of rfl hR) hk0)
  · assumption

theorem execFaultRecovery_kept (i : Fin 128) (s : State) (hP : Sub 274945015808 P) (hR : Sub 0x202010000 R) (hk0 : Kept P R o
    s) : KeptR P R o (execFaultRecovery i s) := by
  delta execFaultRecovery
  split
  · refine (KeptR_next _).mpr ?_
    assumption
  · extract_lets +onlyGivenNames -underBinder -merge v1
    clear_value v1
    extract_lets +onlyGivenNames -underBinder -merge v2
    clear_value v2
    refine keptR_ite _ _ _ ?_ ?_
    · refine (KeptR_next _).mpr ?_
      assumption
    · extract_lets +onlyGivenNames -underBinder -merge v3
      have hv3 : Kept P R o v3 := by
        unfold v3
        refine State.bump_kept _ _ _ (hR.bit rfl) ?_
        refine State.put_kept _ _ _ _ (hR.bit rfl) ?_
        refine State.put_kept _ _ _ _ (hR.bit rfl) ?_
        refine State.put_kept _ _ _ _ (hR.bit rfl) ?_
        assumption
      clear_value v3
      extract_lets +onlyGivenNames -underBinder -merge v4
      have hv4 : Kept P R o v4 := by
        unfold v4
        refine State.bump_kept _ _ _ (hR.bit rfl) ?_
        assumption
      clear_value v4
      extract_lets +onlyGivenNames -underBinder -merge v5
      extract_lets +onlyGivenNames -underBinder -merge v6
      clear_value v6
      refine (KeptR_next _).mpr ?_
      extract_lets +onlyGivenNames -underBinder -merge v7
      have hv7 : Kept P R o v7 := by
        unfold v7
        refine State.logWrite_kept _ _ (.of rfl hP) (.of rfl hR) ?_
        assumption
      clear_value v7
      refine kept_freeCtr (v7) _ (hP.bit rfl) ?_
      assumption

theorem execWatchdog_kept (s : State) (hP : Sub 67108864 P) (hk0 : Kept P R o s) : KeptR P R o (execWatchdog s) := by
  delta execWatchdog
  refine (KeptR_next _).mpr ?_
  refine kept_ite _ _ _ ?_ ?_
  · assumption
  · refine State.raise_kept _ _ _ _ _ _ (.of rfl hP) ?_
    refine kept_coll (s) _ (hP.bit rfl) ?_
    assumption

theorem execMarshalHeartbeat_kept (s : State) (hP : Sub 67108864 P) (hk0 : Kept P R o s) : KeptR P R o (execMarshalHeartbeat
    s) := by
  delta execMarshalHeartbeat
  refine (KeptR_next _).mpr ?_
  refine kept_ite _ _ _ ?_ ?_
  · refine kept_coll (s) _ (hP.bit rfl) ?_
    assumption
  · assumption

theorem execTrapHandlerTimeout_kept (s : State) (hP : Sub 67108864 P) (hk0 : Kept P R o s) : KeptR P R o
    (execTrapHandlerTimeout s) := by
  delta execTrapHandlerTimeout
  split
  · refine keptR_ite _ _ _ ?_ ?_
    · refine (KeptR_next _).mpr ?_
      assumption
    · refine (KeptR_next _).mpr ?_
      refine State.raise_kept _ _ _ _ _ _ (.of rfl hP) ?_
      refine kept_coll (s) _ (hP.bit rfl) ?_
      assumption
  · refine (KeptR_next _).mpr ?_
    assumption

theorem execTrapReturn_kept (s : State) (hP : Sub 67108864 P) (hk0 : Kept P R o s) : KeptR P R o (execTrapReturn s) := by
  delta execTrapReturn
  refine (KeptR_next _).mpr ?_
  refine kept_ite _ _ _ ?_ ?_
  · refine State.deliverTrap_kept _ (.of rfl hP) ?_
    refine kept_coll (s) _ (hP.bit rfl) ?_
    assumption
  · assumption

theorem execRefclkLost_kept (s : State) (hP : Sub 67109056 P) (hk0 : Kept P R o s) : KeptR P R o (execRefclkLost s) := by
  delta execRefclkLost
  refine (KeptR_next _).mpr ?_
  refine kept_ite _ _ _ ?_ ?_
  · assumption
  · refine State.raiseHw_kept _ _ _ _ (.of rfl hP) ?_
    refine kept_upd (s) _ 192 rfl ⟨[], (List.append_nil _).symm⟩ rfl (by intro p hp; cases p <;> first | rfl | cases hp) (.of rfl hP) ?_
    assumption

theorem execRefclkReturn_kept (s : State) (hP : Sub 67109056 P) (hk0 : Kept P R o s) : KeptR P R o (execRefclkReturn s) := by
  delta execRefclkReturn
  refine (KeptR_next _).mpr ?_
  refine kept_ite _ _ _ ?_ ?_
  · refine State.condEnds_kept _ _ (.of rfl hP) ?_
    refine kept_upd (s) _ 192 rfl ⟨[], (List.append_nil _).symm⟩ rfl (by intro p hp; cases p <;> first | rfl | cases hp) (.of rfl hP) ?_
    assumption
  · assumption

theorem State.setRegs_kept (s : State) (r : Reg) (is : List Nat) (w : Word) (hx_r : R.testBit (Reg.bit r) = true) (hk0 : Kept
    P R o s) : Kept P R o (State.setRegs s r is w) := by
  delta State.setRegs
  refine State.forEach_kept _ _ _ ?_ ?_
  · intro y1_0 y1_1 hy1_2
    refine State.setReg_kept _ _ _ _ ‹_› ?_
    assumption
  · assumption

theorem State.rewriteProfile_kept (s : State) (p : Nat) (hR : Sub 0x3000000000000000000000000000000000000000000000000 R) (hk0
    : Kept P R o s) : Kept P R o (State.rewriteProfile s p) := by
  delta State.rewriteProfile
  extract_lets +onlyGivenNames -underBinder -merge v1
  clear_value v1
  extract_lets +onlyGivenNames -underBinder -merge v2
  clear_value v2
  extract_lets +onlyGivenNames -underBinder -merge v3
  have hv3 : Kept P R o v3 := by
    unfold v3
    refine State.forEach_kept _ _ _ ?_ ?_
    · intro y1_0 y1_1 hy1_2
      refine State.setReg_kept _ _ _ _ (hR.bit rfl) ?_
      assumption
    · assumption
  clear_value v3
  refine State.setReg_kept _ _ _ _ (hR.bit rfl) ?_
  assumption

theorem State.loseProfile_kept (s : State) (p : Nat) (header : Bool) (hP : Sub 8192 P) (hR : Sub
    0x3000000000000000000000000000000000000000000000000 R) (hk0 : Kept P R o s) : Kept P R o (State.loseProfile s p header) := by
  delta State.loseProfile
  extract_lets +onlyGivenNames -underBinder -merge v1
  have hv1 : Kept P R o v1 := by
    unfold v1
    refine State.forEach_kept _ _ _ ?_ ?_
    · intro y1_0 y1_1 hy1_2
      refine kept_ite _ _ _ ?_ ?_
      · assumption
      · extract_lets +onlyGivenNames -underBinder -merge v2
        clear_value v2
        refine State.forEach_kept _ _ _ ?_ ?_
        · intro y1_0 y1_1 hy1_2
          refine State.modRgn_kept _ _ _ (hP.bit rfl) ?_
          assumption
        · assumption
    · assumption
  clear_value v1
  refine kept_ite _ _ _ ?_ ?_
  · refine State.rewriteProfile_kept _ _ (.of rfl hR) ?_
    assumption
  · assumption

theorem State.dropRgnRecs_kept (s : State) (n : Nat) (hP : Sub 33562624 P) (hk0 : Kept P R o s) : Kept P R o
    (State.dropRgnRecs s n) := by
  delta State.dropRgnRecs
  refine State.modRgn_kept _ _ _ (hP.bit rfl) ?_
  refine kept_pacer (s) _ (hP.bit rfl) ?_
  assumption

theorem State.dropDomRecs_kept (s : State) (d : Nat) (hP : Sub 33562624 P) (hk0 : Kept P R o s) : Kept P R o
    (State.dropDomRecs s d) := by
  delta State.dropDomRecs
  refine State.forEach_kept _ _ _ ?_ ?_
  · intro y1_0 y1_1 hy1_2
    refine State.modRgn_kept _ _ _ (hP.bit rfl) ?_
    assumption
  · refine kept_pacer (s) _ (hP.bit rfl) ?_
    assumption

theorem State.losePacer_kept (s : State) (i : Nat) (hP : Sub 100671488 P) (hR : Sub 0x10000000000 R) (hk0 : Kept P R o s) :
    Kept P R o (State.losePacer s i) := by
  delta State.losePacer
  refine kept_ite _ _ _ ?_ ?_
  · refine State.dropRgnRecs_kept _ _ (.of rfl hP) ?_
    assumption
  · refine kept_ite _ _ _ ?_ ?_
    · refine State.dropDomRecs_kept _ _ (.of rfl hP) ?_
      assumption
    · refine kept_ite _ _ _ ?_ ?_
      · extract_lets +onlyGivenNames -underBinder -merge v1
        clear_value v1
        extract_lets +onlyGivenNames -underBinder -merge v2
        clear_value v2
        extract_lets +onlyGivenNames -underBinder -merge v3
        clear_value v3
        extract_lets +onlyGivenNames -underBinder -merge v4
        clear_value v4
        extract_lets +onlyGivenNames -underBinder -merge v5
        have hv5 : Kept P R o v5 := by
          unfold v5
          refine kept_pacer (s) _ (hP.bit rfl) ?_
          assumption
        clear_value v5
        refine State.forEach_kept _ _ _ ?_ ?_
        · intro y1_0 y1_1 hy1_2
          refine State.countErr_kept _ _ _ (hR.bit rfl) (.of rfl hP) ?_
          assumption
        · assumption
      · refine kept_ite _ _ _ ?_ ?_
        · extract_lets +onlyGivenNames -underBinder -merge v1
          clear_value v1
          refine kept_pacer (s) _ (hP.bit rfl) ?_
          assumption
        · assumption

theorem State.loseEntry_kept (s : State) (i : Nat) (hP : Sub 33571840 P) (hk0 : Kept P R o s) : Kept P R o (State.loseEntry s
    i) := by
  delta State.loseEntry
  extract_lets +onlyGivenNames -underBinder -merge v1
  clear_value v1
  refine kept_ite _ _ _ ?_ ?_
  · assumption
  · extract_lets +onlyGivenNames -underBinder -merge v2
    extract_lets +onlyGivenNames -underBinder -merge v3
    have hv3 : Kept P R o v3 := by
      unfold v3
      refine kept_step (s) _ (hP.bit rfl) ?_
      assumption
    clear_value v3
    refine State.forEach_kept _ _ _ ?_ ?_
    · intro y1_0 y1_1 hy1_2
      refine State.withdrawLift_kept _ _ (.of rfl hP) ?_
      assumption
    · assumption

theorem State.loseVt_kept (s : State) (n : Nat) (hR : Sub 0x200000000000000000000000000000000000000000000 R) (hk0 : Kept P R o
    s) : Kept P R o (State.loseVt s n) := by
  delta State.loseVt
  refine kept_ite _ _ _ ?_ ?_
  · assumption
  · extract_lets +onlyGivenNames -underBinder -merge v1
    clear_value v1
    refine State.setRegs_kept _ _ _ _ (hR.bit rfl) ?_
    assumption

theorem State.replaceWord_kept (s : State) (tid : Nat) (index : Nat) (hP : Sub 77678518272 P) (hR : Sub
    0x3260200000000000000000000000000000000010380000000 R) (hk0 : Kept P R o s) : Kept P R o (State.replaceWord s tid index).1 := by
  have hg : ∀ g, Kept P R o { s with gauge := g } := fun _ => kept_gauge s _ (hP.bit rfl) hk0
  have hp : ∀ g, Kept P R o { s with pacer := g } := fun _ => kept_pacer s _ (hP.bit rfl) hk0
  unfold State.replaceWord
  split
  · exact State.setRegs_kept _ _ _ _ (hR.bit rfl) hk0
  · exact State.setRegs_kept _ _ _ _ (hR.bit rfl) hk0
  · exact kept_pair _ _ (hp _)
  · exact kept_pair _ _ (hp _)
  · exact State.loseVt_kept _ _ (.of rfl hR) hk0
  · exact State.loseProfile_kept _ _ _ (.of rfl hP) (.of rfl hR) hk0
  · exact kept_pair _ _ (hg _)
  · exact State.losePacer_kept _ _ (.of rfl hP) (.of rfl hR) hk0
  · exact State.put_kept _ _ _ _ (hR.bit rfl) (hp _)
  · exact kept_boot s _ (hP.bit rfl) hk0
  · exact hk0
  · exact kept_pf s _ (hP.bit rfl) hk0
  · exact State.setReg_kept _ _ _ _ (hR.bit rfl) (State.setReg_kept _ _ _ _ (hR.bit rfl) (State.setReg_kept _ _ _ _ (hR.bit rfl) hk0))
  · exact hk0

theorem State.raiseTable_kept (s : State) (x : Src) (tid : Nat) (index : Nat) (hP : Sub 67108864 P) (hk0 : Kept P R o s) :
    Kept P R o (State.raiseTable s x tid index) := by
  delta State.raiseTable
  split
  · refine State.raise_kept _ _ _ _ _ _ (.of rfl hP) ?_
    assumption
  · refine State.raise_kept _ _ _ _ _ _ (.of rfl hP) ?_
    assumption
  · refine State.raise_kept _ _ _ _ _ _ (.of rfl hP) ?_
    assumption
  · refine State.raise_kept _ _ _ _ _ _ (.of rfl hP) ?_
    assumption

theorem State.uncorrectable_kept (s : State) (tid : Nat) (index : Nat) (hP : Sub 77678518272 P) (hR : Sub
    0x3260200000000000000000000000000000000010380000000 R) (hk0 : Kept P R o s) : Kept P R o (State.uncorrectable s tid index) := by
  delta State.uncorrectable
  extract_lets +onlyGivenNames -underBinder -merge v1
  have hv1 : Kept P R o v1.1 := by
    unfold v1
    refine State.replaceWord_kept _ _ _ (.of rfl hP) (.of rfl hR) ?_
    assumption
  clear_value v1
  split
  · refine State.raiseTable_kept _ _ _ _ (.of rfl hP) ?_
    assumption
  · assumption

theorem State.lostBoth_kept (s : State) (tid : Nat) (index : Nat) (others : List Nat) (hP : Sub 77678535680 P) (hR : Sub
    0x3260200000000000000000000000000000000010380000000 R) (hk0 : Kept P R o s) : Kept P R o (State.lostBoth s tid index others) := by
  delta State.lostBoth
  split
  · refine State.raiseTable_kept _ _ _ _ (.of rfl hP) ?_
    refine State.loseEntry_kept _ _ (.of rfl hP) ?_
    assumption
  · extract_lets +onlyGivenNames -underBinder -merge v1
    have hv1 : Kept P R o v1 := by
      unfold v1
      refine State.raiseTable_kept _ _ _ _ (.of rfl hP) ?_
      assumption
    clear_value v1
    refine kept_ite _ _ _ ?_ ?_
    · assumption
    · refine State.modSrc_kept _ _ _ (.of rfl hP) ?_
      assumption
  · refine State.uncorrectable_kept _ _ _ (.of rfl hP) (.of rfl hR) ?_
    assumption

theorem execPatrolRead_kept (tid : Fin 16) (index : Nat) (o1 : PatrolOutcome) (s : State) (hP : Sub 77678535680 P) (hR : Sub
    0x3260200000000000000000000000000000000010380000000 R) (hk0 : Kept P R o s) : KeptR P R o (execPatrolRead tid index o1 s) := by
  delta execPatrolRead
  refine checked_kept _ _ _ ?_
  refine keptR_ite _ _ _ ?_ ?_
  · refine (KeptR_next _).mpr ?_
    assumption
  · refine (KeptR_next _).mpr ?_
    split
    · assumption
    · refine State.raise_kept _ _ _ _ _ _ (.of rfl hP) ?_
      assumption
    · refine State.uncorrectable_kept _ _ _ (.of rfl hP) (.of rfl hR) ?_
      assumption
    · refine State.lostBoth_kept _ _ _ _ (.of rfl hP) (.of rfl hR) ?_
      assumption

/-! ### Machine/Flash.lean -/

theorem State.setPage_kept (s : State) (k : Nat) (b : List Byte) (hP : Sub 4294967296 P) (hk0 : Kept P R o s) : Kept P R o
    (State.setPage s k b) := by
  delta State.setPage
  refine kept_nvm (s) _ (hP.bit rfl) ?_
  assumption

theorem State.raiseNvm_kept (s : State) (x : Src) (addr : Nat) (hP : Sub 67108864 P) (hk0 : Kept P R o s) : Kept P R o
    (State.raiseNvm s x addr) := by
  delta State.raiseNvm
  refine State.raise_kept _ _ _ _ _ _ (.of rfl hP) ?_
  assumption

theorem State.record_kept (s : State) (r : BootRec) (hP : Sub 4294967296 P) (hk0 : Kept P R o s) : Kept P R o (State.record s
    r) := by
  delta State.record
  refine kept_nvm (s) _ (hP.bit rfl) ?_
  assumption

theorem State.useSet_kept (s : State) (set : Nat) (hP : Sub 4294967296 P) (hk0 : Kept P R o s) : Kept P R o (State.useSet s
    set) := by
  delta State.useSet
  extract_lets +onlyGivenNames -underBinder -merge v1
  have hv1 : Kept P R o v1 := by
    unfold v1
    refine State.record_kept _ _ (.of rfl hP) ?_
    assumption
  clear_value v1
  refine kept_ite _ _ _ ?_ ?_
  · assumption
  · refine kept_nvm (v1) _ (hP.bit rfl) ?_
    assumption

theorem State.modSetRec_kept (s : State) (slot : Nat) (f : SetRec → SetRec) (hP : Sub 4294967296 P) (hk0 : Kept P R o s) :
    Kept P R o (State.modSetRec s slot f) := by
  delta State.modSetRec
  refine kept_nvm (s) _ (hP.bit rfl) ?_
  assumption

theorem State.modKey_kept (s : State) (slot : Nat) (f : KeySlot → KeySlot) (hP : Sub 4294967296 P) (hk0 : Kept P R o s) : Kept
    P R o (State.modKey s slot f) := by
  delta State.modKey
  refine kept_nvm (s) _ (hP.bit rfl) ?_
  assumption

theorem State.checkModel_kept (s : State) (b : List Byte) (hP : Sub 33554432 P) (hR : Sub
    0x200000000000000000000000000000000000000000000000 R) (hk0 : Kept P R o s) : Kept P R o (State.checkModel s b) := by
  delta State.checkModel
  extract_lets +onlyGivenNames -underBinder -merge v1
  clear_value v1
  extract_lets +onlyGivenNames -underBinder -merge v2
  have hv2 : Kept P R o v2 := by
    unfold v2
    refine State.put_kept _ _ _ _ (hR.bit rfl) ?_
    refine State.put_kept _ _ _ _ (hR.bit rfl) ?_
    refine State.put_kept _ _ _ _ (hR.bit rfl) ?_
    refine State.put_kept _ _ _ _ (hR.bit rfl) ?_
    assumption
  clear_value v2
  split
  · refine State.put_kept _ _ _ _ (hR.bit rfl) ?_
    refine kept_pacer (v2) _ (hP.bit rfl) ?_
    assumption
  · refine State.put_kept _ _ _ _ (hR.bit rfl) ?_
    refine kept_pacer (v2) _ (hP.bit rfl) ?_
    assumption

end Sys2Proof.Machine
end

