-- ==== Sys2Proof/Laws/KeptLinks.lean ====
section
/-! SUPPORT. Laws.Kept for what the regions, Relay, pairs, a sample period and a step boundary do: one law for each operation and each meaning. -/

set_option linter.unusedVariables false

namespace Sys2Proof.Machine

variable {P R : Nat} {o : State}

/-! ### Machine/Regions.lean -/

theorem execRegulationLoss_kept (h1 : Fin 256) (s : State) (hP : Sub 206250963968 P) (hR : Sub
    0x10040200000000000000000000000000000000000 R) (hk0 : Kept P R o s) : KeptR P R o (execRegulationLoss h1 s) := by
  delta execRegulationLoss
  extract_lets +onlyGivenNames -underBinder -merge v1
  clear_value v1
  refine keptR_ite _ _ _ ?_ ?_
  · refine (KeptR_next _).mpr ?_
    assumption
  · refine keptR_ite _ _ _ ?_ ?_
    · refine (KeptR_next _).mpr ?_
      refine State.loseRegulation_kept _ _ _ (.of rfl hP) (.of rfl hR) ?_
      assumption
    · split
      · refine (KeptR_next _).mpr ?_
        assumption
      · extract_lets +onlyGivenNames -underBinder -merge v2
        clear_value v2
        extract_lets +onlyGivenNames -underBinder -merge v3
        have hv3 : Kept P R o v3 := by
          unfold v3
          refine State.forEach_kept _ _ _ ?_ ?_
          · intro y1_0 y1_1 hy1_2
            refine State.modRgn_kept _ _ _ (hP.bit rfl) ?_
            assumption
          · refine State.emergOpen_kept _ _ (.of rfl hP) (.of rfl hR) ?_
            assumption
        clear_value v3
        refine (KeptR_next _).mpr ?_
        refine State.loseRegulation_kept _ _ _ (.of rfl hP) (.of rfl hR) ?_
        assumption

theorem execMergeVoltageTimeout_kept (g : Fin 512) (s : State) (hP : Sub 206234066944 P) (hR : Sub
    0x10040200000000000000000000000000000000000 R) (hk0 : Kept P R o s) : KeptR P R o (execMergeVoltageTimeout g s) := by
  delta execMergeVoltageTimeout
  split
  · refine (KeptR_next _).mpr ?_
    assumption
  · extract_lets +onlyGivenNames -underBinder -merge v1
    clear_value v1
    refine keptR_ite _ _ _ ?_ ?_
    · refine (KeptR_next _).mpr ?_
      refine State.endMerge_kept _ _ _ (.of rfl hP) (.of rfl hR) ?_
      assumption
    · refine (KeptR_next _).mpr ?_
      assumption

theorem execForcedMergeStretchOrder_kept (g : Fin 512) (s : State) (hP : Sub 138714153984 P) (hR : Sub 0x4000000000000 R) (hk0
    : Kept P R o s) : KeptR P R o (execForcedMergeStretchOrder g s) := by
  unfold execForcedMergeStretchOrder
  split
  · exact hk0
  · split
    · rename_i f a _ _ _
      split
      · have h1 := State.orderMergeStretch_kept s (s.domOf a) f (.of rfl hP) (.of rfl hR) hk0
        split
        · rename_i h; rw [h] at h1; exact State.setMerge_kept _ _ (.of rfl hP) h1
        · exact State.queueFull_kept _ _ (.of rfl hP) hk0
      · exact hk0
    · exact hk0

theorem execForcedMergeDue_kept (g : Fin 512) (s : State) (hP : Sub 206267740160 P) (hR : Sub
    0x10040200000000000000000000000000000000000 R) (hk0 : Kept P R o s) : KeptR P R o (execForcedMergeDue g s) := by
  delta execForcedMergeDue
  split
  · refine (KeptR_next _).mpr ?_
    assumption
  · split
    · refine keptR_ite _ _ _ ?_ ?_
      · refine (KeptR_next _).mpr ?_
        refine State.closeGate_kept _ _ _ (.of rfl hP) (.of rfl hR) ?_
        assumption
      · refine (KeptR_next _).mpr ?_
        assumption
    · refine (KeptR_next _).mpr ?_
      assumption

theorem execSplitRefusedLoad_kept (g : Fin 512) (s : State) (hP : Sub 206234066944 P) (hR : Sub
    0x10040200000000000000000000000000000000000 R) (hk0 : Kept P R o s) : KeptR P R o (execSplitRefusedLoad g s) := by
  delta execSplitRefusedLoad
  split
  · refine keptR_ite _ _ _ ?_ ?_
    · refine (KeptR_next _).mpr ?_
      refine State.endMerge_kept _ _ _ (.of rfl hP) (.of rfl hR) ?_
      assumption
    · refine (KeptR_next _).mpr ?_
      assumption
  · refine (KeptR_next _).mpr ?_
    assumption

theorem execSplittingEnd_kept (n : Fin 256) (s : State) (hP : Sub 206233935872 P) (hR : Sub
    0x10000200000000000000000000000000000000000 R) (hk0 : Kept P R o s) : KeptR P R o (execSplittingEnd n s) := by
  delta execSplittingEnd
  extract_lets +onlyGivenNames -underBinder -merge v1
  clear_value v1
  refine keptR_ite _ _ _ ?_ ?_
  · refine (KeptR_next _).mpr ?_
    refine State.settle_kept _ _ _ (.of rfl hP) (.of rfl hR) ?_
    assumption
  · refine (KeptR_next _).mpr ?_
    assumption

theorem execNoLaneDark_kept (n : Fin 256) (s : State) (hP : Sub 206250849280 P) (hR : Sub
    0x10040200000000000000000000000000000000000 R) (hk0 : Kept P R o s) : KeptR P R o (execNoLaneDark n s) := by
  delta execNoLaneDark
  extract_lets +onlyGivenNames -underBinder -merge v1
  clear_value v1
  extract_lets +onlyGivenNames -underBinder -merge v2
  clear_value v2
  refine keptR_ite _ _ _ ?_ ?_
  · refine (KeptR_next _).mpr ?_
    refine State.goDark_kept _ _ _ (.of rfl hP) (.of rfl hR) ?_
    assumption
  · refine (KeptR_next _).mpr ?_
    assumption

theorem State.retEntry_kept (s : State) (n : Nat) (hP : Sub 24576 P) (hk0 : Kept P R o s) : KeptO P R o (State.retEntry s n)
    := by
  delta State.retEntry
  extract_lets +onlyGivenNames -underBinder -merge v1
  clear_value v1
  extract_lets +onlyGivenNames -underBinder -merge v2
  clear_value v2
  extract_lets +onlyGivenNames -underBinder -merge v3
  clear_value v3
  refine keptO_ite _ _ _ ?_ ?_
  · trivial
  · extract_lets +onlyGivenNames -underBinder -merge v4
    clear_value v4
    extract_lets +onlyGivenNames -underBinder -merge v5
    have hv5 : Kept P R o v5 := by
      unfold v5
      refine State.forEach_kept _ _ _ ?_ ?_
      · intro y1_0 y1_1 hy1_2
        refine State.modRgn_kept _ _ _ (hP.bit rfl) ?_
        assumption
      · assumption
    clear_value v5
    refine (KeptO_some _).mpr ?_
    refine State.modHeat_kept _ _ _ (hP.bit rfl) ?_
    assumption

theorem State.retExit_kept (s : State) (n : Nat) (hP : Sub 16384 P) (hk0 : Kept P R o s) : KeptO P R o (State.retExit s n) :=
    by
  delta State.retExit
  extract_lets +onlyGivenNames -underBinder -merge v1
  clear_value v1
  refine keptO_ite _ _ _ ?_ ?_
  · refine (KeptO_some _).mpr ?_
    refine State.modHeat_kept _ _ _ (hP.bit rfl) ?_
    assumption
  · trivial

theorem execRetentionSetupEnd_kept (h1 : Fin 256) (s : State) (hP : Sub 16384 P) (hk0 : Kept P R o s) : KeptR P R o
    (execRetentionSetupEnd h1 s) := by
  delta execRetentionSetupEnd
  extract_lets +onlyGivenNames -underBinder -merge v1
  clear_value v1
  split
  · refine (KeptR_next _).mpr ?_
    assumption
  · extract_lets +onlyGivenNames -underBinder -merge v2
    clear_value v2
    extract_lets +onlyGivenNames -underBinder -merge v3
    clear_value v3
    refine keptR_ite _ _ _ ?_ ?_
    · refine (KeptR_next _).mpr ?_
      refine State.modHeat_kept _ _ _ (hP.bit rfl) ?_
      assumption
    · refine (KeptR_next _).mpr ?_
      assumption

theorem execRetentionExitDone_kept (h1 : Fin 256) (s : State) (hP : Sub 24576 P) (hk0 : Kept P R o s) : KeptR P R o
    (execRetentionExitDone h1 s) := by
  delta execRetentionExitDone
  extract_lets +onlyGivenNames -underBinder -merge v1
  clear_value v1
  extract_lets +onlyGivenNames -underBinder -merge v2
  clear_value v2
  refine keptR_ite _ _ _ ?_ ?_
  · extract_lets +onlyGivenNames -underBinder -merge v3
    have hv3 : Kept P R o v3 := by
      unfold v3
      refine State.forEach_kept _ _ _ ?_ ?_
      · intro y1_0 y1_1 hy1_2
        refine State.modRgn_kept _ _ _ (hP.bit rfl) ?_
        assumption
      · assumption
    clear_value v3
    refine (KeptR_next _).mpr ?_
    refine State.modHeat_kept _ _ _ (hP.bit rfl) ?_
    assumption
  · refine (KeptR_next _).mpr ?_
    assumption

theorem State.vgGroup_kept (s : State) (n : Nat) (g : Nat) (cur : Nat) (count : Nat) (sum : Nat) (hP : Sub 67117056 P) (hR :
    Sub 0x10000000000000000000000000000000000000000 R) (hk0 : Kept P R o s) : Kept P R o (State.vgGroup s n g cur count sum).1 := by
  delta State.vgGroup
  extract_lets +onlyGivenNames -underBinder -merge v1
  clear_value v1
  extract_lets +onlyGivenNames -underBinder -merge v2
  clear_value v2
  refine kept_ite_fst _ _ _ ?_ ?_
  · refine kept_pair _ _ ?_
    refine State.modRgn_kept _ _ _ (hP.bit rfl) ?_
    assumption
  · refine kept_ite_fst _ _ _ ?_ ?_
    · refine kept_pair _ _ ?_
      refine State.modRgn_kept _ _ _ (hP.bit rfl) ?_
      assumption
    · refine kept_pair _ _ ?_
      refine State.rgnEvt_kept _ _ _ _ (hR.bit rfl) (.of rfl hP) ?_
      refine State.modRgn_kept _ _ _ (hP.bit rfl) ?_
      assumption

theorem State.orderSpare_kept (s : State) (n : Nat) (g : Nat) (hP : Sub 206233936896 P) (hR : Sub
    0x10000200000000000000000000000000000000000 R) (hk0 : Kept P R o s) : Kept P R o (State.orderSpare s n g) := by
  delta State.orderSpare
  refine kept_ite _ _ _ ?_ ?_
  · refine State.groupLost_kept _ _ (.of rfl hP) (.of rfl hR) ?_
    assumption
  · refine kept_ite _ _ _ ?_ ?_
    · refine State.mapSpare_kept _ _ _ (.of rfl hP) (.of rfl hR) ?_
      assumption
    · refine kept_ite _ _ _ ?_ ?_
      · refine State.enqueue_kept _ _ _ (.of rfl hP) ?_
        assumption
      · refine State.queueFull_kept _ _ (.of rfl hP) ?_
        refine State.mapSpare_kept _ _ _ (.of rfl hP) (.of rfl hR) ?_
        assumption

theorem State.vgScan_kept (s : State) (n : Nat) (currents : List Nat) (hP : Sub 206233936896 P) (hR : Sub
    0x10000200000000000000000000000000000000000 R) (hk0 : Kept P R o s) : Kept P R o (State.vgScan s n currents) := by
  delta State.vgScan
  refine kept_ite _ _ _ ?_ ?_
  · assumption
  · extract_lets +onlyGivenNames -underBinder -merge v1
    clear_value v1
    extract_lets +onlyGivenNames -underBinder -merge v2
    clear_value v2
    extract_lets +onlyGivenNames -underBinder -merge v3
    clear_value v3
    refine State.forEach_kept _ _ _ ?_ ?_
    · intro y1_0 y1_1 hy1_2
      extract_lets +onlyGivenNames -underBinder -merge v4
      have hv4 : Kept P R o v4.1 := by
        unfold v4
        refine State.vgGroup_kept _ _ _ _ _ _ (.of rfl hP) (.of rfl hR) ?_
        assumption
      clear_value v4
      refine kept_ite _ _ _ ?_ ?_
      · refine State.orderSpare_kept _ _ _ (.of rfl hP) (.of rfl hR) ?_
        assumption
      · assumption
    · assumption

theorem execSpareMapping_kept (n : Fin 256) (group : Fin 104) (s : State) (hP : Sub 206233936896 P) (hR : Sub
    0x10000200000000000000000000000000000000000 R) (hk0 : Kept P R o s) : KeptR P R o (execSpareMapping n group s) := by
  delta execSpareMapping
  extract_lets +onlyGivenNames -underBinder -merge v1
  clear_value v1
  extract_lets +onlyGivenNames -underBinder -merge v2
  clear_value v2
  refine keptR_ite _ _ _ ?_ ?_
  · refine (KeptR_next _).mpr ?_
    refine State.mapSpare_kept _ _ _ (.of rfl hP) (.of rfl hR) ?_
    refine State.dequeue_kept _ _ (.of rfl hP) ?_
    assumption
  · refine keptR_ite _ _ _ ?_ ?_
    · refine (KeptR_next _).mpr ?_
      refine State.orderSpare_kept _ _ _ (.of rfl hP) (.of rfl hR) ?_
      assumption
    · refine (KeptR_next _).mpr ?_
      assumption

theorem execGracePeriodEnd_kept (n : Fin 256) (s : State) (hP : Sub 206234181632 P) (hR : Sub
    0x10040200000000000000000000000000000000000 R) (hk0 : Kept P R o s) : KeptR P R o (execGracePeriodEnd n s) := by
  delta execGracePeriodEnd
  extract_lets +onlyGivenNames -underBinder -merge v1
  clear_value v1
  split
  · refine (KeptR_next _).mpr ?_
    assumption
  · extract_lets +onlyGivenNames -underBinder -merge v2
    clear_value v2
    extract_lets +onlyGivenNames -underBinder -merge v3
    clear_value v3
    refine keptR_ite _ _ _ ?_ ?_
    · refine (KeptR_next _).mpr ?_
      assumption
    · refine keptR_ite _ _ _ ?_ ?_
      · refine (KeptR_next _).mpr ?_
        refine State.modRgn_kept _ _ _ (hP.bit rfl) ?_
        assumption
      · extract_lets +onlyGivenNames -underBinder -merge v4
        have hv4 : Kept P R o v4 := by
          unfold v4
          refine State.openGates_kept _ _ (.of rfl hP) ?_
          refine State.refuseMerges_kept _ _ (.of rfl hP) (.of rfl hR) ?_
          assumption
        clear_value v4
        refine (KeptR_next _).mpr ?_
        refine State.modRgn_kept _ _ _ (hP.bit rfl) ?_
        assumption

theorem execGraceDarkEntry_kept (n : Fin 256) (s : State) (hP : Sub 206250849280 P) (hR : Sub
    0x10040200000000000000000000000000000000000 R) (hk0 : Kept P R o s) : KeptR P R o (execGraceDarkEntry n s) := by
  delta execGraceDarkEntry
  extract_lets +onlyGivenNames -underBinder -merge v1
  clear_value v1
  split
  · refine (KeptR_next _).mpr ?_
    assumption
  · refine keptR_ite _ _ _ ?_ ?_
    · refine (KeptR_next _).mpr ?_
      refine State.goDark_kept _ _ _ (.of rfl hP) (.of rfl hR) ?_
      assumption
    · refine (KeptR_next _).mpr ?_
      assumption

theorem execIsoStrobeDeassert_kept (n : Fin 256) (s : State) (hP : Sub 8192 P) (hk0 : Kept P R o s) : KeptR P R o
    (execIsoStrobeDeassert n s) := by
  delta execIsoStrobeDeassert
  split
  · refine (KeptR_next _).mpr ?_
    assumption
  · refine keptR_ite _ _ _ ?_ ?_
    · refine (KeptR_next _).mpr ?_
      refine State.modRgn_kept _ _ _ (hP.bit rfl) ?_
      assumption
    · refine (KeptR_next _).mpr ?_
      assumption

theorem State.startRgn_kept (s : State) (n : Nat) (hP : Sub 206183621632 P) (hR : Sub 0x200000000000000000000000000000000000
    R) (hk0 : Kept P R o s) : KeptO P R o (State.startRgn s n) := by
  delta State.startRgn
  extract_lets +onlyGivenNames -underBinder -merge v1
  clear_value v1
  refine keptO_ite _ _ _ ?_ ?_
  · refine (KeptO_some _).mpr ?_
    refine State.beginAttempt_kept _ _ _ (.of rfl hP) (.of rfl hR) ?_
    assumption
  · trivial

theorem State.stopRgn_kept (s : State) (n : Nat) (hP : Sub 206183605248 P) (hR : Sub 0x200000000000000000000000000000000000 R)
    (hk0 : Kept P R o s) : KeptO P R o (State.stopRgn s n) := by
  delta State.stopRgn
  extract_lets +onlyGivenNames -underBinder -merge v1
  clear_value v1
  refine keptO_ite _ _ _ ?_ ?_
  · refine (KeptO_some _).mpr ?_
    refine State.loseTargets_kept _ _ (.of rfl hP) (.of rfl hR) ?_
    refine State.modRgn_kept _ _ _ (hP.bit rfl) ?_
    assumption
  · trivial

theorem State.stopLanes_kept (s : State) (n : Nat) (hP : Sub 12288 P) (hk0 : Kept P R o s) : Kept P R o (State.stopLanes s n)
    := by
  delta State.stopLanes
  extract_lets +onlyGivenNames -underBinder -merge v1
  clear_value v1
  split
  · assumption
  · refine kept_ite _ _ _ ?_ ?_
    · refine State.modRgn_kept _ _ _ (hP.bit rfl) ?_
      refine State.lanesOff_kept _ _ (.of rfl hP) ?_
      assumption
    · assumption

theorem State.darkToOff_kept (s : State) (n : Nat) (hP : Sub 8192 P) (hk0 : Kept P R o s) : Kept P R o (State.darkToOff s n)
    := by
  delta State.darkToOff
  refine kept_ite _ _ _ ?_ ?_
  · refine State.modRgn_kept _ _ _ (hP.bit rfl) ?_
    assumption
  · refine State.modRgn_kept _ _ _ (hP.bit rfl) ?_
    assumption

theorem State.clrDarkWrite_kept (s : State) (n : Nat) (hP : Sub 8192 P) (hk0 : Kept P R o s) : Kept P R o (State.clrDarkWrite
    s n) := by
  delta State.clrDarkWrite
  refine kept_ite _ _ _ ?_ ?_
  · assumption
  · extract_lets +onlyGivenNames -underBinder -merge v1
    have hv1 : Kept P R o v1 := by
      unfold v1
      refine State.modRgn_kept _ _ _ (hP.bit rfl) ?_
      assumption
    clear_value v1
    refine kept_ite _ _ _ ?_ ?_
    · refine State.darkToOff_kept _ _ (.of rfl hP) ?_
      assumption
    · assumption

theorem State.mergeWakes_kept (s : State) (g : Nat) (due : Nat) (hP : Sub 67130368 P) (hk0 : Kept P R o s) : Kept P R o
    (State.mergeWakes s g due) := by
  delta State.mergeWakes
  split
  · assumption
  · refine kept_ite _ _ _ ?_ ?_
    · assumption
    · refine State.forEach_kept _ _ _ ?_ ?_
      · intro y1_0 y1_1 hy1_2
        refine kept_ite _ _ _ ?_ ?_
        · extract_lets +onlyGivenNames -underBinder -merge v1
          clear_value v1
          refine kept_ite _ _ _ ?_ ?_
          · refine State.enqueue_kept _ _ _ (.of rfl hP) ?_
            assumption
          · refine State.queueFull_kept _ _ (.of rfl hP) ?_
            refine State.wakeHeat_kept _ _ (.of rfl hP) ?_
            assumption
        · assumption
      · assumption

theorem State.rcmdEnd_kept (s : State) (d : Nat) (x : Option State) (hx : KeptO P R o x) (hR : Sub
    0x40000000000000000000000000000000000000 R) (hk0 : Kept P R o s) : Kept P R o (State.rcmdEnd s d x) := by
  unfold State.rcmdEnd
  split
  · exact State.put_kept _ _ _ _ (hR.bit rfl) hx
  · exact State.put_kept _ _ _ _ (hR.bit rfl) hk0

theorem State.rcmdGo_kept (s : State) (p : FMaster) (d : Nat) (hP : Sub 206250734592 P) (hR : Sub
    0x40200000000000000000000000000000000000 R) (hk0 : Kept P R o s) : Kept P R o (State.rcmdGo s p d) := by
  delta State.rcmdGo
  extract_lets +onlyGivenNames -underBinder -merge v1
  clear_value v1
  refine kept_ite _ _ _ ?_ ?_
  · refine State.put_kept _ _ _ _ (hR.bit rfl) ?_
    assumption
  · extract_lets +onlyGivenNames -underBinder -merge v2
    clear_value v2
    extract_lets +onlyGivenNames -underBinder -merge v3
    clear_value v3
    extract_lets +onlyGivenNames -underBinder -merge v4
    clear_value v4
    extract_lets +onlyGivenNames -underBinder -merge v5
    have hv5 : Kept P R o v5 := by
      unfold v5
      refine State.put_kept _ _ _ _ (hR.bit rfl) ?_
      assumption
    clear_value v5
    extract_lets +onlyGivenNames -underBinder -merge v6
    clear_value v6
    extract_lets +onlyGivenNames -underBinder -merge v7
    clear_value v7
    extract_lets +onlyGivenNames -underBinder -merge v8
    have hv8 : ∀ (y0 : Action), Kept P R o (v8 y0) := by
      intro y1_0
      unfold v8
      refine kept_ite _ _ _ ?_ ?_
      · refine State.put_kept _ _ _ _ (hR.bit rfl) ?_
        refine State.enqueue_kept _ _ _ (.of rfl hP) ?_
        assumption
      · refine State.queueFull_kept _ _ (.of rfl hP) ?_
        refine State.put_kept _ _ _ _ (hR.bit rfl) ?_
        assumption
    clear_value v8
    extract_lets +onlyGivenNames -underBinder -merge v9
    split
    · refine kept_ite _ _ _ ?_ ?_
      · refine State.put_kept _ _ _ _ (hR.bit rfl) ?_
        assumption
      · refine kept_ite _ _ _ ?_ ?_
        · refine State.mergeWakes_kept _ _ _ (.of rfl hP) ?_
          refine hv8 _
        · refine hv8 _
    · refine kept_ite _ _ _ ?_ ?_
      · refine State.put_kept _ _ _ _ (hR.bit rfl) ?_
        assumption
      · refine hv8 _
    · refine kept_ite _ _ _ ?_ ?_
      · refine State.put_kept _ _ _ _ (hR.bit rfl) ?_
        assumption
      · refine kept_ite _ _ _ ?_ ?_
        · refine State.rcmdEnd_kept _ _ _ ?_ (.of rfl hR) ?_
          · refine State.startRgn_kept _ _ (.of rfl hP) (.of rfl hR) ?_
            assumption
          · assumption
        · refine hv8 _
    · refine kept_ite _ _ _ ?_ ?_
      · refine State.put_kept _ _ _ _ (hR.bit rfl) ?_
        assumption
      · refine kept_ite _ _ _ ?_ ?_
        · refine State.rcmdEnd_kept _ _ _ ?_ (.of rfl hR) ?_
          · refine State.stopRgn_kept _ _ (.of rfl hP) (.of rfl hR) ?_
            assumption
          · assumption
        · refine hv8 _
    · refine kept_ite _ _ _ ?_ ?_
      · refine State.put_kept _ _ _ _ (hR.bit rfl) ?_
        assumption
      · refine kept_ite _ _ _ ?_ ?_
        · refine State.rcmdEnd_kept _ _ _ ?_ (.of rfl hR) ?_
          · refine State.retEntry_kept _ _ (.of rfl hP) ?_
            assumption
          · assumption
        · refine hv8 _
    · refine kept_ite _ _ _ ?_ ?_
      · refine State.put_kept _ _ _ _ (hR.bit rfl) ?_
        assumption
      · refine kept_ite _ _ _ ?_ ?_
        · refine State.rcmdEnd_kept _ _ _ ?_ (.of rfl hR) ?_
          · refine State.retExit_kept _ _ (.of rfl hP) ?_
            assumption
          · assumption
        · refine hv8 _
    · refine State.put_kept _ _ _ _ (hR.bit rfl) ?_
      assumption

theorem State.meshWrite_kept (s : State) (p : FMaster) (d : Nat) (mesh : Bool) (hP : Sub 67109888 P) (hR : Sub
    0xc00000000000000000000000000000000000 R) (hk0 : Kept P R o s) : Kept P R o (State.meshWrite s p d mesh) := by
  delta State.meshWrite
  refine kept_ite _ _ _ ?_ ?_
  · assumption
  · refine kept_ite _ _ _ ?_ ?_
    · refine State.enqueue_kept _ _ _ (.of rfl hP) ?_
      refine State.put_kept _ _ _ _ (hR.bit rfl) ?_
      refine State.put_kept _ _ _ _ (hR.bit rfl) ?_
      assumption
    · refine State.queueFull_kept _ _ (.of rfl hP) ?_
      refine State.put_kept _ _ _ _ (hR.bit rfl) ?_
      assumption

theorem State.meshExec_kept (s : State) (d : Nat) (domain : Bool) (hP : Sub 4325376 P) (hR : Sub
    0x40800000000000000000000000000000000000 R) (hk0 : Kept P R o s) : Kept P R o (State.meshExec s d domain) := by
  delta State.meshExec
  extract_lets +onlyGivenNames -underBinder -merge v1
  have hv1 : Kept P R o v1 := by
    unfold v1
    refine State.put_kept _ _ _ _ (hR.bit rfl) ?_
    refine State.put_kept _ _ _ _ (hR.bit rfl) ?_
    assumption
  clear_value v1
  refine kept_ite _ _ _ ?_ ?_
  · refine kept_planLeft (v1) _ (hP.bit rfl) ?_
    assumption
  · extract_lets +onlyGivenNames -underBinder -merge v2
    have hv2 : Kept P R o v2 := by
      unfold v2
      refine kept_planLeft (v1) _ (hP.bit rfl) ?_
      assumption
    clear_value v2
    refine State.forEach_kept _ _ _ ?_ ?_
    · intro y1_0 y1_1 hy1_2
      refine State.openDue_kept _ _ _ (.of rfl hP) (.of rfl hR) ?_
      assumption
    · assumption

theorem State.planClose_kept (s : State) (d : Nat) (hP : Sub 4333568 P) (hR : Sub 0x40000000000000000000000000000000000000 R)
    (hk0 : Kept P R o s) : Kept P R o (State.planClose s d) := by
  delta State.planClose
  extract_lets +onlyGivenNames -underBinder -merge v1
  clear_value v1
  refine kept_ite _ _ _ ?_ ?_
  · extract_lets +onlyGivenNames -underBinder -merge v2
    have hv2 : Kept P R o v2 := by
      unfold v2
      refine kept_planLeft (s) _ (hP.bit rfl) ?_
      assumption
    clear_value v2
    refine State.forEach_kept _ _ _ ?_ ?_
    · intro y1_0 y1_1 hy1_2
      refine State.closeDue_kept _ _ _ (.of rfl hP) (.of rfl hR) ?_
      assumption
    · assumption
  · assumption

theorem State.domSetptWrite_kept (s : State) (p : FMaster) (d : Nat) (v : Nat) (sched : Bool) (hP : Sub 67372032 P) (hR : Sub
    0x1800000000000000000000000000000000000 R) (hk0 : Kept P R o s) : Kept P R o (State.domSetptWrite s p d v sched) := by
  delta State.domSetptWrite
  refine kept_ite _ _ _ ?_ ?_
  · refine kept_ite _ _ _ ?_ ?_
    · refine State.enqueue_kept _ _ _ (.of rfl hP) ?_
      refine State.put_kept _ _ _ _ (hR.bit rfl) ?_
      refine State.put_kept _ _ _ _ (hR.bit rfl) ?_
      assumption
    · refine State.queueFull_kept _ _ (.of rfl hP) ?_
      refine State.put_kept _ _ _ _ (hR.bit rfl) ?_
      assumption
  · extract_lets +onlyGivenNames -underBinder -merge v1
    have hv1 : Kept P R o v1 := by
      unfold v1
      refine State.put_kept _ _ _ _ (hR.bit rfl) ?_
      refine State.put_kept _ _ _ _ (hR.bit rfl) ?_
      assumption
    clear_value v1
    refine kept_domV (v1) _ (hP.bit rfl) ?_
    assumption

theorem State.rgnSetptWrite_kept (s : State) (p : FMaster) (n : Nat) (v : Nat) (sched : Bool) (hP : Sub 67118080 P) (hR : Sub
    0x8000800000000000000000000000000000000000 R) (hk0 : Kept P R o s) : Kept P R o (State.rgnSetptWrite s p n v sched) := by
  delta State.rgnSetptWrite
  extract_lets +onlyGivenNames -underBinder -merge v1
  clear_value v1
  refine kept_ite _ _ _ ?_ ?_
  · refine kept_ite _ _ _ ?_ ?_
    · refine State.enqueue_kept _ _ _ (.of rfl hP) ?_
      refine State.put_kept _ _ _ _ (hR.bit rfl) ?_
      refine State.put_kept _ _ _ _ (hR.bit rfl) ?_
      assumption
    · refine State.queueFull_kept _ _ (.of rfl hP) ?_
      refine State.put_kept _ _ _ _ (hR.bit rfl) ?_
      assumption
  · refine State.modRgn_kept _ _ _ (hP.bit rfl) ?_
    refine State.put_kept _ _ _ _ (hR.bit rfl) ?_
    refine State.put_kept _ _ _ _ (hR.bit rfl) ?_
    assumption

/-! ### Machine/Relay.lean -/

theorem State.draw_kept (s : State) (hP : Sub 274877906944 P) (hk0 : Kept P R o s) : Kept P R o s.draw.2 :=
  kept_freeCtr s _ (hP.bit rfl) hk0

theorem State.sendHello_kept (s : State) (p : Nat) (kg : BitVec 256) (hP : Sub 413390602240 P) (hk0 : Kept P R o s) : Kept P R
    o (State.sendHello s p kg) := by
  delta State.sendHello
  extract_lets +onlyGivenNames -underBinder -merge v1
  clear_value v1
  extract_lets +onlyGivenNames -underBinder -merge v2
  clear_value v2
  extract_lets +onlyGivenNames -underBinder -merge v3
  clear_value v3
  extract_lets +onlyGivenNames -underBinder -merge v4
  clear_value v4
  extract_lets +onlyGivenNames -underBinder -merge v5
  clear_value v5
  extract_lets +onlyGivenNames -underBinder -merge v6
  clear_value v6
  extract_lets +onlyGivenNames -underBinder -merge v7
  have hv7 : Kept P R o v7 := by
    unfold v7
    refine State.modPort_kept _ _ _ (.of rfl hP) ?_
    assumption
  clear_value v7
  refine kept_upd (v7) _ 412316860416 rfl ⟨_, rfl⟩ rfl (by intro p hp; cases p <;> first | rfl | cases hp) (.of rfl hP) ?_
  assumption

theorem State.sendReport_kept (s : State) (hP : Sub 138512695296 P) (hR : Sub 0x20000000000000000000000000 R) (hk0 : Kept P R
    o s) : Kept P R o (State.sendReport s) := by
  delta State.sendReport
  refine State.put_kept _ _ _ _ (hR.bit rfl) ?_
  refine State.postUp_kept _ _ _ (.of rfl hP) ?_
  assumption

theorem State.sendRequest_kept (s : State) (src : Nat) (hP : Sub 138512695296 P) (hk0 : Kept P R o s) : Kept P R o
    (State.sendRequest s src) := by
  delta State.sendRequest
  extract_lets +onlyGivenNames -underBinder -merge v1
  clear_value v1
  refine kept_ite _ _ _ ?_ ?_
  · assumption
  · refine State.postUp_kept _ _ _ (.of rfl hP) ?_
    assumption

theorem State.upRejoin_kept (s : State) (hP : Sub 138512695296 P) (hR : Sub 0x20000000000000000000000000 R) (hk0 : Kept P R o
    s) : Kept P R o (State.upRejoin s) := by
  delta State.upRejoin
  extract_lets +onlyGivenNames -underBinder -merge v1
  have hv1 : Kept P R o v1 := by
    unfold v1
    refine State.put_kept _ _ _ _ (hR.bit rfl) ?_
    assumption
  clear_value v1
  extract_lets +onlyGivenNames -underBinder -merge v2
  clear_value v2
  extract_lets +onlyGivenNames -underBinder -merge v3
  have hv3 : Kept P R o v3 := by
    unfold v3
    refine kept_relay (v1) _ (hP.bit rfl) ?_
    assumption
  clear_value v3
  extract_lets +onlyGivenNames -underBinder -merge v4
  have hv4 : Kept P R o v4 := by
    unfold v4
    refine State.sendReport_kept _ (.of rfl hP) (.of rfl hR) ?_
    refine State.postUp_kept _ _ _ (.of rfl hP) ?_
    assumption
  clear_value v4
  refine kept_ite _ _ _ ?_ ?_
  · refine State.forEach_kept _ _ _ ?_ ?_
    · intro y1_0 y1_1 hy1_2
      refine State.sendRequest_kept _ _ (.of rfl hP) ?_
      assumption
    · assumption
  · assumption

theorem State.downRejoin_kept (s : State) (p : Nat) (hP : Sub 138512695296 P) (hk0 : Kept P R o s) : Kept P R o
    (State.downRejoin s p) := by
  delta State.downRejoin
  extract_lets +onlyGivenNames -underBinder -merge v1
  have hv1 : Kept P R o v1 := by
    unfold v1
    split
    · refine State.post_kept _ _ _ _ (.of rfl hP) ?_
      assumption
    · assumption
  clear_value v1
  split
  · refine State.post_kept _ _ _ _ (.of rfl hP) ?_
    assumption
  · assumption

theorem State.rebuildCredit_kept (s : State) (p : Nat) (hP : Sub 138512695296 P) (hk0 : Kept P R o s) : Kept P R o
    (State.rebuildCredit s p) := by
  delta State.rebuildCredit
  refine State.forEach_kept _ _ _ ?_ ?_
  · intro y1_0 y1_1 hy1_2
    extract_lets +onlyGivenNames -underBinder -merge v1
    clear_value v1
    split
    · refine State.post_kept _ _ _ _ (.of rfl hP) ?_
      assumption
    · refine State.post_kept _ _ _ _ (.of rfl hP) ?_
      assumption
    · refine State.post_kept _ _ _ _ (.of rfl hP) ?_
      assumption
    · assumption
  · assumption

theorem State.addLnet_kept (s : State) (p : Nat) (x : Int) (hR : Sub 0x400000000000000000000000000 R) (hk0 : Kept P R o s) :
    Kept P R o (State.addLnet s p x) := by
  delta State.addLnet
  refine State.put_kept _ _ _ _ (hR.bit rfl) ?_
  assumption

theorem State.peerRestarted_kept (s : State) (p : Nat) (hP : Sub 536870912 P) (hR : Sub 0x400000000000000000000000000 R) (hk0
    : Kept P R o s) : Kept P R o (State.peerRestarted s p) := by
  delta State.peerRestarted
  extract_lets +onlyGivenNames -underBinder -merge v1
  have hv1 : Kept P R o v1 := by
    unfold v1
    refine State.forEach_kept _ _ _ ?_ ?_
    · intro y1_0 y1_1 hy1_2
      refine kept_ite _ _ _ ?_ ?_
      · refine State.crPhase_kept _ _ _ _ (.of rfl hP) ?_
        assumption
      · refine State.modEntry_kept _ _ _ _ (.of rfl hP) ?_
        assumption
    · assumption
  clear_value v1
  extract_lets +onlyGivenNames -underBinder -merge v2
  clear_value v2
  refine State.put_kept _ _ _ _ (hR.bit rfl) ?_
  refine kept_led (v1) _ (hP.bit rfl) ?_
  assumption

theorem State.peerBoot_kept (s : State) (p : Nat) (boot : Nat) (hP : Sub 1610612736 P) (hR : Sub 0x400000000000000000000000000
    R) (hk0 : Kept P R o s) : Kept P R o (State.peerBoot s p boot) := by
  delta State.peerBoot
  extract_lets +onlyGivenNames -underBinder -merge v1
  clear_value v1
  extract_lets +onlyGivenNames -underBinder -merge v2
  have hv2 : Kept P R o v2 := by
    unfold v2
    refine State.modPort_kept _ _ _ (.of rfl hP) ?_
    assumption
  clear_value v2
  refine kept_ite _ _ _ ?_ ?_
  · refine State.peerRestarted_kept _ _ (.of rfl hP) (.of rfl hR) ?_
    assumption
  · assumption

theorem State.portUp_kept (s : State) (p : Nat) (own : RHello) (peer : RHello) (hP : Sub 139049566208 P) (hR : Sub
    0x420000000000000000000000000 R) (hk0 : Kept P R o s) : Kept P R o (State.portUp s p own peer) := by
  delta State.portUp
  extract_lets +onlyGivenNames -underBinder -merge v1
  clear_value v1
  extract_lets +onlyGivenNames -underBinder -merge v2
  have hv2 : Kept P R o v2 := by
    unfold v2
    refine State.modPort_kept _ _ _ (.of rfl hP) ?_
    assumption
  clear_value v2
  extract_lets +onlyGivenNames -underBinder -merge v3
  have hv3 : Kept P R o v3 := by
    unfold v3
    refine State.rebuildCredit_kept _ _ (.of rfl hP) ?_
    refine State.peerBoot_kept _ _ _ (.of rfl hP) (.of rfl hR) ?_
    assumption
  clear_value v3
  refine kept_ite _ _ _ ?_ ?_
  · assumption
  · refine kept_ite _ _ _ ?_ ?_
    · refine State.upRejoin_kept _ (.of rfl hP) (.of rfl hR) ?_
      assumption
    · refine State.downRejoin_kept _ _ (.of rfl hP) ?_
      assumption

theorem State.judgeHello_kept (s : State) (p : Nat) (hP : Sub 139049566208 P) (hR : Sub 0x420000000000000000000000000 R) (hk0
    : Kept P R o s) : Kept P R o (State.judgeHello s p) := by
  delta State.judgeHello
  extract_lets +onlyGivenNames -underBinder -merge v1
  clear_value v1
  split
  · refine kept_ite _ _ _ ?_ ?_
    · assumption
    · refine kept_ite _ _ _ ?_ ?_
      · refine State.portUp_kept _ _ _ _ (.of rfl hP) (.of rfl hR) ?_
        assumption
      · refine State.modPort_kept _ _ _ (.of rfl hP) ?_
        assumption
  · assumption

theorem State.offerHello_kept (s : State) (p : Nat) (hP : Sub 413927473152 P) (hR : Sub 0x420000000000000000000000000 R) (hk0
    : Kept P R o s) : Kept P R o (State.offerHello s p) := by
  delta State.offerHello
  extract_lets +onlyGivenNames -underBinder -merge v1
  clear_value v1
  refine kept_ite _ _ _ ?_ ?_
  · assumption
  · refine kept_ite _ _ _ ?_ ?_
    · split
      · refine State.judgeHello_kept _ _ (.of rfl hP) (.of rfl hR) ?_
        refine State.sendHello_kept _ _ _ (.of rfl hP) ?_
        assumption
      · assumption
    · refine kept_ite _ _ _ ?_ ?_
      · refine State.judgeHello_kept _ _ (.of rfl hP) (.of rfl hR) ?_
        refine State.sendHello_kept _ _ _ (.of rfl hP) ?_
        assumption
      · assumption

theorem State.portDown_kept (s : State) (p : Nat) (hP : Sub 1140850688 P) (hk0 : Kept P R o s) : Kept P R o (State.portDown s
    p) := by
  delta State.portDown
  extract_lets +onlyGivenNames -underBinder -merge v1
  clear_value v1
  extract_lets +onlyGivenNames -underBinder -merge v2
  have hv2 : Kept P R o v2 := by
    unfold v2
    refine State.modPort_kept _ _ _ (.of rfl hP) ?_
    assumption
  clear_value v2
  extract_lets +onlyGivenNames -underBinder -merge v3
  clear_value v3
  extract_lets +onlyGivenNames -underBinder -merge v4
  have hv4 : Kept P R o v4 := by
    unfold v4
    refine kept_ite _ _ _ ?_ ?_
    · refine kept_relay (v2) _ (hP.bit rfl) ?_
      assumption
    · assumption
  clear_value v4
  refine kept_ite _ _ _ ?_ ?_
  · refine State.raise_kept _ _ _ _ _ _ (.of rfl hP) ?_
    assumption
  · assumption

theorem execPortAligned_kept (p : Fin 5) (s : State) (hP : Sub 1073741824 P) (hk0 : Kept P R o s) : KeptR P R o
    (execPortAligned p s) := by
  delta execPortAligned
  extract_lets +onlyGivenNames -underBinder -merge v1
  clear_value v1
  refine keptR_ite _ _ _ ?_ ?_
  · refine (KeptR_next _).mpr ?_
    assumption
  · refine (KeptR_next _).mpr ?_
    refine State.modPort_kept _ _ _ (.of rfl hP) ?_
    assumption

theorem execTrainEnd_kept (p : Fin 5) (s : State) (hP : Sub 413927473152 P) (hR : Sub 0x420000000000000000000000000 R) (hk0 :
    Kept P R o s) : KeptR P R o (execTrainEnd p s) := by
  delta execTrainEnd
  extract_lets +onlyGivenNames -underBinder -merge v1
  clear_value v1
  refine (KeptR_next _).mpr ?_
  refine kept_ite _ _ _ ?_ ?_
  · refine State.offerHello_kept _ _ (.of rfl hP) (.of rfl hR) ?_
    refine State.modPort_kept _ _ _ (.of rfl hP) ?_
    assumption
  · assumption

theorem execHelloTimeout_kept (p : Fin 5) (s : State) (hP : Sub 1140850688 P) (hk0 : Kept P R o s) : KeptR P R o
    (execHelloTimeout p s) := by
  delta execHelloTimeout
  extract_lets +onlyGivenNames -underBinder -merge v1
  clear_value v1
  refine (KeptR_next _).mpr ?_
  refine kept_ite _ _ _ ?_ ?_
  · refine State.portDown_kept _ _ (.of rfl hP) ?_
    assumption
  · assumption

theorem execRefusedTimeout_kept (p : Fin 5) (s : State) (hP : Sub 1140850688 P) (hk0 : Kept P R o s) : KeptR P R o
    (execRefusedTimeout p s) := by
  delta execRefusedTimeout
  extract_lets +onlyGivenNames -underBinder -merge v1
  clear_value v1
  refine (KeptR_next _).mpr ?_
  refine kept_ite _ _ _ ?_ ?_
  · refine State.portDown_kept _ _ (.of rfl hP) ?_
    assumption
  · assumption

theorem execAlignmentLoss_kept (p : Fin 5) (s : State) (hP : Sub 1140850688 P) (hR : Sub 0x1000000000000000000000000000 R)
    (hk0 : Kept P R o s) : KeptR P R o (execAlignmentLoss p s) := by
  delta execAlignmentLoss
  extract_lets +onlyGivenNames -underBinder -merge v1
  clear_value v1
  refine keptR_ite _ _ _ ?_ ?_
  · refine (KeptR_next _).mpr ?_
    assumption
  · extract_lets +onlyGivenNames -underBinder -merge v2
    have hv2 : Kept P R o v2 := by
      unfold v2
      refine State.bump_kept _ _ _ (hR.bit rfl) ?_
      refine State.modPort_kept _ _ _ (.of rfl hP) ?_
      assumption
    clear_value v2
    refine (KeptR_next _).mpr ?_
    refine kept_ite _ _ _ ?_ ?_
    · refine State.portDown_kept _ _ (.of rfl hP) ?_
      assumption
    · assumption

theorem execLinkLoss_kept (p : Fin 5) (s : State) (hP : Sub 1140850688 P) (hk0 : Kept P R o s) : KeptR P R o (execLinkLoss p
    s) := by
  delta execLinkLoss
  extract_lets +onlyGivenNames -underBinder -merge v1
  clear_value v1
  refine (KeptR_next _).mpr ?_
  refine kept_ite _ _ _ ?_ ?_
  · refine State.portDown_kept _ _ (.of rfl hP) ?_
    assumption
  · assumption

theorem execSeqExhausted_kept (p : Fin 5) (s : State) (hP : Sub 1140850688 P) (hk0 : Kept P R o s) : KeptR P R o
    (execSeqExhausted p s) := by
  delta execSeqExhausted
  extract_lets +onlyGivenNames -underBinder -merge v1
  clear_value v1
  refine (KeptR_next _).mpr ?_
  refine kept_ite _ _ _ ?_ ?_
  · refine State.portDown_kept _ _ (.of rfl hP) ?_
    assumption
  · assumption

theorem State.badFrame_kept (s : State) (x : Fld) (p : Nat) (hx_x : R.testBit (Reg.bit x.reg) = true) (hP : Sub 67108864 P)
    (hk0 : Kept P R o s) : Kept P R o (State.badFrame s x p) := by
  delta State.badFrame
  refine kept_ite _ _ _ ?_ ?_
  · assumption
  · refine State.raise_kept _ _ _ _ _ _ (.of rfl hP) ?_
    refine State.bump_kept _ _ _ ‹_› ?_
    assumption

theorem State.recvHello_kept (s : State) (p : Nat) (f : List Byte) (hP : Sub 413994582016 P) (hR : Sub
    0x1420000000000000000000000000 R) (hk0 : Kept P R o s) : Kept P R o (State.recvHello s p f) := by
  delta State.recvHello
  split
  · refine State.badFrame_kept _ _ _ (hR.bit rfl) (.of rfl hP) ?_
    assumption
  · extract_lets +onlyGivenNames -underBinder -merge v1
    clear_value v1
    refine kept_ite _ _ _ ?_ ?_
    · extract_lets +onlyGivenNames -underBinder -merge v2
      have hv2 : Kept P R o v2 := by
        unfold v2
        refine State.modPort_kept _ _ _ (.of rfl hP) ?_
        assumption
      clear_value v2
      refine State.judgeHello_kept _ _ (.of rfl hP) (.of rfl hR) ?_
      refine State.offerHello_kept _ _ (.of rfl hP) (.of rfl hR) ?_
      assumption
    · assumption

theorem State.takeAck_kept (s : State) (p : Nat) (mack : Nat) (hP : Sub 138512695296 P) (hk0 : Kept P R o s) : Kept P R o
    (State.takeAck s p mack) := by
  delta State.takeAck
  extract_lets +onlyGivenNames -underBinder -merge v1
  clear_value v1
  refine kept_ite _ _ _ ?_ ?_
  · extract_lets +onlyGivenNames -underBinder -merge v2
    clear_value v2
    extract_lets +onlyGivenNames -underBinder -merge v3
    have hv3 : Kept P R o v3 := by
      unfold v3
      refine State.modPort_kept _ _ _ (.of rfl hP) ?_
      assumption
    clear_value v3
    refine State.drain_kept _ _ _ (.of rfl hP) ?_
    assumption
  · assumption

theorem State.takeMessage_kept (s : State) (p : Nat) (m : List Byte) (hP : Sub 138512695296 P) (hR : Sub
    0x1000000000000000000000000000 R) (hk0 : Kept P R o s) : Kept P R o (State.takeMessage s p m) := by
  delta State.takeMessage
  extract_lets +onlyGivenNames -underBinder -merge v1
  clear_value v1
  extract_lets +onlyGivenNames -underBinder -merge v2
  extract_lets +onlyGivenNames -underBinder -merge v3
  have hv3 : Kept P R o v3 := by
    unfold v3
    refine State.takeAck_kept _ _ _ (.of rfl hP) ?_
    assumption
  clear_value v3
  refine kept_ite _ _ _ ?_ ?_
  · refine State.bump_kept _ _ _ (hR.bit rfl) ?_
    assumption
  · refine kept_ite _ _ _ ?_ ?_
    · assumption
    · extract_lets +onlyGivenNames -underBinder -merge v4
      have hv4 : Kept P R o v4 := by
        unfold v4
        refine kept_ite _ _ _ ?_ ?_
        · refine State.modPort_kept _ _ _ (.of rfl hP) ?_
          assumption
        · assumption
      clear_value v4
      refine kept_ite _ _ _ ?_ ?_
      · refine State.bump_kept _ _ _ (hR.bit rfl) ?_
        assumption
      · refine kept_relay (v4) _ (hP.bit rfl) ?_
        assumption

theorem State.recvData_kept (s : State) (p : Nat) (f : List Byte) (hP : Sub 138579804160 P) (hR : Sub
    0x1000000000000000000000000000 R) (hk0 : Kept P R o s) : Kept P R o (State.recvData s p f) := by
  delta State.recvData
  extract_lets +onlyGivenNames -underBinder -merge v1
  clear_value v1
  split
  · assumption
  · refine kept_ite _ _ _ ?_ ?_
    · assumption
    · split
      · refine State.badFrame_kept _ _ _ (hR.bit rfl) (.of rfl hP) ?_
        assumption
      · extract_lets +onlyGivenNames -underBinder -merge v2
        clear_value v2
        extract_lets +onlyGivenNames -underBinder -merge v3
        clear_value v3
        split
        · refine State.badFrame_kept _ _ _ (hR.bit rfl) (.of rfl hP) ?_
          assumption
        · split
          · refine State.badFrame_kept _ _ _ (hR.bit rfl) (.of rfl hP) ?_
            assumption
          · extract_lets +onlyGivenNames -underBinder -merge v4
            have hv4 : Kept P R o v4 := by
              unfold v4
              refine State.modPort_kept _ _ _ (.of rfl hP) ?_
              assumption
            clear_value v4
            extract_lets +onlyGivenNames -underBinder -merge v5
            clear_value v5
            extract_lets +onlyGivenNames -underBinder -merge v6
            have hv6 : Kept P R o v6 := by
              unfold v6
              refine kept_relay (v4) _ (hP.bit rfl) ?_
              assumption
            clear_value v6
            extract_lets +onlyGivenNames -underBinder -merge v7
            have hv7 : Kept P R o v7 := by
              unfold v7
              refine kept_ite _ _ _ ?_ ?_
              · assumption
              · refine kept_ite _ _ _ ?_ ?_
                · refine State.post_kept _ _ _ _ (.of rfl hP) ?_
                  assumption
                · assumption
            clear_value v7
            refine State.takeMessage_kept _ _ _ (.of rfl hP) (.of rfl hR) ?_
            assumption

theorem State.recvFrame_kept (s : State) (p : Nat) (f : List Byte) (hP : Sub 413994582016 P) (hR : Sub
    0x1420000000000000000000000000 R) (hk0 : Kept P R o s) : Kept P R o (State.recvFrame s p f) := by
  delta State.recvFrame
  refine kept_ite _ _ _ ?_ ?_
  · assumption
  · refine kept_ite _ _ _ ?_ ?_
    · refine State.bump_kept _ _ _ (hR.bit rfl) ?_
      assumption
    · refine kept_ite _ _ _ ?_ ?_
      · refine State.recvHello_kept _ _ _ (.of rfl hP) (.of rfl hR) ?_
        assumption
      · refine State.recvData_kept _ _ _ (.of rfl hP) (.of rfl hR) ?_
        assumption

theorem execHello_kept (p : Fin 5) (frame : List Byte) (s : State) (hP : Sub 413994582016 P) (hR : Sub
    0x1420000000000000000000000000 R) (hk0 : Kept P R o s) : KeptR P R o (execHello p frame s) := by
  delta execHello
  refine (KeptR_next _).mpr ?_
  refine State.recvFrame_kept _ _ _ (.of rfl hP) (.of rfl hR) ?_
  assumption

theorem execDataFrame_kept (p : Fin 5) (frame : List Byte) (s : State) (hP : Sub 413994582016 P) (hR : Sub
    0x1420000000000000000000000000 R) (hk0 : Kept P R o s) : KeptR P R o (execDataFrame p frame s) := by
  delta execDataFrame
  refine (KeptR_next _).mpr ?_
  refine State.recvFrame_kept _ _ _ (.of rfl hP) (.of rfl hR) ?_
  assumption

theorem execFrameSendDue_kept (p : Fin 5) (s : State) (hP : Sub 138512695296 P) (hk0 : Kept P R o s) : KeptR P R o
    (execFrameSendDue p s) := by
  delta execFrameSendDue
  extract_lets +onlyGivenNames -underBinder -merge v1
  clear_value v1
  refine (KeptR_next _).mpr ?_
  refine kept_ite _ _ _ ?_ ?_
  · refine State.sendFrame_kept _ _ _ _ _ (.of rfl hP) ?_
    assumption
  · assumption

theorem execReliableResend_kept (p : Fin 5) (s : State) (hP : Sub 138512695296 P) (hk0 : Kept P R o s) : KeptR P R o
    (execReliableResend p s) := by
  delta execReliableResend
  extract_lets +onlyGivenNames -underBinder -merge v1
  clear_value v1
  refine (KeptR_next _).mpr ?_
  refine kept_ite _ _ _ ?_ ?_
  · refine State.modPort_kept _ _ _ (.of rfl hP) ?_
    refine State.forEach_kept _ _ _ ?_ ?_
    · intro y1_0 y1_1 hy1_2
      refine State.sendFrame_kept _ _ _ _ _ (.of rfl hP) ?_
      assumption
    · assumption
  · assumption

theorem State.startRekey_kept (s : State) (p : Nat) (hP : Sub 413390602240 P) (hk0 : Kept P R o s) : Kept P R o
    (State.startRekey s p) := by
  delta State.startRekey
  refine kept_ite _ _ _ ?_ ?_
  · assumption
  · extract_lets +onlyGivenNames -underBinder -merge v1
    have hv1 : Kept P R o v1.2 := by
      unfold v1
      refine State.draw_kept _ (.of rfl hP) ?_
      assumption
    clear_value v1
    extract_lets +onlyGivenNames -underBinder -merge v2
    have hv2 : Kept P R o v2 := by
      unfold v2
      refine State.modPort_kept _ _ _ (.of rfl hP) ?_
      assumption
    clear_value v2
    refine State.post_kept _ _ _ _ (.of rfl hP) ?_
    assumption

theorem execRekeyStart_kept (p : Fin 5) (s : State) (hP : Sub 413390602240 P) (hk0 : Kept P R o s) : KeptR P R o
    (execRekeyStart p s) := by
  delta execRekeyStart
  extract_lets +onlyGivenNames -underBinder -merge v1
  clear_value v1
  refine (KeptR_next _).mpr ?_
  refine kept_ite _ _ _ ?_ ?_
  · refine State.startRekey_kept _ _ (.of rfl hP) ?_
    assumption
  · assumption

theorem execEpochGraceEnd_kept (p : Fin 5) (s : State) (hP : Sub 1073741824 P) (hk0 : Kept P R o s) : KeptR P R o
    (execEpochGraceEnd p s) := by
  delta execEpochGraceEnd
  split
  · refine (KeptR_next _).mpr ?_
    refine kept_ite _ _ _ ?_ ?_
    · refine State.modPort_kept _ _ _ (.of rfl hP) ?_
      assumption
    · assumption
  · refine (KeptR_next _).mpr ?_
    assumption

theorem State.popMsg_kept (s : State) (p : Nat) (t : Nat) (body : BitVec 272) (hP : Sub 1073741824 P) (hk0 : Kept P R o s) :
    Kept P R o (State.popMsg s p t body) := by
  delta State.popMsg
  refine kept_relay (s) _ (hP.bit rfl) ?_
  assumption

theorem execRekey_kept (p : Fin 5) (body : BitVec 272) (s : State) (hP : Sub 413390602240 P) (hk0 : Kept P R o s) : KeptR P R
    o (execRekey p body s) := by
  delta execRekey
  extract_lets +onlyGivenNames -underBinder -merge v1
  clear_value v1
  extract_lets +onlyGivenNames -underBinder -merge v2
  have hv2 : Kept P R o v2 := by
    unfold v2
    refine State.popMsg_kept _ _ _ _ (.of rfl hP) ?_
    assumption
  clear_value v2
  extract_lets +onlyGivenNames -underBinder -merge v3
  clear_value v3
  split
  · refine (KeptR_next _).mpr ?_
    assumption
  · refine keptR_ite _ _ _ ?_ ?_
    · refine (KeptR_next _).mpr ?_
      assumption
    · extract_lets +onlyGivenNames -underBinder -merge v4
      have hv4 : Kept P R o v4.2 := by
        unfold v4
        refine State.draw_kept _ (.of rfl hP) ?_
        assumption
      clear_value v4
      extract_lets +onlyGivenNames -underBinder -merge v5
      clear_value v5
      extract_lets +onlyGivenNames -underBinder -merge v6
      have hv6 : Kept P R o v6 := by
        unfold v6
        refine State.post_kept _ _ _ _ (.of rfl hP) ?_
        refine State.modPort_kept _ _ _ (.of rfl hP) ?_
        assumption
      clear_value v6
      refine (KeptR_next _).mpr ?_
      refine State.modPort_kept _ _ _ (.of rfl hP) ?_
      assumption

theorem execRekeyAck_kept (p : Fin 5) (body : BitVec 272) (s : State) (hP : Sub 1073741824 P) (hk0 : Kept P R o s) : KeptR P R
    o (execRekeyAck p body s) := by
  delta execRekeyAck
  extract_lets +onlyGivenNames -underBinder -merge v1
  clear_value v1
  extract_lets +onlyGivenNames -underBinder -merge v2
  have hv2 : Kept P R o v2 := by
    unfold v2
    refine State.popMsg_kept _ _ _ _ (.of rfl hP) ?_
    assumption
  clear_value v2
  extract_lets +onlyGivenNames -underBinder -merge v3
  clear_value v3
  split
  · refine keptR_ite _ _ _ ?_ ?_
    · refine (KeptR_next _).mpr ?_
      assumption
    · extract_lets +onlyGivenNames -underBinder -merge v4
      clear_value v4
      refine (KeptR_next _).mpr ?_
      refine State.modPort_kept _ _ _ (.of rfl hP) ?_
      assumption
  · refine (KeptR_next _).mpr ?_
    assumption

theorem execReport_kept (p : Fin 5) (body : BitVec 272) (s : State) (hP : Sub 1073741824 P) (hR : Sub
    0x20000000000000000000000000 R) (hk0 : Kept P R o s) : KeptR P R o (execReport p body s) := by
  delta execReport
  extract_lets +onlyGivenNames -underBinder -merge v1
  clear_value v1
  refine (KeptR_next _).mpr ?_
  refine State.put_kept _ _ _ _ (hR.bit rfl) ?_
  refine State.modPort_kept _ _ _ (.of rfl hP) ?_
  refine State.popMsg_kept _ _ _ _ (.of rfl hP) ?_
  assumption

theorem execReportDue_kept (s : State) (hP : Sub 138512695296 P) (hR : Sub 0x20000000000000000000000000 R) (hk0 : Kept P R o
    s) : KeptR P R o (execReportDue s) := by
  delta execReportDue
  refine (KeptR_next _).mpr ?_
  refine kept_ite _ _ _ ?_ ?_
  · refine State.sendReport_kept _ (.of rfl hP) (.of rfl hR) ?_
    assumption
  · assumption

theorem execRequest_kept (p : Fin 5) (body : BitVec 272) (s : State) (hP : Sub 138579805184 P) (hR : Sub 0x4000000000000 R)
    (hk0 : Kept P R o s) : KeptR P R o (execRequest p body s) := by
  delta execRequest
  refine (KeptR_next _).mpr ?_
  refine State.recordReq_kept _ _ _ _ _ (.of rfl hP) (.of rfl hR) ?_
  refine State.popMsg_kept _ _ _ _ (.of rfl hP) ?_
  assumption

theorem execOrder_kept (p : Fin 5) (body : BitVec 272) (s : State) (hP : Sub 138579805184 P) (hR : Sub 0x4000000000000 R) (hk0
    : Kept P R o s) : KeptR P R o (execOrder p body s) := by
  delta execOrder
  extract_lets +onlyGivenNames -underBinder -merge v1
  have hv1 : Kept P R o v1 := by
    unfold v1
    refine State.popMsg_kept _ _ _ _ (.of rfl hP) ?_
    assumption
  clear_value v1
  extract_lets +onlyGivenNames -underBinder -merge v2
  clear_value v2
  extract_lets +onlyGivenNames -underBinder -merge v3
  have hv3 : Kept P R o v3 := by
    unfold v3
    refine State.postDown_kept _ _ _ (.of rfl hP) ?_
    refine kept_relay (v1) _ (hP.bit rfl) ?_
    assumption
  clear_value v3
  refine (KeptR_next _).mpr ?_
  refine State.takeOrder_kept _ _ _ _ (.of rfl hP) (.of rfl hR) ?_
  assumption

theorem execOrderNak_kept (p : Fin 5) (body : BitVec 272) (s : State) (hP : Sub 138512695296 P) (hk0 : Kept P R o s) : KeptR P
    R o (execOrderNak p body s) := by
  delta execOrderNak
  extract_lets +onlyGivenNames -underBinder -merge v1
  have hv1 : Kept P R o v1 := by
    unfold v1
    refine State.popMsg_kept _ _ _ _ (.of rfl hP) ?_
    assumption
  clear_value v1
  refine (KeptR_next _).mpr ?_
  refine kept_ite _ _ _ ?_ ?_
  · refine kept_relay (v1) _ (hP.bit rfl) ?_
    assumption
  · refine State.postUp_kept _ _ _ (.of rfl hP) ?_
    assumption

theorem execDelay_kept (p : Fin 5) (body : BitVec 272) (s : State) (hP : Sub 207290901504 P) (hR : Sub
    0x200000000000000000000000000000000000 R) (hk0 : Kept P R o s) : KeptR P R o (execDelay p body s) := by
  delta execDelay
  extract_lets +onlyGivenNames -underBinder -merge v1
  have hv1 : Kept P R o v1 := by
    unfold v1
    refine State.popMsg_kept _ _ _ _ (.of rfl hP) ?_
    assumption
  clear_value v1
  extract_lets +onlyGivenNames -underBinder -merge v2
  clear_value v2
  extract_lets +onlyGivenNames -underBinder -merge v3
  clear_value v3
  refine keptR_ite _ _ _ ?_ ?_
  · extract_lets +onlyGivenNames -underBinder -merge v4
    have hv4 : Kept P R o v4.1 := by
      unfold v4
      refine State.masterDelay_kept _ _ _ (.of rfl hP) ?_
      assumption
    clear_value v4
    refine (KeptR_next _).mpr ?_
    refine kept_ite _ _ _ ?_ ?_
    · refine State.applyDelay_kept _ _ _ (.of rfl hP) (.of rfl hR) ?_
      assumption
    · assumption
  · refine (KeptR_next _).mpr ?_
    refine State.postUp_kept _ _ _ (.of rfl hP) ?_
    assumption

theorem execDelayOrder_kept (p : Fin 5) (body : BitVec 272) (s : State) (hP : Sub 207290901504 P) (hR : Sub
    0x200000000000000000000000000000000000 R) (hk0 : Kept P R o s) : KeptR P R o (execDelayOrder p body s) := by
  delta execDelayOrder
  refine (KeptR_next _).mpr ?_
  refine State.applyDelay_kept _ _ _ (.of rfl hP) (.of rfl hR) ?_
  refine State.postDown_kept _ _ _ (.of rfl hP) ?_
  refine State.popMsg_kept _ _ _ _ (.of rfl hP) ?_
  assumption

theorem State.obeyEmerg_kept (s : State) (kind : Nat) (cause : Nat) (step : Nat) (hP : Sub 207441903616 P) (hR : Sub
    0x200000000000000000000244000000000000 R) (hk0 : Kept P R o s) : Kept P R o (State.obeyEmerg s kind cause step) := by
  delta State.obeyEmerg
  split
  · refine State.enterLowest_kept _ _ _ (.of rfl hP) (.of rfl hR) ?_
    assumption
  · refine kept_ite _ _ _ ?_ ?_
    · refine State.lowExit_kept _ (.of rfl hP) (.of rfl hR) ?_
      assumption
    · refine kept_lim (s) _ (hP.bit rfl) ?_
      assumption
  · refine kept_lim (s) _ (hP.bit rfl) ?_
    assumption
  · assumption

theorem execEmerg_kept (p : Fin 5) (body : BitVec 272) (s : State) (hP : Sub 207441903616 P) (hR : Sub
    0x200000000000000000000244000000000000 R) (hk0 : Kept P R o s) : KeptR P R o (execEmerg p body s) := by
  delta execEmerg
  extract_lets +onlyGivenNames -underBinder -merge v1
  have hv1 : Kept P R o v1 := by
    unfold v1
    refine State.popMsg_kept _ _ _ _ (.of rfl hP) ?_
    assumption
  clear_value v1
  refine keptR_ite _ _ _ ?_ ?_
  · refine (KeptR_next _).mpr ?_
    refine State.postUp_kept _ _ _ (.of rfl hP) ?_
    assumption
  · extract_lets +onlyGivenNames -underBinder -merge v2
    clear_value v2
    extract_lets +onlyGivenNames -underBinder -merge v3
    have hv3 : Kept P R o v3 := by
      unfold v3
      refine State.masterEmerg_kept _ _ _ _ _ (.of rfl hP) ?_
      assumption
    clear_value v3
    extract_lets +onlyGivenNames -underBinder -merge v4
    have hv4 : Kept P R o v4 := by
      unfold v4
      refine kept_ite _ _ _ ?_ ?_
      · refine State.enterLowest_kept _ _ _ (.of rfl hP) (.of rfl hR) ?_
        assumption
      · assumption
    clear_value v4
    refine (KeptR_next _).mpr ?_
    refine kept_ite _ _ _ ?_ ?_
    · refine State.lowExit_kept _ (.of rfl hP) (.of rfl hR) ?_
      assumption
    · assumption

theorem execEmergOrder_kept (p : Fin 5) (body : BitVec 272) (s : State) (hP : Sub 207441903616 P) (hR : Sub
    0x200000000000000000000244000000000000 R) (hk0 : Kept P R o s) : KeptR P R o (execEmergOrder p body s) := by
  delta execEmergOrder
  extract_lets +onlyGivenNames -underBinder -merge v1
  have hv1 : Kept P R o v1 := by
    unfold v1
    refine State.popMsg_kept _ _ _ _ (.of rfl hP) ?_
    assumption
  clear_value v1
  extract_lets +onlyGivenNames -underBinder -merge v2
  clear_value v2
  extract_lets +onlyGivenNames -underBinder -merge v3
  have hv3 : Kept P R o v3 := by
    unfold v3
    refine State.postDown_kept _ _ _ (.of rfl hP) ?_
    refine kept_relay (v1) _ (hP.bit rfl) ?_
    assumption
  clear_value v3
  refine (KeptR_next _).mpr ?_
  refine State.obeyEmerg_kept _ _ _ _ (.of rfl hP) (.of rfl hR) ?_
  assumption

theorem execActingMaster_kept (s : State) (hP : Sub 138579805184 P) (hR : Sub 0x20000000000004000000000000 R) (hk0 : Kept P R
    o s) : KeptR P R o (execActingMaster s) := by
  delta execActingMaster
  extract_lets +onlyGivenNames -underBinder -merge v1
  clear_value v1
  refine (KeptR_next _).mpr ?_
  refine kept_ite _ _ _ ?_ ?_
  · extract_lets +onlyGivenNames -underBinder -merge v2
    have hv2 : Kept P R o v2 := by
      unfold v2
      refine State.put_kept _ _ _ _ (hR.bit rfl) ?_
      assumption
    clear_value v2
    refine kept_ite _ _ _ ?_ ?_
    · refine State.masterOrders_kept _ _ (.of rfl hP) (.of rfl hR) ?_
      assumption
    · assumption
  · assumption

theorem State.grantFor_kept (s : State) (id weight : Nat) (hP : Sub 1073741824 P) (hk0 : Kept P R o s) :
    Kept P R o (s.grantFor id weight).2 := by
  unfold State.grantFor
  split
  · exact hk0
  · dsimp only
    split
    · exact hk0
    · exact kept_relay s _ (hP.bit rfl) hk0

theorem State.masterJoin_kept (s : State) (p : Nat) (id : Nat) (boot : Nat) (weight : Nat) (hP : Sub 138579805184 P) (hR : Sub
    0x4000000000000 R) (hk0 : Kept P R o s) : Kept P R o (State.masterJoin s p id boot weight) := by
  delta State.masterJoin
  extract_lets +onlyGivenNames -underBinder -merge v1
  clear_value v1
  extract_lets +onlyGivenNames -underBinder -merge v2
  have hv2 : Kept P R o v2 := by
    unfold v2
    refine kept_relay (s) _ (hP.bit rfl) ?_
    assumption
  clear_value v2
  refine kept_ite _ _ _ ?_ ?_
  · extract_lets +onlyGivenNames -underBinder -merge v3
    have hv3 : Kept P R o v3.2 := by
      unfold v3
      refine State.grantFor_kept _ _ _ (.of rfl hP) ?_
      assumption
    clear_value v3
    refine State.post_kept _ _ _ _ (.of rfl hP) ?_
    assumption
  · refine State.sendOrder_kept _ _ _ (.of rfl hP) (.of rfl hR) ?_
    assumption

theorem execJoin_kept (p : Fin 5) (body : BitVec 272) (s : State) (hP : Sub 139116676096 P) (hR : Sub
    0x400000000000004000000000000 R) (hk0 : Kept P R o s) : KeptR P R o (execJoin p body s) := by
  delta execJoin
  extract_lets +onlyGivenNames -underBinder -merge v1
  clear_value v1
  extract_lets +onlyGivenNames -underBinder -merge v2
  have hv2 : Kept P R o v2 := by
    unfold v2
    refine State.popMsg_kept _ _ _ _ (.of rfl hP) ?_
    assumption
  clear_value v2
  extract_lets +onlyGivenNames -underBinder -merge v3
  clear_value v3
  extract_lets +onlyGivenNames -underBinder -merge v4
  clear_value v4
  extract_lets +onlyGivenNames -underBinder -merge v5
  have hv5 : Kept P R o v5 := by
    unfold v5
    refine kept_ite _ _ _ ?_ ?_
    · refine State.peerBoot_kept _ _ _ (.of rfl hP) (.of rfl hR) ?_
      assumption
    · assumption
  clear_value v5
  refine keptR_ite _ _ _ ?_ ?_
  · refine (KeptR_next _).mpr ?_
    refine State.masterJoin_kept _ _ _ _ _ (.of rfl hP) (.of rfl hR) ?_
    assumption
  · refine (KeptR_next _).mpr ?_
    refine State.postUp_kept _ _ _ (.of rfl hP) ?_
    refine kept_relay (v5) _ (hP.bit rfl) ?_
    assumption

theorem execGrant_kept (p : Fin 5) (body : BitVec 272) (s : State) (hP : Sub 139049566208 P) (hR : Sub
    0x80000000000000000000000 R) (hk0 : Kept P R o s) : KeptR P R o (execGrant p body s) := by
  delta execGrant
  extract_lets +onlyGivenNames -underBinder -merge v1
  have hv1 : Kept P R o v1 := by
    unfold v1
    refine State.popMsg_kept _ _ _ _ (.of rfl hP) ?_
    assumption
  clear_value v1
  split
  · extract_lets +onlyGivenNames -underBinder -merge v2
    extract_lets +onlyGivenNames -underBinder -merge v3
    have hv3 : Kept P R o v3 := by
      unfold v3
      refine kept_relay (v1) _ (hP.bit rfl) ?_
      assumption
    refine (KeptR_next _).mpr ?_
    refine kept_ite _ _ _ ?_ ?_
    · refine State.post_kept _ _ _ _ (.of rfl hP) ?_
      unfold v3
      refine kept_relay (v1) _ (hP.bit rfl) ?_
      assumption
    · refine kept_ite _ _ _ ?_ ?_
      · unfold v3
        refine kept_relay (v1) _ (hP.bit rfl) ?_
        assumption
      · refine State.enterCredit_kept _ (.of rfl hP) ?_
        refine State.put_kept _ _ _ _ (hR.bit rfl) ?_
        unfold v3
        refine kept_relay (v1) _ (hP.bit rfl) ?_
        assumption
  · refine (KeptR_next _).mpr ?_
    refine kept_ite _ _ _ ?_ ?_
    · assumption
    · refine State.enterCredit_kept _ (.of rfl hP) ?_
      refine State.put_kept _ _ _ _ (hR.bit rfl) ?_
      assumption

theorem execCrReq_kept (p : Fin 5) (body : BitVec 272) (s : State) (hP : Sub 139049566208 P) (hk0 : Kept P R o s) : KeptR P R
    o (execCrReq p body s) := by
  delta execCrReq
  extract_lets +onlyGivenNames -underBinder -merge v1
  have hv1 : Kept P R o v1 := by
    unfold v1
    refine State.popMsg_kept _ _ _ _ (.of rfl hP) ?_
    assumption
  clear_value v1
  extract_lets +onlyGivenNames -underBinder -merge v2
  clear_value v2
  extract_lets +onlyGivenNames -underBinder -merge v3
  clear_value v3
  refine keptR_ite _ _ _ ?_ ?_
  · refine (KeptR_next _).mpr ?_
    assumption
  · extract_lets +onlyGivenNames -underBinder -merge v4
    clear_value v4
    extract_lets +onlyGivenNames -underBinder -merge v5
    clear_value v5
    extract_lets +onlyGivenNames -underBinder -merge v6
    have hv6 : Kept P R o v6 := by
      unfold v6
      refine kept_relay (v1) _ (hP.bit rfl) ?_
      assumption
    clear_value v6
    refine (KeptR_next _).mpr ?_
    refine State.post_kept _ _ _ _ (.of rfl hP) ?_
    refine State.crPrepare_kept _ _ (.of rfl hP) ?_
    assumption

theorem State.prepAck_kept (s : State) (e : CrEntry) (hP : Sub 139049566208 P) (hk0 : Kept P R o s) : Kept P R o
    (State.prepAck s e) := by
  delta State.prepAck
  refine State.post_kept _ _ _ _ (.of rfl hP) ?_
  refine State.modEntry_kept _ _ _ _ (.of rfl hP) ?_
  assumption

theorem execCrPrep_kept (p : Fin 5) (body : BitVec 272) (s : State) (hP : Sub 139049566208 P) (hk0 : Kept P R o s) : KeptR P R
    o (execCrPrep p body s) := by
  delta execCrPrep
  extract_lets +onlyGivenNames -underBinder -merge v1
  have hv1 : Kept P R o v1 := by
    unfold v1
    refine State.popMsg_kept _ _ _ _ (.of rfl hP) ?_
    assumption
  clear_value v1
  extract_lets +onlyGivenNames -underBinder -merge v2
  clear_value v2
  refine keptR_ite _ _ _ ?_ ?_
  · refine (KeptR_next _).mpr ?_
    assumption
  · split
    · refine (KeptR_next _).mpr ?_
      refine kept_ite _ _ _ ?_ ?_
      · refine State.prepAck_kept _ _ (.of rfl hP) ?_
        assumption
      · assumption
    · refine keptR_ite _ _ _ ?_ ?_
      · refine (KeptR_next _).mpr ?_
        assumption
      · extract_lets +onlyGivenNames -underBinder -merge v3
        clear_value v3
        refine (KeptR_next _).mpr ?_
        refine State.prepAck_kept _ _ (.of rfl hP) ?_
        refine State.crPrepare_kept _ _ (.of rfl hP) ?_
        assumption

theorem execCrPrepAck_kept (p : Fin 5) (body : BitVec 272) (s : State) (hP : Sub 139049566208 P) (hR : Sub
    0x400000000000000000000000000 R) (hk0 : Kept P R o s) : KeptR P R o (execCrPrepAck p body s) := by
  delta execCrPrepAck
  extract_lets +onlyGivenNames -underBinder -merge v1
  have hv1 : Kept P R o v1 := by
    unfold v1
    refine State.popMsg_kept _ _ _ _ (.of rfl hP) ?_
    assumption
  clear_value v1
  split
  · refine (KeptR_next _).mpr ?_
    assumption
  · extract_lets +onlyGivenNames -underBinder -merge v2
    clear_value v2
    split
    · refine (KeptR_next _).mpr ?_
      refine State.post_kept _ _ _ _ (.of rfl hP) ?_
      refine State.addLnet_kept _ _ _ (.of rfl hR) ?_
      refine State.crPhase_kept _ _ _ _ (.of rfl hP) ?_
      assumption
    · refine (KeptR_next _).mpr ?_
      refine State.post_kept _ _ _ _ (.of rfl hP) ?_
      assumption
    · refine (KeptR_next _).mpr ?_
      refine State.post_kept _ _ _ _ (.of rfl hP) ?_
      assumption

theorem execCrCommit_kept (p : Fin 5) (body : BitVec 272) (s : State) (hP : Sub 139049566208 P) (hR : Sub
    0x400000000000000000000000000 R) (hk0 : Kept P R o s) : KeptR P R o (execCrCommit p body s) := by
  delta execCrCommit
  extract_lets +onlyGivenNames -underBinder -merge v1
  have hv1 : Kept P R o v1 := by
    unfold v1
    refine State.popMsg_kept _ _ _ _ (.of rfl hP) ?_
    assumption
  clear_value v1
  split
  · refine (KeptR_next _).mpr ?_
    assumption
  · extract_lets +onlyGivenNames -underBinder -merge v2
    clear_value v2
    split
    · refine (KeptR_next _).mpr ?_
      refine State.post_kept _ _ _ _ (.of rfl hP) ?_
      refine State.addLnet_kept _ _ _ (.of rfl hR) ?_
      refine State.crPhase_kept _ _ _ _ (.of rfl hP) ?_
      assumption
    · refine (KeptR_next _).mpr ?_
      refine State.post_kept _ _ _ _ (.of rfl hP) ?_
      assumption
    · refine (KeptR_next _).mpr ?_
      assumption

theorem execCrDone_kept (p : Fin 5) (body : BitVec 272) (s : State) (hP : Sub 1610612736 P) (hk0 : Kept P R o s) : KeptR P R o
    (execCrDone p body s) := by
  delta execCrDone
  refine (KeptR_next _).mpr ?_
  refine State.modEntry_kept _ _ _ _ (.of rfl hP) ?_
  refine State.popMsg_kept _ _ _ _ (.of rfl hP) ?_
  assumption

theorem execCrAbort_kept (p : Fin 5) (body : BitVec 272) (s : State) (hP : Sub 1610612736 P) (hk0 : Kept P R o s) : KeptR P R
    o (execCrAbort p body s) := by
  delta execCrAbort
  extract_lets +onlyGivenNames -underBinder -merge v1
  have hv1 : Kept P R o v1 := by
    unfold v1
    refine State.popMsg_kept _ _ _ _ (.of rfl hP) ?_
    assumption
  clear_value v1
  split
  · refine (KeptR_next _).mpr ?_
    refine kept_ite _ _ _ ?_ ?_
    · refine State.crPhase_kept _ _ _ _ (.of rfl hP) ?_
      assumption
    · assumption
  · refine (KeptR_next _).mpr ?_
    assumption

theorem execCrPrepTimeout_kept (tid : Nat) (s : State) (hP : Sub 139049566208 P) (hk0 : Kept P R o s) : KeptR P R o
    (execCrPrepTimeout tid s) := by
  delta execCrPrepTimeout
  split
  · refine (KeptR_next _).mpr ?_
    refine kept_ite _ _ _ ?_ ?_
    · refine State.post_kept _ _ _ _ (.of rfl hP) ?_
      refine State.crPhase_kept _ _ _ _ (.of rfl hP) ?_
      assumption
    · assumption
  · refine (KeptR_next _).mpr ?_
    assumption

theorem execCrPrepAckResend_kept (s : State) (hP : Sub 139049566208 P) (hk0 : Kept P R o s) : KeptR P R o (execCrPrepAckResend
    s) := by
  delta execCrPrepAckResend
  refine (KeptR_next _).mpr ?_
  refine State.forEach_kept _ _ _ ?_ ?_
  · intro y1_0 y1_1 hy1_2
    refine State.prepAck_kept _ _ (.of rfl hP) ?_
    assumption
  · assumption

/-! ### Machine/Sample.lean -/

theorem State.judgeMerges_kept (s : State) (running : Bool) (hP : Sub 206267740160 P) (hR : Sub
    0x10040200000000000000000000000000000000000 R) (hk0 : Kept P R o s) : Kept P R o (State.judgeMerges s running) := by
  delta State.judgeMerges
  refine State.forEach_kept _ _ _ ?_ ?_
  · intro y1_0 y1_1 hy1_2
    refine kept_ite _ _ _ ?_ ?_
    · assumption
    · refine kept_ite _ _ _ ?_ ?_
      · refine State.judgeClose_kept _ _ _ (.of rfl hP) (.of rfl hR) ?_
        assumption
      · refine kept_ite _ _ _ ?_ ?_
        · refine State.judgeOpen_kept _ _ (.of rfl hP) (.of rfl hR) ?_
          assumption
        · assumption
  · assumption

theorem State.bootTrack_kept (s : State) (hP : Sub 8590073856 P) (hR : Sub 0x40000000000000000000000000000000000000 R) (hk0 :
    Kept P R o s) : Kept P R o (State.bootTrack s) := by
  delta State.bootTrack
  refine kept_ite _ _ _ ?_ ?_
  · assumption
  · extract_lets +onlyGivenNames -underBinder -merge v1
    clear_value v1
    refine kept_ite _ _ _ ?_ ?_
    · refine kept_boot (s) _ (hP.bit rfl) ?_
      assumption
    · extract_lets +onlyGivenNames -underBinder -merge v2
      clear_value v2
      extract_lets +onlyGivenNames -underBinder -merge v3
      have hv3 : Kept P R o v3 := by
        unfold v3
        refine kept_boot (s) _ (hP.bit rfl) ?_
        assumption
      clear_value v3
      extract_lets +onlyGivenNames -underBinder -merge v4
      have hv4 : Kept P R o v4 := by
        unfold v4
        refine kept_ite _ _ _ ?_ ?_
        · assumption
        · refine kept_ite _ _ _ ?_ ?_
          · assumption
          · refine State.forEach_kept _ _ _ ?_ ?_
            · intro y1_0 y1_1 hy1_2
              refine State.closeDue_kept _ _ _ (.of rfl hP) (.of rfl hR) ?_
              assumption
            · assumption
      clear_value v4
      extract_lets +onlyGivenNames -underBinder -merge v5
      clear_value v5
      refine kept_boot (v4) _ (hP.bit rfl) ?_
      assumption

theorem State.unsyncRgn_kept (s : State) (n : Nat) (hP : Sub 206233939968 P) (hR : Sub
    0x10000200000000000000000000000000000000000 R) (hk0 : Kept P R o s) : Kept P R o (State.unsyncRgn s n) := by
  delta State.unsyncRgn
  extract_lets +onlyGivenNames -underBinder -merge v1
  have hv1 : Kept P R o v1 := by
    unfold v1
    refine State.stopLanes_kept _ _ (.of rfl hP) ?_
    assumption
  clear_value v1
  extract_lets +onlyGivenNames -underBinder -merge v2
  have hv2 : Kept P R o v2 := by
    unfold v2
    refine kept_ite _ _ _ ?_ ?_
    · refine State.islandEntry_kept _ _ (.of rfl hP) (.of rfl hR) ?_
      assumption
    · assumption
  clear_value v2
  extract_lets +onlyGivenNames -underBinder -merge v3
  have hv3 : Kept P R o v3 := by
    unfold v3
    refine State.degrade_kept _ _ (.of rfl hP) (.of rfl hR) ?_
    assumption
  clear_value v3
  refine kept_ite _ _ _ ?_ ?_
  · refine State.darkToOff_kept _ _ (.of rfl hP) ?_
    assumption
  · assumption

theorem State.unsyncSample_kept (s : State) (hP : Sub 206267740160 P) (hR : Sub 0x10040200000000000000000000000000000000000 R)
    (hk0 : Kept P R o s) : Kept P R o (State.unsyncSample s) := by
  delta State.unsyncSample
  refine kept_ite _ _ _ ?_ ?_
  · refine State.judgeMerges_kept _ _ (.of rfl hP) (.of rfl hR) ?_
    refine State.forEach_kept _ _ _ ?_ ?_
    · intro y1_0 y1_1 hy1_2
      refine State.unsyncRgn_kept _ _ (.of rfl hP) (.of rfl hR) ?_
      assumption
    · assumption
  · assumption

theorem State.limitsSample_kept (s : State) (hP : Sub 134225920 P) (hk0 : Kept P R o s) : Kept P R o (State.limitsSample s) :=
    by
  delta State.limitsSample
  extract_lets +onlyGivenNames -underBinder -merge v1
  clear_value v1
  extract_lets +onlyGivenNames -underBinder -merge v2
  have hv2 : Kept P R o v2 := by
    unfold v2
    refine State.forEach_kept _ _ _ ?_ ?_
    · intro y1_0 y1_1 hy1_2
      refine State.modRgn_kept _ _ _ (hP.bit rfl) ?_
      assumption
    · assumption
  clear_value v2
  refine kept_lim (v2) _ (hP.bit rfl) ?_
  assumption

theorem State.pacerSample_kept (s : State) (hP : Sub 33554432 P) (hk0 : Kept P R o s) : Kept P R o (State.pacerSample s) := by
  delta State.pacerSample
  extract_lets +onlyGivenNames -underBinder -merge v1
  clear_value v1
  refine kept_pacer (s) _ (hP.bit rfl) ?_
  assumption

theorem State.pfSample_kept (s : State) (hP : Sub 68719476736 P) (hR : Sub 0x200000000000000000000000000000000000 R) (hk0 :
    Kept P R o s) : Kept P R o (State.pfSample s) := by
  delta State.pfSample
  refine kept_ite _ _ _ ?_ ?_
  · assumption
  · extract_lets +onlyGivenNames -underBinder -merge v1
    clear_value v1
    extract_lets +onlyGivenNames -underBinder -merge v2
    have hv2 : Kept P R o v2 := by
      unfold v2
      refine kept_pf (s) _ (hP.bit rfl) ?_
      assumption
    clear_value v2
    refine kept_ite _ _ _ ?_ ?_
    · refine State.forEach_kept _ _ _ ?_ ?_
      · intro y1_0 y1_1 hy1_2
        refine State.pfRecord_kept _ _ _ (.of rfl hP) (.of rfl hR) ?_
        assumption
      · assumption
    · assumption

theorem State.trialClock_kept (s : State) (hP : Sub 8589934592 P) (hk0 : Kept P R o s) : Kept P R o (State.trialClock s) := by
  delta State.trialClock
  refine kept_ite _ _ _ ?_ ?_
  · refine kept_boot (s) _ (hP.bit rfl) ?_
    assumption
  · assumption

theorem State.samplePeriod_kept (s : State) (rs : List (Nat × RgnRead)) (hP : Sub 215813979154 P) (hR : Sub
    0x410640200000000000000000000004000000000000 R) (hk0 : Kept P R o s) : Kept P R o (State.samplePeriod s rs) := by
  delta State.samplePeriod
  extract_lets +onlyGivenNames -underBinder -merge v1
  have hv1 : Kept P R o v1 := by
    unfold v1
    refine State.stride_kept _ _ (.of rfl hP) (.of rfl hR) ?_
    refine State.immSetpts_kept _ (.of rfl hP) (.of rfl hR) ?_
    assumption
  clear_value v1
  extract_lets +onlyGivenNames -underBinder -merge v2
  have hv2 : Kept P R o v2 := by
    unfold v2
    refine kept_ite _ _ _ ?_ ?_
    · refine State.ackState_kept _ _ (.of rfl hP) (.of rfl hR) ?_
      assumption
    · assumption
  clear_value v2
  extract_lets +onlyGivenNames -underBinder -merge v3
  have hv3 : Kept P R o v3 := by
    unfold v3
    refine State.lowRelease_kept _ (.of rfl hP) (.of rfl hR) ?_
    refine State.finishSlots_kept _ (.of rfl hP) (.of rfl hR) ?_
    refine State.bootTrack_kept _ (.of rfl hP) (.of rfl hR) ?_
    refine State.unsyncSample_kept _ (.of rfl hP) (.of rfl hR) ?_
    assumption
  clear_value v3
  extract_lets +onlyGivenNames -underBinder -merge v4
  have hv4 : Kept P R o v4 := by
    unfold v4
    refine State.pfSample_kept _ (.of rfl hP) (.of rfl hR) ?_
    refine State.pacerSample_kept _ (.of rfl hP) ?_
    refine State.telemetrySample_kept _ (.of rfl hP) (.of rfl hR) ?_
    refine State.meter_kept _ (.of rfl hP) ?_
    refine State.limitsSample_kept _ (.of rfl hP) ?_
    assumption
  clear_value v4
  extract_lets +onlyGivenNames -underBinder -merge v5
  have hv5 : Kept P R o v5 := by
    unfold v5
    refine kept_ite _ _ _ ?_ ?_
    · refine State.showLevel_kept _ (.of rfl hP) ?_
      assumption
    · assumption
  clear_value v5
  extract_lets +onlyGivenNames -underBinder -merge v6
  have hv6 : Kept P R o v6 := by
    unfold v6
    refine State.trialClock_kept _ (.of rfl hP) ?_
    assumption
  clear_value v6
  refine kept_now (v6) _ (hP.bit rfl) ?_
  assumption

theorem execSamplePeriod_kept (rs : List (Nat × RgnRead)) (s : State) (hP : Sub 215813979154 P) (hR : Sub
    0x410640200000000000000000000004000000000000 R) (hk0 : Kept P R o s) : KeptR P R o (execSamplePeriod rs s) := by
  delta execSamplePeriod
  refine checked_kept _ _ _ ?_
  refine (KeptR_next _).mpr ?_
  refine kept_ite _ _ _ ?_ ?_
  · refine State.samplePeriod_kept _ _ (.of rfl hP) (.of rfl hR) ?_
    assumption
  · assumption

/-! ### Machine/Pair.lean -/

theorem State.pairPost_kept (s : State) (t : Nat) (body : Nat) (hP : Sub 138512695296 P) (hk0 : Kept P R o s) : Kept P R o
    (State.pairPost s t body) := by
  delta State.pairPost
  split
  · refine State.post_kept _ _ _ _ (.of rfl hP) ?_
    assumption
  · assumption

theorem State.askResync_kept (s : State) (hP : Sub 138512695296 P) (hk0 : Kept P R o s) : Kept P R o (State.askResync s) := by
  delta State.askResync
  refine State.pairPost_kept _ _ _ (.of rfl hP) ?_
  assumption

theorem execHeartbeat_kept (p : Fin 5) (body : BitVec 272) (s : State) (hP : Sub 1073741824 P) (hk0 : Kept P R o s) : KeptR P
    R o (execHeartbeat p body s) := by
  delta execHeartbeat
  extract_lets +onlyGivenNames -underBinder -merge v1
  have hv1 : Kept P R o v1 := by
    unfold v1
    refine State.popMsg_kept _ _ _ _ (.of rfl hP) ?_
    assumption
  clear_value v1
  refine (KeptR_next _).mpr ?_
  refine kept_ite _ _ _ ?_ ?_
  · refine kept_relay (v1) _ (hP.bit rfl) ?_
    assumption
  · assumption

theorem State.takeDigest_kept (s : State) (hP : Sub 1082130432 P) (hk0 : Kept P R o s) : Kept P R o (State.takeDigest s) := by
  delta State.takeDigest
  refine kept_ite _ _ _ ?_ ?_
  · refine kept_relay (s) _ (hP.bit rfl) ?_
    assumption
  · assumption

theorem execDigestDue_kept (s : State) (hP : Sub 138512695296 P) (hk0 : Kept P R o s) : KeptR P R o (execDigestDue s) := by
  delta execDigestDue
  refine (KeptR_next _).mpr ?_
  refine kept_ite _ _ _ ?_ ?_
  · refine State.pairPost_kept _ _ _ (.of rfl hP) ?_
    assumption
  · assumption

theorem execDigest_kept (p : Fin 5) (body : BitVec 272) (s : State) (hP : Sub 138512695296 P) (hR : Sub
    0x20000000000000000000000000 R) (hk0 : Kept P R o s) : KeptR P R o (execDigest p body s) := by
  delta execDigest
  extract_lets +onlyGivenNames -underBinder -merge v1
  have hv1 : Kept P R o v1 := by
    unfold v1
    refine State.popMsg_kept _ _ _ _ (.of rfl hP) ?_
    assumption
  clear_value v1
  refine keptR_ite _ _ _ ?_ ?_
  · refine (KeptR_next _).mpr ?_
    assumption
  · refine keptR_ite _ _ _ ?_ ?_
    · refine (KeptR_next _).mpr ?_
      refine kept_relay (v1) _ (hP.bit rfl) ?_
      assumption
    · refine keptR_ite _ _ _ ?_ ?_
      · refine (KeptR_next _).mpr ?_
        refine kept_relay (v1) _ (hP.bit rfl) ?_
        assumption
      · refine (KeptR_next _).mpr ?_
        refine State.askResync_kept _ (.of rfl hP) ?_
        refine State.put_kept _ _ _ _ (hR.bit rfl) ?_
        refine kept_relay (v1) _ (hP.bit rfl) ?_
        assumption

theorem State.streamResync_kept (s : State) (hP : Sub 413398990848 P) (hk0 : Kept P R o s) : Kept P R o (State.streamResync s)
    := by
  delta State.streamResync
  extract_lets +onlyGivenNames -underBinder -merge v1
  clear_value v1
  extract_lets +onlyGivenNames -underBinder -merge v2
  have hv2 : Kept P R o v2 := by
    unfold v2
    refine State.forEach_kept _ _ _ ?_ ?_
    · intro y1_0 y1_1 hy1_2
      refine State.pairPost_kept _ _ _ (.of rfl hP) ?_
      assumption
    · assumption
  clear_value v2
  extract_lets +onlyGivenNames -underBinder -merge v3
  have hv3 : Kept P R o v3 := by
    unfold v3
    refine State.pairPost_kept _ _ _ (.of rfl hP) ?_
    assumption
  clear_value v3
  refine kept_freeCtr (v3) _ (hP.bit rfl) ?_
  assumption

theorem execResync_kept (p : Fin 5) (body : BitVec 272) (s : State) (hP : Sub 413398990848 P) (hk0 : Kept P R o s) : KeptR P R
    o (execResync p body s) := by
  delta execResync
  extract_lets +onlyGivenNames -underBinder -merge v1
  have hv1 : Kept P R o v1 := by
    unfold v1
    refine State.popMsg_kept _ _ _ _ (.of rfl hP) ?_
    assumption
  clear_value v1
  refine keptR_ite _ _ _ ?_ ?_
  · refine (KeptR_next _).mpr ?_
    assumption
  · split
    · refine (KeptR_next _).mpr ?_
      refine kept_ite _ _ _ ?_ ?_
      · refine State.streamResync_kept _ (.of rfl hP) ?_
        assumption
      · assumption
    · refine (KeptR_next _).mpr ?_
      refine kept_ite _ _ _ ?_ ?_
      · refine kept_relay (v1) _ (hP.bit rfl) ?_
        assumption
      · assumption
    · refine (KeptR_next _).mpr ?_
      refine kept_ite _ _ _ ?_ ?_
      · refine kept_relay (v1) _ (hP.bit rfl) ?_
        assumption
      · assumption
    · refine (KeptR_next _).mpr ?_
      assumption

theorem State.loadItem_kept (s : State) (x : ShadowItem) (hP : Sub 729826304 P) (hR : Sub allRegs R) (hk0 : Kept P R o s) :
    Kept P R o (State.loadItem s x) := by
  unfold State.loadItem
  split
  · split
    · exact State.setReg_kept _ _ _ _ (allRegs_bit hR _) hk0
    · exact hk0
  · exact State.modHeat_kept _ _ _ (hP.bit rfl) hk0
  · exact State.modSlot_kept _ _ _ (hP.bit rfl) hk0
  · exact kept_baton _ _ (hP.bit rfl) hk0
  · exact kept_pacer _ _ (hP.bit rfl) hk0
  · exact kept_lim _ _ (hP.bit rfl) hk0
  · exact kept_led _ _ (hP.bit rfl) hk0
  · exact kept_step _ _ (hP.bit rfl) hk0

theorem State.resyncLoad_kept (s : State) (hP : Sub 1803568128 P) (hR : Sub allRegs R) (hk0 : Kept P R o s) : Kept P R o
    (State.resyncLoad s) := by
  delta State.resyncLoad
  split
  · refine kept_ite _ _ _ ?_ ?_
    · extract_lets +onlyGivenNames -underBinder -merge v1
      have hv1 : Kept P R o v1 := by
        unfold v1
        refine State.forEach_kept _ _ _ ?_ ?_
        · intro y1_0 y1_1 hy1_2
          refine State.loadItem_kept _ _ (.of rfl hP) (.of rfl hR) ?_
          assumption
        · assumption
      clear_value v1
      refine State.put_kept _ _ _ _ (hR.bit rfl) ?_
      refine kept_relay (v1) _ (hP.bit rfl) ?_
      assumption
    · assumption
  · assumption

theorem State.planSwitch_kept (s : State) (hP : Sub 1073741824 P) (hR : Sub 0x20000000000000000000000000 R) (hk0 : Kept P R o
    s) : Kept P R o (State.planSwitch s) := by
  delta State.planSwitch
  refine kept_ite _ _ _ ?_ ?_
  · assumption
  · extract_lets +onlyGivenNames -underBinder -merge v1
    clear_value v1
    extract_lets +onlyGivenNames -underBinder -merge v2
    have hv2 : Kept P R o v2 := by
      unfold v2
      refine kept_relay (s) _ (hP.bit rfl) ?_
      assumption
    clear_value v2
    split
    · refine State.put_kept _ _ _ _ (hR.bit rfl) ?_
      assumption
    · refine State.put_kept _ _ _ _ (hR.bit rfl) ?_
      assumption
    · assumption

theorem State.resendAcks_kept (s : State) (hP : Sub 206166818816 P) (hR : Sub 0x200000000000000000000000000000000000 R) (hk0 :
    Kept P R o s) : Kept P R o (State.resendAcks s) := by
  delta State.resendAcks
  extract_lets +onlyGivenNames -underBinder -merge v1
  clear_value v1
  refine State.forEach_kept _ _ _ ?_ ?_
  · intro y1_0 y1_1 hy1_2
    split
    · refine State.sendAck_kept _ _ _ (.of rfl hP) (.of rfl hR) ?_
      assumption
    · assumption
  · assumption

theorem State.failOver_kept (s : State) (hP : Sub 207240560640 P) (hR : Sub 0x200000000020000000000000000000000000 R) (hk0 :
    Kept P R o s) : Kept P R o (State.failOver s) := by
  delta State.failOver
  extract_lets +onlyGivenNames -underBinder -merge v1
  have hv1 : Kept P R o v1 := by
    unfold v1
    refine kept_ite _ _ _ ?_ ?_
    · refine State.put_kept _ _ _ _ (hR.bit rfl) ?_
      assumption
    · assumption
  clear_value v1
  extract_lets +onlyGivenNames -underBinder -merge v2
  have hv2 : Kept P R o v2 := by
    unfold v2
    refine kept_ite _ _ _ ?_ ?_
    · refine State.put_kept _ _ _ _ (hR.bit rfl) ?_
      assumption
    · assumption
  clear_value v2
  extract_lets +onlyGivenNames -underBinder -merge v3
  clear_value v3
  extract_lets +onlyGivenNames -underBinder -merge v4
  have hv4 : Kept P R o v4 := by
    unfold v4
    refine State.put_kept _ _ _ _ (hR.bit rfl) ?_
    refine kept_relay (v2) _ (hP.bit rfl) ?_
    assumption
  clear_value v4
  refine State.resendAcks_kept _ (.of rfl hP) (.of rfl hR) ?_
  refine State.ackState_kept _ _ (.of rfl hP) (.of rfl hR) ?_
  assumption

theorem execHeartbeatLost_kept (s : State) (hP : Sub 207307669504 P) (hR : Sub 0x200000000020000000000000000000000000 R) (hk0
    : Kept P R o s) : KeptR P R o (execHeartbeatLost s) := by
  delta execHeartbeatLost
  extract_lets +onlyGivenNames -underBinder -merge v1
  clear_value v1
  refine keptR_ite _ _ _ ?_ ?_
  · refine (KeptR_next _).mpr ?_
    assumption
  · refine keptR_ite _ _ _ ?_ ?_
    · extract_lets +onlyGivenNames -underBinder -merge v2
      clear_value v2
      extract_lets +onlyGivenNames -underBinder -merge v3
      have hv3 : Kept P R o v3 := by
        unfold v3
        refine State.raise_kept _ _ _ _ _ _ (.of rfl hP) ?_
        refine kept_relay (s) _ (hP.bit rfl) ?_
        assumption
      clear_value v3
      refine (KeptR_next _).mpr ?_
      refine kept_ite _ _ _ ?_ ?_
      · refine State.failOver_kept _ (.of rfl hP) (.of rfl hR) ?_
        assumption
      · assumption
    · refine (KeptR_next _).mpr ?_
      assumption

theorem execPairFence_kept (s : State) (hP : Sub 542633910328 P) (hR : Sub 0x200000000000200dc041002000001f803400000000003a08
    R) (hk0 : Kept P R o s) : KeptR P R o (execPairFence s) := by
  delta execPairFence
  refine (KeptR_next _).mpr ?_
  refine kept_ite _ _ _ ?_ ?_
  · assumption
  · refine State.enterBlockReset_kept _ _ (.of rfl hP) (.of rfl hR) ?_
    refine State.put_kept _ _ _ _ (hR.bit rfl) ?_
    refine kept_relay (s) _ (hP.bit rfl) ?_
    assumption

theorem execFenceRelease_kept (s : State) (hP : Sub 1073741824 P) (hR : Sub 0x20000000000000000000000000 R) (hk0 : Kept P R o
    s) : KeptR P R o (execFenceRelease s) := by
  delta execFenceRelease
  split
  · refine (KeptR_next _).mpr ?_
    refine kept_ite _ _ _ ?_ ?_
    · refine kept_relay (s) _ (hP.bit rfl) ?_
      assumption
    · assumption
  · refine (KeptR_next _).mpr ?_
    refine kept_ite _ _ _ ?_ ?_
    · refine State.put_kept _ _ _ _ (hR.bit rfl) ?_
      refine kept_relay (s) _ (hP.bit rfl) ?_
      assumption
    · assumption

/-! ### Machine/Boundary.lean -/

theorem binUpdate_kept (s : State) (r : Nat) (b : Nat) (x : Int) (hP : Sub 33554432 P) (hk0 : Kept P R o s) : Kept P R o
    (binUpdate s r b x) := by
  delta binUpdate
  extract_lets +onlyGivenNames -underBinder -merge v1
  clear_value v1
  refine kept_pacer (s) _ (hP.bit rfl) ?_
  assumption

theorem State.learn_kept (s : State) (n : Nat) (t : Nat) (m : Nat) (hP : Sub 33554432 P) (hk0 : Kept P R o s) : Kept P R o
    (State.learn s n t m) := by
  delta State.learn
  extract_lets +onlyGivenNames -underBinder -merge v1
  clear_value v1
  extract_lets +onlyGivenNames -underBinder -merge v2
  clear_value v2
  extract_lets +onlyGivenNames -underBinder -merge v3
  clear_value v3
  extract_lets +onlyGivenNames -underBinder -merge v4
  clear_value v4
  extract_lets +onlyGivenNames -underBinder -merge v5
  clear_value v5
  extract_lets +onlyGivenNames -underBinder -merge v6
  clear_value v6
  extract_lets +onlyGivenNames -underBinder -merge v7
  clear_value v7
  extract_lets +onlyGivenNames -underBinder -merge v8
  clear_value v8
  refine binUpdate_kept _ _ _ _ (.of rfl hP) ?_
  refine binUpdate_kept _ _ _ _ (.of rfl hP) ?_
  assumption

theorem State.endStepRgn_kept (s : State) (t : Nat) (n : Nat) (hP : Sub 33562624 P) (hk0 : Kept P R o s) : Kept P R o
    (State.endStepRgn s t n) := by
  delta State.endStepRgn
  extract_lets +onlyGivenNames -underBinder -merge v1
  clear_value v1
  extract_lets +onlyGivenNames -underBinder -merge v2
  clear_value v2
  extract_lets +onlyGivenNames -underBinder -merge v3
  clear_value v3
  extract_lets +onlyGivenNames -underBinder -merge v4
  clear_value v4
  extract_lets +onlyGivenNames -underBinder -merge v5
  have hv5 : Kept P R o v5 := by
    unfold v5
    refine kept_ite _ _ _ ?_ ?_
    · refine State.learn_kept _ _ _ _ (.of rfl hP) ?_
      assumption
    · assumption
  clear_value v5
  refine State.modRgn_kept _ _ _ (hP.bit rfl) ?_
  assumption

theorem State.windowStart_kept (s : State) (hP : Sub 33562624 P) (hk0 : Kept P R o s) : Kept P R o (State.windowStart s) := by
  delta State.windowStart
  refine kept_ite _ _ _ ?_ ?_
  · extract_lets +onlyGivenNames -underBinder -merge v1
    have hv1 : Kept P R o v1 := by
      unfold v1
      refine State.forEach_kept _ _ _ ?_ ?_
      · intro y1_0 y1_1 hy1_2
        refine State.modRgn_kept _ _ _ (hP.bit rfl) ?_
        assumption
      · assumption
    clear_value v1
    refine kept_pacer (v1) _ (hP.bit rfl) ?_
    assumption
  · assumption

theorem State.endStep_kept (s : State) (t : Nat) (hP : Sub 33563648 P) (hk0 : Kept P R o s) : Kept P R o (State.endStep s t)
    := by
  delta State.endStep
  extract_lets +onlyGivenNames -underBinder -merge v1
  have hv1 : Kept P R o v1 := by
    unfold v1
    refine State.windowStart_kept _ (.of rfl hP) ?_
    assumption
  clear_value v1
  extract_lets +onlyGivenNames -underBinder -merge v2
  have hv2 : Kept P R o v2 := by
    unfold v2
    refine State.forEach_kept _ _ _ ?_ ?_
    · intro y1_0 y1_1 hy1_2
      refine State.endStepRgn_kept _ _ _ (.of rfl hP) ?_
      assumption
    · assumption
  clear_value v2
  refine kept_upd (v2) _ 33555456 rfl ⟨[], (List.append_nil _).symm⟩ rfl (by intro p hp; cases p <;> first | rfl | cases hp) (.of rfl hP) ?_
  assumption

theorem State.execAction_kept (s : State) (e : QEntry) (hP : Sub 220918608896 P) (hR : Sub
    0x400010040a00800000000020420000004000000000000 R) (hk0 : Kept P R o s) : Kept P R o (State.execAction s e) := by
  delta State.execAction
  split
  · refine State.ctxAction_kept _ _ (.of rfl hP) (.of rfl hR) ?_
    assumption
  · refine State.ctxAction_kept _ _ (.of rfl hP) (.of rfl hR) ?_
    assumption
  · refine State.stretchExec_kept _ _ _ _ (.of rfl hP) ?_
    assumption
  · refine State.meshExec_kept _ _ _ (.of rfl hP) (.of rfl hR) ?_
    assumption
  · refine State.closeDue_kept _ _ _ (.of rfl hP) (.of rfl hR) ?_
    assumption
  · refine State.openDue_kept _ _ _ (.of rfl hP) (.of rfl hR) ?_
    assumption
  · refine State.mapSpare_kept _ _ _ (.of rfl hP) (.of rfl hR) ?_
    assumption
  · refine State.rcmdEnd_kept _ _ _ ?_ (.of rfl hR) ?_
    · refine State.stopRgn_kept _ _ (.of rfl hP) (.of rfl hR) ?_
      assumption
    · assumption
  · refine State.rcmdEnd_kept _ _ _ ?_ (.of rfl hR) ?_
    · refine State.startRgn_kept _ _ (.of rfl hP) (.of rfl hR) ?_
      assumption
    · assumption
  · refine State.rcmdEnd_kept _ _ _ ?_ (.of rfl hR) ?_
    · refine State.retEntry_kept _ _ (.of rfl hP) ?_
      assumption
    · assumption
  · refine State.rcmdEnd_kept _ _ _ ?_ (.of rfl hR) ?_
    · refine State.retExit_kept _ _ (.of rfl hP) ?_
      assumption
    · assumption
  · refine State.setptDue_kept _ _ _ (.of rfl hP) (.of rfl hR) ?_
    assumption
  · refine State.execLift_kept _ _ (.of rfl hP) ?_
    assumption
  · refine State.endLift_kept _ _ (.of rfl hP) ?_
    assumption
  · refine kept_domV (s) _ (hP.bit rfl) ?_
    assumption
  · refine State.modRgn_kept _ _ _ (hP.bit rfl) ?_
    assumption
  · refine State.wakeHeat_kept _ _ (.of rfl hP) ?_
    assumption
  · refine State.wakeLane_kept _ _ (.of rfl hP) (.of rfl hR) ?_
    assumption
  · refine State.enterBurst_kept _ _ (.of rfl hP) ?_
    assumption
  · refine State.laneOffAt_kept _ _ (.of rfl hP) (.of rfl hR) ?_
    assumption
  · refine State.retireLane_kept _ _ _ (.of rfl hP) (.of rfl hR) ?_
    assumption
  · refine State.setPeriod_kept _ _ _ (.of rfl hP) ?_
    assumption

theorem State.runRank_kept (s : State) (k : Nat) (pick : QEntry → Bool) (hP : Sub 220918608896 P) (hR : Sub
    0x400010040a00800000000020420000004000000000000 R) (hk0 : Kept P R o s) : Kept P R o (State.runRank s k pick) := by
  delta State.runRank
  refine State.forEach_kept _ _ _ ?_ ?_
  · intro y1_0 y1_1 hy1_2
    refine kept_ite _ _ _ ?_ ?_
    · refine State.execAction_kept _ _ (.of rfl hP) (.of rfl hR) ?_
      refine kept_step (y1_0) _ (hP.bit rfl) ?_
      assumption
    · assumption
  · assumption

theorem State.runAll_kept (s : State) (k : Nat) (hP : Sub 220918608896 P) (hR : Sub
    0x400010040a00800000000020420000004000000000000 R) (hk0 : Kept P R o s) : Kept P R o (State.runAll s k) := by
  delta State.runAll
  refine State.runRank_kept _ _ _ (.of rfl hP) (.of rfl hR) ?_
  assumption

theorem State.boundaryRgn_kept (s : State) (n : Nat) (hP : Sub 206233939968 P) (hR : Sub
    0x10000200000000000000000000000000000000000 R) (hk0 : Kept P R o s) : Kept P R o (State.boundaryRgn s n) := by
  delta State.boundaryRgn
  extract_lets +onlyGivenNames -underBinder -merge v1
  have hv1 : Kept P R o v1 := by
    unfold v1
    refine State.stopLanes_kept _ _ (.of rfl hP) ?_
    assumption
  clear_value v1
  extract_lets +onlyGivenNames -underBinder -merge v2
  have hv2 : Kept P R o v2 := by
    unfold v2
    refine kept_ite _ _ _ ?_ ?_
    · refine State.islandEntry_kept _ _ (.of rfl hP) (.of rfl hR) ?_
      assumption
    · assumption
  clear_value v2
  extract_lets +onlyGivenNames -underBinder -merge v3
  have hv3 : Kept P R o v3 := by
    unfold v3
    refine State.degrade_kept _ _ (.of rfl hP) (.of rfl hR) ?_
    assumption
  clear_value v3
  extract_lets +onlyGivenNames -underBinder -merge v4
  have hv4 : Kept P R o v4 := by
    unfold v4
    refine kept_ite _ _ _ ?_ ?_
    · refine State.darkToOff_kept _ _ (.of rfl hP) ?_
      assumption
    · assumption
  clear_value v4
  refine State.modRgn_kept _ _ _ (hP.bit rfl) ?_
  assumption

theorem State.reofferRescue_kept (s : State) (n : Nat) (hP : Sub 138714031104 P) (hR : Sub 0x4000000000000 R) (hk0 : Kept P R
    o s) : Kept P R o (State.reofferRescue s n) := by
  delta State.reofferRescue
  split
  · refine kept_ite _ _ _ ?_ ?_
    · refine State.scheduleRescue_kept _ _ _ (.of rfl hP) (.of rfl hR) ?_
      assumption
    · refine State.modRgn_kept _ _ _ (hP.bit rfl) ?_
      assumption
  · assumption

theorem State.boundaryTime_kept (s : State) (hP : Sub 220918608896 P) (hR : Sub
    0x400010040a00800000000020420000004000000000040 R) (hk0 : Kept P R o s) : Kept P R o (State.boundaryTime s) := by
  delta State.boundaryTime
  extract_lets +onlyGivenNames -underBinder -merge v1
  have hv1 : Kept P R o v1 := by
    unfold v1
    refine State.runAll_kept _ _ (.of rfl hP) (.of rfl hR) ?_
    refine State.finishScrub_kept _ (.of rfl hP) (.of rfl hR) ?_
    assumption
  clear_value v1
  extract_lets +onlyGivenNames -underBinder -merge v2
  clear_value v2
  extract_lets +onlyGivenNames -underBinder -merge v3
  have hv3 : Kept P R o v3 := by
    unfold v3
    refine State.runAll_kept _ _ (.of rfl hP) (.of rfl hR) ?_
    refine State.applyLevel_kept _ (.of rfl hP) (.of rfl hR) ?_
    refine State.runRank_kept _ _ _ (.of rfl hP) (.of rfl hR) ?_
    assumption
  clear_value v3
  refine kept_ite _ _ _ ?_ ?_
  · refine kept_pacer (v3) _ (hP.bit rfl) ?_
    assumption
  · assumption

theorem State.boundaryRegions_kept (s : State) (hP : Sub 220918707200 P) (hR : Sub
    0x400410040a00800000000020420000004000000000000 R) (hk0 : Kept P R o s) : Kept P R o (State.boundaryRegions s) := by
  delta State.boundaryRegions
  extract_lets +onlyGivenNames -underBinder -merge v1
  have hv1 : Kept P R o v1 := by
    unfold v1
    refine State.runAll_kept _ _ (.of rfl hP) (.of rfl hR) ?_
    refine State.forEach_kept _ _ _ ?_ ?_
    · intro y1_0 y1_1 hy1_2
      refine State.boundaryRgn_kept _ _ (.of rfl hP) (.of rfl hR) ?_
      assumption
    · assumption
  clear_value v1
  extract_lets +onlyGivenNames -underBinder -merge v2
  have hv2 : Kept P R o v2 := by
    unfold v2
    refine State.forEach_kept _ _ _ ?_ ?_
    · intro y1_0 y1_1 hy1_2
      refine State.reofferRescue_kept _ _ (.of rfl hP) (.of rfl hR) ?_
      assumption
    · refine State.forEach_kept _ _ _ ?_ ?_
      · intro y1_0 y1_1 hy1_2
        refine State.planClose_kept _ _ (.of rfl hP) (.of rfl hR) ?_
        assumption
      · assumption
  clear_value v2
  extract_lets +onlyGivenNames -underBinder -merge v3
  have hv3 : Kept P R o v3 := by
    unfold v3
    refine State.splitRuns_kept _ (.of rfl hP) (.of rfl hR) ?_
    refine State.judgeMerges_kept _ _ (.of rfl hP) (.of rfl hR) ?_
    refine State.runAll_kept _ _ (.of rfl hP) (.of rfl hR) ?_
    assumption
  clear_value v3
  refine State.runAll_kept _ _ (.of rfl hP) (.of rfl hR) ?_
  refine State.runAll_kept _ _ (.of rfl hP) (.of rfl hR) ?_
  refine State.runAll_kept _ _ (.of rfl hP) (.of rfl hR) ?_
  refine State.runAll_kept _ _ (.of rfl hP) (.of rfl hR) ?_
  assumption

theorem State.boundaryMoves_kept (s : State) (hP : Sub 220918608896 P) (hR : Sub
    0x400010040a00800000000020420000004000000000000 R) (hk0 : Kept P R o s) : Kept P R o (State.boundaryMoves s) := by
  delta State.boundaryMoves
  extract_lets +onlyGivenNames -underBinder -merge v1
  have hv1 : Kept P R o v1 := by
    unfold v1
    refine State.runAll_kept _ _ (.of rfl hP) (.of rfl hR) ?_
    refine State.forEach_kept _ _ _ ?_ ?_
    · intro y1_0 y1_1 hy1_2
      refine State.setptRetry_kept _ _ (.of rfl hP) (.of rfl hR) ?_
      assumption
    · assumption
  clear_value v1
  refine State.runAll_kept _ _ (.of rfl hP) (.of rfl hR) ?_
  refine State.runAll_kept _ _ (.of rfl hP) (.of rfl hR) ?_
  refine State.runAll_kept _ _ (.of rfl hP) (.of rfl hR) ?_
  refine State.lowEnd_kept _ (.of rfl hP) (.of rfl hR) ?_
  assumption

theorem State.ringStep_kept (s : State) (hP : Sub 33554432 P) (hk0 : Kept P R o s) : Kept P R o (State.ringStep s) := by
  delta State.ringStep
  extract_lets +onlyGivenNames -underBinder -merge v1
  clear_value v1
  extract_lets +onlyGivenNames -underBinder -merge v2
  clear_value v2
  extract_lets +onlyGivenNames -underBinder -merge v3
  clear_value v3
  refine kept_pacer (s) _ (hP.bit rfl) ?_
  assumption

theorem State.prebStep_kept (s : State) (hP : Sub 8192 P) (hk0 : Kept P R o s) : Kept P R o (State.prebStep s) := by
  delta State.prebStep
  refine State.forEach_kept _ _ _ ?_ ?_
  · intro y1_0 y1_1 hy1_2
    refine State.modRgn_kept _ _ _ (hP.bit rfl) ?_
    assumption
  · assumption

theorem State.countStep_kept (s : State) (t : Nat) (frame : Option Nat) (hP : Sub 550124913664 P) (hR : Sub 0x2000000000 R)
    (hk0 : Kept P R o s) : Kept P R o (State.countStep s t frame) := by
  delta State.countStep
  extract_lets +onlyGivenNames -underBinder -merge v1
  clear_value v1
  extract_lets +onlyGivenNames -underBinder -merge v2
  clear_value v2
  extract_lets +onlyGivenNames -underBinder -merge v3
  clear_value v3
  extract_lets +onlyGivenNames -underBinder -merge v4
  clear_value v4
  extract_lets +onlyGivenNames -underBinder -merge v5
  clear_value v5
  extract_lets +onlyGivenNames -underBinder -merge v6
  have hv6 : Kept P R o v6 := by
    unfold v6
    refine kept_clock (s) _ (hP.bit rfl) (hP.bit rfl) ?_
    assumption
  clear_value v6
  refine kept_ite _ _ _ ?_ ?_
  · assumption
  · extract_lets +onlyGivenNames -underBinder -merge v7
    clear_value v7
    extract_lets +onlyGivenNames -underBinder -merge v8
    clear_value v8
    extract_lets +onlyGivenNames -underBinder -merge v9
    have hv9 : Kept P R o v9 := by
      unfold v9
      refine kept_upd (v6) _ 301989888 rfl ⟨[], (List.append_nil _).symm⟩ rfl (by intro p hp; cases p <;> first | rfl | cases hp) (.of rfl hP) ?_
      assumption
    clear_value v9
    refine State.raiseHw_kept _ _ _ _ (.of rfl hP) ?_
    refine State.put_kept _ _ _ _ (hR.bit rfl) ?_
    assumption

theorem State.pfStep_kept (s : State) (hP : Sub 68719476736 P) (hR : Sub 0x200000000000000000000000000000000000 R) (hk0 : Kept
    P R o s) : Kept P R o (State.pfStep s) := by
  delta State.pfStep
  refine kept_ite _ _ _ ?_ ?_
  · refine State.pfTrigger_kept _ _ (.of rfl hP) (.of rfl hR) ?_
    assumption
  · assumption

theorem State.rcmdWait_kept (s : State) (d : Nat) (hR : Sub 0x40000000000000000000000000000000000000 R) (hk0 : Kept P R o s) :
    Kept P R o (State.rcmdWait s d) := by
  delta State.rcmdWait
  extract_lets +onlyGivenNames -underBinder -merge v1
  clear_value v1
  refine kept_ite _ _ _ ?_ ?_
  · refine State.bump_kept _ _ _ (hR.bit rfl) ?_
    assumption
  · assumption

theorem State.atBoundary_kept (s : State) (hP : Sub 221187142656 P) (hR : Sub allRegs R) (hk0 : Kept P R o s) : Kept P R o
    (State.atBoundary s) := by
  delta State.atBoundary
  extract_lets +onlyGivenNames -underBinder -merge v1
  have hv1 : Kept P R o v1 := by
    unfold v1
    refine State.boundaryTime_kept _ (.of rfl hP) (.of rfl hR) ?_
    assumption
  clear_value v1
  extract_lets +onlyGivenNames -underBinder -merge v2
  have hv2 : Kept P R o v2 := by
    unfold v2
    refine State.passBarriers_kept _ _ (.of rfl hP) (.of rfl hR) ?_
    refine State.applyDue_kept _ _ (.of rfl hP) (.of rfl hR) ?_
    assumption
  clear_value v2
  extract_lets +onlyGivenNames -underBinder -merge v3
  have hv3 : Kept P R o v3 := by
    unfold v3
    refine State.boundaryMoves_kept _ (.of rfl hP) (.of rfl hR) ?_
    refine State.boundaryRegions_kept _ (.of rfl hP) (.of rfl hR) ?_
    assumption
  clear_value v3
  extract_lets +onlyGivenNames -underBinder -merge v4
  have hv4 : Kept P R o v4 := by
    unfold v4
    refine State.showLevel_kept _ (.of rfl hP) ?_
    refine State.prebStep_kept _ (.of rfl hP) ?_
    refine State.ringStep_kept _ (.of rfl hP) ?_
    refine State.forEach_kept _ _ _ ?_ ?_
    · intro y1_0 y1_1 hy1_2
      refine State.rcmdWait_kept _ _ (.of rfl hR) ?_
      assumption
    · assumption
  clear_value v4
  extract_lets +onlyGivenNames -underBinder -merge v5
  have hv5 : Kept P R o v5 := by
    unfold v5
    refine State.resyncLoad_kept _ (.of rfl hP) (.of rfl hR) ?_
    refine State.planSwitch_kept _ (.of rfl hP) (.of rfl hR) ?_
    assumption
  clear_value v5
  refine State.pfStep_kept _ (.of rfl hP) (.of rfl hR) ?_
  refine State.takeDigest_kept _ (.of rfl hP) ?_
  refine State.stepTriggers_kept _ (.of rfl hP) (.of rfl hR) ?_
  assumption

theorem State.stepEdge_kept (s0 : State) (t : Nat) (hP : Sub 770942956546 P) (hR : Sub allRegs R) (hk0 : Kept P R o s0) : Kept
    P R o (State.stepEdge s0 t) := by
  delta State.stepEdge
  extract_lets +onlyGivenNames -underBinder -merge v1
  have hv1 : Kept P R o v1 := by
    unfold v1
    refine State.advance_kept _ _ (.of rfl hP) ?_
    assumption
  clear_value v1
  refine kept_ite _ _ _ ?_ ?_
  · refine State.raiseHw_kept _ _ _ _ (.of rfl hP) ?_
    refine State.put_kept _ _ _ _ (hR.bit rfl) ?_
    assumption
  · extract_lets +onlyGivenNames -underBinder -merge v2
    clear_value v2
    extract_lets +onlyGivenNames -underBinder -merge v3
    clear_value v3
    refine kept_ite _ _ _ ?_ ?_
    · refine kept_clock (v1) _ (hP.bit rfl) (hP.bit rfl) ?_
      assumption
    · extract_lets +onlyGivenNames -underBinder -merge v4
      clear_value v4
      extract_lets +onlyGivenNames -underBinder -merge v5
      have hv5 : Kept P R o v5 := by
        unfold v5
        refine kept_ite _ _ _ ?_ ?_
        · refine kept_pacer (v1) _ (hP.bit rfl) ?_
          assumption
        · refine State.endStep_kept _ _ (.of rfl hP) ?_
          assumption
      clear_value v5
      extract_lets +onlyGivenNames -underBinder -merge v6
      have hv6 : Kept P R o v6 := by
        unfold v6
        refine State.countStep_kept _ _ _ (.of rfl hP) (.of rfl hR) ?_
        assumption
      clear_value v6
      extract_lets +onlyGivenNames -underBinder -merge v7
      have hv7 : Kept P R o v7 := by
        unfold v7
        refine kept_ite _ _ _ ?_ ?_
        · assumption
        · refine State.ackState_kept _ _ (.of rfl hP) (.of rfl hR) ?_
          assumption
      clear_value v7
      refine State.atBoundary_kept _ (.of rfl hP) (.of rfl hR) ?_
      assumption

theorem execStepBoundary_kept (t : Nat) (s : State) (hP : Sub 770942956546 P) (hR : Sub allRegs R) (hk0 : Kept P R o s) :
    KeptR P R o (execStepBoundary t s) := by
  delta execStepBoundary
  refine (KeptR_next _).mpr ?_
  refine kept_ite _ _ _ ?_ ?_
  · refine State.stepEdge_kept _ _ (.of rfl hP) (.of rfl hR) ?_
    assumption
  · assumption

theorem execTimeBaseIdle_kept (s : State) (hP : Sub 755956188160 P) (hR : Sub 0x200000000000000000000000000000000000 R) (hk0 :
    Kept P R o s) : KeptR P R o (execTimeBaseIdle s) := by
  delta execTimeBaseIdle
  refine keptR_ite _ _ _ ?_ ?_
  · refine (KeptR_next _).mpr ?_
    refine State.ackState_kept _ _ (.of rfl hP) (.of rfl hR) ?_
    refine kept_upd (s) _ 549789369344 rfl ⟨[], (List.append_nil _).symm⟩ rfl (by intro p hp; cases p <;> first | rfl | cases hp) (.of rfl hP) ?_
    assumption
  · refine (KeptR_next _).mpr ?_
    assumption

theorem execStepBcastFrame_kept (frame : BitVec 64) (stop : Bool) (t : Nat) (s : State) (hP : Sub 549822923778 P) (hR : Sub
    0x20000000000 R) (hk0 : Kept P R o s) : KeptR P R o (execStepBcastFrame frame stop t s) := by
  delta execStepBcastFrame
  refine keptR_ite _ _ _ ?_ ?_
  · refine (KeptR_next _).mpr ?_
    assumption
  · extract_lets +onlyGivenNames -underBinder -merge v1
    have hv1 : Kept P R o v1 := by
      unfold v1
      refine State.advance_kept _ _ (.of rfl hP) ?_
      assumption
    clear_value v1
    refine keptR_ite _ _ _ ?_ ?_
    · refine (KeptR_next _).mpr ?_
      refine kept_clock (v1) _ (hP.bit rfl) (hP.bit rfl) ?_
      assumption
    · refine keptR_ite _ _ _ ?_ ?_
      · refine (KeptR_next _).mpr ?_
        assumption
      · refine (KeptR_next _).mpr ?_
        refine State.raise_kept _ _ _ _ _ _ (.of rfl hP) ?_
        refine State.bump_kept _ _ _ (hR.bit rfl) ?_
        assumption

theorem execBcastMiss_kept (s : State) (hP : Sub 549822923776 P) (hR : Sub 0x2000000000 R) (hk0 : Kept P R o s) : KeptR P R o
    (execBcastMiss s) := by
  delta execBcastMiss
  refine keptR_ite _ _ _ ?_ ?_
  · refine (KeptR_next _).mpr ?_
    refine State.raiseHw_kept _ _ _ _ (.of rfl hP) ?_
    refine State.put_kept _ _ _ _ (hR.bit rfl) ?_
    refine kept_clock (s) _ (hP.bit rfl) (hP.bit rfl) ?_
    assumption
  · refine (KeptR_next _).mpr ?_
    assumption

theorem execVgScan_kept (n : Fin 256) (currents : List Nat) (s : State) (hP : Sub 206233936896 P) (hR : Sub
    0x10000200000000000000000000000000000000000 R) (hk0 : Kept P R o s) : KeptR P R o (execVgScan n currents s) := by
  delta execVgScan
  refine checked_kept _ _ _ ?_
  refine (KeptR_next _).mpr ?_
  refine State.vgScan_kept _ _ _ (.of rfl hP) (.of rfl hR) ?_
  assumption

end Sys2Proof.Machine
end

