-- ==== Sys2Proof/Laws/KeptHost.lean ====
section
/-! SUPPORT. Laws.Kept for what the boot, updates, tests and the ports do: one law for each operation and each meaning. -/

set_option linter.unusedVariables false

namespace Sys2Proof.Machine

variable {P R : Nat} {o : State}

/-! ### Machine/Boot.lean -/

theorem State.toStage_kept (s : State) (k : Nat) (hR : Sub 0x10000000000000000000000000000 R) (hk0 : Kept P R o s) : Kept P R
    o (State.toStage s k) := by
  delta State.toStage
  refine State.put_kept _ _ _ _ (hR.bit rfl) ?_
  assumption

theorem State.recovery_kept (s : State) (hP : Sub 8589934592 P) (hR : Sub 0x10000000000000000000000000008 R) (hk0 : Kept P R o
    s) : Kept P R o (State.recovery s) := by
  delta State.recovery
  refine State.put_kept _ _ _ _ (hR.bit rfl) ?_
  refine State.toStage_kept _ _ (.of rfl hR) ?_
  refine kept_boot (s) _ (hP.bit rfl) ?_
  assumption

theorem State.showOpal_kept (s : State) (hR : Sub 0x3c000000000000000000000000000000 R) (hk0 : Kept P R o s) : Kept P R o
    (State.showOpal s) := by
  delta State.showOpal
  extract_lets +onlyGivenNames -underBinder -merge v1
  have hv1 : Kept P R o v1 := by
    unfold v1
    refine State.setReg_kept _ _ _ _ (hR.bit rfl) ?_
    refine State.setReg_kept _ _ _ _ (hR.bit rfl) ?_
    refine State.setReg_kept _ _ _ _ (hR.bit rfl) ?_
    assumption
  clear_value v1
  refine State.put_kept _ _ _ _ (hR.bit rfl) ?_
  refine State.put_kept _ _ _ _ (hR.bit rfl) ?_
  refine State.put_kept _ _ _ _ (hR.bit rfl) ?_
  assumption

theorem State.opalStage_kept (s : State) (hP : Sub 8657043456 P) (hR : Sub 0x3c010000000000000000000000000008 R) (hk0 : Kept P
    R o s) : Kept P R o (State.opalStage s) := by
  delta State.opalStage
  extract_lets +onlyGivenNames -underBinder -merge v1
  have hv1 : Kept P R o v1 := by
    unfold v1
    refine State.showOpal_kept _ (.of rfl hR) ?_
    assumption
  clear_value v1
  refine kept_ite _ _ _ ?_ ?_
  · refine State.recovery_kept _ (.of rfl hP) (.of rfl hR) ?_
    assumption
  · refine kept_ite _ _ _ ?_ ?_
    · refine State.recovery_kept _ (.of rfl hP) (.of rfl hR) ?_
      refine State.raise_kept _ _ _ _ _ _ (.of rfl hP) ?_
      assumption
    · refine State.toStage_kept _ _ (.of rfl hR) ?_
      assumption

theorem execPorRelease_kept (entropyOk : Bool) (s : State) (hP : Sub 8657043460 P) (hR : Sub
    0x3c010000000000000000000000000008 R) (hk0 : Kept P R o s) : KeptR P R o (execPorRelease entropyOk s) := by
  delta execPorRelease
  refine keptR_ite _ _ _ ?_ ?_
  · refine (KeptR_next _).mpr ?_
    assumption
  · extract_lets +onlyGivenNames -underBinder -merge v1
    clear_value v1
    extract_lets +onlyGivenNames -underBinder -merge v2
    have hv2 : Kept P R o v2 := by
      unfold v2
      refine kept_upd (s) _ 8589934596 rfl ⟨[], (List.append_nil _).symm⟩ rfl (by intro p hp; cases p <;> first | rfl | cases hp) (.of rfl hP) ?_
      assumption
    clear_value v2
    refine (KeptR_next _).mpr ?_
    refine State.opalStage_kept _ (.of rfl hP) (.of rfl hR) ?_
    refine State.put_kept _ _ _ _ (hR.bit rfl) ?_
    assumption

theorem execBootTableInitDone_kept (bad : List (Nat × Nat)) (s : State) (hP : Sub 67109632 P) (hR : Sub
    0x10000000000000000000000000000 R) (hk0 : Kept P R o s) : KeptR P R o (execBootTableInitDone bad s) := by
  delta execBootTableInitDone
  refine keptR_ite _ _ _ ?_ ?_
  · refine (KeptR_next _).mpr ?_
    assumption
  · extract_lets +onlyGivenNames -underBinder -merge v1
    have hv1 : Kept P R o v1 := by
      unfold v1
      refine kept_upd (s) _ 768 rfl ⟨[], (List.append_nil _).symm⟩ rfl (by intro p hp; cases p <;> first | rfl | cases hp) (.of rfl hP) ?_
      assumption
    extract_lets +onlyGivenNames -underBinder -merge v2
    have hv2 : Kept P R o v2 := by
      unfold v2
      refine State.forEach_kept _ _ _ ?_ ?_
      · intro y1_0 y1_1 hy1_2
        refine State.raise_kept _ _ _ _ _ _ (.of rfl hP) ?_
        assumption
      · unfold v1
        refine kept_upd (s) _ 768 rfl ⟨[], (List.append_nil _).symm⟩ rfl (by intro p hp; cases p <;> first | rfl | cases hp) (.of rfl hP) ?_
        assumption
    refine (KeptR_next _).mpr ?_
    refine kept_ite _ _ _ ?_ ?_
    · refine State.toStage_kept _ _ (.of rfl hR) ?_
      unfold v2
      refine State.forEach_kept _ _ _ ?_ ?_
      · intro y1_0 y1_1 hy1_2
        refine State.raise_kept _ _ _ _ _ _ (.of rfl hP) ?_
        assumption
      · unfold v1
        refine kept_upd (s) _ 768 rfl ⟨[], (List.append_nil _).symm⟩ rfl (by intro p hp; cases p <;> first | rfl | cases hp) (.of rfl hP) ?_
        assumption
    · unfold v2
      refine State.forEach_kept _ _ _ ?_ ?_
      · intro y1_0 y1_1 hy1_2
        refine State.raise_kept _ _ _ _ _ _ (.of rfl hP) ?_
        assumption
      · unfold v1
        refine kept_upd (s) _ 768 rfl ⟨[], (List.append_nil _).symm⟩ rfl (by intro p hp; cases p <;> first | rfl | cases hp) (.of rfl hP) ?_
        assumption

theorem State.rotReplay_kept (s : State) (hP : Sub 4294967296 P) (hk0 : Kept P R o s) : Kept P R o (State.rotReplay s) := by
  delta State.rotReplay
  split
  · refine State.record_kept _ _ (.of rfl hP) ?_
    refine State.setPage_kept _ _ _ (.of rfl hP) ?_
    assumption
  · assumption

theorem execBootHeaderDone_kept (s : State) (hP : Sub 12952010752 P) (hR : Sub 0x50000000000000000000000000008 R) (hk0 : Kept
    P R o s) : KeptR P R o (execBootHeaderDone s) := by
  delta execBootHeaderDone
  refine keptR_ite _ _ _ ?_ ?_
  · refine (KeptR_next _).mpr ?_
    assumption
  · refine keptR_ite _ _ _ ?_ ?_
    · refine (KeptR_next _).mpr ?_
      refine State.recovery_kept _ (.of rfl hP) (.of rfl hR) ?_
      refine State.raiseNvm_kept _ _ _ (.of rfl hP) ?_
      assumption
    · split
      · refine (KeptR_next _).mpr ?_
        refine State.recovery_kept _ (.of rfl hP) (.of rfl hR) ?_
        refine State.raiseNvm_kept _ _ _ (.of rfl hP) ?_
        assumption
      · extract_lets +onlyGivenNames -underBinder -merge v1
        clear_value v1
        refine keptR_ite _ _ _ ?_ ?_
        · refine (KeptR_next _).mpr ?_
          refine State.recovery_kept _ (.of rfl hP) (.of rfl hR) ?_
          refine State.raiseNvm_kept _ _ _ (.of rfl hP) ?_
          assumption
        · extract_lets +onlyGivenNames -underBinder -merge v2
          clear_value v2
          extract_lets +onlyGivenNames -underBinder -merge v3
          have hv3 : Kept P R o v3 := by
            unfold v3
            refine State.rotReplay_kept _ (.of rfl hP) ?_
            refine kept_boot (s) _ (hP.bit rfl) ?_
            assumption
          clear_value v3
          extract_lets +onlyGivenNames -underBinder -merge v4
          clear_value v4
          extract_lets +onlyGivenNames -underBinder -merge v5
          have hv5 : Kept P R o v5 := by
            unfold v5
            refine kept_nvm (v3) _ (hP.bit rfl) ?_
            assumption
          clear_value v5
          refine (KeptR_next _).mpr ?_
          refine State.toStage_kept _ _ (.of rfl hR) ?_
          refine State.put_kept _ _ _ _ (hR.bit rfl) ?_
          assumption

theorem State.tryFw_kept (s : State) (slot : Nat) (hP : Sub 67108864 P) (hk0 : Kept P R o s) : Kept P R o (State.tryFw s
    slot).1 := by
  delta State.tryFw
  split
  · refine kept_pair _ _ ?_
    assumption
  · refine kept_pair _ _ ?_
    refine State.raiseNvm_kept _ _ _ (.of rfl hP) ?_
    assumption

theorem State.pickFw_kept (s : State) (hP : Sub 4362076160 P) (hk0 : Kept P R o s) : Kept P R o (State.pickFw s).1 := by
  delta State.pickFw
  extract_lets +onlyGivenNames -underBinder -merge v1
  clear_value v1
  extract_lets +onlyGivenNames -underBinder -merge v2
  clear_value v2
  extract_lets +onlyGivenNames -underBinder -merge v3
  clear_value v3
  extract_lets +onlyGivenNames -underBinder -merge v4
  have hv4 : Kept P R o v4 := by
    unfold v4
    refine kept_ite _ _ _ ?_ ?_
    · refine State.record_kept _ _ (.of rfl hP) ?_
      assumption
    · assumption
  clear_value v4
  extract_lets +onlyGivenNames -underBinder -merge v5
  clear_value v5
  extract_lets +onlyGivenNames -underBinder -merge v6
  have hv6 : Kept P R o v6.1 := by
    unfold v6
    refine State.tryFw_kept _ _ (.of rfl hP) ?_
    assumption
  clear_value v6
  split
  · refine kept_pair _ _ ?_
    refine kept_ite _ _ _ ?_ ?_
    · refine State.record_kept _ _ (.of rfl hP) ?_
      assumption
    · assumption
  · extract_lets +onlyGivenNames -underBinder -merge v7
    have hv7 : Kept P R o v7.1 := by
      unfold v7
      refine State.tryFw_kept _ _ (.of rfl hP) ?_
      refine kept_ite _ _ _ ?_ ?_
      · refine State.record_kept _ _ (.of rfl hP) ?_
        assumption
      · assumption
    clear_value v7
    refine kept_pair _ _ ?_
    assumption

theorem State.startFw_kept (s : State) (slot : Nat) (m : Manifest) (hP : Sub 8657043456 P) (hR : Sub
    0x310000000000000000000000000000 R) (hk0 : Kept P R o s) : Kept P R o (State.startFw s slot m) := by
  delta State.startFw
  extract_lets +onlyGivenNames -underBinder -merge v1
  clear_value v1
  extract_lets +onlyGivenNames -underBinder -merge v2
  clear_value v2
  extract_lets +onlyGivenNames -underBinder -merge v3
  have hv3 : Kept P R o v3 := by
    unfold v3
    refine kept_upd (s) _ 8657043456 rfl ⟨[], (List.append_nil _).symm⟩ rfl (by intro p hp; cases p <;> first | rfl | cases hp) (.of rfl hP) ?_
    assumption
  clear_value v3
  extract_lets +onlyGivenNames -underBinder -merge v4
  clear_value v4
  extract_lets +onlyGivenNames -underBinder -merge v5
  have hv5 : Kept P R o v5 := by
    unfold v5
    refine State.put_kept _ _ _ _ (hR.bit rfl) ?_
    refine State.put_kept _ _ _ _ (hR.bit rfl) ?_
    assumption
  clear_value v5
  refine State.put_kept _ _ _ _ (hR.bit rfl) ?_
  refine State.put_kept _ _ _ _ (hR.bit rfl) ?_
  assumption

theorem State.pickSettings_kept (s : State) (hP : Sub 12952010752 P) (hR : Sub 0x10000000000000000000000000000 R) (hk0 : Kept
    P R o s) : Kept P R o (State.pickSettings s) := by
  delta State.pickSettings
  extract_lets +onlyGivenNames -underBinder -merge v1
  clear_value v1
  extract_lets +onlyGivenNames -underBinder -merge v2
  have hv2 : ∀ (y0 : State) (y1 : Nat) (y2 : Nat) (y3 : List Byte), Kept P R o y0 → Kept P R o (v2 y0 y1 y2 y3) := by
    intro y1_0 y1_1 y1_2 y1_3 hy1_4
    unfold v2
    refine State.put_kept _ _ _ _ (hR.bit rfl) ?_
    refine State.put_kept _ _ _ _ (hR.bit rfl) ?_
    refine kept_boot (y1_0) _ (hP.bit rfl) ?_
    assumption
  clear_value v2
  extract_lets +onlyGivenNames -underBinder -merge v3
  have hv3 : ∀ (y0 : State), Kept P R o y0 → Kept P R o (v3 y0) := by
    intro y1_0 hy1_1
    unfold v3
    extract_lets +onlyGivenNames -underBinder -merge v4
    clear_value v4
    extract_lets +onlyGivenNames -underBinder -merge v5
    have hv5 : Kept P R o v5 := by
      unfold v5
      refine State.useSet_kept _ _ (.of rfl hP) ?_
      refine State.modSetRec_kept _ _ _ (.of rfl hP) ?_
      assumption
    clear_value v5
    refine hv2 _ _ _ _ ?_
    assumption
  clear_value v3
  split
  · refine kept_ite _ _ _ ?_ ?_
    · refine hv2 _ _ _ _ ?_
      assumption
    · refine hv3 _ ?_
      assumption
  · refine hv3 _ ?_
    refine State.raiseNvm_kept _ _ _ (.of rfl hP) ?_
    assumption

theorem State.configErr_kept (s : State) (m : FMaster) (r : Reg) (i : Nat) (l : List Fld) (hP : Sub 67108864 P) (hk0 : Kept P
    R o s) : Kept P R o (State.configErr s m r i l) := by
  delta State.configErr
  refine kept_ite _ _ _ ?_ ?_
  · refine State.raise_kept _ _ _ _ _ _ (.of rfl hP) ?_
    assumption
  · assumption

theorem State.applyWord_kept (s : State) (ks : List Access) (x : Nat × Word) (hP : Sub 67108864 P) (hR : Sub allRegs R) (hk0 :
    Kept P R o s) : Kept P R o (State.applyWord s ks x) := by
  unfold State.applyWord
  split
  · exact hk0
  · exact State.configErr_kept _ _ _ _ _ (.of rfl hP) (State.forEach_kept _ _ _
      (fun y f hy => State.put_kept _ _ _ _ (allRegs_bit hR _) hy) hk0)

theorem State.applyWords_kept (s : State) (ks : List Access) (pick : Nat → Bool) (hP : Sub 67108864 P) (hR : Sub allRegs R)
    (hk0 : Kept P R o s) : Kept P R o (State.applyWords s ks pick) := by
  delta State.applyWords
  refine State.forEach_kept _ _ _ ?_ ?_
  · intro y1_0 y1_1 hy1_2
    refine State.applyWord_kept _ _ _ (.of rfl hP) (.of rfl hR) ?_
    assumption
  · assumption

theorem State.loadSetpts_kept (s : State) (hP : Sub 270336 P) (hk0 : Kept P R o s) : Kept P R o (State.loadSetpts s) := by
  delta State.loadSetpts
  extract_lets +onlyGivenNames -underBinder -merge v1
  have hv1 : Kept P R o v1 := by
    unfold v1
    refine State.forEach_kept _ _ _ ?_ ?_
    · intro y1_0 y1_1 hy1_2
      refine kept_domV (y1_0) _ (hP.bit rfl) ?_
      assumption
    · assumption
  clear_value v1
  refine State.forEach_kept _ _ _ ?_ ?_
  · intro y1_0 y1_1 hy1_2
    refine State.modRgn_kept _ _ _ (hP.bit rfl) ?_
    assumption
  · assumption

theorem State.applySettings_kept (s : State) (hP : Sub 138717438976 P) (hR : Sub allRegs R) (hk0 : Kept P R o s) : Kept P R o
    (State.applySettings s) := by
  delta State.applySettings
  extract_lets +onlyGivenNames -underBinder -merge v1
  clear_value v1
  extract_lets +onlyGivenNames -underBinder -merge v2
  have hv2 : Kept P R o v2 := by
    unfold v2
    refine State.applyWords_kept _ _ _ (.of rfl hP) (.of rfl hR) ?_
    refine kept_upd (s) _ 3145728 rfl ⟨[], (List.append_nil _).symm⟩ rfl (by intro p hp; cases p <;> first | rfl | cases hp) (.of rfl hP) ?_
    assumption
  clear_value v2
  extract_lets +onlyGivenNames -underBinder -merge v3
  have hv3 : Kept P R o v3 := by
    unfold v3
    refine State.loadSetpts_kept _ (.of rfl hP) ?_
    assumption
  clear_value v3
  extract_lets +onlyGivenNames -underBinder -merge v4
  have hv4 : Kept P R o v4 := by
    unfold v4
    split
    · refine State.configErr_kept _ _ _ _ _ (.of rfl hP) ?_
      refine State.put_kept _ _ _ _ (hR.bit rfl) ?_
      assumption
    · assumption
  clear_value v4
  refine kept_ite _ _ _ ?_ ?_
  · assumption
  · refine State.hostLevel_kept _ (.of rfl hP) (.of rfl hR) ?_
    assumption

theorem placeOf_ok (l : List (Nat × Nat)) :
    tblWf (fun _ => 0) (placeOf l) = true ∧ ∀ e ∈ (placeOf l).entries, e.1 < 256 ∧ e.2 ≤ 4 := by
  unfold placeOf
  have key : ∀ (l : List (Nat × Nat)) (t : Tbl Nat), (∀ x ∈ l, x.1 < 256 ∧ x.2 < 4) →
      tblWf (fun _ => 0) t = true ∧ (∀ e ∈ t.entries, e.1 < 256 ∧ e.2 ≤ 4) →
      tblWf (fun _ => 0) (l.foldl (fun (t : Tbl Nat) x => tblSet 0 t x.1 (x.2 + 1)) t) = true ∧
        ∀ e ∈ (l.foldl (fun (t : Tbl Nat) x => tblSet 0 t x.1 (x.2 + 1)) t).entries, e.1 < 256 ∧ e.2 ≤ 4 := by
    intro l
    induction l with
    | nil => exact fun t _ h => h
    | cons x r ih =>
      intro t hl h
      refine ih _ (fun y hy => hl y (List.mem_cons_of_mem _ hy)) ⟨tblWf_set (fun _ => 0) _ _ _ h.1, fun e he => ?_⟩
      simp only [tblSet] at he
      have hx := hl x List.mem_cons_self
      split at he
      · exact h.2 e (mem_assocErase he)
      · rcases mem_assocPut he with rfl | he
        · exact ⟨hx.1, hx.2⟩
        · exact h.2 e he
  refine key _ _ (fun x hx => ?_) ⟨rfl, fun _ h => (nomatch h)⟩
  have := (List.mem_filter.mp hx).2
  simp only [Bool.and_eq_true, decide_eq_true_eq] at this
  exact this

theorem kept_place (s : State) (v : Tbl Nat) (h1 : tblWf (fun _ => 0) v = true) (h2 : ∀ e ∈ v.entries, e.1 < 256 ∧ e.2 ≤ 4)
    (hP : P.testBit Part.place.bit = true) (h : Kept P R o s) : Kept P R o { s with place := v } :=
  ⟨fun x => { h.tables x with place := h1, placed := h2 }, h.out,
   fun p hp => by cases p <;> first | exact h.parts _ hp | exact absurd (hP.symm.trans hp) (by decide), h.regs⟩

theorem State.coldSettings_kept (s : State) (hP : Sub 138717963264 P) (hR : Sub allRegs R) (hk0 : Kept P R o s) : Kept P R o
    (State.coldSettings s) := by
  delta State.coldSettings
  refine State.forEach_kept _ _ _ (fun y a hy => State.put_kept y _ _ _ (hR.bit rfl) hy)
    (State.applySettings_kept _ (.of rfl hP) (.of rfl hR) (kept_place s _ (placeOf_ok _).1 (placeOf_ok _).2 (hP.bit rfl) hk0))

theorem State.writeVt_kept (s : State) (n : Nat) (codes : List Nat) (hR : Sub 0x200000000000000000000000000000000000000000000
    R) (hk0 : Kept P R o s) : Kept P R o (State.writeVt s n codes) := by
  delta State.writeVt
  refine State.forEach_kept _ _ _ ?_ ?_
  · intro y1_0 y1_1 hy1_2
    refine State.put_kept _ _ _ _ (hR.bit rfl) ?_
    refine State.put_kept _ _ _ _ (hR.bit rfl) ?_
    assumption
  · assumption

theorem State.loadCal_kept (s : State) (b : List Byte) (hP : Sub 268435456 P) (hR : Sub
    0x200000000000000000000000000000000000000000000 R) (hk0 : Kept P R o s) : Kept P R o (State.loadCal s b) := by
  delta State.loadCal
  extract_lets +onlyGivenNames -underBinder -merge v1
  have hv1 : Kept P R o v1 := by
    unfold v1
    refine State.forEach_kept _ _ _ ?_ ?_
    · intro y1_0 y1_1 hy1_2
      refine kept_ite _ _ _ ?_ ?_
      · refine State.writeVt_kept _ _ _ (.of rfl hR) ?_
        assumption
      · assumption
    · assumption
  clear_value v1
  refine State.forEach_kept _ _ _ ?_ ?_
  · intro y1_0 y1_1 hy1_2
    refine kept_gauge (y1_0) _ (hP.bit rfl) ?_
    assumption
  · assumption

theorem State.loadTables_kept (s : State) (b : List Byte) (en : Bool) (hP : Sub 33562624 P) (hR : Sub
    0xe0000000000000000000000000000000000000000000000 R) (hk0 : Kept P R o s) : Kept P R o (State.loadTables s b en) := by
  delta State.loadTables
  split
  · refine State.put_kept _ _ _ _ (hR.bit rfl) ?_
    assumption
  · extract_lets +onlyGivenNames -underBinder -merge v1
    have hv1 : Kept P R o v1 := by
      unfold v1
      refine State.forEach_kept _ _ _ ?_ ?_
      · intro y1_0 y1_1 hy1_2
        split
        · refine State.setReg_kept _ _ _ _ (hR.bit rfl) ?_
          assumption
        · refine State.setReg_kept _ _ _ _ (hR.bit rfl) ?_
          assumption
        · assumption
      · assumption
    clear_value v1
    refine kept_ite _ _ _ ?_ ?_
    · refine State.coefEnabled_kept _ (.of rfl hP) ?_
      refine State.put_kept _ _ _ _ (hR.bit rfl) ?_
      assumption
    · refine State.put_kept _ _ _ _ (hR.bit rfl) ?_
      assumption

theorem State.bootModel_kept (s : State) (hP : Sub 100671488 P) (hR : Sub 0x2e0000000000000000000000000000000000000000000000
    R) (hk0 : Kept P R o s) : Kept P R o (State.bootModel s) := by
  delta State.bootModel
  split
  · refine State.put_kept _ _ _ _ (hR.bit rfl) ?_
    refine State.raiseNvm_kept _ _ _ (.of rfl hP) ?_
    assumption
  · extract_lets +onlyGivenNames -underBinder -merge v1
    clear_value v1
    extract_lets +onlyGivenNames -underBinder -merge v2
    have hv2 : Kept P R o v2 := by
      unfold v2
      refine State.loadTables_kept _ _ _ (.of rfl hP) (.of rfl hR) ?_
      assumption
    clear_value v2
    refine kept_ite _ _ _ ?_ ?_
    · assumption
    · refine State.checkModel_kept _ _ (.of rfl hP) (.of rfl hR) ?_
      assumption

theorem State.loadLearned_kept (s : State) (hP : Sub 8623489024 P) (hk0 : Kept P R o s) : Kept P R o (State.loadLearned s) :=
    by
  delta State.loadLearned
  split
  · refine kept_upd (s) _ 8623489024 rfl ⟨[], (List.append_nil _).symm⟩ rfl (by intro p hp; cases p <;> first | rfl | cases hp) (.of rfl hP) ?_
    assumption
  · assumption

theorem State.loadStage_kept (s : State) (slot : Nat) (m : Manifest) (hP : Sub 151904855040 P) (hR : Sub allRegs R) (hk0 :
    Kept P R o s) : Kept P R o (State.loadStage s slot m) := by
  delta State.loadStage
  extract_lets +onlyGivenNames -underBinder -merge v1
  have hv1 : Kept P R o v1 := by
    unfold v1
    refine State.coldSettings_kept _ (.of rfl hP) (.of rfl hR) ?_
    refine State.pickSettings_kept _ (.of rfl hP) (.of rfl hR) ?_
    refine State.startFw_kept _ _ _ (.of rfl hP) (.of rfl hR) ?_
    assumption
  clear_value v1
  split
  · extract_lets +onlyGivenNames -underBinder -merge v2
    have hv2 : Kept P R o v2 := by
      unfold v2
      refine kept_ite _ _ _ ?_ ?_
      · assumption
      · refine State.raiseNvm_kept _ _ _ (.of rfl hP) ?_
        assumption
    clear_value v2
    refine State.recovery_kept _ (.of rfl hP) (.of rfl hR) ?_
    refine State.raiseNvm_kept _ _ _ (.of rfl hP) ?_
    assumption
  · refine State.toStage_kept _ _ (.of rfl hR) ?_
    refine State.loadLearned_kept _ (.of rfl hP) ?_
    refine State.bootModel_kept _ (.of rfl hP) (.of rfl hR) ?_
    refine State.loadCal_kept _ _ (.of rfl hP) (.of rfl hR) ?_
    assumption

theorem execBootLoadDone_kept (s : State) (hP : Sub 151904855040 P) (hR : Sub allRegs R) (hk0 : Kept P R o s) : KeptR P R o
    (execBootLoadDone s) := by
  delta execBootLoadDone
  refine keptR_ite _ _ _ ?_ ?_
  · refine (KeptR_next _).mpr ?_
    assumption
  · extract_lets +onlyGivenNames -underBinder -merge v1
    have hv1 : Kept P R o v1.1 := by
      unfold v1
      refine State.pickFw_kept _ (.of rfl hP) ?_
      assumption
    clear_value v1
    split
    · refine (KeptR_next _).mpr ?_
      refine State.recovery_kept _ (.of rfl hP) (.of rfl hR) ?_
      assumption
    · refine (KeptR_next _).mpr ?_
      refine State.loadStage_kept _ _ _ (.of rfl hP) (.of rfl hR) ?_
      assumption

theorem State.setLock_kept (s : State) (hP : Sub 8589934592 P) (hR : Sub 0x10000000000000000000000000008 R) (hk0 : Kept P R o
    s) : Kept P R o (State.setLock s) := by
  delta State.setLock
  extract_lets +onlyGivenNames -underBinder -merge v1
  have hv1 : Kept P R o v1 := by
    unfold v1
    refine State.put_kept _ _ _ _ (hR.bit rfl) ?_
    refine State.put_kept _ _ _ _ (hR.bit rfl) ?_
    assumption
  clear_value v1
  refine kept_boot (v1) _ (hP.bit rfl) ?_
  assumption

theorem State.applyRetire_kept (s : State) (hP : Sub 138714035200 P) (hR : Sub 0x400000000000000000000000000000004000000000000
    R) (hk0 : Kept P R o s) : Kept P R o (State.applyRetire s) := by
  delta State.applyRetire
  extract_lets +onlyGivenNames -underBinder -merge v1
  clear_value v1
  refine State.forEach_kept _ _ _ ?_ ?_
  · intro y1_0 y1_1 hy1_2
    refine kept_ite _ _ _ ?_ ?_
    · refine State.retireLane_kept _ _ _ (.of rfl hP) (.of rfl hR) ?_
      assumption
    · refine State.raise_kept _ _ _ _ _ _ (.of rfl hP) ?_
      assumption
  · assumption

theorem State.startPair_kept (s : State) (hP : Sub 1073741824 P) (hR : Sub 0x20000000000000000000000000 R) (hk0 : Kept P R o
    s) : Kept P R o (State.startPair s) := by
  delta State.startPair
  refine kept_ite _ _ _ ?_ ?_
  · assumption
  · refine kept_ite _ _ _ ?_ ?_
    · refine State.put_kept _ _ _ _ (hR.bit rfl) ?_
      assumption
    · refine State.put_kept _ _ _ _ (hR.bit rfl) ?_
      refine kept_relay (s) _ (hP.bit rfl) ?_
      assumption

theorem State.startCredit_kept (s : State) (hP : Sub 1610612736 P) (hR : Sub 0x80000000000000000000000 R) (hk0 : Kept P R o s)
    : Kept P R o (State.startCredit s) := by
  delta State.startCredit
  refine kept_ite _ _ _ ?_ ?_
  · assumption
  · refine kept_ite _ _ _ ?_ ?_
    · extract_lets +onlyGivenNames -underBinder -merge v1
      have hv1 : Kept P R o v1.2 := by
        unfold v1
        refine State.grantFor_kept _ _ _ (.of rfl hP) ?_
        assumption
      clear_value v1
      refine State.enterCredit_kept _ (.of rfl hP) ?_
      refine State.put_kept _ _ _ _ (hR.bit rfl) ?_
      assumption
    · refine kept_ite _ _ _ ?_ ?_
      · assumption
      · refine State.enterCredit_kept _ (.of rfl hP) ?_
        assumption

theorem execBootLocked_kept (s : State) (hP : Sub 147840840704 P) (hR : Sub allRegs R) (hk0 : Kept P R o s) : KeptR P R o
    (execBootLocked s) := by
  delta execBootLocked
  refine keptR_ite _ _ _ ?_ ?_
  · refine (KeptR_next _).mpr ?_
    assumption
  · extract_lets +onlyGivenNames -underBinder -merge v1
    have hv1 : Kept P R o v1 := by
      unfold v1
      refine State.applyWords_kept _ _ _ (.of rfl hP) (.of rfl hR) ?_
      assumption
    clear_value v1
    extract_lets +onlyGivenNames -underBinder -merge v2
    have hv2 : Kept P R o v2 := by
      unfold v2
      refine State.applyRetire_kept _ (.of rfl hP) (.of rfl hR) ?_
      refine State.put_kept _ _ _ _ (hR.bit rfl) ?_
      assumption
    clear_value v2
    refine (KeptR_next _).mpr ?_
    refine State.toStage_kept _ _ (.of rfl hR) ?_
    refine State.startCredit_kept _ (.of rfl hP) (.of rfl hR) ?_
    refine State.startPair_kept _ (.of rfl hP) (.of rfl hR) ?_
    refine State.setLock_kept _ (.of rfl hP) (.of rfl hR) ?_
    assumption

theorem execDomainStartNext_kept (s : State) (hP : Sub 214773556224 P) (hR : Sub 0x200000000000000000000000000000000000 R)
    (hk0 : Kept P R o s) : KeptR P R o (execDomainStartNext s) := by
  delta execDomainStartNext
  extract_lets +onlyGivenNames -underBinder -merge v1
  clear_value v1
  split
  · refine (KeptR_next _).mpr ?_
    assumption
  · refine keptR_ite _ _ _ ?_ ?_
    · refine (KeptR_next _).mpr ?_
      assumption
    · extract_lets +onlyGivenNames -underBinder -merge v2
      clear_value v2
      extract_lets +onlyGivenNames -underBinder -merge v3
      have hv3 : Kept P R o v3 := by
        unfold v3
        refine kept_boot (s) _ (hP.bit rfl) ?_
        assumption
      clear_value v3
      refine (KeptR_next _).mpr ?_
      refine State.forEach_kept _ _ _ ?_ ?_
      · intro y1_0 y1_1 hy1_2
        refine kept_bind _ _ ?_ ?_
        · refine State.startRgn_kept _ _ (.of rfl hP) (.of rfl hR) ?_
          assumption
        · assumption
      · assumption

theorem execBootReady_kept (s : State) (hP : Sub 206301036544 P) (hR : Sub 0x200000090000000000000000000000000048 R) (hk0 :
    Kept P R o s) : KeptR P R o (execBootReady s) := by
  have h1 : ∀ s1 : State, Kept P R o s1 → KeptR P R o (.next (if s1.fb LIM_STR_STATUS.FLOOR_PEND then s1.sendFloor else s1)) :=
    fun s1 h => (KeptR_next _).mpr (kept_ite _ _ _ (State.sendFloor_kept _ (.of rfl hP) (.of rfl hR) h) h)
  have h2 : ∀ s1 : State, Kept P R o s1 → Kept P R o (({ s1 with baton := { s1.baton with up := true } } : State).ackState 1) :=
    fun s1 h => State.ackState_kept _ _ (.of rfl hP) (.of rfl hR) (kept_baton s1 _ (hP.bit rfl) h)
  have h3 : ∀ s1 : State, Kept P R o s1 →
      Kept P R o (s1.forEach (s1.placed.filter (fun n => (s1.rgn n).st = .DARK)) (fun s n => s.ackRgnStat n 2 0)) :=
    fun s1 h => State.forEach_kept _ _ _ (fun y a hy => State.ackRgnStat_kept _ _ _ _ (.of rfl hP) (.of rfl hR) hy) h
  unfold execBootReady
  refine keptR_ite _ _ _ hk0 ?_
  exact h1 _ (h3 _ (h2 _ (State.setIrq_kept _ _ (hR.bit rfl) (State.put_kept _ _ _ _ (hR.bit rfl) (State.put_kept _ _ _ _ (hR.bit rfl)
    (State.put_kept _ _ _ _ (hR.bit rfl) (State.toStage_kept _ _ (.of rfl hR) hk0)))))))

theorem execDrbgReseed_kept (healthOk : Bool) (s : State) (hP : Sub 422517407744 P) (hR : Sub 0x10420000000000000000000000000
    R) (hk0 : Kept P R o s) : KeptR P R o (execDrbgReseed healthOk s) := by
  delta execDrbgReseed
  refine keptR_ite _ _ _ ?_ ?_
  · refine (KeptR_next _).mpr ?_
    assumption
  · refine keptR_ite _ _ _ ?_ ?_
    · refine (KeptR_next _).mpr ?_
      refine State.put_kept _ _ _ _ (hR.bit rfl) ?_
      assumption
    · extract_lets +onlyGivenNames -underBinder -merge v1
      clear_value v1
      extract_lets +onlyGivenNames -underBinder -merge v2
      have hv2 : Kept P R o v2 := by
        unfold v2
        refine State.put_kept _ _ _ _ (hR.bit rfl) ?_
        refine kept_boot (s) _ (hP.bit rfl) ?_
        assumption
      clear_value v2
      refine (KeptR_next _).mpr ?_
      refine State.forEach_kept _ _ _ ?_ ?_
      · intro y1_0 y1_1 hy1_2
        refine State.judgeHello_kept _ _ (.of rfl hP) (.of rfl hR) ?_
        refine State.offerHello_kept _ _ (.of rfl hP) (.of rfl hR) ?_
        assumption
      · assumption

theorem State.warmCode_kept (s : State) (hP : Sub 12952010752 P) (hR : Sub 0x310000000000000000000000000000 R) (hk0 : Kept P R
    o s) : Kept P R o (State.warmCode s).1 := by
  delta State.warmCode
  extract_lets +onlyGivenNames -underBinder -merge v1
  clear_value v1
  refine kept_ite_fst _ _ _ ?_ ?_
  · extract_lets +onlyGivenNames -underBinder -merge v2
    clear_value v2
    extract_lets +onlyGivenNames -underBinder -merge v3
    have hv3 : Kept P R o v3.1 := by
      unfold v3
      refine State.pickFw_kept _ (.of rfl hP) ?_
      assumption
    clear_value v3
    split
    · refine kept_pair _ _ ?_
      refine State.startFw_kept _ _ _ (.of rfl hP) (.of rfl hR) ?_
      assumption
    · refine kept_pair _ _ ?_
      assumption
  · extract_lets +onlyGivenNames -underBinder -merge v2
    have hv2 : Kept P R o v2 := by
      unfold v2
      refine kept_ite _ _ _ ?_ ?_
      · refine State.record_kept _ _ (.of rfl hP) ?_
        assumption
      · assumption
    clear_value v2
    refine kept_pair _ _ ?_
    refine kept_upd (v2) _ 8657043456 rfl ⟨[], (List.append_nil _).symm⟩ rfl (by intro p hp; cases p <;> first | rfl | cases hp) (.of rfl hP) ?_
    assumption

theorem State.warmSettings_kept (s : State) (all : Bool) (hP : Sub 151602340864 P) (hR : Sub allRegs R) (hk0 : Kept P R o s) :
    Kept P R o (State.warmSettings s all) := by
  delta State.warmSettings
  extract_lets +onlyGivenNames -underBinder -merge v1
  have hv1 : Kept P R o v1 := by
    unfold v1
    refine State.pickSettings_kept _ (.of rfl hP) (.of rfl hR) ?_
    assumption
  clear_value v1
  extract_lets +onlyGivenNames -underBinder -merge v2
  clear_value v2
  extract_lets +onlyGivenNames -underBinder -merge v3
  have hv3 : Kept P R o v3 := by
    unfold v3
    refine kept_ite _ _ _ ?_ ?_
    · refine State.applySettings_kept _ (.of rfl hP) (.of rfl hR) ?_
      refine kept_boot (v1) _ (hP.bit rfl) ?_
      assumption
    · refine State.applyWords_kept _ _ _ (.of rfl hP) (.of rfl hR) ?_
      assumption
  clear_value v3
  refine kept_ite _ _ _ ?_ ?_
  · assumption
  · refine State.applyWords_kept _ _ _ (.of rfl hP) (.of rfl hR) ?_
    assumption

theorem State.warmEnd_kept (s : State) (hP : Sub 81705041920 P) (hR : Sub 0xd0000000000000000000000000048 R) (hk0 : Kept P R o
    s) : Kept P R o (State.warmEnd s) := by
  delta State.warmEnd
  extract_lets +onlyGivenNames -underBinder -merge v1
  have hv1 : Kept P R o v1 := by
    unfold v1
    refine kept_ite _ _ _ ?_ ?_
    · refine State.scrubClear_kept _ (.of rfl hP) ?_
      assumption
    · assumption
  clear_value v1
  extract_lets +onlyGivenNames -underBinder -merge v2
  have hv2 : Kept P R o v2 := by
    unfold v2
    refine kept_ite _ _ _ ?_ ?_
    · assumption
    · refine State.setLock_kept _ (.of rfl hP) (.of rfl hR) ?_
      assumption
  clear_value v2
  extract_lets +onlyGivenNames -underBinder -merge v3
  have hv3 : Kept P R o v3 := by
    unfold v3
    refine kept_ite _ _ _ ?_ ?_
    · refine State.toStage_kept _ _ (.of rfl hR) ?_
      assumption
    · assumption
  clear_value v3
  extract_lets +onlyGivenNames -underBinder -merge v4
  have hv4 : Kept P R o v4 := by
    unfold v4
    refine State.setIrq_kept _ _ (hR.bit rfl) ?_
    refine State.put_kept _ _ _ _ (hR.bit rfl) ?_
    refine State.bump_kept _ _ _ (hR.bit rfl) ?_
    assumption
  clear_value v4
  refine State.deliverTrap_kept _ (.of rfl hP) ?_
  assumption

theorem execWarmBootEnd_kept (s : State) (hP : Sub 220355372032 P) (hR : Sub allRegs R) (hk0 : Kept P R o s) : KeptR P R o
    (execWarmBootEnd s) := by
  delta execWarmBootEnd
  extract_lets +onlyGivenNames -underBinder -merge v1
  clear_value v1
  refine keptR_ite _ _ _ ?_ ?_
  · refine (KeptR_next _).mpr ?_
    assumption
  · extract_lets +onlyGivenNames -underBinder -merge v2
    have hv2 : Kept P R o v2.1 := by
      unfold v2
      refine State.warmCode_kept _ (.of rfl hP) (.of rfl hR) ?_
      refine State.rotReplay_kept _ (.of rfl hP) ?_
      assumption
    clear_value v2
    split
    · refine (KeptR_next _).mpr ?_
      refine State.recovery_kept _ (.of rfl hP) (.of rfl hR) ?_
      assumption
    · refine (KeptR_next _).mpr ?_
      refine State.warmEnd_kept _ (.of rfl hP) (.of rfl hR) ?_
      refine State.warmSettings_kept _ _ (.of rfl hP) (.of rfl hR) ?_
      assumption

theorem execVtWordRewrite_kept (n : Fin 256) (s : State) (hP : Sub 67108864 P) (hR : Sub
    0x200000000000000000000000000000000000000000000 R) (hk0 : Kept P R o s) : KeptR P R o (execVtWordRewrite n s) := by
  delta execVtWordRewrite
  refine keptR_ite _ _ _ ?_ ?_
  · refine (KeptR_next _).mpr ?_
    assumption
  · split
    · extract_lets +onlyGivenNames -underBinder -merge v1
      have hv1 : Kept P R o v1 := by
        unfold v1
        refine kept_ite _ _ _ ?_ ?_
        · assumption
        · refine State.raiseNvm_kept _ _ _ (.of rfl hP) ?_
          assumption
      clear_value v1
      refine (KeptR_next _).mpr ?_
      refine State.raiseNvm_kept _ _ _ (.of rfl hP) ?_
      assumption
    · refine (KeptR_next _).mpr ?_
      split
      · refine State.writeVt_kept _ _ _ (.of rfl hR) ?_
        assumption
      · assumption

/-! ### Machine/Update.lean -/

theorem State.answer_kept (s : State) (p : Nat) (status : Nat) (ra : Nat) (results : List (Nat × Nat)) (hP : Sub 17179869184
    P) (hR : Sub 10304 R) (hk0 : Kept P R o s) : Kept P R o (State.answer s p status ra results) := by
  delta State.answer
  extract_lets +onlyGivenNames -underBinder -merge v1
  have hv1 : ∀ (y0 : State) (y1 : Nat) (y2 : Nat), Kept P R o y0 → Kept P R o (v1 y0 y1 y2) := by
    intro y1_0 y1_1 y1_2 hy1_3
    unfold v1
    refine State.setReg_kept _ _ _ _ (hR.bit rfl) ?_
    assumption
  clear_value v1
  extract_lets +onlyGivenNames -underBinder -merge v2
  have hv2 : Kept P R o v2 := by
    unfold v2
    refine State.setReg_kept _ _ _ _ (hR.bit rfl) ?_
    assumption
  clear_value v2
  extract_lets +onlyGivenNames -underBinder -merge v3
  have hv3 : Kept P R o v3 := by
    unfold v3
    refine State.forEach_kept _ _ _ ?_ ?_
    · intro y1_0 y1_1 hy1_2
      refine hv1 _ _ _ ?_
      assumption
    · refine hv1 _ _ _ ?_
      assumption
  clear_value v3
  extract_lets +onlyGivenNames -underBinder -merge v4
  have hv4 : Kept P R o v4 := by
    unfold v4
    refine State.put_kept _ _ _ _ (hR.bit rfl) ?_
    refine State.put_kept _ _ _ _ (hR.bit rfl) ?_
    refine State.put_kept _ _ _ _ (hR.bit rfl) ?_
    assumption
  clear_value v4
  refine kept_host (v4) _ (hP.bit rfl) ?_
  assumption

theorem State.serve_kept (s : State) (p : Port) (ok : Nat → Bool) (act : State → State) (hact : ∀ (y0 : State), Kept P R o y0
    → Kept P R o (act y0)) (hP : Sub 17179869184 P) (hR : Sub 10304 R) (hk0 : Kept P R o s) : Kept P R o (State.serve s p ok act) := by
  delta State.serve
  refine kept_ite _ _ _ ?_ ?_
  · assumption
  · split
    · assumption
    · refine State.answer_kept _ _ _ _ _ (.of rfl hP) (.of rfl hR) ?_
      assumption
    · refine hact _ ?_
      assumption

theorem State.guarded_kept (s : State) (p : Port) (sem : Nat) (own : Bool) (act : State → State) (hact : ∀ (y0 : State), Kept
    P R o y0 → Kept P R o (act y0)) (hP : Sub 17179869184 P) (hR : Sub 10560 R) (hk0 : Kept P R o s) : Kept P R o (State.guarded s p sem own act) :=
    by
  delta State.guarded
  extract_lets +onlyGivenNames -underBinder -merge v1
  clear_value v1
  refine kept_ite _ _ _ ?_ ?_
  · refine hact _ ?_
    assumption
  · refine State.answer_kept _ _ _ _ _ (.of rfl hP) (.of rfl hR) ?_
    refine kept_ite _ _ _ ?_ ?_
    · assumption
    · refine State.bump_kept _ _ _ (hR.bit rfl) ?_
      assumption

theorem State.nvmCmd_kept (s : State) (p : Port) (act : State → State) (hact : ∀ (y0 : State), Kept P R o y0 → Kept P R o (act
    y0)) (hP : Sub 17179869184 P) (hR : Sub 10304 R) (hk0 : Kept P R o s) : Kept P R o (State.nvmCmd s p act) := by
  delta State.nvmCmd
  refine kept_ite _ _ _ ?_ ?_
  · refine hact _ ?_
    assumption
  · refine State.answer_kept _ _ _ _ _ (.of rfl hP) (.of rfl hR) ?_
    assumption

theorem execStatus_kept (p : Port) (s : State) (hP : Sub 17179869184 P) (hR : Sub 10304 R) (hk0 : Kept P R o s) : KeptR P R o
    (execStatus p s) := by
  delta execStatus
  refine (KeptR_next _).mpr ?_
  refine State.serve_kept _ _ _ _ ?_ (.of rfl hP) (.of rfl hR) ?_
  · intro y1_0 hy1_1
    refine State.answer_kept _ _ _ _ _ (.of rfl hP) (.of rfl hR) ?_
    assumption
  · assumption

theorem execEcho_kept (p : Port) (s : State) (hP : Sub 17179869184 P) (hR : Sub 10304 R) (hk0 : Kept P R o s) : KeptR P R o
    (execEcho p s) := by
  delta execEcho
  refine (KeptR_next _).mpr ?_
  refine State.serve_kept _ _ _ _ ?_ (.of rfl hP) (.of rfl hR) ?_
  · intro y1_0 hy1_1
    refine State.answer_kept _ _ _ _ _ (.of rfl hP) (.of rfl hR) ?_
    assumption
  · assumption

theorem execUnknownCmd_kept (p : Port) (s : State) (hP : Sub 17179869184 P) (hR : Sub 10304 R) (hk0 : Kept P R o s) : KeptR P
    R o (execUnknownCmd p s) := by
  delta execUnknownCmd
  refine (KeptR_next _).mpr ?_
  refine State.serve_kept _ _ _ _ ?_ (.of rfl hP) (.of rfl hR) ?_
  · intro y1_0 hy1_1
    refine State.answer_kept _ _ _ _ _ (.of rfl hP) (.of rfl hR) ?_
    assumption
  · assumption

theorem State.updRes_kept (s : State) (r : Nat) (hR : Sub 0x400000000000000000000000000000 R) (hk0 : Kept P R o s) : Kept P R
    o (State.updRes s r) := by
  delta State.updRes
  refine State.put_kept _ _ _ _ (hR.bit rfl) ?_
  assumption

theorem State.updFail_kept (s : State) (p : Port) (r : Nat) (res : List (Nat × Nat)) (hP : Sub 17179869184 P) (hR : Sub
    0x400000000000000000000000002840 R) (hk0 : Kept P R o s) : Kept P R o (State.updFail s p r res) := by
  delta State.updFail
  refine State.answer_kept _ _ _ _ _ (.of rfl hP) (.of rfl hR) ?_
  refine State.updRes_kept _ _ (.of rfl hR) ?_
  assumption

theorem State.updOpen_kept (s : State) (p : Port) (hP : Sub 25769803776 P) (hR : Sub 0x400000000000000000000000002840 R) (hk0
    : Kept P R o s) : Kept P R o (State.updOpen s p) := by
  delta State.updOpen
  extract_lets +onlyGivenNames -underBinder -merge v1
  clear_value v1
  extract_lets +onlyGivenNames -underBinder -merge v2
  clear_value v2
  extract_lets +onlyGivenNames -underBinder -merge v00
  clear_value v00
  extract_lets +onlyGivenNames -underBinder -merge v0
  have hv0 : Kept P R o v0 := by
    unfold v0
    refine kept_boot (s) _ (hP.bit rfl) ?_
    assumption
  clear_value v0
  refine kept_ite _ _ _ ?_ ?_
  · refine State.answer_kept _ _ _ _ _ (.of rfl hP) (.of rfl hR) ?_
    assumption
  · refine kept_ite _ _ _ ?_ ?_
    · refine State.updFail_kept _ _ _ _ (.of rfl hP) (.of rfl hR) ?_
      assumption
    · split
      · refine State.answer_kept _ _ _ _ _ (.of rfl hP) (.of rfl hR) ?_
        assumption
      · refine kept_ite _ _ _ ?_ ?_
        · refine State.answer_kept _ _ _ _ _ (.of rfl hP) (.of rfl hR) ?_
          assumption
        · extract_lets +onlyGivenNames -underBinder -merge v3
          clear_value v3
          extract_lets +onlyGivenNames -underBinder -merge v4
          have hv4 : Kept P R o v4 := by
            unfold v4
            refine kept_boot (v0) _ (hP.bit rfl) ?_
            assumption
          clear_value v4
          extract_lets +onlyGivenNames -underBinder -merge v5
          have hv5 : Kept P R o v5 := by
            unfold v5
            refine State.put_kept _ _ _ _ (hR.bit rfl) ?_
            refine State.put_kept _ _ _ _ (hR.bit rfl) ?_
            refine State.updRes_kept _ _ (.of rfl hR) ?_
            assumption
          clear_value v5
          refine State.answer_kept _ _ _ _ _ (.of rfl hP) (.of rfl hR) ?_
          refine State.put_kept _ _ _ _ (hR.bit rfl) ?_
          assumption

theorem execUpdOpen_kept (p : Port) (s : State) (hP : Sub 25769803776 P) (hR : Sub 0x400000000000000000000000002940 R) (hk0 :
    Kept P R o s) : KeptR P R o (execUpdOpen p s) := by
  delta execUpdOpen
  refine (KeptR_next _).mpr ?_
  refine State.serve_kept _ _ _ _ ?_ (.of rfl hP) (.of rfl hR) ?_
  · intro y1_0 hy1_1
    refine State.guarded_kept _ _ _ _ _ ?_ (.of rfl hP) (.of rfl hR) ?_
    · intro y1_0 hy1_1
      refine State.updOpen_kept _ _ (.of rfl hP) (.of rfl hR) ?_
      assumption
    · assumption
  · assumption

theorem State.overwritten_kept (s : State) (kind : Nat) (hP : Sub 4294967296 P) (hR : Sub 0x200000000000000000000000000000 R)
    (hk0 : Kept P R o s) : Kept P R o (State.overwritten s kind) := by
  delta State.overwritten
  refine kept_ite _ _ _ ?_ ?_
  · refine State.put_kept _ _ _ _ (hR.bit rfl) ?_
    assumption
  · refine kept_ite _ _ _ ?_ ?_
    · refine State.modSetRec_kept _ _ _ (.of rfl hP) ?_
      assumption
    · assumption

theorem State.updPage_kept (s0 : State) (p : Port) (hP : Sub 30131879936 P) (hR : Sub 0x600000000000000000000000002840 R) (hk0
    : Kept P R o s0) : Kept P R o (State.updPage s0 p) := by
  delta State.updPage
  extract_lets +onlyGivenNames -underBinder -merge v1
  clear_value v1
  extract_lets +onlyGivenNames -underBinder -merge v2
  clear_value v2
  extract_lets +onlyGivenNames -underBinder -merge v3
  clear_value v3
  extract_lets +onlyGivenNames -underBinder -merge v4
  have hv4 : Kept P R o v4 := by
    unfold v4
    refine kept_boot (s0) _ (hP.bit rfl) ?_
    assumption
  clear_value v4
  refine kept_ite _ _ _ ?_ ?_
  · refine State.answer_kept _ _ _ _ _ (.of rfl hP) (.of rfl hR) ?_
    assumption
  · split
    · refine State.answer_kept _ _ _ _ _ (.of rfl hP) (.of rfl hR) ?_
      assumption
    · extract_lets +onlyGivenNames -underBinder -merge v5
      clear_value v5
      refine kept_ite _ _ _ ?_ ?_
      · refine State.answer_kept _ _ _ _ _ (.of rfl hP) (.of rfl hR) ?_
        refine State.raise_kept _ _ _ _ _ _ (.of rfl hP) ?_
        refine State.updRes_kept _ _ (.of rfl hR) ?_
        assumption
      · refine kept_ite _ _ _ ?_ ?_
        · refine State.updFail_kept _ _ _ _ (.of rfl hP) (.of rfl hR) ?_
          assumption
        · split
          · refine State.updFail_kept _ _ _ _ (.of rfl hP) (.of rfl hR) ?_
            refine State.raiseNvm_kept _ _ _ (.of rfl hP) ?_
            assumption
          · extract_lets +onlyGivenNames -underBinder -merge v6
            have hv6 : Kept P R o v6 := by
              unfold v6
              refine State.overwritten_kept _ _ (.of rfl hP) (.of rfl hR) ?_
              refine State.setPage_kept _ _ _ (.of rfl hP) ?_
              assumption
            clear_value v6
            refine State.answer_kept _ _ _ _ _ (.of rfl hP) (.of rfl hR) ?_
            refine State.put_kept _ _ _ _ (hR.bit rfl) ?_
            refine State.updRes_kept _ _ (.of rfl hR) ?_
            assumption

theorem execUpdPage_kept (p : Port) (s : State) (hP : Sub 30131879936 P) (hR : Sub 0x600000000000000000000000002940 R) (hk0 :
    Kept P R o s) : KeptR P R o (execUpdPage p s) := by
  delta execUpdPage
  refine (KeptR_next _).mpr ?_
  refine State.serve_kept _ _ _ _ ?_ (.of rfl hP) (.of rfl hR) ?_
  · intro y1_0 hy1_1
    refine State.guarded_kept _ _ _ _ _ ?_ (.of rfl hP) (.of rfl hR) ?_
    · intro y1_0 hy1_1
      refine State.updPage_kept _ _ (.of rfl hP) (.of rfl hR) ?_
      assumption
    · assumption
  · assumption

theorem State.verified_kept (s : State) (kind : Nat) (m : Manifest) (body : List Byte) (hP : Sub 4294967296 P) (hR : Sub
    0x200000000000000000000000000000 R) (hk0 : Kept P R o s) : Kept P R o (State.verified s kind m body) := by
  delta State.verified
  refine kept_ite _ _ _ ?_ ?_
  · refine State.put_kept _ _ _ _ (hR.bit rfl) ?_
    assumption
  · refine kept_ite _ _ _ ?_ ?_
    · split
      · refine State.modKey_kept _ _ _ (.of rfl hP) ?_
        assumption
      · assumption
    · assumption

theorem State.updClose_kept (s : State) (p : Port) (hP : Sub 30131879936 P) (hR : Sub 0x600000000000000000000000002840 R) (hk0
    : Kept P R o s) : Kept P R o (State.updClose s p) := by
  delta State.updClose
  extract_lets +onlyGivenNames -underBinder -merge v1
  clear_value v1
  refine kept_ite _ _ _ ?_ ?_
  · refine State.answer_kept _ _ _ _ _ (.of rfl hP) (.of rfl hR) ?_
    assumption
  · extract_lets +onlyGivenNames -underBinder -merge v2
    clear_value v2
    extract_lets +onlyGivenNames -underBinder -merge v3
    have hv3 : Kept P R o v3 := by
      unfold v3
      refine kept_boot (s) _ (hP.bit rfl) ?_
      assumption
    clear_value v3
    split
    · refine State.answer_kept _ _ _ _ _ (.of rfl hP) (.of rfl hR) ?_
      assumption
    · refine kept_ite _ _ _ ?_ ?_
      · refine State.updFail_kept _ _ _ _ (.of rfl hP) (.of rfl hR) ?_
        refine State.raiseNvm_kept _ _ _ (.of rfl hP) ?_
        assumption
      · split
        · refine State.updFail_kept _ _ _ _ (.of rfl hP) (.of rfl hR) ?_
          refine State.raiseNvm_kept _ _ _ (.of rfl hP) ?_
          assumption
        · refine State.answer_kept _ _ _ _ _ (.of rfl hP) (.of rfl hR) ?_
          refine State.updRes_kept _ _ (.of rfl hR) ?_
          refine State.verified_kept _ _ _ _ (.of rfl hP) (.of rfl hR) ?_
          assumption

theorem execUpdClose_kept (p : Port) (s : State) (hP : Sub 30131879936 P) (hR : Sub 0x600000000000000000000000002940 R) (hk0 :
    Kept P R o s) : KeptR P R o (execUpdClose p s) := by
  delta execUpdClose
  refine (KeptR_next _).mpr ?_
  refine State.serve_kept _ _ _ _ ?_ (.of rfl hP) (.of rfl hR) ?_
  · intro y1_0 hy1_1
    refine State.guarded_kept _ _ _ _ _ ?_ (.of rfl hP) (.of rfl hR) ?_
    · intro y1_0 hy1_1
      refine State.updClose_kept _ _ (.of rfl hP) (.of rfl hR) ?_
      assumption
    · assumption
  · assumption

theorem execUpdAbort_kept (p : Port) (s : State) (hP : Sub 25769803776 P) (hR : Sub 0x400000000000000000000000002940 R) (hk0 :
    Kept P R o s) : KeptR P R o (execUpdAbort p s) := by
  delta execUpdAbort
  refine (KeptR_next _).mpr ?_
  refine State.serve_kept _ _ _ _ ?_ (.of rfl hP) (.of rfl hR) ?_
  · intro y1_0 hy1_1
    refine State.guarded_kept _ _ _ _ _ ?_ (.of rfl hP) (.of rfl hR) ?_
    · intro y1_0 hy1_1
      refine kept_ite _ _ _ ?_ ?_
      · refine State.answer_kept _ _ _ _ _ (.of rfl hP) (.of rfl hR) ?_
        assumption
      · refine State.answer_kept _ _ _ _ _ (.of rfl hP) (.of rfl hR) ?_
        refine State.updRes_kept _ _ (.of rfl hR) ?_
        refine kept_boot (y1_0) _ (hP.bit rfl) ?_
        assumption
    · assumption
  · assumption

theorem State.beginPause_kept (s : State) (slot : Nat) (set : Nat) (rollback : Bool) (port : Option Nat) (hP : Sub
    219118829568 P) (hR : Sub 0x200000010000000000000000000000000000 R) (hk0 : Kept P R o s) : Kept P R o (State.beginPause s slot set rollback port)
    := by
  delta State.beginPause
  extract_lets +onlyGivenNames -underBinder -merge v1
  clear_value v1
  extract_lets +onlyGivenNames -underBinder -merge v2
  have hv2 : Kept P R o v2 := by
    unfold v2
    refine State.ackState_kept _ _ (.of rfl hP) (.of rfl hR) ?_
    assumption
  clear_value v2
  extract_lets +onlyGivenNames -underBinder -merge v3
  have hv3 : Kept P R o v3 := by
    unfold v3
    split
    · refine State.record_kept _ _ (.of rfl hP) ?_
      assumption
    · refine State.raiseNvm_kept _ _ _ (.of rfl hP) ?_
      assumption
  clear_value v3
  extract_lets +onlyGivenNames -underBinder -merge v4
  clear_value v4
  refine State.toStage_kept _ _ (.of rfl hR) ?_
  refine kept_boot (v3) _ (hP.bit rfl) ?_
  assumption

theorem State.restart_kept (s : State) (hP : Sub allParts P) (hR : Sub allRegs R) (hk0 : Kept P R o s) : Kept P R o
    (State.restart s) := by
  delta State.restart
  exact State.opalStage_kept _ (.of rfl hP) (.of rfl hR) (State.put_kept _ _ _ _ (hR.bit rfl) (kept_of_reset s rfl rfl rfl hP hR hk0))

theorem State.activateFw_kept (s : State) (p : Port) (hP : Sub allParts P) (hR : Sub allRegs R) (hk0 : Kept P R o s) : Kept P
    R o (State.activateFw s p) := by
  delta State.activateFw
  extract_lets +onlyGivenNames -underBinder -merge v1
  clear_value v1
  refine kept_ite _ _ _ ?_ ?_
  · split
    · refine State.restart_kept _ (.of rfl hP) (.of rfl hR) ?_
      refine State.record_kept _ _ (.of rfl hP) ?_
      assumption
    · refine State.updFail_kept _ _ _ _ (.of rfl hP) (.of rfl hR) ?_
      refine State.raiseNvm_kept _ _ _ (.of rfl hP) ?_
      assumption
  · extract_lets +onlyGivenNames -underBinder -merge v2
    have hv2 : Kept P R o v2 := by
      unfold v2
      refine State.beginPause_kept _ _ _ _ _ (.of rfl hP) (.of rfl hR) ?_
      assumption
    clear_value v2
    refine kept_host (v2) _ (hP.bit rfl) ?_
    assumption

theorem State.activateSet_kept (s : State) (hP : Sub 545855135800 P) (hR : Sub
    0x200000000000200dc041000000001f803400000000003a08 R) (hk0 : Kept P R o s) : Kept P R o (State.activateSet s) := by
  delta State.activateSet
  extract_lets +onlyGivenNames -underBinder -merge v1
  clear_value v1
  extract_lets +onlyGivenNames -underBinder -merge v2
  have hv2 : Kept P R o v2 := by
    unfold v2
    refine State.put_kept _ _ _ _ (hR.bit rfl) ?_
    refine State.useSet_kept _ _ (.of rfl hP) ?_
    assumption
  clear_value v2
  refine State.enterBlockReset_kept _ _ (.of rfl hP) (.of rfl hR) ?_
  refine kept_boot (v2) _ (hP.bit rfl) ?_
  assumption

theorem State.beginLoad_kept (s : State) (img : List Byte) (en : Bool) (port : Option Nat) (hP : Sub 8623489024 P) (hR : Sub
    0x200000000000000000000000000000000000000000000000 R) (hk0 : Kept P R o s) : Kept P R o (State.beginLoad s img en port) := by
  delta State.beginLoad
  refine State.put_kept _ _ _ _ (hR.bit rfl) ?_
  refine kept_upd (s) _ 8623489024 rfl ⟨[], (List.append_nil _).symm⟩ rfl (by intro p hp; cases p <;> first | rfl | cases hp) (.of rfl hP) ?_
  assumption

theorem State.activateModel_kept (s : State) (p : Port) (hP : Sub 25870475264 P) (hR : Sub
    0x2e0000000000000000400000000000000000000000002840 R) (hk0 : Kept P R o s) : Kept P R o (State.activateModel s p) := by
  delta State.activateModel
  split
  · refine State.updFail_kept _ _ _ _ (.of rfl hP) (.of rfl hR) ?_
    refine State.raiseNvm_kept _ _ _ (.of rfl hP) ?_
    assumption
  · refine kept_ite _ _ _ ?_ ?_
    · refine State.updFail_kept _ _ _ _ (.of rfl hP) (.of rfl hR) ?_
      refine State.put_kept _ _ _ _ (hR.bit rfl) ?_
      assumption
    · refine State.answer_kept _ _ _ _ _ (.of rfl hP) (.of rfl hR) ?_
      refine State.updRes_kept _ _ (.of rfl hR) ?_
      refine State.beginLoad_kept _ _ _ _ (.of rfl hP) (.of rfl hR) ?_
      refine State.loadTables_kept _ _ _ (.of rfl hP) (.of rfl hR) ?_
      assumption

theorem State.activateKey_kept (s : State) (p : Port) (hP : Sub 30064771072 P) (hR : Sub 0x400000000000000000000000002840 R)
    (hk0 : Kept P R o s) : Kept P R o (State.activateKey s p) := by
  delta State.activateKey
  split
  · refine State.answer_kept _ _ _ _ _ (.of rfl hP) (.of rfl hR) ?_
    assumption
  · extract_lets +onlyGivenNames -underBinder -merge v1
    have hv1 : Kept P R o v1 := by
      unfold v1
      refine State.modKey_kept _ _ _ (.of rfl hP) ?_
      refine State.modKey_kept _ _ _ (.of rfl hP) ?_
      assumption
    clear_value v1
    extract_lets +onlyGivenNames -underBinder -merge v2
    have hv2 : Kept P R o v2 := by
      unfold v2
      refine State.record_kept _ _ (.of rfl hP) ?_
      assumption
    clear_value v2
    extract_lets +onlyGivenNames -underBinder -merge v3
    clear_value v3
    extract_lets +onlyGivenNames -underBinder -merge v4
    have hv4 : Kept P R o v4 := by
      unfold v4
      refine kept_boot (v2) _ (hP.bit rfl) ?_
      assumption
    clear_value v4
    refine State.answer_kept _ _ _ _ _ (.of rfl hP) (.of rfl hR) ?_
    refine State.updRes_kept _ _ (.of rfl hR) ?_
    assumption

theorem State.activate_kept (s : State) (p : Port) (hP : Sub allParts P) (hR : Sub allRegs R) (hk0 : Kept P R o s) : Kept P R
    o (State.activate s p) := by
  delta State.activate
  refine kept_ite _ _ _ ?_ ?_
  · refine State.answer_kept _ _ _ _ _ (.of rfl hP) (.of rfl hR) ?_
    assumption
  · split
    · refine State.activateFw_kept _ _ (.of rfl hP) (.of rfl hR) ?_
      assumption
    · refine State.activateSet_kept _ (.of rfl hP) (.of rfl hR) ?_
      assumption
    · refine State.activateModel_kept _ _ (.of rfl hP) (.of rfl hR) ?_
      assumption
    · refine kept_ite _ _ _ ?_ ?_
      · refine State.answer_kept _ _ _ _ _ (.of rfl hP) (.of rfl hR) ?_
        assumption
      · refine State.activateKey_kept _ _ (.of rfl hP) (.of rfl hR) ?_
        assumption

theorem execActivate_kept (p : Port) (s : State) (hP : Sub allParts P) (hR : Sub allRegs R) (hk0 : Kept P R o s) : KeptR P R o
    (execActivate p s) := by
  delta execActivate
  refine (KeptR_next _).mpr ?_
  refine State.serve_kept _ _ _ _ ?_ (.of rfl hP) (.of rfl hR) ?_
  · intro y1_0 hy1_1
    refine State.guarded_kept _ _ _ _ _ ?_ (.of rfl hP) (.of rfl hR) ?_
    · intro y1_0 hy1_1
      refine State.nvmCmd_kept _ _ _ ?_ (.of rfl hP) (.of rfl hR) ?_
      · intro y1_0 hy1_1
        refine State.activate_kept _ _ (.of rfl hP) (.of rfl hR) ?_
        assumption
      · assumption
    · assumption
  · assumption

theorem execActivatePauseEnd_kept (s : State) (hP : Sub 237510075392 P) (hR : Sub allRegs R) (hk0 : Kept P R o s) : KeptR P R
    o (execActivatePauseEnd s) := by
  delta execActivatePauseEnd
  split
  · refine (KeptR_next _).mpr ?_
    assumption
  · extract_lets +onlyGivenNames -underBinder -merge v1
    clear_value v1
    extract_lets +onlyGivenNames -underBinder -merge v2
    have hv2 : Kept P R o v2 := by
      unfold v2
      refine kept_boot (s) _ (hP.bit rfl) ?_
      assumption
    clear_value v2
    extract_lets +onlyGivenNames -underBinder -merge v3
    have hv3 : Kept P R o v3 := by
      unfold v3
      refine kept_ite _ _ _ ?_ ?_
      · assumption
      · split
        · refine State.applySettings_kept _ (.of rfl hP) (.of rfl hR) ?_
          refine State.pickSettings_kept _ (.of rfl hP) (.of rfl hR) ?_
          refine State.startFw_kept _ _ _ (.of rfl hP) (.of rfl hR) ?_
          assumption
        · assumption
    clear_value v3
    extract_lets +onlyGivenNames -underBinder -merge v4
    have hv4 : Kept P R o v4 := by
      unfold v4
      refine State.toStage_kept _ _ (.of rfl hR) ?_
      refine State.ackState_kept _ _ (.of rfl hP) (.of rfl hR) ?_
      assumption
    clear_value v4
    extract_lets +onlyGivenNames -underBinder -merge v5
    clear_value v5
    extract_lets +onlyGivenNames -underBinder -merge v6
    have hv6 : Kept P R o v6 := by
      unfold v6
      split
      · refine State.answer_kept _ _ _ _ _ (.of rfl hP) (.of rfl hR) ?_
        refine State.updRes_kept _ _ (.of rfl hR) ?_
        assumption
      · refine kept_ite _ _ _ ?_ ?_
        · refine State.put_kept _ _ _ _ (hR.bit rfl) ?_
          assumption
        · assumption
    clear_value v6
    refine (KeptR_next _).mpr ?_
    refine State.deliverTrap_kept _ (.of rfl hP) ?_
    refine kept_coll (v6) _ (hP.bit rfl) ?_
    assumption

theorem execModelLoadDone_kept (s : State) (hP : Sub 25803366400 P) (hR : Sub
    0x280000000000000000000000000000000000000000002840 R) (hk0 : Kept P R o s) : KeptR P R o (execModelLoadDone s) := by
  delta execModelLoadDone
  split
  · refine (KeptR_next _).mpr ?_
    assumption
  · extract_lets +onlyGivenNames -underBinder -merge v1
    have hv1 : Kept P R o v1 := by
      unfold v1
      refine State.checkModel_kept _ _ (.of rfl hP) (.of rfl hR) ?_
      assumption
    clear_value v1
    extract_lets +onlyGivenNames -underBinder -merge v2
    have hv2 : Kept P R o v2 := by
      unfold v2
      refine kept_ite _ _ _ ?_ ?_
      · refine State.coefEnabled_kept _ (.of rfl hP) ?_
        refine State.put_kept _ _ _ _ (hR.bit rfl) ?_
        assumption
      · assumption
    clear_value v2
    extract_lets +onlyGivenNames -underBinder -merge v3
    clear_value v3
    extract_lets +onlyGivenNames -underBinder -merge v4
    have hv4 : Kept P R o v4 := by
      unfold v4
      refine kept_boot (v2) _ (hP.bit rfl) ?_
      assumption
    clear_value v4
    extract_lets +onlyGivenNames -underBinder -merge v5
    clear_value v5
    refine (KeptR_next _).mpr ?_
    split
    · refine State.answer_kept _ _ _ _ _ (.of rfl hP) (.of rfl hR) ?_
      assumption
    · assumption

theorem execModelLoad_kept (p : Port) (s : State) (hP : Sub 25870467072 P) (hR : Sub
    0x200000000000000000000000000000000000000000002940 R) (hk0 : Kept P R o s) : KeptR P R o (execModelLoad p s) := by
  delta execModelLoad
  refine (KeptR_next _).mpr ?_
  refine State.serve_kept _ _ _ _ ?_ (.of rfl hP) (.of rfl hR) ?_
  · intro y1_0 hy1_1
    refine State.guarded_kept _ _ _ _ _ ?_ (.of rfl hP) (.of rfl hR) ?_
    · intro y1_0 hy1_1
      refine kept_ite _ _ _ ?_ ?_
      · refine State.answer_kept _ _ _ _ _ (.of rfl hP) (.of rfl hR) ?_
        assumption
      · split
        · refine State.answer_kept _ _ _ _ _ (.of rfl hP) (.of rfl hR) ?_
          refine State.raiseNvm_kept _ _ _ (.of rfl hP) ?_
          assumption
        · extract_lets +onlyGivenNames -underBinder -merge v1
          have hv1 : Kept P R o v1 := by
            unfold v1
            refine State.beginLoad_kept _ _ _ _ (.of rfl hP) (.of rfl hR) ?_
            assumption
          clear_value v1
          refine kept_host (v1) _ (hP.bit rfl) ?_
          assumption
    · assumption
  · assumption

theorem State.blow_kept (s : State) (i : Nat) (w : Word) (hP : Sub 2147483648 P) (hk0 : Kept P R o s) : Kept P R o (State.blow
    s i w) := by
  delta State.blow
  refine kept_opal (s) _ (hP.bit rfl) ?_
  assumption

theorem State.blowFuses_kept (s : State) (m : Manifest) (hP : Sub 2147483648 P) (hR : Sub 0x3c000000000000000000000000000000
    R) (hk0 : Kept P R o s) : Kept P R o (State.blowFuses s m) := by
  delta State.blowFuses
  extract_lets +onlyGivenNames -underBinder -merge v1
  clear_value v1
  extract_lets +onlyGivenNames -underBinder -merge v2
  have hv2 : Kept P R o v2 := by
    unfold v2
    refine kept_ite _ _ _ ?_ ?_
    · refine State.blow_kept _ _ _ (.of rfl hP) ?_
      refine State.blow_kept _ _ _ (.of rfl hP) ?_
      assumption
    · assumption
  clear_value v2
  extract_lets +onlyGivenNames -underBinder -merge v3
  have hv3 : Kept P R o v3 := by
    unfold v3
    refine kept_ite _ _ _ ?_ ?_
    · refine State.blow_kept _ _ _ (.of rfl hP) ?_
      assumption
    · assumption
  clear_value v3
  extract_lets +onlyGivenNames -underBinder -merge v4
  have hv4 : Kept P R o v4 := by
    unfold v4
    refine kept_ite _ _ _ ?_ ?_
    · refine State.blow_kept _ _ _ (.of rfl hP) ?_
      assumption
    · assumption
  clear_value v4
  refine State.showOpal_kept _ (.of rfl hR) ?_
  assumption

theorem State.commit_kept (s : State) (p : Port) (hP : Sub 23622320128 P) (hR : Sub 0x3c010000000000000000000000002840 R) (hk0
    : Kept P R o s) : Kept P R o (State.commit s p) := by
  delta State.commit
  split
  · refine State.answer_kept _ _ _ _ _ (.of rfl hP) (.of rfl hR) ?_
    assumption
  · extract_lets +onlyGivenNames -underBinder -merge v1
    have hv1 : Kept P R o v1 := by
      unfold v1
      refine State.record_kept _ _ (.of rfl hP) ?_
      assumption
    clear_value v1
    extract_lets +onlyGivenNames -underBinder -merge v2
    clear_value v2
    extract_lets +onlyGivenNames -underBinder -merge v3
    have hv3 : Kept P R o v3 := by
      unfold v3
      refine kept_nvm (v1) _ (hP.bit rfl) ?_
      assumption
    clear_value v3
    refine State.answer_kept _ _ _ _ _ (.of rfl hP) (.of rfl hR) ?_
    refine State.blowFuses_kept _ _ (.of rfl hP) (.of rfl hR) ?_
    refine State.put_kept _ _ _ _ (hR.bit rfl) ?_
    assumption

theorem execCommit_kept (p : Port) (s : State) (hP : Sub 23622320128 P) (hR : Sub 0x3c010000000000000000000000002940 R) (hk0 :
    Kept P R o s) : KeptR P R o (execCommit p s) := by
  delta execCommit
  refine (KeptR_next _).mpr ?_
  refine State.serve_kept _ _ _ _ ?_ (.of rfl hP) (.of rfl hR) ?_
  · intro y1_0 hy1_1
    refine State.guarded_kept _ _ _ _ _ ?_ (.of rfl hP) (.of rfl hR) ?_
    · intro y1_0 hy1_1
      refine State.nvmCmd_kept _ _ _ ?_ (.of rfl hP) (.of rfl hR) ?_
      · intro y1_0 hy1_1
        refine State.commit_kept _ _ (.of rfl hP) (.of rfl hR) ?_
        assumption
      · assumption
    · assumption
  · assumption

theorem execTrialMinute_kept (s : State) (hP : Sub 12884901888 P) (hk0 : Kept P R o s) : KeptR P R o (execTrialMinute s) := by
  delta execTrialMinute
  refine (KeptR_next _).mpr ?_
  refine kept_ite _ _ _ ?_ ?_
  · extract_lets +onlyGivenNames -underBinder -merge v1
    have hv1 : Kept P R o v1 := by
      unfold v1
      refine State.record_kept _ _ (.of rfl hP) ?_
      assumption
    clear_value v1
    refine kept_boot (v1) _ (hP.bit rfl) ?_
    assumption
  · assumption

theorem execTrialRollback_kept (s : State) (hP : Sub 219118829568 P) (hR : Sub 0x200000010000000000000000000000000200 R) (hk0
    : Kept P R o s) : KeptR P R o (execTrialRollback s) := by
  delta execTrialRollback
  extract_lets +onlyGivenNames -underBinder -merge v1
  clear_value v1
  refine (KeptR_next _).mpr ?_
  refine kept_ite _ _ _ ?_ ?_
  · refine State.beginPause_kept _ _ _ _ _ (.of rfl hP) (.of rfl hR) ?_
    refine State.put_kept _ _ _ _ (hR.bit rfl) ?_
    assumption
  · assumption

theorem execRotationPage_kept (s : State) (hP : Sub 12952010752 P) (hk0 : Kept P R o s) : KeptR P R o (execRotationPage s) :=
    by
  delta execRotationPage
  refine keptR_ite _ _ _ ?_ ?_
  · refine (KeptR_next _).mpr ?_
    assumption
  · split
    · split
      · refine (KeptR_next _).mpr ?_
        refine State.modKey_kept _ _ _ (.of rfl hP) ?_
        refine State.record_kept _ _ (.of rfl hP) ?_
        assumption
      · split
        · refine (KeptR_next _).mpr ?_
          extract_lets +onlyGivenNames -underBinder -merge v1
          have hv1 : Kept P R o v1 := by
            unfold v1
            refine State.raiseNvm_kept _ _ _ (.of rfl hP) ?_
            assumption
          clear_value v1
          refine kept_boot (v1) _ (hP.bit rfl) ?_
          assumption
        · extract_lets +onlyGivenNames -underBinder -merge v1
          have hv1 : Kept P R o v1 := by
            unfold v1
            refine State.setPage_kept _ _ _ (.of rfl hP) ?_
            refine State.record_kept _ _ (.of rfl hP) ?_
            refine State.setPage_kept _ _ _ (.of rfl hP) ?_
            assumption
          clear_value v1
          refine (KeptR_next _).mpr ?_
          extract_lets +onlyGivenNames -underBinder -merge v2
          have hv2 : Kept P R o v2 := by
            unfold v2
            refine State.record_kept _ _ (.of rfl hP) ?_
            assumption
          clear_value v2
          refine kept_boot (v2) _ (hP.bit rfl) ?_
          assumption
    · refine (KeptR_next _).mpr ?_
      refine State.record_kept _ _ (.of rfl hP) ?_
      assumption

theorem State.storeRetire_kept (s : State) (p : Port) (l : List Nat) (hP : Sub 21474836480 P) (hR : Sub 10304 R) (hk0 : Kept P
    R o s) : Kept P R o (State.storeRetire s p l) := by
  delta State.storeRetire
  refine State.answer_kept _ _ _ _ _ (.of rfl hP) (.of rfl hR) ?_
  refine State.modSetRec_kept _ _ _ (.of rfl hP) ?_
  assumption

theorem execRetireAdd_kept (p : Port) (s : State) (hP : Sub 21474836480 P) (hR : Sub 10560 R) (hk0 : Kept P R o s) : KeptR P R
    o (execRetireAdd p s) := by
  delta execRetireAdd
  refine (KeptR_next _).mpr ?_
  refine State.serve_kept _ _ _ _ ?_ (.of rfl hP) (.of rfl hR) ?_
  · intro y1_0 hy1_1
    refine State.guarded_kept _ _ _ _ _ ?_ (.of rfl hP) (.of rfl hR) ?_
    · intro y1_0 hy1_1
      refine State.nvmCmd_kept _ _ _ ?_ (.of rfl hP) (.of rfl hR) ?_
      · intro y1_0 hy1_1
        split
        · refine State.answer_kept _ _ _ _ _ (.of rfl hP) (.of rfl hR) ?_
          assumption
        · extract_lets +onlyGivenNames -underBinder -merge v1
          clear_value v1
          refine kept_ite _ _ _ ?_ ?_
          · refine State.answer_kept _ _ _ _ _ (.of rfl hP) (.of rfl hR) ?_
            assumption
          · refine State.storeRetire_kept _ _ _ (.of rfl hP) (.of rfl hR) ?_
            assumption
      · assumption
    · assumption
  · assumption

theorem execRetireRemove_kept (p : Port) (s : State) (hP : Sub 21474836480 P) (hR : Sub 10560 R) (hk0 : Kept P R o s) : KeptR
    P R o (execRetireRemove p s) := by
  delta execRetireRemove
  refine (KeptR_next _).mpr ?_
  refine State.serve_kept _ _ _ _ ?_ (.of rfl hP) (.of rfl hR) ?_
  · intro y1_0 hy1_1
    refine State.guarded_kept _ _ _ _ _ ?_ (.of rfl hP) (.of rfl hR) ?_
    · intro y1_0 hy1_1
      refine State.nvmCmd_kept _ _ _ ?_ (.of rfl hP) (.of rfl hR) ?_
      · intro y1_0 hy1_1
        split
        · refine State.answer_kept _ _ _ _ _ (.of rfl hP) (.of rfl hR) ?_
          assumption
        · refine State.storeRetire_kept _ _ _ (.of rfl hP) (.of rfl hR) ?_
          assumption
      · assumption
    · assumption
  · assumption

theorem execRetireRead_kept (p : Port) (s : State) (hP : Sub 17179869184 P) (hR : Sub 10304 R) (hk0 : Kept P R o s) : KeptR P
    R o (execRetireRead p s) := by
  delta execRetireRead
  refine (KeptR_next _).mpr ?_
  refine State.serve_kept _ _ _ _ ?_ (.of rfl hP) (.of rfl hR) ?_
  · intro y1_0 hy1_1
    extract_lets +onlyGivenNames -underBinder -merge v1
    clear_value v1
    extract_lets +onlyGivenNames -underBinder -merge v2
    clear_value v2
    refine State.answer_kept _ _ _ _ _ (.of rfl hP) (.of rfl hR) ?_
    assumption
  · assumption

theorem State.saveLearned_kept (s : State) (hP : Sub 12884901888 P) (hk0 : Kept P R o s) : Kept P R o (State.saveLearned s) :=
    by
  delta State.saveLearned
  extract_lets +onlyGivenNames -underBinder -merge v1
  clear_value v1
  extract_lets +onlyGivenNames -underBinder -merge v2
  clear_value v2
  extract_lets +onlyGivenNames -underBinder -merge v3
  clear_value v3
  extract_lets +onlyGivenNames -underBinder -merge v4
  clear_value v4
  extract_lets +onlyGivenNames -underBinder -merge v5
  clear_value v5
  extract_lets +onlyGivenNames -underBinder -merge v6
  clear_value v6
  extract_lets +onlyGivenNames -underBinder -merge v7
  clear_value v7
  refine kept_upd (s) _ 12884901888 rfl ⟨[], (List.append_nil _).symm⟩ rfl (by intro p hp; cases p <;> first | rfl | cases hp) (.of rfl hP) ?_
  assumption

theorem execLearnSave_kept (p : Port) (s : State) (hP : Sub 30064771072 P) (hR : Sub 10560 R) (hk0 : Kept P R o s) : KeptR P R
    o (execLearnSave p s) := by
  delta execLearnSave
  refine (KeptR_next _).mpr ?_
  refine State.serve_kept _ _ _ _ ?_ (.of rfl hP) (.of rfl hR) ?_
  · intro y1_0 hy1_1
    refine State.guarded_kept _ _ _ _ _ ?_ (.of rfl hP) (.of rfl hR) ?_
    · intro y1_0 hy1_1
      refine State.nvmCmd_kept _ _ _ ?_ (.of rfl hP) (.of rfl hR) ?_
      · intro y1_0 hy1_1
        refine State.answer_kept _ _ _ _ _ (.of rfl hP) (.of rfl hR) ?_
        refine State.saveLearned_kept _ (.of rfl hP) ?_
        assumption
      · assumption
    · assumption
  · assumption

theorem execLearnSaveTimer_kept (s : State) (hP : Sub 12884901888 P) (hk0 : Kept P R o s) : KeptR P R o (execLearnSaveTimer s)
    := by
  delta execLearnSaveTimer
  extract_lets +onlyGivenNames -underBinder -merge v1
  clear_value v1
  refine (KeptR_next _).mpr ?_
  refine kept_ite _ _ _ ?_ ?_
  · refine State.saveLearned_kept _ (.of rfl hP) ?_
    assumption
  · assumption

theorem execLogInfo_kept (p : Port) (s : State) (hP : Sub 292057776128 P) (hR : Sub 10304 R) (hk0 : Kept P R o s) : KeptR P R
    o (execLogInfo p s) := by
  delta execLogInfo
  refine (KeptR_next _).mpr ?_
  refine State.serve_kept _ _ _ _ ?_ (.of rfl hP) (.of rfl hR) ?_
  · intro y1_0 hy1_1
    extract_lets +onlyGivenNames -underBinder -merge v1
    clear_value v1
    extract_lets +onlyGivenNames -underBinder -merge v2
    have hv2 : Kept P R o v2 := by
      unfold v2
      refine kept_freeCtr (y1_0) _ (hP.bit rfl) ?_
      assumption
    clear_value v2
    refine kept_ite _ _ _ ?_ ?_
    · refine State.answer_kept _ _ _ _ _ (.of rfl hP) (.of rfl hR) ?_
      assumption
    · refine State.answer_kept _ _ _ _ _ (.of rfl hP) (.of rfl hR) ?_
      assumption
  · assumption

theorem execLogRead_kept (p : Port) (s : State) (hP : Sub 17179869184 P) (hR : Sub 10304 R) (hk0 : Kept P R o s) : KeptR P R o
    (execLogRead p s) := by
  delta execLogRead
  refine (KeptR_next _).mpr ?_
  refine State.serve_kept _ _ _ _ ?_ (.of rfl hP) (.of rfl hR) ?_
  · intro y1_0 hy1_1
    extract_lets +onlyGivenNames -underBinder -merge v1
    clear_value v1
    extract_lets +onlyGivenNames -underBinder -merge v2
    clear_value v2
    extract_lets +onlyGivenNames -underBinder -merge v3
    clear_value v3
    refine kept_ite _ _ _ ?_ ?_
    · refine State.answer_kept _ _ _ _ _ (.of rfl hP) (.of rfl hR) ?_
      assumption
    · refine State.answer_kept _ _ _ _ _ (.of rfl hP) (.of rfl hR) ?_
      assumption
  · assumption

theorem execCreditLogRead_kept (p : Port) (s : State) (hP : Sub 17179869184 P) (hR : Sub 10304 R) (hk0 : Kept P R o s) : KeptR
    P R o (execCreditLogRead p s) := by
  delta execCreditLogRead
  refine (KeptR_next _).mpr ?_
  refine State.serve_kept _ _ _ _ ?_ (.of rfl hP) (.of rfl hR) ?_
  · intro y1_0 hy1_1
    refine kept_ite _ _ _ ?_ ?_
    · refine State.answer_kept _ _ _ _ _ (.of rfl hP) (.of rfl hR) ?_
      assumption
    · split
      · refine State.answer_kept _ _ _ _ _ (.of rfl hP) (.of rfl hR) ?_
        assumption
      · extract_lets +onlyGivenNames -underBinder -merge v1
        clear_value v1
        refine State.answer_kept _ _ _ _ _ (.of rfl hP) (.of rfl hR) ?_
        assumption
  · assumption

/-! ### Machine/Test.lean -/

theorem State.loadIr_kept (s : State) (code : Nat) (hP : Sub 34359738368 P) (hk0 : Kept P R o s) : Kept P R o (State.loadIr s
    code) := by
  delta State.loadIr
  refine kept_test (s) _ (hP.bit rfl) ?_
  assumption

theorem State.loadBarred_kept (s : State) (code : Nat) (hP : Sub 34359738368 P) (hR : Sub 0x40000000000000000000000000000000
    R) (hk0 : Kept P R o s) : Kept P R o (State.loadBarred s code) := by
  delta State.loadBarred
  refine kept_ite _ _ _ ?_ ?_
  · refine State.put_kept _ _ _ _ (hR.bit rfl) ?_
    refine kept_test (s) _ (hP.bit rfl) ?_
    assumption
  · refine State.loadIr_kept _ _ (.of rfl hP) ?_
    assumption

theorem State.loadWir_kept (s : State) (code : Nat) (hP : Sub 34359738368 P) (hk0 : Kept P R o s) : Kept P R o (State.loadWir
    s code) := by
  delta State.loadWir
  refine kept_test (s) _ (hP.bit rfl) ?_
  assumption

theorem State.loadWirBarred_kept (s : State) (code : Nat) (hP : Sub 34359738368 P) (hR : Sub
    0x40000000000000000000000000000000 R) (hk0 : Kept P R o s) : Kept P R o (State.loadWirBarred s code) := by
  delta State.loadWirBarred
  refine kept_ite _ _ _ ?_ ?_
  · refine State.put_kept _ _ _ _ (hR.bit rfl) ?_
    refine kept_test (s) _ (hP.bit rfl) ?_
    assumption
  · refine State.loadWir_kept _ _ (.of rfl hP) ?_
    assumption

theorem State.tap_kept (s : State) (act : State → State) (hact : ∀ (y0 : State), Kept P R o y0 → Kept P R o (act y0)) (hk0 :
    Kept P R o s) : KeptR P R o (State.tap s act) := by
  delta State.tap
  refine (KeptR_next _).mpr ?_
  refine kept_ite _ _ _ ?_ ?_
  · refine hact _ ?_
    assumption
  · assumption

theorem State.shiftOut_kept (s : State) (v : Nat) (hP : Sub 137438953472 P) (hk0 : Kept P R o s) : Kept P R o (State.shiftOut
    s v) := by
  delta State.shiftOut
  refine kept_sent (s) _ (hP.bit rfl) ?_
  assumption

theorem execExtest_kept (s : State) (hP : Sub 34359738368 P) (hR : Sub 0x40000000000000000000000000000000 R) (hk0 : Kept P R o
    s) : KeptR P R o (execExtest s) := by
  delta execExtest
  refine State.tap_kept _ _ ?_ ?_
  · intro y1_0 hy1_1
    refine State.loadBarred_kept _ _ (.of rfl hP) (.of rfl hR) ?_
    assumption
  · assumption

theorem execSamplePreload_kept (cells : BitVec 23) (s : State) (hP : Sub 34359738368 P) (hk0 : Kept P R o s) : KeptR P R o
    (execSamplePreload cells s) := by
  delta execSamplePreload
  refine State.tap_kept _ _ ?_ ?_
  · intro y1_0 hy1_1
    extract_lets +onlyGivenNames -underBinder -merge v1
    have hv1 : Kept P R o v1 := by
      unfold v1
      refine State.loadIr_kept _ _ (.of rfl hP) ?_
      assumption
    clear_value v1
    refine kept_test (v1) _ (hP.bit rfl) ?_
    assumption
  · assumption

theorem execIdcode_kept (s : State) (hP : Sub 171798691840 P) (hk0 : Kept P R o s) : KeptR P R o (execIdcode s) := by
  delta execIdcode
  refine State.tap_kept _ _ ?_ ?_
  · intro y1_0 hy1_1
    refine State.shiftOut_kept _ _ (.of rfl hP) ?_
    refine State.loadIr_kept _ _ (.of rfl hP) ?_
    assumption
  · assumption

theorem execClamp_kept (s : State) (hP : Sub 34359738368 P) (hR : Sub 0x40000000000000000000000000000000 R) (hk0 : Kept P R o
    s) : KeptR P R o (execClamp s) := by
  delta execClamp
  refine State.tap_kept _ _ ?_ ?_
  · intro y1_0 hy1_1
    refine State.loadBarred_kept _ _ (.of rfl hP) (.of rfl hR) ?_
    assumption
  · assumption

theorem execHighz_kept (s : State) (hP : Sub 34359738368 P) (hR : Sub 0x40000000000000000000000000000000 R) (hk0 : Kept P R o
    s) : KeptR P R o (execHighz s) := by
  delta execHighz
  refine State.tap_kept _ _ ?_ ?_
  · intro y1_0 hy1_1
    refine State.loadBarred_kept _ _ (.of rfl hP) (.of rfl hR) ?_
    assumption
  · assumption

theorem execWrapSel_kept (s : State) (hP : Sub 34359738368 P) (hk0 : Kept P R o s) : KeptR P R o (execWrapSel s) := by
  delta execWrapSel
  refine State.tap_kept _ _ ?_ ?_
  · intro y1_0 hy1_1
    refine State.loadIr_kept _ _ (.of rfl hP) ?_
    assumption
  · assumption

theorem execWrapDr_kept (s : State) (hP : Sub 34359738368 P) (hk0 : Kept P R o s) : KeptR P R o (execWrapDr s) := by
  delta execWrapDr
  refine State.tap_kept _ _ ?_ ?_
  · intro y1_0 hy1_1
    refine State.loadIr_kept _ _ (.of rfl hP) ?_
    assumption
  · assumption

theorem execPrivDbg_kept (s : State) (hP : Sub 446676598784 P) (hR : Sub 0x40000000000000000000000000000000 R) (hk0 : Kept P R
    o s) : KeptR P R o (execPrivDbg s) := by
  delta execPrivDbg
  refine State.tap_kept _ _ ?_ ?_
  · intro y1_0 hy1_1
    refine kept_ite _ _ _ ?_ ?_
    · refine kept_test (y1_0) _ (hP.bit rfl) ?_
      assumption
    · refine kept_ite _ _ _ ?_ ?_
      · refine State.loadBarred_kept _ _ (.of rfl hP) (.of rfl hR) ?_
        assumption
      · extract_lets +onlyGivenNames -underBinder -merge v1
        have hv1 : Kept P R o v1 := by
          unfold v1
          refine State.shiftOut_kept _ _ (.of rfl hP) ?_
          refine State.loadBarred_kept _ _ (.of rfl hP) (.of rfl hR) ?_
          assumption
        clear_value v1
        refine kept_freeCtr (v1) _ (hP.bit rfl) ?_
        assumption
  · assumption

theorem execBypass_kept (s : State) (hP : Sub 34359738368 P) (hk0 : Kept P R o s) : KeptR P R o (execBypass s) := by
  delta execBypass
  refine State.tap_kept _ _ ?_ ?_
  · intro y1_0 hy1_1
    refine State.loadIr_kept _ _ (.of rfl hP) ?_
    assumption
  · assumption

theorem execWsBypass_kept (s : State) (hP : Sub 34359738368 P) (hk0 : Kept P R o s) : KeptR P R o (execWsBypass s) := by
  delta execWsBypass
  refine State.tap_kept _ _ ?_ ?_
  · intro y1_0 hy1_1
    refine State.loadWir_kept _ _ (.of rfl hP) ?_
    assumption
  · assumption

theorem execWsPreload_kept (cells : BitVec 1142) (s : State) (hP : Sub 34359738368 P) (hk0 : Kept P R o s) : KeptR P R o
    (execWsPreload cells s) := by
  delta execWsPreload
  refine State.tap_kept _ _ ?_ ?_
  · intro y1_0 hy1_1
    extract_lets +onlyGivenNames -underBinder -merge v1
    have hv1 : Kept P R o v1 := by
      unfold v1
      refine State.loadWir_kept _ _ (.of rfl hP) ?_
      assumption
    clear_value v1
    refine kept_test (v1) _ (hP.bit rfl) ?_
    assumption
  · assumption

theorem execWsExtest_kept (s : State) (hP : Sub 34359738368 P) (hR : Sub 0x40000000000000000000000000000000 R) (hk0 : Kept P R
    o s) : KeptR P R o (execWsExtest s) := by
  delta execWsExtest
  refine State.tap_kept _ _ ?_ ?_
  · intro y1_0 hy1_1
    refine State.loadWirBarred_kept _ _ (.of rfl hP) (.of rfl hR) ?_
    assumption
  · assumption

theorem execWsIntest_kept (s : State) (hP : Sub 34359738368 P) (hR : Sub 0x40000000000000000000000000000000 R) (hk0 : Kept P R
    o s) : KeptR P R o (execWsIntest s) := by
  delta execWsIntest
  refine State.tap_kept _ _ ?_ ?_
  · intro y1_0 hy1_1
    refine State.loadWirBarred_kept _ _ (.of rfl hP) (.of rfl hR) ?_
    assumption
  · assumption

theorem State.startSelfTest_kept (s : State) (m : Nat) (hP : Sub 34359742464 P) (hR : Sub 0x400000000000000000000000000000000
    R) (hk0 : Kept P R o s) : Kept P R o (State.startSelfTest s m) := by
  delta State.startSelfTest
  refine kept_ite _ _ _ ?_ ?_
  · refine State.put_kept _ _ _ _ (hR.bit rfl) ?_
    assumption
  · extract_lets +onlyGivenNames -underBinder -merge v1
    have hv1 : Kept P R o v1 := by
      unfold v1
      refine State.put_kept _ _ _ _ (hR.bit rfl) ?_
      refine State.put_kept _ _ _ _ (hR.bit rfl) ?_
      assumption
    clear_value v1
    refine State.modLane_kept _ _ _ (hP.bit rfl) ?_
    refine kept_test (v1) _ (hP.bit rfl) ?_
    assumption

theorem execWsLaneSt_kept (m : Fin 2048) (s : State) (hP : Sub 34359742464 P) (hR : Sub 0x600000000000000000000000000000000 R)
    (hk0 : Kept P R o s) : KeptR P R o (execWsLaneSt m s) := by
  delta execWsLaneSt
  refine State.tap_kept _ _ ?_ ?_
  · intro y1_0 hy1_1
    refine State.startSelfTest_kept _ _ (.of rfl hP) (.of rfl hR) ?_
    refine State.put_kept _ _ _ _ (hR.bit rfl) ?_
    refine State.loadWir_kept _ _ (.of rfl hP) ?_
    assumption
  · assumption

theorem execSelfTestDone_kept (failed : BitVec 8) (s : State) (hP : Sub 173073773568 P) (hR : Sub
    0x8000000000000400000000000000000004000000000000 R) (hk0 : Kept P R o s) : KeptR P R o (execSelfTestDone failed s) := by
  delta execSelfTestDone
  refine checked_kept _ _ _ ?_
  split
  · refine (KeptR_next _).mpr ?_
    assumption
  · refine keptR_ite _ _ _ ?_ ?_
    · refine (KeptR_next _).mpr ?_
      refine State.abortSelfTest_kept _ (.of rfl hP) (.of rfl hR) ?_
      assumption
    · extract_lets +onlyGivenNames -underBinder -merge v1
      clear_value v1
      extract_lets +onlyGivenNames -underBinder -merge v2
      clear_value v2
      extract_lets +onlyGivenNames -underBinder -merge v3
      have hv3 : Kept P R o v3 := by
        unfold v3
        refine State.put_kept _ _ _ _ (hR.bit rfl) ?_
        refine kept_test (s) _ (hP.bit rfl) ?_
        assumption
      clear_value v3
      extract_lets +onlyGivenNames -underBinder -merge v4
      have hv4 : Kept P R o v4 := by
        unfold v4
        refine State.put_kept _ _ _ _ (hR.bit rfl) ?_
        assumption
      clear_value v4
      extract_lets +onlyGivenNames -underBinder -merge v5
      clear_value v5
      refine (KeptR_next _).mpr ?_
      refine kept_ite _ _ _ ?_ ?_
      · refine State.failLane_kept _ _ _ (.of rfl hP) (.of rfl hR) ?_
        assumption
      · assumption

theorem execSelfTestAbort_kept (s : State) (hP : Sub 34359738368 P) (hR : Sub 0x400000000000000000000000000000000 R) (hk0 :
    Kept P R o s) : KeptR P R o (execSelfTestAbort s) := by
  delta execSelfTestAbort
  split
  · refine (KeptR_next _).mpr ?_
    assumption
  · refine (KeptR_next _).mpr ?_
    refine kept_ite _ _ _ ?_ ?_
    · refine State.abortSelfTest_kept _ (.of rfl hP) (.of rfl hR) ?_
      assumption
    · assumption

theorem execTokenChallenge_kept (p : Port) (s : State) (hP : Sub 300647710720 P) (hR : Sub 10304 R) (hk0 : Kept P R o s) :
    KeptR P R o (execTokenChallenge p s) := by
  delta execTokenChallenge
  refine (KeptR_next _).mpr ?_
  refine State.serve_kept _ _ _ _ ?_ (.of rfl hP) (.of rfl hR) ?_
  · intro y1_0 hy1_1
    extract_lets +onlyGivenNames -underBinder -merge v1
    have hv1 : Kept P R o v1.2 := by
      unfold v1
      refine State.draw_kept _ (.of rfl hP) ?_
      assumption
    clear_value v1
    extract_lets +onlyGivenNames -underBinder -merge v2
    clear_value v2
    refine State.answer_kept _ _ _ _ _ (.of rfl hP) (.of rfl hR) ?_
    extract_lets +onlyGivenNames -underBinder -merge v3
    have hv3 : Kept P R o v3 := by
      unfold v3
      assumption
    clear_value v3
    refine kept_boot (v3) _ (hP.bit rfl) ?_
    assumption
  · assumption

theorem execTokenData_kept (p : Port) (s : State) (hP : Sub 25769803776 P) (hR : Sub 10304 R) (hk0 : Kept P R o s) : KeptR P R
    o (execTokenData p s) := by
  delta execTokenData
  refine (KeptR_next _).mpr ?_
  refine State.serve_kept _ _ _ _ ?_ (.of rfl hP) (.of rfl hR) ?_
  · intro y1_0 hy1_1
    extract_lets +onlyGivenNames -underBinder -merge v1
    clear_value v1
    refine kept_ite _ _ _ ?_ ?_
    · refine State.answer_kept _ _ _ _ _ (.of rfl hP) (.of rfl hR) ?_
      assumption
    · extract_lets +onlyGivenNames -underBinder -merge v2
      clear_value v2
      refine State.answer_kept _ _ _ _ _ (.of rfl hP) (.of rfl hR) ?_
      refine kept_boot (y1_0) _ (hP.bit rfl) ?_
      assumption
  · assumption

theorem execTokenCheck_kept (p : Port) (s : State) (hP : Sub 25836912640 P) (hR : Sub 0x40000000000000000000000000002840 R)
    (hk0 : Kept P R o s) : KeptR P R o (execTokenCheck p s) := by
  delta execTokenCheck
  refine (KeptR_next _).mpr ?_
  refine State.serve_kept _ _ _ _ ?_ (.of rfl hP) (.of rfl hR) ?_
  · intro y1_0 hy1_1
    extract_lets +onlyGivenNames -underBinder -merge v1
    clear_value v1
    extract_lets +onlyGivenNames -underBinder -merge v2
    clear_value v2
    extract_lets +onlyGivenNames -underBinder -merge v3
    have hv3 : Kept P R o v3 := by
      unfold v3
      refine kept_boot (y1_0) _ (hP.bit rfl) ?_
      assumption
    clear_value v3
    refine kept_ite _ _ _ ?_ ?_
    · extract_lets +onlyGivenNames -underBinder -merge v4
      clear_value v4
      refine State.answer_kept _ _ _ _ _ (.of rfl hP) (.of rfl hR) ?_
      extract_lets +onlyGivenNames -underBinder -merge v5
      have hv5 : Kept P R o v5 := by
        unfold v5
        refine State.put_kept _ _ _ _ (hR.bit rfl) ?_
        assumption
      clear_value v5
      refine kept_boot (v5) _ (hP.bit rfl) ?_
      assumption
    · refine State.answer_kept _ _ _ _ _ (.of rfl hP) (.of rfl hR) ?_
      refine State.raise_kept _ _ _ _ _ _ (.of rfl hP) ?_
      assumption
  · assumption

theorem execTokenRevoke_kept (p : Port) (s : State) (hP : Sub 25769803776 P) (hR : Sub 0x1c0000000000000000000000000002840 R)
    (hk0 : Kept P R o s) : KeptR P R o (execTokenRevoke p s) := by
  delta execTokenRevoke
  refine (KeptR_next _).mpr ?_
  refine State.serve_kept _ _ _ _ ?_ (.of rfl hP) (.of rfl hR) ?_
  · intro y1_0 hy1_1
    refine State.answer_kept _ _ _ _ _ (.of rfl hP) (.of rfl hR) ?_
    refine State.endRights_kept _ (.of rfl hP) (.of rfl hR) ?_
    assumption
  · assumption

theorem execTokenExpiry_kept (s : State) (hP : Sub 8589934592 P) (hR : Sub 0x1c0000000000000000000000000000000 R) (hk0 : Kept
    P R o s) : KeptR P R o (execTokenExpiry s) := by
  delta execTokenExpiry
  refine (KeptR_next _).mpr ?_
  split
  · refine kept_ite _ _ _ ?_ ?_
    · refine State.endRights_kept _ (.of rfl hP) (.of rfl hR) ?_
      assumption
    · assumption
  · assumption

theorem State.pfArm_kept (s : State) (hP : Sub 68719476736 P) (hR : Sub 0x200000000000000000000000000000000000 R) (hk0 : Kept
    P R o s) : Kept P R o (State.pfArm s) := by
  delta State.pfArm
  extract_lets +onlyGivenNames -underBinder -merge v1
  have hv1 : Kept P R o v1 := by
    unfold v1
    refine State.put_kept _ _ _ _ (hR.bit rfl) ?_
    refine State.put_kept _ _ _ _ (hR.bit rfl) ?_
    refine State.put_kept _ _ _ _ (hR.bit rfl) ?_
    refine State.put_kept _ _ _ _ (hR.bit rfl) ?_
    assumption
  clear_value v1
  refine kept_pf (v1) _ (hP.bit rfl) ?_
  assumption

theorem execPfFreeze_kept (s : State) (hR : Sub 0x200800000000000000000000000000000000 R) (hk0 : Kept P R o s) : KeptR P R o
    (execPfFreeze s) := by
  delta execPfFreeze
  refine (KeptR_next _).mpr ?_
  refine kept_ite _ _ _ ?_ ?_
  · refine State.put_kept _ _ _ _ (hR.bit rfl) ?_
    refine State.put_kept _ _ _ _ (hR.bit rfl) ?_
    assumption
  · assumption

/-! ### Machine/Ports.lean -/

theorem State.countPort_kept (s : State) (x : Master) (c : Fld) (hx_c : R.testBit (Reg.bit c.reg) = true) (hk0 : Kept P R o s)
    : Kept P R o (State.countPort s x c) := by
  delta State.countPort
  split
  · refine State.bump_kept _ _ _ ‹_› ?_
    assumption
  · refine State.bump_kept _ _ _ ‹_› ?_
    assumption
  · assumption

theorem State.plain_kept (s : State) (x : Master) (r : Reg) (i : Nat) (v : Word) (m : Word) (hx_r : R.testBit (Reg.bit r) =
    true) (hP : Sub 67108864 P) (hk0 : Kept P R o s) : Kept P R o (State.plain s x r i v m) := by
  delta State.plain
  refine State.configErr_kept _ _ _ _ _ (.of rfl hP) ?_
  refine State.setReg_kept _ _ _ _ ‹_› ?_
  assumption

theorem State.onSet_kept (s : State) (act : Word) (x : Fld) (f : State → State) (hf : ∀ (y0 : State), Kept P R o y0 → Kept P R
    o (f y0)) (hk0 : Kept P R o s) : Kept P R o (State.onSet s act x f) := by
  delta State.onSet
  refine kept_ite _ _ _ ?_ ?_
  · refine hf _ ?_
    assumption
  · assumption

theorem State.ctrlWrite_kept (s : State) (x : Master) (act : Word) (hP : Sub 541560168504 P) (hR : Sub
    0x200000000000200dc041000000001f803400000000003b08 R) (hk0 : Kept P R o s) : Kept P R o (State.ctrlWrite s x act) := by
  delta State.ctrlWrite
  refine kept_ite _ _ _ ?_ ?_
  · assumption
  · refine kept_ite _ _ _ ?_ ?_
    · extract_lets +onlyGivenNames -underBinder -merge v1
      have hv1 : Kept P R o v1 := by
        unfold v1
        refine State.enterBlockReset_kept _ _ (.of rfl hP) (.of rfl hR) ?_
        assumption
      clear_value v1
      refine kept_coll (v1) _ (hP.bit rfl) ?_
      assumption
    · refine State.countPort_kept _ _ _ (hR.bit rfl) ?_
      assumption

theorem State.semWrite_kept (s : State) (x : Master) (i : Nat) (v : Word) (m : Word) (hR : Sub 512 R) (hk0 : Kept P R o s) :
    Kept P R o (State.semWrite s x i v m) := by
  delta State.semWrite
  extract_lets +onlyGivenNames -underBinder -merge v1
  clear_value v1
  extract_lets +onlyGivenNames -underBinder -merge v2
  have hv2 : Kept P R o v2 := by
    unfold v2
    refine State.onSet_kept _ _ _ _ ?_ ?_
    · intro y1_0 hy1_1
      refine State.put_kept _ _ _ _ (hR.bit rfl) ?_
      assumption
    · assumption
  clear_value v2
  refine kept_ite _ _ _ ?_ ?_
  · assumption
  · extract_lets +onlyGivenNames -underBinder -merge v3
    have hv3 : Kept P R o v3 := by
      unfold v3
      refine State.onSet_kept _ _ _ _ ?_ ?_
      · intro y1_0 hy1_1
        refine kept_ite _ _ _ ?_ ?_
        · refine State.put_kept _ _ _ _ (hR.bit rfl) ?_
          refine State.put_kept _ _ _ _ (hR.bit rfl) ?_
          assumption
        · assumption
      · assumption
    clear_value v3
    refine State.onSet_kept _ _ _ _ ?_ ?_
    · intro y1_0 hy1_1
      refine kept_ite _ _ _ ?_ ?_
      · refine State.put_kept _ _ _ _ (hR.bit rfl) ?_
        assumption
      · assumption
    · assumption

theorem State.semForceWrite_kept (s : State) (x : Master) (act : Word) (hR : Sub 768 R) (hk0 : Kept P R o s) : Kept P R o
    (State.semForceWrite s x act) := by
  delta State.semForceWrite
  extract_lets +onlyGivenNames -underBinder -merge v1
  clear_value v1
  refine kept_ite _ _ _ ?_ ?_
  · refine State.put_kept _ _ _ _ (hR.bit rfl) ?_
    refine State.put_kept _ _ _ _ (hR.bit rfl) ?_
    assumption
  · refine State.countPort_kept _ _ _ (hR.bit rfl) ?_
    assumption

theorem State.mbxWrite_kept (s : State) (x : Master) (p : Nat) (act : State → State) (hact : ∀ (y0 : State), Kept P R o y0 →
    Kept P R o (act y0)) (hR : Sub 8192 R) (hk0 : Kept P R o s) : Kept P R o (State.mbxWrite s x p act) := by
  delta State.mbxWrite
  refine kept_ite _ _ _ ?_ ?_
  · split
    · refine State.put_kept _ _ _ _ (hR.bit rfl) ?_
      assumption
    · refine State.put_kept _ _ _ _ (hR.bit rfl) ?_
      assumption
    · assumption
  · refine kept_ite _ _ _ ?_ ?_
    · refine State.put_kept _ _ _ _ (hR.bit rfl) ?_
      assumption
    · refine hact _ ?_
      assumption

theorem State.mbxGo_kept (s : State) (p : Nat) (hP : Sub 17179869184 P) (hR : Sub 8192 R) (hk0 : Kept P R o s) : Kept P R o
    (State.mbxGo s p) := by
  delta State.mbxGo
  extract_lets +onlyGivenNames -underBinder -merge v1
  have hv1 : Kept P R o v1 := by
    unfold v1
    refine State.put_kept _ _ _ _ (hR.bit rfl) ?_
    assumption
  clear_value v1
  refine kept_host (v1) _ (hP.bit rfl) ?_
  assumption

theorem State.fswStored_kept (s : State) (hP : Sub 4294967296 P) (hk0 : Kept P R o s) : Kept P R o (State.fswStored s) := by
  delta State.fswStored
  refine kept_ite _ _ _ ?_ ?_
  · refine State.modSetRec_kept _ _ _ (.of rfl hP) ?_
    assumption
  · assumption

theorem State.modCfgWrite_kept (s : State) (x : Master) (k : Nat) (v : Word) (m : Word) (hP : Sub 335544320 P) (hR : Sub
    0x2800000000000000000 R) (hk0 : Kept P R o s) : Kept P R o (State.modCfgWrite s x k v m) := by
  delta State.modCfgWrite
  extract_lets +onlyGivenNames -underBinder -merge v1
  clear_value v1
  extract_lets +onlyGivenNames -underBinder -merge v2
  clear_value v2
  extract_lets +onlyGivenNames -underBinder -merge v3
  have hv3 : Kept P R o v3 := by
    unfold v3
    refine State.modMod_kept _ _ _ (.of rfl hP) ?_
    refine State.plain_kept _ _ _ _ _ _ (hR.bit rfl) (.of rfl hP) ?_
    assumption
  clear_value v3
  extract_lets +onlyGivenNames -underBinder -merge v4
  have hv4 : Kept P R o v4 := by
    unfold v4
    refine kept_ite _ _ _ ?_ ?_
    · refine State.modStop_kept _ _ _ (.of rfl hP) ?_
      assumption
    · assumption
  clear_value v4
  refine kept_ite _ _ _ ?_ ?_
  · assumption
  · refine State.onSet_kept _ _ _ _ ?_ ?_
    · intro y1_0 hy1_1
      refine State.injEvent_kept _ _ _ (.of rfl hP) (.of rfl hR) ?_
      assumption
    · refine State.onSet_kept _ _ _ _ ?_ ?_
      · intro y1_0 hy1_1
        refine State.regEvent_kept _ _ _ (.of rfl hP) (.of rfl hR) ?_
        assumption
      · assumption

theorem State.switchWrite_kept (s : State) (hP : Sub 1073741824 P) (hR : Sub 0x20000000000000000000000000 R) (hk0 : Kept P R o
    s) : Kept P R o (State.switchWrite s) := by
  delta State.switchWrite
  refine kept_ite _ _ _ ?_ ?_
  · refine kept_relay (s) _ (hP.bit rfl) ?_
    assumption
  · refine State.put_kept _ _ _ _ (hR.bit rfl) ?_
    assumption

theorem State.rlyCtrlWrite_kept (s : State) (act : Word) (hP : Sub 413390602240 P) (hR : Sub 0x20000000000000000000000000 R)
    (hk0 : Kept P R o s) : Kept P R o (State.rlyCtrlWrite s act) := by
  delta State.rlyCtrlWrite
  extract_lets +onlyGivenNames -underBinder -merge v1
  have hv1 : Kept P R o v1 := by
    unfold v1
    refine State.onSet_kept _ _ _ _ ?_ ?_
    · intro y1_0 hy1_1
      refine State.switchWrite_kept _ (.of rfl hP) (.of rfl hR) ?_
      assumption
    · assumption
  clear_value v1
  extract_lets +onlyGivenNames -underBinder -merge v2
  have hv2 : Kept P R o v2 := by
    unfold v2
    refine State.onSet_kept _ _ _ _ ?_ ?_
    · intro y1_0 hy1_1
      refine kept_ite _ _ _ ?_ ?_
      · refine State.askResync_kept _ (.of rfl hP) ?_
        assumption
      · assumption
    · assumption
  clear_value v2
  refine State.forEach_kept _ _ _ ?_ ?_
  · intro y1_0 y1_1 hy1_2
    refine kept_ite _ _ _ ?_ ?_
    · refine State.startRekey_kept _ _ (.of rfl hP) ?_
      assumption
    · assumption
  · assumption

theorem State.stageWrite_kept (s : State) (w : Word) (hP : Sub 8589934592 P) (hR : Sub 0x400000000000000000000000000000 R)
    (hk0 : Kept P R o s) : Kept P R o (State.stageWrite s w) := by
  delta State.stageWrite
  refine kept_ite _ _ _ ?_ ?_
  · refine State.put_kept _ _ _ _ (hR.bit rfl) ?_
    assumption
  · refine kept_boot (s) _ (hP.bit rfl) ?_
    assumption

theorem State.obsWrite_kept (s : State) (x : Master) (r : Reg) (v : Word) (m : Word) (hx_r : R.testBit (Reg.bit r) = true) (hP
    : Sub 67108864 P) (hR : Sub 0x40000000000000000000000000000000 R) (hk0 : Kept P R o s) : Kept P R o (State.obsWrite s x r v m) := by
  delta State.obsWrite
  refine kept_ite _ _ _ ?_ ?_
  · refine State.plain_kept _ _ _ _ _ _ ‹_› (.of rfl hP) ?_
    assumption
  · refine State.put_kept _ _ _ _ (hR.bit rfl) ?_
    assumption

theorem State.pfCtrlWrite_kept (s : State) (x : Master) (v : Word) (m : Word) (hP : Sub 68786585600 P) (hR : Sub
    0x200800000000000000000000000000000000 R) (hk0 : Kept P R o s) : Kept P R o (State.pfCtrlWrite s x v m) := by
  delta State.pfCtrlWrite
  extract_lets +onlyGivenNames -underBinder -merge v1
  clear_value v1
  extract_lets +onlyGivenNames -underBinder -merge v2
  have hv2 : Kept P R o v2 := by
    unfold v2
    refine kept_ite _ _ _ ?_ ?_
    · assumption
    · refine kept_ite _ _ _ ?_ ?_
      · refine State.plain_kept _ _ _ _ _ _ (hR.bit rfl) (.of rfl hP) ?_
        assumption
      · refine State.onSet_kept _ _ _ _ ?_ ?_
        · intro y1_0 hy1_1
          refine State.pfArm_kept _ (.of rfl hP) (.of rfl hR) ?_
          assumption
        · refine State.plain_kept _ _ _ _ _ _ (hR.bit rfl) (.of rfl hP) ?_
          assumption
  clear_value v2
  refine State.onSet_kept _ _ _ _ ?_ ?_
  · intro y1_0 hy1_1
    refine State.pfTrigger_kept _ _ (.of rfl hP) (.of rfl hR) ?_
    assumption
  · assumption

theorem State.coefWrite_kept (s : State) (x : Master) (r : Reg) (i : Nat) (v : Word) (m : Word) (hx_r : R.testBit (Reg.bit r)
    = true) (hP : Sub 67108864 P) (hR : Sub 0x100000000000000000000000000000000000000000000000 R) (hk0 : Kept P R o s) : Kept P R o (State.coefWrite s
    x r i v m) := by
  delta State.coefWrite
  refine kept_ite _ _ _ ?_ ?_
  · refine State.put_kept _ _ _ _ (hR.bit rfl) ?_
    assumption
  · refine State.plain_kept _ _ _ _ _ _ ‹_› (.of rfl hP) ?_
    assumption

theorem State.binWrite_kept (s : State) (i : Nat) (v : Word) (m : Word) (hP : Sub 33554432 P) (hk0 : Kept P R o s) : Kept P R
    o (State.binWrite s i v m) := by
  delta State.binWrite
  refine kept_ite _ _ _ ?_ ?_
  · assumption
  · extract_lets +onlyGivenNames -underBinder -merge v1
    clear_value v1
    extract_lets +onlyGivenNames -underBinder -merge v2
    clear_value v2
    refine kept_pacer (s) _ (hP.bit rfl) ?_
    assumption

theorem State.laneCtrlWrite_kept (s : State) (x : Master) (k : Nat) (v : Word) (m : Word) (hP : Sub 138714035200 P) (hR : Sub
    0x400000000000000000000000000000004000000000000 R) (hk0 : Kept P R o s) : Kept P R o (State.laneCtrlWrite s x k v m) := by
  delta State.laneCtrlWrite
  extract_lets +onlyGivenNames -underBinder -merge v1
  clear_value v1
  extract_lets +onlyGivenNames -underBinder -merge v2
  have hv2 : Kept P R o v2 := by
    unfold v2
    refine State.laneEn_kept _ _ _ _ (.of rfl hP) (.of rfl hR) ?_
    assumption
  clear_value v2
  refine State.onSet_kept _ _ _ _ ?_ ?_
  · intro y1_0 hy1_1
    refine State.laneRetire_kept _ _ _ (.of rfl hP) (.of rfl hR) ?_
    assumption
  · refine State.onSet_kept _ _ _ _ ?_ ?_
    · intro y1_0 hy1_1
      refine State.laneClrFail_kept _ _ _ (.of rfl hP) (.of rfl hR) ?_
      assumption
    · assumption

theorem State.systemWrite_kept (s : State) (x : Master) (r : Reg) (i : Nat) (v : Word) (m : Word) (hx_r : R.testBit (Reg.bit
    r) = true) (hP : Sub 547599971384 P) (hR : Sub 0x300000000000200dc041002103f85f88360600027e043b48 R) (hk0 : Kept P R o s) : KeptO P R o
    (State.systemWrite s x r i v m) := by
  delta State.systemWrite
  extract_lets +onlyGivenNames -underBinder -merge v1
  clear_value v1
  extract_lets +onlyGivenNames -underBinder -merge v2
  have hv2 : Kept P R o v2 := by
    unfold v2
    refine State.plain_kept _ _ _ _ _ _ ‹_› (.of rfl hP) ?_
    assumption
  clear_value v2
  split
  · refine (KeptO_some _).mpr ?_
    refine State.ctrlWrite_kept _ _ _ (.of rfl hP) (.of rfl hR) ?_
    assumption
  · refine (KeptO_some _).mpr ?_
    refine kept_ite _ _ _ ?_ ?_
    · assumption
    · refine State.fswStored_kept _ (.of rfl hP) ?_
      assumption
  · refine (KeptO_some _).mpr ?_
    refine State.semWrite_kept _ _ _ _ _ (.of rfl hR) ?_
    assumption
  · refine (KeptO_some _).mpr ?_
    refine State.semForceWrite_kept _ _ _ (.of rfl hR) ?_
    assumption
  · refine (KeptO_some _).mpr ?_
    refine State.mbxWrite_kept _ _ _ _ ?_ (.of rfl hR) ?_
    · intro y1_0 hy1_1
      refine State.plain_kept _ _ _ _ _ _ (hR.bit rfl) (.of rfl hP) ?_
      assumption
    · assumption
  · refine (KeptO_some _).mpr ?_
    refine State.mbxWrite_kept _ _ _ _ ?_ (.of rfl hR) ?_
    · intro y1_0 hy1_1
      refine State.onSet_kept _ _ _ _ ?_ ?_
      · intro y1_0 hy1_1
        refine State.mbxGo_kept _ _ (.of rfl hP) (.of rfl hR) ?_
        assumption
      · assumption
    · assumption
  · extract_lets +onlyGivenNames -underBinder -merge v3
    have hv3 : Kept P R o v3 := by
      unfold v3
      refine State.onSet_kept _ _ _ _ ?_ ?_
      · intro y1_0 hy1_1
        refine State.fnRel_kept _ (.of rfl hR) ?_
        assumption
      · refine State.onSet_kept _ _ _ _ ?_ ?_
        · intro y1_0 hy1_1
          refine State.feArm_kept _ (.of rfl hR) ?_
          assumption
        · assumption
    clear_value v3
    refine (KeptO_some _).mpr ?_
    refine kept_ite _ _ _ ?_ ?_
    · refine kept_coll (v3) _ (hP.bit rfl) ?_
      assumption
    · assumption
  · refine (KeptO_some _).mpr ?_
    refine State.onSet_kept _ _ _ _ ?_ ?_
    · intro y1_0 hy1_1
      refine State.popLog_kept _ (.of rfl hP) (.of rfl hR) ?_
      assumption
    · assumption
  · refine (KeptO_some _).mpr ?_
    refine State.onSet_kept _ _ _ _ ?_ ?_
    · intro y1_0 hy1_1
      refine State.clrPeakPower_kept _ (.of rfl hR) ?_
      assumption
    · assumption
  · refine (KeptO_some _).mpr ?_
    refine State.hostLevel_kept _ (.of rfl hP) (.of rfl hR) ?_
    assumption
  · refine (KeptO_some _).mpr ?_
    refine State.wmEdge_kept _ _ (.of rfl hR) ?_
    refine State.onSet_kept _ _ _ _ ?_ ?_
    · intro y1_0 hy1_1
      refine State.clearQueue_kept _ (.of rfl hP) ?_
      assumption
    · assumption
  · refine (KeptO_some _).mpr ?_
    refine State.onSet_kept _ _ _ _ ?_ ?_
    · intro y1_0 hy1_1
      refine State.clearTempPeak_kept _ (.of rfl hR) ?_
      assumption
    · assumption
  · refine (KeptO_some _).mpr ?_
    refine State.modCfgWrite_kept _ _ _ _ _ (.of rfl hP) (.of rfl hR) ?_
    assumption
  · refine (KeptO_some _).mpr ?_
    refine State.onSet_kept _ _ _ _ ?_ ?_
    · intro y1_0 hy1_1
      refine State.snap_kept _ _ (.of rfl hP) (.of rfl hR) ?_
      assumption
    · assumption
  · refine (KeptO_some _).mpr ?_
    refine State.onSet_kept _ _ _ _ ?_ ?_
    · intro y1_0 hy1_1
      refine State.popRecord_kept _ (.of rfl hP) (.of rfl hR) ?_
      assumption
    · assumption
  · refine (KeptO_some _).mpr ?_
    refine State.onSet_kept _ _ _ _ ?_ ?_
    · intro y1_0 hy1_1
      refine State.releaseWrite_kept _ _ (.of rfl hP) ?_
      assumption
    · assumption
  · refine (KeptO_some _).mpr ?_
    refine State.onSet_kept _ _ _ _ ?_ ?_
    · intro y1_0 hy1_1
      refine State.creditAlloc_kept _ _ _ (.of rfl hP) (.of rfl hR) ?_
      assumption
    · assumption
  · refine (KeptO_some _).mpr ?_
    refine State.rlyCtrlWrite_kept _ _ (.of rfl hP) (.of rfl hR) ?_
    assumption
  · refine (KeptO_some _).mpr ?_
    refine State.stageWrite_kept _ _ (.of rfl hP) (.of rfl hR) ?_
    assumption
  · refine (KeptO_some _).mpr ?_
    refine State.obsWrite_kept _ _ _ _ _ (hR.bit rfl) (.of rfl hP) (.of rfl hR) ?_
    assumption
  · refine (KeptO_some _).mpr ?_
    refine State.obsWrite_kept _ _ _ _ _ (hR.bit rfl) (.of rfl hP) (.of rfl hR) ?_
    assumption
  · refine (KeptO_some _).mpr ?_
    refine State.onSet_kept _ _ _ _ ?_ ?_
    · intro y1_0 hy1_1
      refine State.startSelfTest_kept _ _ (.of rfl hP) (.of rfl hR) ?_
      assumption
    · assumption
  · refine (KeptO_some _).mpr ?_
    refine State.pfCtrlWrite_kept _ _ _ _ (.of rfl hP) (.of rfl hR) ?_
    assumption
  · refine (KeptO_some _).mpr ?_
    refine State.coefWrite_kept _ _ _ _ _ _ ‹_› (.of rfl hP) (.of rfl hR) ?_
    assumption
  · refine (KeptO_some _).mpr ?_
    refine State.coefWrite_kept _ _ _ _ _ _ ‹_› (.of rfl hP) (.of rfl hR) ?_
    assumption
  · refine (KeptO_some _).mpr ?_
    refine kept_ite _ _ _ ?_ ?_
    · refine State.coefEnabled_kept _ (.of rfl hP) ?_
      assumption
    · assumption
  · refine (KeptO_some _).mpr ?_
    refine State.onSet_kept _ _ _ _ ?_ ?_
    · intro y1_0 hy1_1
      refine State.clearBins_kept _ (.of rfl hP) ?_
      assumption
    · assumption
  · refine (KeptO_some _).mpr ?_
    refine State.binWrite_kept _ _ _ _ (.of rfl hP) ?_
    assumption
  · trivial

theorem State.railWrite_kept (s : State) (x : Master) (r : Reg) (i : Nat) (v : Word) (m : Word) (hx_r : R.testBit (Reg.bit r)
    = true) (hP : Sub 207458956288 P) (hR : Sub 0x440008e41e00000000000000000000004000000000000 R) (hk0 : Kept P R o s) : KeptO P R o (State.railWrite
    s x r i v m) := by
  delta State.railWrite
  extract_lets +onlyGivenNames -underBinder -merge v1
  clear_value v1
  extract_lets +onlyGivenNames -underBinder -merge v2
  clear_value v2
  extract_lets +onlyGivenNames -underBinder -merge v3
  have hv3 : Kept P R o v3 := by
    unfold v3
    refine State.plain_kept _ _ _ _ _ _ ‹_› (.of rfl hP) ?_
    assumption
  clear_value v3
  split
  · refine (KeptO_some _).mpr ?_
    refine State.meshWrite_kept _ _ _ _ (.of rfl hP) (.of rfl hR) ?_
    assumption
  · refine (KeptO_some _).mpr ?_
    refine State.domSetptWrite_kept _ _ _ _ _ (.of rfl hP) (.of rfl hR) ?_
    assumption
  · refine (KeptO_some _).mpr ?_
    refine State.rgnSetptWrite_kept _ _ _ _ _ (.of rfl hP) (.of rfl hR) ?_
    assumption
  · refine (KeptO_some _).mpr ?_
    refine State.onSet_kept _ _ _ _ ?_ ?_
    · intro y1_0 hy1_1
      refine State.rcmdGo_kept _ _ _ (.of rfl hP) (.of rfl hR) ?_
      assumption
    · assumption
  · refine (KeptO_some _).mpr ?_
    refine State.onSet_kept _ _ _ _ ?_ ?_
    · intro y1_0 hy1_1
      refine State.clearTel_kept _ _ (.of rfl hR) ?_
      assumption
    · assumption
  · refine (KeptO_some _).mpr ?_
    refine State.onSet_kept _ _ _ _ ?_ ?_
    · intro y1_0 hy1_1
      refine State.clrDarkWrite_kept _ _ (.of rfl hP) ?_
      assumption
    · assumption
  · refine (KeptO_some _).mpr ?_
    refine State.onSet_kept _ _ _ _ ?_ ?_
    · intro y1_0 hy1_1
      refine State.modRgn_kept _ _ _ (hP.bit rfl) ?_
      assumption
    · assumption
  · refine (KeptO_some _).mpr ?_
    refine State.laneCtrlWrite_kept _ _ _ _ _ (.of rfl hP) (.of rfl hR) ?_
    assumption
  · trivial

theorem State.regWrite_kept (s : State) (x : Master) (r : Reg) (i : Nat) (v : Word) (m : Word) (hx_r : R.testBit (Reg.bit r) =
    true) (hP : Sub 547600233528 P) (hR : Sub 0x300440008e41e00dc041002103f85f88360600027e043b48 R) (hk0 : Kept P R o s) : Kept P R o (State.regWrite
    s x r i v m) := by
  unfold State.regWrite
  split
  · exact hk0
  · have h1 := State.systemWrite_kept s x r i v m hx_r (.of rfl hP) (.of rfl hR) hk0
    have h2 := State.railWrite_kept s x r i v m hx_r (.of rfl hP) (.of rfl hR) hk0
    split
    · rename_i h; rw [h] at h1; exact h1
    · split
      · rename_i h; rw [h] at h2; exact h2
      · exact State.plain_kept _ _ _ _ _ _ hx_r (.of rfl hP) hk0

theorem State.mirror_kept (s : State) (before : State) (x : Master) (r : Reg) (off : Nat) (be : BitVec 4) (v : Word) (act :
    Word) (hP : Sub 138512695296 P) (hk0 : Kept P R o s) : Kept P R o (State.mirror s before x r off be v act) := by
  delta State.mirror
  refine kept_ite _ _ _ ?_ ?_
  · assumption
  · extract_lets +onlyGivenNames -underBinder -merge v1
    have hv1 : Kept P R o v1 := by
      unfold v1
      refine State.pairPost_kept _ _ _ (.of rfl hP) ?_
      assumption
    clear_value v1
    refine State.forEach_kept _ _ _ ?_ ?_
    · intro y1_0 y1_1 hy1_2
      refine State.pairPost_kept _ _ _ (.of rfl hP) ?_
      assumption
    · assumption

theorem State.write_kept (s : State) (x : Master) (off : Nat) (be : BitVec 4) (v : Word) (hP : Sub 547600233528 P) (hR : Sub
    allRegs R) (hk0 : Kept P R o s) : Kept P R o (State.write s x off be v).1 := by
  unfold State.write
  dsimp only
  split
  · exact hk0
  · split
    · exact State.countPort_kept _ _ _ (hR.bit rfl) hk0
    · split
      · exact hk0
      · split
        · exact State.put_kept _ _ _ _ (hR.bit rfl) hk0
        · split
          · exact State.countPort_kept _ _ _ (hR.bit rfl) hk0
          · exact State.mirror_kept _ _ _ _ _ _ _ _ (.of rfl hP)
              (State.regWrite_kept _ _ _ _ _ _ (allRegs_bit hR _) (.of rfl hP) (.of rfl hR) hk0)

theorem State.read_kept (s : State) (x : Master) (off : Nat) (hP : Sub 805307392 P) (hR : Sub 0x3000000000000100 R) (hk0 :
    Kept P R o s) : Kept P R o (State.read s x off).1 := by
  delta State.read
  refine kept_ite_fst _ _ _ ?_ ?_
  · refine kept_pair _ _ ?_
    assumption
  · split
    · refine kept_pair _ _ ?_
      refine State.countPort_kept _ _ _ (hR.bit rfl) ?_
      assumption
    · refine kept_ite_fst _ _ _ ?_ ?_
      · refine kept_pair _ _ ?_
        assumption
      · split
        · refine kept_ite_fst _ _ _ ?_ ?_
          · refine kept_pair _ _ ?_
            refine State.countPort_kept _ _ _ (hR.bit rfl) ?_
            assumption
          · refine kept_pair _ _ ?_
            refine State.popResult_kept _ (.of rfl hP) (.of rfl hR) ?_
            assumption
        · extract_lets +onlyGivenNames -underBinder -merge v1
          extract_lets +onlyGivenNames -underBinder -merge v2
          have hv2 : Kept P R o v2 := by
            unfold v2
            refine kept_step (s) _ (hP.bit rfl) ?_
            assumption
          clear_value v2
          refine kept_pair _ _ ?_
          assumption
        · refine State.readTenant_kept _ _ (.of rfl hP) ?_
          assumption
        · refine kept_pair _ _ ?_
          assumption

/-- A write at the offset of a register reaches that register, or is refused. -/
theorem write_kept_at (s : State) (x : Master) (r : Reg) (i : Nat) (be : BitVec 4) (v : Word) (hi : i < r.count)
    (hP : Sub 0x2040000000 P) (hR : Sub 0x20000000000000000000000100 R) (hw : Kept P R o (s.regWrite x r i v (Word.byteMask be))) (hk0 : Kept P R o s) :
    Kept P R o (s.write x (r.offset i) be v).1 := by
  have e : r.offset i / 4 * 4 = r.offset i := Reg.offset_aligned r i
  unfold State.write regAt
  rw [e, Reg.ofOffset_offset r hi]
  dsimp only
  split
  · exact hk0
  · split
    · exact State.countPort_kept _ _ _ (hR.bit rfl) hk0
    · rename_i r' i' h
      split at h
      · cases h
      · cases h
        split
        · exact hk0
        · split
          · exact State.put_kept _ _ _ _ (hR.bit rfl) hk0
          · split
            · exact State.countPort_kept _ _ _ (hR.bit rfl) hk0
            · exact State.mirror_kept _ _ _ _ _ _ _ _ (.of rfl hP) hw

theorem hostWrite_kept_at (s : State) (p : Port) (r : Reg) (i : Nat) (v : Word) (hi : i < r.count)
    (hP : Sub 0x2040000000 P) (hR : Sub 0x20000000000000000000000100 R) (hw : Kept P R o (s.regWrite p.master r i v (Word.byteMask 0xF#4)))
    (hk0 : Kept P R o s) : KeptR P R o (s.hostWrite p r i v) :=
  write_kept_at s p.master r i _ v hi hP hR hw hk0

theorem regWrite_sys (s : State) (x : Master) (r : Reg) (i : Nat) (v m : Word) {t : State}
    (e : s.systemWrite x r i v m = some t) (ht : Kept P R o t) (hk0 : Kept P R o s) : Kept P R o (s.regWrite x r i v m) := by
  unfold State.regWrite
  split
  · exact hk0
  · rw [e]; exact ht

theorem regWrite_rail (s : State) (x : Master) (r : Reg) (i : Nat) (v m : Word) {t : State}
    (e1 : s.systemWrite x r i v m = none) (e : s.railWrite x r i v m = some t) (ht : Kept P R o t) (hk0 : Kept P R o s) :
    Kept P R o (s.regWrite x r i v m) := by
  unfold State.regWrite
  split
  · exact hk0
  · rw [e1, e]; exact ht

theorem regWrite_plain (s : State) (x : Master) (r : Reg) (i : Nat) (v m : Word)
    (e1 : s.systemWrite x r i v m = none) (e : s.railWrite x r i v m = none) (ht : Kept P R o (s.plain x r i v m)) (hk0 : Kept P R o s) :
    Kept P R o (s.regWrite x r i v m) := by
  unfold State.regWrite
  split
  · exact hk0
  · rw [e1, e]; exact ht

theorem State.hostWrite_kept (s : State) (p : Port) (r : Reg) (i : Nat) (v : Word) (hP : Sub 547600233528 P) (hR : Sub allRegs
    R) (hk0 : Kept P R o s) : KeptR P R o (State.hostWrite s p r i v) := by
  delta State.hostWrite
  refine (KeptR_next _).mpr ?_
  refine State.write_kept _ _ _ _ _ (.of rfl hP) (.of rfl hR) ?_
  assumption

theorem State.hostRead_kept (s : State) (p : Port) (r : Reg) (i : Nat) (hP : Sub 17985176576 P) (hR : Sub 0x3000000000000100
    R) (hk0 : Kept P R o s) : KeptR P R o (State.hostRead s p r i) := by
  delta State.hostRead
  extract_lets +onlyGivenNames -underBinder -merge v1
  have hv1 : Kept P R o v1.1 := by
    unfold v1
    refine State.read_kept _ _ _ (.of rfl hP) (.of rfl hR) ?_
    assumption
  clear_value v1
  refine (KeptR_next _).mpr ?_
  extract_lets +onlyGivenNames -underBinder -merge v2
  have hv2 : Kept P R o v2 := by
    unfold v2
    assumption
  clear_value v2
  refine kept_host (v2) _ (hP.bit rfl) ?_
  assumption

theorem execRegisterWrite_kept (p : Port) (off : BitVec 20) (be : BitVec 4) (v : Word) (s : State) (hP : Sub 547600233528 P)
    (hR : Sub allRegs R) (hk0 : Kept P R o s) : KeptR P R o (execRegisterWrite p off be v s) := by
  delta execRegisterWrite
  refine (KeptR_next _).mpr ?_
  refine State.write_kept _ _ _ _ _ (.of rfl hP) (.of rfl hR) ?_
  assumption

theorem execReservedAccess_kept (p : Port) (off : BitVec 20) (write : Bool) (s : State) (hP : Sub 547600233528 P) (hR : Sub
    allRegs R) (hk0 : Kept P R o s) : KeptR P R o (execReservedAccess p off write s) := by
  delta execReservedAccess
  refine (KeptR_next _).mpr ?_
  refine kept_ite _ _ _ ?_ ?_
  · assumption
  · refine kept_ite _ _ _ ?_ ?_
    · refine State.write_kept _ _ _ _ _ (.of rfl hP) (.of rfl hR) ?_
      assumption
    · extract_lets +onlyGivenNames -underBinder -merge v1
      have hv1 : Kept P R o v1.1 := by
        unfold v1
        refine State.read_kept _ _ _ (.of rfl hP) (.of rfl hR) ?_
        assumption
      clear_value v1
      extract_lets +onlyGivenNames -underBinder -merge v2
      have hv2 : Kept P R o v2 := by
        unfold v2
        assumption
      clear_value v2
      refine kept_host (v2) _ (hP.bit rfl) ?_
      assumption

theorem execSoftRst_kept (p : Port) (key : BitVec 16) (s : State) (hP : Sub 542633910328 P) (hR : Sub
    0x200000000000200dc041002000001f803400000000003b08 R) (hk0 : Kept P R o s) : KeptR P R o (execSoftRst p key s) := by
  delta execSoftRst
  refine hostWrite_kept_at _ _ _ _ _ (by decide) (.of rfl hP) (.of rfl hR) ?_ ?_
  · refine regWrite_sys _ _ _ _ _ _ rfl ?_ ?_
    · refine State.ctrlWrite_kept _ _ _ (.of rfl hP) (.of rfl hR) ?_
      assumption
    · assumption
  · assumption

theorem execFswWrite_kept (p : Port) (code : BitVec 4) (s : State) (hP : Sub 142874771456 P) (hR : Sub
    0x20000000000000000000000110 R) (hk0 : Kept P R o s) : KeptR P R o (execFswWrite p code s) := by
  delta execFswWrite
  refine hostWrite_kept_at _ _ _ _ _ (by decide) (.of rfl hP) (.of rfl hR) ?_ ?_
  · refine regWrite_sys _ _ _ _ _ _ rfl ?_ ?_
    · refine kept_ite _ _ _ ?_ ?_
      · assumption
      · refine State.fswStored_kept _ (.of rfl hP) ?_
        refine State.plain_kept _ _ _ _ _ _ (hR.bit rfl) (.of rfl hP) ?_
        assumption
    · assumption
  · assumption

theorem execLaneEnWrite_kept (p : Port) (m : Fin 2048) (en : Bool) (s : State) (hP : Sub 138714035200 P) (hR : Sub
    0x400000000000000000020000000000004000000000100 R) (hk0 : Kept P R o s) : KeptR P R o (execLaneEnWrite p m en s) := by
  delta execLaneEnWrite
  refine hostWrite_kept_at _ _ _ _ _ (Nat.lt_of_lt_of_le (Fin.isLt _) (by decide)) (.of rfl hP) (.of rfl hR) ?_ ?_
  · refine regWrite_rail _ _ _ _ _ _ rfl rfl ?_ ?_
    · refine State.laneCtrlWrite_kept _ _ _ _ _ (.of rfl hP) (.of rfl hR) ?_
      assumption
    · assumption
  · assumption

theorem execLaneClrFail_kept (p : Port) (m : Fin 2048) (s : State) (hP : Sub 138714035200 P) (hR : Sub
    0x400000000000000000020000000000004000000000100 R) (hk0 : Kept P R o s) : KeptR P R o (execLaneClrFail p m s) := by
  delta execLaneClrFail
  unfold State.hostPut
  refine hostWrite_kept_at _ _ _ _ _ (Nat.lt_of_lt_of_le (Fin.isLt _) (by decide)) (.of rfl hP) (.of rfl hR) ?_ ?_
  · refine regWrite_rail _ _ _ _ _ _ rfl rfl ?_ ?_
    · refine State.laneCtrlWrite_kept _ _ _ _ _ (.of rfl hP) (.of rfl hR) ?_
      assumption
    · assumption
  · assumption

theorem execLaneRetire_kept (p : Port) (m : Fin 2048) (s : State) (hP : Sub 138714035200 P) (hR : Sub
    0x400000000000000000020000000000004000000000100 R) (hk0 : Kept P R o s) : KeptR P R o (execLaneRetire p m s) := by
  delta execLaneRetire
  unfold State.hostPut
  refine hostWrite_kept_at _ _ _ _ _ (Nat.lt_of_lt_of_le (Fin.isLt _) (by decide)) (.of rfl hP) (.of rfl hR) ?_ ?_
  · refine regWrite_rail _ _ _ _ _ _ rfl rfl ?_ ?_
    · refine State.laneCtrlWrite_kept _ _ _ _ _ (.of rfl hP) (.of rfl hR) ?_
      assumption
    · assumption
  · assumption

theorem execCloseGateCmd_kept (p : Port) (d : Fin 4) (g : Fin 512) (s : State) (hP : Sub 207324476416 P) (hR : Sub
    0x48200000000020000000000000000000000100 R) (hk0 : Kept P R o s) : KeptR P R o (execCloseGateCmd p d g s) := by
  delta execCloseGateCmd
  unfold State.rcmdWrite
  refine hostWrite_kept_at _ _ _ _ _ (Nat.lt_of_lt_of_le (Fin.isLt _) (by decide)) (.of rfl hP) (.of rfl hR) ?_ ?_
  · refine regWrite_rail _ _ _ _ _ _ rfl rfl ?_ ?_
    · refine State.onSet_kept _ _ _ _ ?_ ?_
      · intro y1_0 hy1_1
        refine State.rcmdGo_kept _ _ _ (.of rfl hP) (.of rfl hR) ?_
        assumption
      · refine State.plain_kept _ _ _ _ _ _ (hR.bit rfl) (.of rfl hP) ?_
        assumption
    · assumption
  · assumption

theorem execOpenGateCmd_kept (p : Port) (d : Fin 4) (g : Fin 512) (s : State) (hP : Sub 207324476416 P) (hR : Sub
    0x48200000000020000000000000000000000100 R) (hk0 : Kept P R o s) : KeptR P R o (execOpenGateCmd p d g s) := by
  delta execOpenGateCmd
  unfold State.rcmdWrite
  refine hostWrite_kept_at _ _ _ _ _ (Nat.lt_of_lt_of_le (Fin.isLt _) (by decide)) (.of rfl hP) (.of rfl hR) ?_ ?_
  · refine regWrite_rail _ _ _ _ _ _ rfl rfl ?_ ?_
    · refine State.onSet_kept _ _ _ _ ?_ ?_
      · intro y1_0 hy1_1
        refine State.rcmdGo_kept _ _ _ (.of rfl hP) (.of rfl hR) ?_
        assumption
      · refine State.plain_kept _ _ _ _ _ _ (hR.bit rfl) (.of rfl hP) ?_
        assumption
    · assumption
  · assumption

theorem execStartRegionCmd_kept (p : Port) (d : Fin 4) (n : Fin 256) (s : State) (hP : Sub 207324476416 P) (hR : Sub
    0x48200000000020000000000000000000000100 R) (hk0 : Kept P R o s) : KeptR P R o (execStartRegionCmd p d n s) := by
  delta execStartRegionCmd
  unfold State.rcmdWrite
  refine hostWrite_kept_at _ _ _ _ _ (Nat.lt_of_lt_of_le (Fin.isLt _) (by decide)) (.of rfl hP) (.of rfl hR) ?_ ?_
  · refine regWrite_rail _ _ _ _ _ _ rfl rfl ?_ ?_
    · refine State.onSet_kept _ _ _ _ ?_ ?_
      · intro y1_0 hy1_1
        refine State.rcmdGo_kept _ _ _ (.of rfl hP) (.of rfl hR) ?_
        assumption
      · refine State.plain_kept _ _ _ _ _ _ (hR.bit rfl) (.of rfl hP) ?_
        assumption
    · assumption
  · assumption

theorem execStopRegionCmd_kept (p : Port) (d : Fin 4) (n : Fin 256) (s : State) (hP : Sub 207324476416 P) (hR : Sub
    0x48200000000020000000000000000000000100 R) (hk0 : Kept P R o s) : KeptR P R o (execStopRegionCmd p d n s) := by
  delta execStopRegionCmd
  unfold State.rcmdWrite
  refine hostWrite_kept_at _ _ _ _ _ (Nat.lt_of_lt_of_le (Fin.isLt _) (by decide)) (.of rfl hP) (.of rfl hR) ?_ ?_
  · refine regWrite_rail _ _ _ _ _ _ rfl rfl ?_ ?_
    · refine State.onSet_kept _ _ _ _ ?_ ?_
      · intro y1_0 hy1_1
        refine State.rcmdGo_kept _ _ _ (.of rfl hP) (.of rfl hR) ?_
        assumption
      · refine State.plain_kept _ _ _ _ _ _ (hR.bit rfl) (.of rfl hP) ?_
        assumption
    · assumption
  · assumption

theorem execRetentionEntryCmd_kept (p : Port) (d : Fin 4) (n : Fin 256) (s : State) (hP : Sub 207324476416 P) (hR : Sub
    0x48200000000020000000000000000000000100 R) (hk0 : Kept P R o s) : KeptR P R o (execRetentionEntryCmd p d n s) := by
  delta execRetentionEntryCmd
  unfold State.rcmdWrite
  refine hostWrite_kept_at _ _ _ _ _ (Nat.lt_of_lt_of_le (Fin.isLt _) (by decide)) (.of rfl hP) (.of rfl hR) ?_ ?_
  · refine regWrite_rail _ _ _ _ _ _ rfl rfl ?_ ?_
    · refine State.onSet_kept _ _ _ _ ?_ ?_
      · intro y1_0 hy1_1
        refine State.rcmdGo_kept _ _ _ (.of rfl hP) (.of rfl hR) ?_
        assumption
      · refine State.plain_kept _ _ _ _ _ _ (hR.bit rfl) (.of rfl hP) ?_
        assumption
    · assumption
  · assumption

theorem execRetentionExitCmd_kept (p : Port) (d : Fin 4) (n : Fin 256) (s : State) (hP : Sub 207324476416 P) (hR : Sub
    0x48200000000020000000000000000000000100 R) (hk0 : Kept P R o s) : KeptR P R o (execRetentionExitCmd p d n s) := by
  delta execRetentionExitCmd
  unfold State.rcmdWrite
  refine hostWrite_kept_at _ _ _ _ _ (Nat.lt_of_lt_of_le (Fin.isLt _) (by decide)) (.of rfl hP) (.of rfl hR) ?_ ?_
  · refine regWrite_rail _ _ _ _ _ _ rfl rfl ?_ ?_
    · refine State.onSet_kept _ _ _ _ ?_ ?_
      · intro y1_0 hy1_1
        refine State.rcmdGo_kept _ _ _ (.of rfl hP) (.of rfl hR) ?_
        assumption
      · refine State.plain_kept _ _ _ _ _ _ (hR.bit rfl) (.of rfl hP) ?_
        assumption
    · assumption
  · assumption

theorem execClrDark_kept (p : Port) (n : Fin 256) (s : State) (hP : Sub 138579812352 P) (hR : Sub
    0x2000000000000020000000000000000000000100 R) (hk0 : Kept P R o s) : KeptR P R o (execClrDark p n s) := by
  delta execClrDark
  unfold State.hostPut
  refine hostWrite_kept_at _ _ _ _ _ (Nat.lt_of_lt_of_le (Fin.isLt _) (by decide)) (.of rfl hP) (.of rfl hR) ?_ ?_
  · refine regWrite_rail _ _ _ _ _ _ rfl rfl ?_ ?_
    · refine State.onSet_kept _ _ _ _ ?_ ?_
      · intro y1_0 hy1_1
        refine State.clrDarkWrite_kept _ _ (.of rfl hP) ?_
        assumption
      · refine State.plain_kept _ _ _ _ _ _ (hR.bit rfl) (.of rfl hP) ?_
        assumption
    · assumption
  · assumption

theorem execDomCtrlMeshWrite_kept (p : Port) (d : Fin 4) (mesh : Bool) (s : State) (hP : Sub 138579805184 P) (hR : Sub
    0xc00000000020000000000000000000000100 R) (hk0 : Kept P R o s) : KeptR P R o (execDomCtrlMeshWrite p d mesh s) := by
  delta execDomCtrlMeshWrite
  refine hostWrite_kept_at _ _ _ _ _ (Nat.lt_of_lt_of_le (Fin.isLt _) (by decide)) (.of rfl hP) (.of rfl hR) ?_ ?_
  · refine regWrite_rail _ _ _ _ _ _ rfl rfl ?_ ?_
    · refine State.meshWrite_kept _ _ _ _ (.of rfl hP) (.of rfl hR) ?_
      assumption
    · assumption
  · assumption

theorem execDomSetptWrite_kept (p : Port) (d : Fin 4) (vset : BitVec 12) (sched : Bool) (s : State) (hP : Sub 138580067328 P)
    (hR : Sub 0x1800000000020000000000000000000000100 R) (hk0 : Kept P R o s) : KeptR P R o (execDomSetptWrite p d vset sched s) := by
  delta execDomSetptWrite
  refine hostWrite_kept_at _ _ _ _ _ (Nat.lt_of_lt_of_le (Fin.isLt _) (by decide)) (.of rfl hP) (.of rfl hR) ?_ ?_
  · refine regWrite_rail _ _ _ _ _ _ rfl rfl ?_ ?_
    · refine State.domSetptWrite_kept _ _ _ _ _ (.of rfl hP) (.of rfl hR) ?_
      assumption
    · assumption
  · assumption

theorem execRgnSetptWrite_kept (p : Port) (n : Fin 256) (vset : BitVec 12) (sched : Bool) (s : State) (hP : Sub 138579813376
    P) (hR : Sub 0x8000800000000020000000000000000000000100 R) (hk0 : Kept P R o s) : KeptR P R o (execRgnSetptWrite p n vset sched s) := by
  delta execRgnSetptWrite
  refine hostWrite_kept_at _ _ _ _ _ (Nat.lt_of_lt_of_le (Fin.isLt _) (by decide)) (.of rfl hP) (.of rfl hR) ?_ ?_
  · refine regWrite_rail _ _ _ _ _ _ rfl rfl ?_ ?_
    · refine State.rgnSetptWrite_kept _ _ _ _ _ (.of rfl hP) (.of rfl hR) ?_
      assumption
    · assumption
  · assumption

theorem execClrFb_kept (p : Port) (n : Fin 256) (s : State) (hP : Sub 138579812352 P) (hR : Sub
    0x200000000000000020000000000000000000000100 R) (hk0 : Kept P R o s) : KeptR P R o (execClrFb p n s) := by
  delta execClrFb
  unfold State.hostPut
  refine hostWrite_kept_at _ _ _ _ _ (Nat.lt_of_lt_of_le (Fin.isLt _) (by decide)) (.of rfl hP) (.of rfl hR) ?_ ?_
  · refine regWrite_rail _ _ _ _ _ _ rfl rfl ?_ ?_
    · refine State.onSet_kept _ _ _ _ ?_ ?_
      · intro y1_0 hy1_1
        refine State.modRgn_kept _ _ _ (hP.bit rfl) ?_
        assumption
      · refine State.plain_kept _ _ _ _ _ _ (hR.bit rfl) (.of rfl hP) ?_
        assumption
    · assumption
  · assumption

theorem execCoefTableWrite_kept (p : Port) (off : BitVec 20) (be : BitVec 4) (v : Word) (s : State) (hP : Sub 547600233528 P)
    (hR : Sub allRegs R) (hk0 : Kept P R o s) : KeptR P R o (execCoefTableWrite p off be v s) := by
  delta execCoefTableWrite
  refine checked_kept _ _ _ ?_
  refine (KeptR_next _).mpr ?_
  refine State.write_kept _ _ _ _ _ (.of rfl hP) (.of rfl hR) ?_
  assumption

theorem execCoefCtrlEnWrite_kept (p : Port) (v : Word) (s : State) (hP : Sub 138613366784 P) (hR : Sub
    0x80000000000000000000020000000000000000000000100 R) (hk0 : Kept P R o s) : KeptR P R o (execCoefCtrlEnWrite p v s) := by
  delta execCoefCtrlEnWrite
  refine hostWrite_kept_at _ _ _ _ _ (by decide) (.of rfl hP) (.of rfl hR) ?_ ?_
  · refine regWrite_sys _ _ _ _ _ _ rfl ?_ ?_
    · refine kept_ite _ _ _ ?_ ?_
      · refine State.coefEnabled_kept _ (.of rfl hP) ?_
        refine State.plain_kept _ _ _ _ _ _ (hR.bit rfl) (.of rfl hP) ?_
        assumption
      · refine State.plain_kept _ _ _ _ _ _ (hR.bit rfl) (.of rfl hP) ?_
        assumption
    · assumption
  · assumption

theorem execRepClear_kept (p : Port) (s : State) (hP : Sub 138613358592 P) (hR : Sub
    0x8000000000000000000000020000000000000000000000100 R) (hk0 : Kept P R o s) : KeptR P R o (execRepClear p s) := by
  delta execRepClear
  unfold State.hostPut
  refine hostWrite_kept_at _ _ _ _ _ (by decide) (.of rfl hP) (.of rfl hR) ?_ ?_
  · refine regWrite_sys _ _ _ _ _ _ rfl ?_ ?_
    · refine State.onSet_kept _ _ _ _ ?_ ?_
      · intro y1_0 hy1_1
        refine State.clearBins_kept _ (.of rfl hP) ?_
        assumption
      · refine State.plain_kept _ _ _ _ _ _ (hR.bit rfl) (.of rfl hP) ?_
        assumption
    · assumption
  · assumption

theorem execHostStretchLevelWrite_kept (p : Port) (level : BitVec 14) (s : State) (hP : Sub 138714022912 P) (hR : Sub
    0x2000000000020c000000000100 R) (hk0 : Kept P R o s) : KeptR P R o (execHostStretchLevelWrite p level s) := by
  delta execHostStretchLevelWrite
  refine hostWrite_kept_at _ _ _ _ _ (by decide) (.of rfl hP) (.of rfl hR) ?_ ?_
  · refine regWrite_sys _ _ _ _ _ _ rfl ?_ ?_
    · refine State.hostLevel_kept _ (.of rfl hP) (.of rfl hR) ?_
      refine State.plain_kept _ _ _ _ _ _ (hR.bit rfl) (.of rfl hP) ?_
      assumption
    · assumption
  · assumption

theorem execClrPeakPower_kept (p : Port) (s : State) (hP : Sub 138579804160 P) (hR : Sub 0x20000000000002000000000100 R) (hk0
    : Kept P R o s) : KeptR P R o (execClrPeakPower p s) := by
  delta execClrPeakPower
  unfold State.hostPut
  refine hostWrite_kept_at _ _ _ _ _ (by decide) (.of rfl hP) (.of rfl hR) ?_ ?_
  · refine regWrite_sys _ _ _ _ _ _ rfl ?_ ?_
    · refine State.onSet_kept _ _ _ _ ?_ ?_
      · intro y1_0 hy1_1
        refine State.clrPeakPower_kept _ (.of rfl hR) ?_
        assumption
      · refine State.plain_kept _ _ _ _ _ _ (hR.bit rfl) (.of rfl hP) ?_
        assumption
    · assumption
  · assumption

theorem execGauRsw_kept (p : Port) (k : Fin 16) (s : State) (hP : Sub 138848239616 P) (hR : Sub 0x20000002800000000000000100
    R) (hk0 : Kept P R o s) : KeptR P R o (execGauRsw p k s) := by
  delta execGauRsw
  unfold State.hostPut
  refine hostWrite_kept_at _ _ _ _ _ (Nat.lt_of_lt_of_le (Fin.isLt _) (by decide)) (.of rfl hP) (.of rfl hR) ?_ ?_
  · refine regWrite_sys _ _ _ _ _ _ rfl ?_ ?_
    · refine State.modCfgWrite_kept _ _ _ _ _ (.of rfl hP) (.of rfl hR) ?_
      assumption
    · assumption
  · assumption

theorem execGauIsw_kept (p : Port) (k : Fin 16) (s : State) (hP : Sub 138848239616 P) (hR : Sub 0x20000002800000000000000100
    R) (hk0 : Kept P R o s) : KeptR P R o (execGauIsw p k s) := by
  delta execGauIsw
  unfold State.hostPut
  refine hostWrite_kept_at _ _ _ _ _ (Nat.lt_of_lt_of_le (Fin.isLt _) (by decide)) (.of rfl hP) (.of rfl hR) ?_ ?_
  · refine regWrite_sys _ _ _ _ _ _ rfl ?_ ?_
    · refine State.modCfgWrite_kept _ _ _ _ _ (.of rfl hP) (.of rfl hR) ?_
      assumption
    · assumption
  · assumption

theorem execQclr_kept (p : Port) (s : State) (hP : Sub 138848239616 P) (hR : Sub 0x20000000000400000000000140 R) (hk0 : Kept P
    R o s) : KeptR P R o (execQclr p s) := by
  delta execQclr
  unfold State.hostPut
  refine hostWrite_kept_at _ _ _ _ _ (by decide) (.of rfl hP) (.of rfl hR) ?_ ?_
  · refine regWrite_sys _ _ _ _ _ _ rfl ?_ ?_
    · refine State.wmEdge_kept _ _ (.of rfl hR) ?_
      refine State.onSet_kept _ _ _ _ ?_ ?_
      · intro y1_0 hy1_1
        refine State.clearQueue_kept _ (.of rfl hP) ?_
        assumption
      · refine State.plain_kept _ _ _ _ _ _ (hR.bit rfl) (.of rfl hP) ?_
        assumption
    · assumption
  · assumption

theorem execDomTelClr_kept (p : Port) (d : Fin 4) (s : State) (hP : Sub 138512695296 P) (hR : Sub
    0x40000e00000000000020000000000000000000000100 R) (hk0 : Kept P R o s) : KeptR P R o (execDomTelClr p d s) := by
  delta execDomTelClr
  unfold State.hostPut
  refine hostWrite_kept_at _ _ _ _ _ (Nat.lt_of_lt_of_le (Fin.isLt _) (by decide)) (.of rfl hP) (.of rfl hR) ?_ ?_
  · refine regWrite_rail _ _ _ _ _ _ rfl rfl ?_ ?_
    · refine State.onSet_kept _ _ _ _ ?_ ?_
      · intro y1_0 hy1_1
        refine State.clearTel_kept _ _ (.of rfl hR) ?_
        assumption
      · assumption
    · assumption
  · assumption

theorem execClrPeakTemp_kept (p : Port) (s : State) (hP : Sub 138579804160 P) (hR : Sub 0x20000000080000000000000100 R) (hk0 :
    Kept P R o s) : KeptR P R o (execClrPeakTemp p s) := by
  delta execClrPeakTemp
  unfold State.hostPut
  refine hostWrite_kept_at _ _ _ _ _ (by decide) (.of rfl hP) (.of rfl hR) ?_ ?_
  · refine regWrite_sys _ _ _ _ _ _ rfl ?_ ?_
    · refine State.onSet_kept _ _ _ _ ?_ ?_
      · intro y1_0 hy1_1
        refine State.clearTempPeak_kept _ (.of rfl hR) ?_
        assumption
      · refine State.plain_kept _ _ _ _ _ _ (hR.bit rfl) (.of rfl hP) ?_
        assumption
    · assumption
  · assumption

theorem execSnap_kept (p : Port) (sel : BitVec 8) (s : State) (hP : Sub 139116675072 P) (hR : Sub 0x20000040000000000000000100
    R) (hk0 : Kept P R o s) : KeptR P R o (execSnap p sel s) := by
  delta execSnap
  refine hostWrite_kept_at _ _ _ _ _ (by decide) (.of rfl hP) (.of rfl hR) ?_ ?_
  · refine regWrite_sys _ _ _ _ _ _ rfl ?_ ?_
    · refine State.onSet_kept _ _ _ _ ?_ ?_
      · intro y1_0 hy1_1
        refine State.snap_kept _ _ (.of rfl hP) (.of rfl hR) ?_
        assumption
      · refine State.plain_kept _ _ _ _ _ _ (hR.bit rfl) (.of rfl hP) ?_
        assumption
    · assumption
  · assumption

theorem execContextRelease_kept (p : Port) (c : Fin 64) (s : State) (hP : Sub 139049566208 P) (hR : Sub
    0x20000000000000000000000100 R) (hk0 : Kept P R o s) : KeptR P R o (execContextRelease p c s) := by
  delta execContextRelease
  unfold State.hostPut
  refine hostWrite_kept_at _ _ _ _ _ (Nat.lt_of_lt_of_le (Fin.isLt _) (by decide)) (.of rfl hP) (.of rfl hR) ?_ ?_
  · refine regWrite_sys _ _ _ _ _ _ rfl ?_ ?_
    · refine State.onSet_kept _ _ _ _ ?_ ?_
      · intro y1_0 hy1_1
        refine State.releaseWrite_kept _ _ (.of rfl hP) ?_
        assumption
      · assumption
    · assumption
  · assumption

theorem execRecordPop_kept (p : Port) (s : State) (hP : Sub 139116675072 P) (hR : Sub 0x2003f800000000000000000100 R) (hk0 :
    Kept P R o s) : KeptR P R o (execRecordPop p s) := by
  delta execRecordPop
  unfold State.hostPut
  refine hostWrite_kept_at _ _ _ _ _ (by decide) (.of rfl hP) (.of rfl hR) ?_ ?_
  · refine regWrite_sys _ _ _ _ _ _ rfl ?_ ?_
    · refine State.onSet_kept _ _ _ _ ?_ ?_
      · intro y1_0 hy1_1
        refine State.popRecord_kept _ (.of rfl hP) (.of rfl hR) ?_
        assumption
      · refine State.plain_kept _ _ _ _ _ _ (hR.bit rfl) (.of rfl hP) ?_
        assumption
    · assumption
  · assumption

theorem execCreditAlloc_kept (p : Port) (n : Fin 256) (amount : BitVec 17) (s : State) (hP : Sub 139116675072 P) (hR : Sub
    0x21000000000000000000000100 R) (hk0 : Kept P R o s) : KeptR P R o (execCreditAlloc p n amount s) := by
  delta execCreditAlloc
  refine hostWrite_kept_at _ _ _ _ _ (by decide) (.of rfl hP) (.of rfl hR) ?_ ?_
  · refine regWrite_sys _ _ _ _ _ _ rfl ?_ ?_
    · refine State.onSet_kept _ _ _ _ ?_ ?_
      · intro y1_0 hy1_1
        refine State.creditAlloc_kept _ _ _ (.of rfl hP) (.of rfl hR) ?_
        assumption
      · refine State.plain_kept _ _ _ _ _ _ (hR.bit rfl) (.of rfl hP) ?_
        assumption
    · assumption
  · assumption

theorem execFeArm_kept (p : Port) (s : State) (hP : Sub 138579804160 P) (hR : Sub 0x20000000000000000200040100 R) (hk0 : Kept
    P R o s) : KeptR P R o (execFeArm p s) := by
  delta execFeArm
  unfold State.hostPut
  refine hostWrite_kept_at _ _ _ _ _ (by decide) (.of rfl hP) (.of rfl hR) ?_ ?_
  · refine regWrite_sys _ _ _ _ _ _ rfl ?_ ?_
    · refine kept_ite _ _ _ ?_ ?_
      · refine kept_coll ((s.onSet ((s.keep FLT_CTRL.FE_ARM.reg 0).withField FLT_CTRL.FE_ARM.hi FLT_CTRL.FE_ARM.lo 1 &&& Word.byteMask 15#4) FLT_CTRL.FE_ARM State.feArm).onSet ((s.keep FLT_CTRL.FE_ARM.reg 0).withField FLT_CTRL.FE_ARM.hi FLT_CTRL.FE_ARM.lo 1 &&& Word.byteMask 15#4) FLT_CTRL.FN_REL State.fnRel) _ (hP.bit rfl) ?_
        refine State.onSet_kept _ _ _ _ ?_ ?_
        · intro y1_0 hy1_1
          refine State.fnRel_kept _ (.of rfl hR) ?_
          assumption
        · refine State.onSet_kept _ _ _ _ ?_ ?_
          · intro y1_0 hy1_1
            refine State.feArm_kept _ (.of rfl hR) ?_
            assumption
          · assumption
      · refine State.onSet_kept _ _ _ _ ?_ ?_
        · intro y1_0 hy1_1
          refine State.fnRel_kept _ (.of rfl hR) ?_
          assumption
        · refine State.onSet_kept _ _ _ _ ?_ ?_
          · intro y1_0 hy1_1
            refine State.feArm_kept _ (.of rfl hR) ?_
            assumption
          · assumption
    · assumption
  · assumption

theorem execFnRel_kept (p : Port) (s : State) (hP : Sub 138579804160 P) (hR : Sub 0x20000000000000000200040100 R) (hk0 : Kept
    P R o s) : KeptR P R o (execFnRel p s) := by
  delta execFnRel
  unfold State.hostPut
  refine hostWrite_kept_at _ _ _ _ _ (by decide) (.of rfl hP) (.of rfl hR) ?_ ?_
  · refine regWrite_sys _ _ _ _ _ _ rfl ?_ ?_
    · refine kept_ite _ _ _ ?_ ?_
      · refine kept_coll ((s.onSet ((s.keep FLT_CTRL.FN_REL.reg 0).withField FLT_CTRL.FN_REL.hi FLT_CTRL.FN_REL.lo 1 &&& Word.byteMask 15#4) FLT_CTRL.FE_ARM State.feArm).onSet ((s.keep FLT_CTRL.FN_REL.reg 0).withField FLT_CTRL.FN_REL.hi FLT_CTRL.FN_REL.lo 1 &&& Word.byteMask 15#4) FLT_CTRL.FN_REL State.fnRel) _ (hP.bit rfl) ?_
        refine State.onSet_kept _ _ _ _ ?_ ?_
        · intro y1_0 hy1_1
          refine State.fnRel_kept _ (.of rfl hR) ?_
          assumption
        · refine State.onSet_kept _ _ _ _ ?_ ?_
          · intro y1_0 hy1_1
            refine State.feArm_kept _ (.of rfl hR) ?_
            assumption
          · assumption
      · refine State.onSet_kept _ _ _ _ ?_ ?_
        · intro y1_0 hy1_1
          refine State.fnRel_kept _ (.of rfl hR) ?_
          assumption
        · refine State.onSet_kept _ _ _ _ ?_ ?_
          · intro y1_0 hy1_1
            refine State.feArm_kept _ (.of rfl hR) ?_
            assumption
          · assumption
    · assumption
  · assumption

theorem execCrstClear_kept (p : Port) (s : State) (hP : Sub 138579804160 P) (hR : Sub 0x20000000000000000000004100 R) (hk0 :
    Kept P R o s) : KeptR P R o (execCrstClear p s) := by
  delta execCrstClear
  unfold State.hostPut
  refine hostWrite_kept_at _ _ _ _ _ (by decide) (.of rfl hP) (.of rfl hR) ?_ ?_
  · refine regWrite_plain _ _ _ _ _ _ rfl rfl ?_ ?_
    · refine State.plain_kept _ _ _ _ _ _ (hR.bit rfl) (.of rfl hP) ?_
      assumption
    · assumption
  · assumption

theorem execLogPop_kept (p : Port) (s : State) (hP : Sub 138579804160 P) (hR : Sub 0x2000000000000000007e000100 R) (hk0 : Kept
    P R o s) : KeptR P R o (execLogPop p s) := by
  delta execLogPop
  unfold State.hostPut
  refine hostWrite_kept_at _ _ _ _ _ (by decide) (.of rfl hP) (.of rfl hR) ?_ ?_
  · refine regWrite_sys _ _ _ _ _ _ rfl ?_ ?_
    · refine State.onSet_kept _ _ _ _ ?_ ?_
      · intro y1_0 hy1_1
        refine State.popLog_kept _ (.of rfl hP) (.of rfl hR) ?_
        assumption
      · refine State.plain_kept _ _ _ _ _ _ (hR.bit rfl) (.of rfl hP) ?_
        assumption
    · assumption
  · assumption

theorem execRlyRekeyWrite_kept (port : Port) (p : Fin 5) (s : State) (hP : Sub 413390602240 P) (hR : Sub
    0x20000000000000000000000100 R) (hk0 : Kept P R o s) : KeptR P R o (execRlyRekeyWrite port p s) := by
  delta execRlyRekeyWrite
  refine hostWrite_kept_at _ _ _ _ _ (by decide) (.of rfl hP) (.of rfl hR) ?_ ?_
  · refine regWrite_sys _ _ _ _ _ _ rfl ?_ ?_
    · refine State.rlyCtrlWrite_kept _ _ (.of rfl hP) (.of rfl hR) ?_
      assumption
    · assumption
  · assumption

theorem execRlyResyncWrite_kept (p : Port) (s : State) (hP : Sub 413390602240 P) (hR : Sub 0x20000000000000000000000100 R)
    (hk0 : Kept P R o s) : KeptR P R o (execRlyResyncWrite p s) := by
  delta execRlyResyncWrite
  unfold State.hostPut
  refine hostWrite_kept_at _ _ _ _ _ (by decide) (.of rfl hP) (.of rfl hR) ?_ ?_
  · refine regWrite_sys _ _ _ _ _ _ rfl ?_ ?_
    · refine State.rlyCtrlWrite_kept _ _ (.of rfl hP) (.of rfl hR) ?_
      assumption
    · assumption
  · assumption

theorem execPlannedSwitch_kept (p : Port) (s : State) (hP : Sub 413390602240 P) (hR : Sub 0x20000000000000000000000100 R) (hk0
    : Kept P R o s) : KeptR P R o (execPlannedSwitch p s) := by
  delta execPlannedSwitch
  unfold State.hostPut
  refine hostWrite_kept_at _ _ _ _ _ (by decide) (.of rfl hP) (.of rfl hR) ?_ ?_
  · refine regWrite_sys _ _ _ _ _ _ rfl ?_ ?_
    · refine State.rlyCtrlWrite_kept _ _ (.of rfl hP) (.of rfl hR) ?_
      assumption
    · assumption
  · assumption

theorem execBootUpdDataWrite_kept (p : Port) (w : Word) (s : State) (hP : Sub 147102629888 P) (hR : Sub
    0x400020000000000000000000000100 R) (hk0 : Kept P R o s) : KeptR P R o (execBootUpdDataWrite p w s) := by
  delta execBootUpdDataWrite
  refine hostWrite_kept_at _ _ _ _ _ (by decide) (.of rfl hP) (.of rfl hR) ?_ ?_
  · refine regWrite_sys _ _ _ _ _ _ rfl ?_ ?_
    · refine State.stageWrite_kept _ _ (.of rfl hP) (.of rfl hR) ?_
      assumption
    · assumption
  · assumption

theorem execSemTake_kept (x : Master) (i : Fin 16) (tag : BitVec 8) (s : State) (hP : Sub 138512695296 P) (hR : Sub
    0x20000000000000000000000300 R) (hk0 : Kept P R o s) : KeptR P R o (execSemTake x i tag s) := by
  delta execSemTake
  refine (KeptR_next _).mpr ?_
  refine write_kept_at _ _ _ _ _ _ (Nat.lt_of_lt_of_le (Fin.isLt _) (by decide)) (.of rfl hP) (.of rfl hR) ?_ ?_
  · refine regWrite_sys _ _ _ _ _ _ rfl ?_ ?_
    · refine State.semWrite_kept _ _ _ _ _ (.of rfl hR) ?_
      assumption
    · assumption
  · assumption

theorem execSemRel_kept (x : Master) (i : Fin 16) (s : State) (hP : Sub 138512695296 P) (hR : Sub 0x20000000000000000000000300
    R) (hk0 : Kept P R o s) : KeptR P R o (execSemRel x i s) := by
  delta execSemRel
  refine (KeptR_next _).mpr ?_
  refine write_kept_at _ _ _ _ _ _ (Nat.lt_of_lt_of_le (Fin.isLt _) (by decide)) (.of rfl hP) (.of rfl hR) ?_ ?_
  · refine regWrite_sys _ _ _ _ _ _ rfl ?_ ?_
    · refine State.semWrite_kept _ _ _ _ _ (.of rfl hR) ?_
      assumption
    · assumption
  · assumption

theorem execSemForce_kept (p : Port) (i : Fin 16) (key : BitVec 16) (s : State) (hP : Sub 138512695296 P) (hR : Sub
    0x20000000000000000000000300 R) (hk0 : Kept P R o s) : KeptR P R o (execSemForce p i key s) := by
  delta execSemForce
  refine hostWrite_kept_at _ _ _ _ _ (by decide) (.of rfl hP) (.of rfl hR) ?_ ?_
  · refine regWrite_sys _ _ _ _ _ _ rfl ?_ ?_
    · refine State.semForceWrite_kept _ _ _ (.of rfl hR) ?_
      assumption
    · assumption
  · assumption

theorem execLaneSelfTest_kept (p : Port) (m : Fin 2048) (s : State) (hP : Sub 172939546624 P) (hR : Sub
    0x600000020000000000000000000000100 R) (hk0 : Kept P R o s) : KeptR P R o (execLaneSelfTest p m s) := by
  delta execLaneSelfTest
  refine hostWrite_kept_at _ _ _ _ _ (by decide) (.of rfl hP) (.of rfl hR) ?_ ?_
  · refine regWrite_sys _ _ _ _ _ _ rfl ?_ ?_
    · refine State.onSet_kept _ _ _ _ ?_ ?_
      · intro y1_0 hy1_1
        refine State.startSelfTest_kept _ _ (.of rfl hP) (.of rfl hR) ?_
        assumption
      · refine State.plain_kept _ _ _ _ _ _ (hR.bit rfl) (.of rfl hP) ?_
        assumption
    · assumption
  · assumption

theorem execObsSelectWrite_kept (p : Port) (pin : Fin 2) (v : Word) (s : State) (hP : Sub 547600233528 P) (hR : Sub allRegs R)
    (hk0 : Kept P R o s) : KeptR P R o (execObsSelectWrite p pin v s) := by
  unfold execObsSelectWrite
  split
  · refine hostWrite_kept_at _ _ _ _ _ (by decide) (.of rfl hP) (.of rfl hR) (regWrite_sys _ _ _ _ _ _ rfl ?_ hk0) hk0
    exact State.obsWrite_kept _ _ _ _ _ (hR.bit rfl) (.of rfl hP) (.of rfl hR) hk0
  · refine hostWrite_kept_at _ _ _ _ _ (by decide) (.of rfl hP) (.of rfl hR) (regWrite_sys _ _ _ _ _ _ rfl ?_ hk0) hk0
    exact State.obsWrite_kept _ _ _ _ _ (hR.bit rfl) (.of rfl hP) (.of rfl hR) hk0

theorem execPfArm_kept (p : Port) (s : State) (hP : Sub 207299280896 P) (hR : Sub 0x200800000020000000000000000000000100 R)
    (hk0 : Kept P R o s) : KeptR P R o (execPfArm p s) := by
  delta execPfArm
  unfold State.hostPut
  refine hostWrite_kept_at _ _ _ _ _ (by decide) (.of rfl hP) (.of rfl hR) ?_ ?_
  · refine regWrite_sys _ _ _ _ _ _ rfl ?_ ?_
    · refine State.pfCtrlWrite_kept _ _ _ _ (.of rfl hP) (.of rfl hR) ?_
      assumption
    · assumption
  · assumption

theorem execPfSwtrig_kept (p : Port) (s : State) (hP : Sub 207299280896 P) (hR : Sub 0x200800000020000000000000000000000100 R)
    (hk0 : Kept P R o s) : KeptR P R o (execPfSwtrig p s) := by
  delta execPfSwtrig
  unfold State.hostPut
  refine hostWrite_kept_at _ _ _ _ _ (by decide) (.of rfl hP) (.of rfl hR) ?_ ?_
  · refine regWrite_sys _ _ _ _ _ _ rfl ?_ ?_
    · refine State.pfCtrlWrite_kept _ _ _ _ (.of rfl hP) (.of rfl hR) ?_
      assumption
    · assumption
  · assumption

theorem execGauQdataRead_kept (p : Port) (s : State) (hP : Sub 17985176576 P) (hR : Sub 0x3000000000000100 R) (hk0 : Kept P R
    o s) : KeptR P R o (execGauQdataRead p s) := by
  delta execGauQdataRead
  refine State.hostRead_kept _ _ _ _ (.of rfl hP) (.of rfl hR) ?_
  assumption

theorem execTenantViewRead_kept (p : Port) (c : Fin 64) (s : State) (hP : Sub 17985176576 P) (hR : Sub
    0x4000000003000000000000100 R) (hk0 : Kept P R o s) : KeptR P R o (execTenantViewRead p c s) := by
  delta execTenantViewRead
  refine State.hostRead_kept _ _ _ _ (.of rfl hP) (.of rfl hR) ?_
  assumption

theorem execStepCountRead_kept (p : Port) (s : State) (hP : Sub 17985176576 P) (hR : Sub 0x3000000400000100 R) (hk0 : Kept P R
    o s) : KeptR P R o (execStepCountRead p s) := by
  delta execStepCountRead
  refine State.hostRead_kept _ _ _ _ (.of rfl hP) (.of rfl hR) ?_
  assumption

theorem execMirror_kept (p : Fin 5) (body : BitVec 272) (s : State) (hP : Sub 547600233528 P) (hR : Sub allRegs R) (hk0 : Kept
    P R o s) : KeptR P R o (execMirror p body s) := by
  have h1 := State.popMsg_kept s p.val 0x0A body (.of rfl hP) hk0
  unfold execMirror
  dsimp only
  split
  · exact h1
  · split
    · refine (KeptR_next _).mpr ?_
      split
      · refine kept_ite _ _ _ h1 (kept_ite _ _ _ (kept_relay _ _ (hP.bit rfl) h1) ?_)
        exact kept_step _ _ (hP.bit rfl) (State.regWrite_kept _ _ _ _ _ _ (allRegs_bit hR _) (.of rfl hP) (.of rfl hR) h1)
      · exact h1
    · split
      · exact kept_step _ _ (hP.bit rfl) h1
      · exact h1

theorem execPortATimeout_kept (write : Bool) (s : State) (hP : Sub 17179869184 P) (hR : Sub 256 R) (hk0 : Kept P R o s) :
    KeptR P R o (execPortATimeout write s) := by
  delta execPortATimeout
  refine (KeptR_next _).mpr ?_
  refine kept_ite _ _ _ ?_ ?_
  · assumption
  · extract_lets +onlyGivenNames -underBinder -merge v1
    have hv1 : Kept P R o v1 := by
      unfold v1
      refine State.bump_kept _ _ _ (hR.bit rfl) ?_
      assumption
    clear_value v1
    refine kept_host (v1) _ (hP.bit rfl) ?_
    assumption

theorem State.badPec_kept (s : State) (hP : Sub 17246978048 P) (hR : Sub 256 R) (hk0 : Kept P R o s) : Kept P R o
    (State.badPec s) := by
  delta State.badPec
  extract_lets +onlyGivenNames -underBinder -merge v1
  have hv1 : Kept P R o v1 := by
    unfold v1
    refine State.raise_kept _ _ _ _ _ _ (.of rfl hP) ?_
    refine State.bump_kept _ _ _ (hR.bit rfl) ?_
    assumption
  clear_value v1
  refine kept_host (v1) _ (hP.bit rfl) ?_
  assumption

theorem execSetWin_kept (w : Word) (pecOk : Bool) (s : State) (hP : Sub 17246978048 P) (hR : Sub 256 R) (hk0 : Kept P R o s) :
    KeptR P R o (execSetWin w pecOk s) := by
  delta execSetWin
  refine (KeptR_next _).mpr ?_
  refine kept_ite _ _ _ ?_ ?_
  · assumption
  · refine kept_ite _ _ _ ?_ ?_
    · refine State.badPec_kept _ (.of rfl hP) (.of rfl hR) ?_
      assumption
    · refine kept_ite _ _ _ ?_ ?_
      · assumption
      · refine kept_host (s) _ (hP.bit rfl) ?_
        assumption

theorem State.wrWord_kept (s : State) (w : Word) (hP : Sub 547600233528 P) (hR : Sub allRegs R) (hk0 : Kept P R o s) : Kept P
    R o (State.wrWord s w) := by
  delta State.wrWord
  extract_lets +onlyGivenNames -underBinder -merge v1
  have hv1 : Kept P R o v1.1 := by
    unfold v1
    refine State.write_kept _ _ _ _ _ (.of rfl hP) (.of rfl hR) ?_
    assumption
  clear_value v1
  extract_lets +onlyGivenNames -underBinder -merge v2
  have hv2 : Kept P R o v2 := by
    unfold v2
    assumption
  clear_value v2
  refine kept_host (v2) _ (hP.bit rfl) ?_
  assumption

theorem execWr_kept (ws : List Word) (pecOk : Bool) (s : State) (hP : Sub 547600233528 P) (hR : Sub allRegs R) (hk0 : Kept P R
    o s) : KeptR P R o (execWr ws pecOk s) := by
  delta execWr
  refine (KeptR_next _).mpr ?_
  refine kept_ite _ _ _ ?_ ?_
  · assumption
  · refine kept_ite _ _ _ ?_ ?_
    · extract_lets +onlyGivenNames -underBinder -merge v1
      have hv1 : Kept P R o v1 := by
        unfold v1
        refine State.badPec_kept _ (.of rfl hP) (.of rfl hR) ?_
        assumption
      clear_value v1
      refine kept_host (v1) _ (hP.bit rfl) ?_
      assumption
    · refine kept_ite _ _ _ ?_ ?_
      · assumption
      · extract_lets +onlyGivenNames -underBinder -merge v1
        clear_value v1
        extract_lets +onlyGivenNames -underBinder -merge v2
        have hv2 : Kept P R o v2 := by
          unfold v2
          refine kept_host (s) _ (hP.bit rfl) ?_
          assumption
        clear_value v2
        refine State.forEach_kept _ _ _ ?_ ?_
        · intro y1_0 y1_1 hy1_2
          refine State.wrWord_kept _ _ (.of rfl hP) (.of rfl hR) ?_
          assumption
        · assumption

theorem State.rdWord_kept (s : State) (hP : Sub 17985176576 P) (hR : Sub 0x3000000000000100 R) (hk0 : Kept P R o s) : Kept P R
    o (State.rdWord s) := by
  delta State.rdWord
  extract_lets +onlyGivenNames -underBinder -merge v1
  have hv1 : Kept P R o v1.1 := by
    unfold v1
    refine State.read_kept _ _ _ (.of rfl hP) (.of rfl hR) ?_
    assumption
  clear_value v1
  extract_lets +onlyGivenNames -underBinder -merge v2
  have hv2 : Kept P R o v2 := by
    unfold v2
    assumption
  clear_value v2
  refine kept_host (v2) _ (hP.bit rfl) ?_
  assumption

theorem State.sendReplay_kept (s : State) (hP : Sub 137438953472 P) (hk0 : Kept P R o s) : Kept P R o (State.sendReplay s) :=
    by
  delta State.sendReplay
  refine kept_sent (s) _ (hP.bit rfl) ?_
  assumption

theorem execRd_kept (s : State) (hP : Sub 155424130048 P) (hR : Sub 0x3000000000000100 R) (hk0 : Kept P R o s) : KeptR P R o
    (execRd s) := by
  delta execRd
  refine (KeptR_next _).mpr ?_
  refine kept_ite _ _ _ ?_ ?_
  · assumption
  · refine State.sendReplay_kept _ (.of rfl hP) ?_
    refine State.forEach_kept _ _ _ ?_ ?_
    · intro y1_0 y1_1 hy1_2
      refine State.rdWord_kept _ (.of rfl hP) (.of rfl hR) ?_
      assumption
    · refine kept_host (s) _ (hP.bit rfl) ?_
      assumption

theorem execReRd_kept (s : State) (hP : Sub 137438953472 P) (hk0 : Kept P R o s) : KeptR P R o (execReRd s) := by
  delta execReRd
  refine (KeptR_next _).mpr ?_
  refine kept_ite _ _ _ ?_ ?_
  · assumption
  · refine State.sendReplay_kept _ (.of rfl hP) ?_
    assumption

theorem execStat_kept (s : State) (hP : Sub 154618822656 P) (hk0 : Kept P R o s) : KeptR P R o (execStat s) := by
  delta execStat
  refine (KeptR_next _).mpr ?_
  refine kept_ite _ _ _ ?_ ?_
  · assumption
  · extract_lets +onlyGivenNames -underBinder -merge v1
    clear_value v1
    refine kept_upd (s) _ 154618822656 rfl ⟨_, rfl⟩ rfl (by intro p hp; cases p <;> first | rfl | cases hp) (.of rfl hP) ?_
    assumption

theorem execSmbUndefinedCommand_kept (code : BitVec 8) (s : State) (hk0 : Kept P R o s) : KeptR P R o (execSmbUndefinedCommand
    code s) := by
  delta execSmbUndefinedCommand
  refine checked_kept _ _ _ ?_
  refine (KeptR_next _).mpr ?_
  assumption

theorem execSmbusTimeout_kept (s : State) (hR : Sub 256 R) (hk0 : Kept P R o s) : KeptR P R o (execSmbusTimeout s) := by
  delta execSmbusTimeout
  refine (KeptR_next _).mpr ?_
  refine kept_ite _ _ _ ?_ ?_
  · assumption
  · refine State.bump_kept _ _ _ (hR.bit rfl) ?_
    assumption

end Sys2Proof.Machine
end

