-- ==== Sys2Proof/Laws/PerInstr.lean ====
section
/-! SUPPORT. For every command: it is well formed, or it fails one of the eight checks by name. -/

namespace Sys2Proof.Laws.Hardware

open Machine

/-- The names of the checks of a command's operands. -/
def checks : List String :=
  ["reads", "currents", "raw result", "self-test steps", "table word", "notice type", "command code", "coefficient offset"]

/-- The command is well formed, or it fails a check of the list. -/
def Statement (i : Instr) : Prop := i.wellFormed = true ∨ ∃ n ∈ checks, i.failedCheck = some n

/-- A command with one check, whose name is in the list. -/
theorem of_check {i : Instr} {b : Bool} {n : String} (hn : n ∈ checks) (h : i.failedCheck = if b then none else some n) : Statement i := by
  cases b with
  | true => exact Or.inl (by simp [Instr.wellFormed, h])
  | false => exact Or.inr ⟨n, hn, by simpa using h⟩

theorem powerOnReset : Statement (.powerOnReset) := Or.inl rfl
theorem porRelease (entropyOk : Bool) : Statement (.porRelease entropyOk) := Or.inl rfl
theorem bootTableInitDone (bad : List (Nat × Nat)) : Statement (.bootTableInitDone bad) := Or.inl rfl
theorem bootHeaderDone : Statement (.bootHeaderDone) := Or.inl rfl
theorem bootLoadDone : Statement (.bootLoadDone) := Or.inl rfl
theorem bootLocked : Statement (.bootLocked) := Or.inl rfl
theorem domainStartNext : Statement (.domainStartNext) := Or.inl rfl
theorem bootReady : Statement (.bootReady) := Or.inl rfl
theorem drbgReseed (healthOk : Bool) : Statement (.drbgReseed healthOk) := Or.inl rfl
theorem softRst (p : Port) (key : BitVec 16) : Statement (.softRst p key) := Or.inl rfl
theorem blockResetRelease : Statement (.blockResetRelease) := Or.inl rfl
theorem warmBootEnd : Statement (.warmBootEnd) := Or.inl rfl
theorem testReset : Statement (.testReset) := Or.inl rfl
theorem cacheDieReset : Statement (.cacheDieReset) := Or.inl rfl
theorem refclkLost : Statement (.refclkLost) := Or.inl rfl
theorem stepBoundary (t : Nat) : Statement (.stepBoundary t) := Or.inl rfl
theorem timeBaseIdle : Statement (.timeBaseIdle) := Or.inl rfl
theorem stepBcastFrame (frame : BitVec 64) (stop : Bool) (t : Nat) : Statement (.stepBcastFrame frame stop t) := Or.inl rfl
theorem bcastMiss : Statement (.bcastMiss) := Or.inl rfl
theorem samplePeriod (rs : List (Nat × RgnRead)) : Statement (.samplePeriod rs) := of_check (n := "reads") (by decide) rfl
theorem heatAtTarget (h : Fin 256) : Statement (.heatAtTarget h) := Or.inl rfl
theorem balancePass : Statement (.balancePass) := Or.inl rfl
theorem fastLimitLatch (m : Fin 2048) : Statement (.fastLimitLatch m) := Or.inl rfl
theorem latchEnd (m : Fin 2048) : Statement (.latchEnd m) := Or.inl rfl
theorem retryCountClear (m : Fin 2048) : Statement (.retryCountClear m) := Or.inl rfl
theorem startMeasurementDone (n : Fin 256) (code : Fin 601) : Statement (.startMeasurementDone n code) := Or.inl rfl
theorem rampEnd (n : Fin 256) : Statement (.rampEnd n) := Or.inl rfl
theorem falseStart (n : Fin 256) : Statement (.falseStart n) := Or.inl rfl
theorem falseStartRetry (n : Fin 256) : Statement (.falseStartRetry n) := Or.inl rfl
theorem attemptCountClear (n : Fin 256) : Statement (.attemptCountClear n) := Or.inl rfl
theorem overloadFlagSet (n : Fin 256) : Statement (.overloadFlagSet n) := Or.inl rfl
theorem overloadFlagClear (n : Fin 256) : Statement (.overloadFlagClear n) := Or.inl rfl
theorem regionOverloadFault (n : Fin 256) : Statement (.regionOverloadFault n) := Or.inl rfl
theorem capacityExceeded (n : Fin 256) : Statement (.capacityExceeded n) := Or.inl rfl
theorem burstEntryTest (h : Fin 256) : Statement (.burstEntryTest h) := Or.inl rfl
theorem keeperEntry (n : Fin 256) : Statement (.keeperEntry n) := Or.inl rfl
theorem keeperTimeout (n : Fin 256) : Statement (.keeperTimeout n) := Or.inl rfl
theorem openPhase (m : Fin 2048) : Statement (.openPhase m) := Or.inl rfl
theorem senseMismatch (m : Fin 2048) : Statement (.senseMismatch m) := Or.inl rfl
theorem regulationLoss (h : Fin 256) : Statement (.regulationLoss h) := Or.inl rfl
theorem mergeVoltageTimeout (g : Fin 512) : Statement (.mergeVoltageTimeout g) := Or.inl rfl
theorem forcedMergeStretchOrder (g : Fin 512) : Statement (.forcedMergeStretchOrder g) := Or.inl rfl
theorem forcedMergeDue (g : Fin 512) : Statement (.forcedMergeDue g) := Or.inl rfl
theorem splitRefusedLoad (g : Fin 512) : Statement (.splitRefusedLoad g) := Or.inl rfl
theorem splittingEnd (n : Fin 256) : Statement (.splittingEnd n) := Or.inl rfl
theorem noLaneDark (n : Fin 256) : Statement (.noLaneDark n) := Or.inl rfl
theorem retentionSetupEnd (h : Fin 256) : Statement (.retentionSetupEnd h) := Or.inl rfl
theorem retentionExitDone (h : Fin 256) : Statement (.retentionExitDone h) := Or.inl rfl
theorem vgScan (n : Fin 256) (currents : List Nat) : Statement (.vgScan n currents) := of_check (n := "currents") (by decide) rfl
theorem spareMapping (n : Fin 256) (group : Fin 104) : Statement (.spareMapping n group) := Or.inl rfl
theorem gracePeriodEnd (n : Fin 256) : Statement (.gracePeriodEnd n) := Or.inl rfl
theorem graceDarkEntry (n : Fin 256) : Statement (.graceDarkEntry n) := Or.inl rfl
theorem laneEnWrite (p : Port) (m : Fin 2048) (en : Bool) : Statement (.laneEnWrite p m en) := Or.inl rfl
theorem laneClrFail (p : Port) (m : Fin 2048) : Statement (.laneClrFail p m) := Or.inl rfl
theorem laneRetire (p : Port) (m : Fin 2048) : Statement (.laneRetire p m) := Or.inl rfl
theorem closeGateCmd (p : Port) (d : Fin 4) (g : Fin 512) : Statement (.closeGateCmd p d g) := Or.inl rfl
theorem openGateCmd (p : Port) (d : Fin 4) (g : Fin 512) : Statement (.openGateCmd p d g) := Or.inl rfl
theorem startRegionCmd (p : Port) (d : Fin 4) (n : Fin 256) : Statement (.startRegionCmd p d n) := Or.inl rfl
theorem stopRegionCmd (p : Port) (d : Fin 4) (n : Fin 256) : Statement (.stopRegionCmd p d n) := Or.inl rfl
theorem retentionEntryCmd (p : Port) (d : Fin 4) (n : Fin 256) : Statement (.retentionEntryCmd p d n) := Or.inl rfl
theorem retentionExitCmd (p : Port) (d : Fin 4) (n : Fin 256) : Statement (.retentionExitCmd p d n) := Or.inl rfl
theorem clrDark (p : Port) (n : Fin 256) : Statement (.clrDark p n) := Or.inl rfl
theorem domCtrlMeshWrite (p : Port) (d : Fin 4) (mesh : Bool) : Statement (.domCtrlMeshWrite p d mesh) := Or.inl rfl
theorem domSetptWrite (p : Port) (d : Fin 4) (vset : BitVec 12) (sched : Bool) : Statement (.domSetptWrite p d vset sched) := Or.inl rfl
theorem rgnSetptWrite (p : Port) (n : Fin 256) (vset : BitVec 12) (sched : Bool) : Statement (.rgnSetptWrite p n vset sched) := Or.inl rfl
theorem clrFb (p : Port) (n : Fin 256) : Statement (.clrFb p n) := Or.inl rfl
theorem batonPacket (bits : BitVec 80) (edges : Nat) : Statement (.batonPacket bits edges) := Or.inl rfl
theorem batonLinkAckDue : Statement (.batonLinkAckDue) := Or.inl rfl
theorem batonResendTimeout : Statement (.batonResendTimeout) := Or.inl rfl
theorem nop (seq : BitVec 8) (body : BitVec 52) : Statement (.nop seq body) := Or.inl rfl
theorem link (seq : BitVec 8) (body : BitVec 52) : Statement (.link seq body) := Or.inl rfl
theorem linkReset (seq : BitVec 8) (body : BitVec 52) : Statement (.linkReset seq body) := Or.inl rfl
theorem activity (seq : BitVec 8) (body : BitVec 52) : Statement (.activity seq body) := Or.inl rfl
theorem barrier (seq : BitVec 8) (body : BitVec 52) : Statement (.barrier seq body) := Or.inl rfl
theorem slopeCheckDone (tag : BitVec 8) : Statement (.slopeCheckDone tag) := Or.inl rfl
theorem setpoint (seq : BitVec 8) (body : BitVec 52) : Statement (.setpoint seq body) := Or.inl rfl
theorem setpointImmediate (seq : BitVec 8) (body : BitVec 52) : Statement (.setpointImmediate seq body) := Or.inl rfl
theorem setpointTimeout (tag : BitVec 8) : Statement (.setpointTimeout tag) := Or.inl rfl
theorem gateTimeout (tag : BitVec 8) : Statement (.gateTimeout tag) := Or.inl rfl
theorem deferTimeout (tag : BitVec 8) : Statement (.deferTimeout tag) := Or.inl rfl
theorem abort (seq : BitVec 8) (body : BitVec 52) : Statement (.abort seq body) := Or.inl rfl
theorem confirm (seq : BitVec 8) (body : BitVec 52) : Statement (.confirm seq body) := Or.inl rfl
theorem cancel (seq : BitVec 8) (body : BitVec 52) : Statement (.cancel seq body) := Or.inl rfl
theorem contextSwitch (seq : BitVec 8) (body : BitVec 52) : Statement (.contextSwitch seq body) := Or.inl rfl
theorem contextSwitchNewUser (seq : BitVec 8) (body : BitVec 52) : Statement (.contextSwitchNewUser seq body) := Or.inl rfl
theorem contextClose (seq : BitVec 8) (body : BitVec 52) : Statement (.contextClose seq body) := Or.inl rfl
theorem period (seq : BitVec 8) (body : BitVec 52) : Statement (.period seq body) := Or.inl rfl
theorem freqpt (seq : BitVec 8) (body : BitVec 52) : Statement (.freqpt seq body) := Or.inl rfl
theorem freqptFloorAck (seq : BitVec 8) (body : BitVec 52) : Statement (.freqptFloorAck seq body) := Or.inl rfl
theorem noticeUndefined (ntype : BitVec 4) (seq : BitVec 8) (body : BitVec 52) : Statement (.noticeUndefined ntype seq body) := of_check (n := "notice type") (by decide) rfl
theorem mismatchWindowEnd : Statement (.mismatchWindowEnd) := Or.inl rfl
theorem coefTableWrite (p : Port) (off : BitVec 20) (be : BitVec 4) (v : Word) : Statement (.coefTableWrite p off be v) := of_check (n := "coefficient offset") (by decide) rfl
theorem coefCtrlEnWrite (p : Port) (v : Word) : Statement (.coefCtrlEnWrite p v) := Or.inl rfl
theorem repClear (p : Port) : Statement (.repClear p) := Or.inl rfl
theorem modelLoadDone : Statement (.modelLoadDone) := Or.inl rfl
theorem limitsTick : Statement (.limitsTick) := Or.inl rfl
theorem pcapInEdge (pinHigh : Bool) (t : Nat) : Statement (.pcapInEdge pinHigh t) := Or.inl rfl
theorem pcapLost : Statement (.pcapLost) := Or.inl rfl
theorem capAnaStale : Statement (.capAnaStale) := Or.inl rfl
theorem thermalCapRun (n : Fin 256) : Statement (.thermalCapRun n) := Or.inl rfl
theorem hostStretchLevelWrite (p : Port) (level : BitVec 14) : Statement (.hostStretchLevelWrite p level) := Or.inl rfl
theorem clrPeakPower (p : Port) : Statement (.clrPeakPower p) := Or.inl rfl
theorem alertNAssert : Statement (.alertNAssert) := Or.inl rfl
theorem alertNDeassert : Statement (.alertNDeassert) := Or.inl rfl
theorem lowestStateHoldEnd : Statement (.lowestStateHoldEnd) := Or.inl rfl
theorem floorAckTimeout : Statement (.floorAckTimeout) := Or.inl rfl
theorem housekeepingTick : Statement (.housekeepingTick) := Or.inl rfl
theorem conversionDone (k : Fin 16) (r : Int) (ovr : Bool) (t : Nat) : Statement (.conversionDone k r ovr t) := of_check (n := "raw result") (by decide) rfl
theorem roundEvaluation : Statement (.roundEvaluation) := Or.inl rfl
theorem regularTrigger (k : Fin 16) : Statement (.regularTrigger k) := Or.inl rfl
theorem urgentTrigger (k : Fin 16) : Statement (.urgentTrigger k) := Or.inl rfl
theorem triggerDelayEnd (k : Fin 16) (urgent : Bool) : Statement (.triggerDelayEnd k urgent) := Or.inl rfl
theorem gauRsw (p : Port) (k : Fin 16) : Statement (.gauRsw p k) := Or.inl rfl
theorem gauIsw (p : Port) (k : Fin 16) : Statement (.gauIsw p k) := Or.inl rfl
theorem gauQdataRead (p : Port) : Statement (.gauQdataRead p) := Or.inl rfl
theorem qclr (p : Port) : Statement (.qclr p) := Or.inl rfl
theorem telemetryUpdate : Statement (.telemetryUpdate) := Or.inl rfl
theorem domTelClr (p : Port) (d : Fin 4) : Statement (.domTelClr p d) := Or.inl rfl
theorem clrPeakTemp (p : Port) : Statement (.clrPeakTemp p) := Or.inl rfl
theorem snap (p : Port) (sel : BitVec 8) : Statement (.snap p sel) := Or.inl rfl
theorem snapshotDone : Statement (.snapshotDone) := Or.inl rfl
theorem contextRelease (p : Port) (c : Fin 64) : Statement (.contextRelease p c) := Or.inl rfl
theorem recordPop (p : Port) : Statement (.recordPop p) := Or.inl rfl
theorem tenantViewRead (p : Port) (c : Fin 64) : Statement (.tenantViewRead p c) := Or.inl rfl
theorem tenantViewRefresh : Statement (.tenantViewRefresh) := Or.inl rfl
theorem scrubEnd (bad : List (Nat × Nat)) : Statement (.scrubEnd bad) := Or.inl rfl
theorem scrubOverrun : Statement (.scrubOverrun) := Or.inl rfl
theorem creditAlloc (p : Port) (n : Fin 256) (amount : BitVec 17) : Statement (.creditAlloc p n amount) := Or.inl rfl
theorem stepCountRead (p : Port) : Statement (.stepCountRead p) := Or.inl rfl
theorem faultProcess : Statement (.faultProcess) := Or.inl rfl
theorem faultRecovery (x : Fin 128) : Statement (.faultRecovery x) := Or.inl rfl
theorem watchdog : Statement (.watchdog) := Or.inl rfl
theorem marshalHeartbeat : Statement (.marshalHeartbeat) := Or.inl rfl
theorem trapHandlerTimeout : Statement (.trapHandlerTimeout) := Or.inl rfl
theorem trapReturn : Statement (.trapReturn) := Or.inl rfl
theorem feArm (p : Port) : Statement (.feArm p) := Or.inl rfl
theorem fnRel (p : Port) : Statement (.fnRel p) := Or.inl rfl
theorem crstClear (p : Port) : Statement (.crstClear p) := Or.inl rfl
theorem logPop (p : Port) : Statement (.logPop p) := Or.inl rfl
theorem logCopy : Statement (.logCopy) := Or.inl rfl
theorem patrolRead (tid : Fin 16) (index : Nat) (o : PatrolOutcome) : Statement (.patrolRead tid index o) := of_check (n := "table word") (by decide) rfl
theorem vtWordRewrite (n : Fin 256) : Statement (.vtWordRewrite n) := Or.inl rfl
theorem portAligned (p : Fin 5) : Statement (.portAligned p) := Or.inl rfl
theorem trainEnd (p : Fin 5) : Statement (.trainEnd p) := Or.inl rfl
theorem hello (p : Fin 5) (frame : List Byte) : Statement (.hello p frame) := Or.inl rfl
theorem helloTimeout (p : Fin 5) : Statement (.helloTimeout p) := Or.inl rfl
theorem refusedTimeout (p : Fin 5) : Statement (.refusedTimeout p) := Or.inl rfl
theorem linkLoss (p : Fin 5) : Statement (.linkLoss p) := Or.inl rfl
theorem dataFrame (p : Fin 5) (frame : List Byte) : Statement (.dataFrame p frame) := Or.inl rfl
theorem frameSendDue (p : Fin 5) : Statement (.frameSendDue p) := Or.inl rfl
theorem reliableResend (p : Fin 5) : Statement (.reliableResend p) := Or.inl rfl
theorem seqExhausted (p : Fin 5) : Statement (.seqExhausted p) := Or.inl rfl
theorem rekeyStart (p : Fin 5) : Statement (.rekeyStart p) := Or.inl rfl
theorem rlyRekeyWrite (port : Port) (p : Fin 5) : Statement (.rlyRekeyWrite port p) := Or.inl rfl
theorem epochGraceEnd (p : Fin 5) : Statement (.epochGraceEnd p) := Or.inl rfl
theorem heartbeat (p : Fin 5) (body : BitVec 272) : Statement (.heartbeat p body) := Or.inl rfl
theorem report (p : Fin 5) (body : BitVec 272) : Statement (.report p body) := Or.inl rfl
theorem reportDue : Statement (.reportDue) := Or.inl rfl
theorem request (p : Fin 5) (body : BitVec 272) : Statement (.request p body) := Or.inl rfl
theorem order (p : Fin 5) (body : BitVec 272) : Statement (.order p body) := Or.inl rfl
theorem orderNak (p : Fin 5) (body : BitVec 272) : Statement (.orderNak p body) := Or.inl rfl
theorem delay (p : Fin 5) (body : BitVec 272) : Statement (.delay p body) := Or.inl rfl
theorem delayOrder (p : Fin 5) (body : BitVec 272) : Statement (.delayOrder p body) := Or.inl rfl
theorem emerg (p : Fin 5) (body : BitVec 272) : Statement (.emerg p body) := Or.inl rfl
theorem emergOrder (p : Fin 5) (body : BitVec 272) : Statement (.emergOrder p body) := Or.inl rfl
theorem mirror (p : Fin 5) (body : BitVec 272) : Statement (.mirror p body) := Or.inl rfl
theorem digest (p : Fin 5) (body : BitVec 272) : Statement (.digest p body) := Or.inl rfl
theorem digestDue : Statement (.digestDue) := Or.inl rfl
theorem resync (p : Fin 5) (body : BitVec 272) : Statement (.resync p body) := Or.inl rfl
theorem rlyResyncWrite (p : Port) : Statement (.rlyResyncWrite p) := Or.inl rfl
theorem rekey (p : Fin 5) (body : BitVec 272) : Statement (.rekey p body) := Or.inl rfl
theorem rekeyAck (p : Fin 5) (body : BitVec 272) : Statement (.rekeyAck p body) := Or.inl rfl
theorem join (p : Fin 5) (body : BitVec 272) : Statement (.join p body) := Or.inl rfl
theorem grant (p : Fin 5) (body : BitVec 272) : Statement (.grant p body) := Or.inl rfl
theorem crReq (p : Fin 5) (body : BitVec 272) : Statement (.crReq p body) := Or.inl rfl
theorem crPrep (p : Fin 5) (body : BitVec 272) : Statement (.crPrep p body) := Or.inl rfl
theorem crPrepAck (p : Fin 5) (body : BitVec 272) : Statement (.crPrepAck p body) := Or.inl rfl
theorem crCommit (p : Fin 5) (body : BitVec 272) : Statement (.crCommit p body) := Or.inl rfl
theorem crDone (p : Fin 5) (body : BitVec 272) : Statement (.crDone p body) := Or.inl rfl
theorem crAbort (p : Fin 5) (body : BitVec 272) : Statement (.crAbort p body) := Or.inl rfl
theorem crPrepTimeout (tid : Nat) : Statement (.crPrepTimeout tid) := Or.inl rfl
theorem crPrepAckResend : Statement (.crPrepAckResend) := Or.inl rfl
theorem heartbeatLost : Statement (.heartbeatLost) := Or.inl rfl
theorem pairFence : Statement (.pairFence) := Or.inl rfl
theorem fenceRelease : Statement (.fenceRelease) := Or.inl rfl
theorem plannedSwitch (p : Port) : Statement (.plannedSwitch p) := Or.inl rfl
theorem actingMaster : Statement (.actingMaster) := Or.inl rfl
theorem status (p : Port) : Statement (.status p) := Or.inl rfl
theorem echo (p : Port) : Statement (.echo p) := Or.inl rfl
theorem updOpen (p : Port) : Statement (.updOpen p) := Or.inl rfl
theorem updPage (p : Port) : Statement (.updPage p) := Or.inl rfl
theorem updClose (p : Port) : Statement (.updClose p) := Or.inl rfl
theorem updAbort (p : Port) : Statement (.updAbort p) := Or.inl rfl
theorem activate (p : Port) : Statement (.activate p) := Or.inl rfl
theorem commit (p : Port) : Statement (.commit p) := Or.inl rfl
theorem retireAdd (p : Port) : Statement (.retireAdd p) := Or.inl rfl
theorem retireRemove (p : Port) : Statement (.retireRemove p) := Or.inl rfl
theorem retireRead (p : Port) : Statement (.retireRead p) := Or.inl rfl
theorem learnSave (p : Port) : Statement (.learnSave p) := Or.inl rfl
theorem learnSaveTimer : Statement (.learnSaveTimer) := Or.inl rfl
theorem modelLoad (p : Port) : Statement (.modelLoad p) := Or.inl rfl
theorem logInfo (p : Port) : Statement (.logInfo p) := Or.inl rfl
theorem logRead (p : Port) : Statement (.logRead p) := Or.inl rfl
theorem creditLogRead (p : Port) : Statement (.creditLogRead p) := Or.inl rfl
theorem unknownCmd (p : Port) : Statement (.unknownCmd p) := Or.inl rfl
theorem tokenChallenge (p : Port) : Statement (.tokenChallenge p) := Or.inl rfl
theorem tokenData (p : Port) : Statement (.tokenData p) := Or.inl rfl
theorem tokenCheck (p : Port) : Statement (.tokenCheck p) := Or.inl rfl
theorem tokenRevoke (p : Port) : Statement (.tokenRevoke p) := Or.inl rfl
theorem tokenExpiry : Statement (.tokenExpiry) := Or.inl rfl
theorem bootUpdDataWrite (p : Port) (w : Word) : Statement (.bootUpdDataWrite p w) := Or.inl rfl
theorem trialMinute : Statement (.trialMinute) := Or.inl rfl
theorem trialRollback : Statement (.trialRollback) := Or.inl rfl
theorem rotationPage : Statement (.rotationPage) := Or.inl rfl
theorem portATimeout (write : Bool) : Statement (.portATimeout write) := Or.inl rfl
theorem setWin (w : Word) (pecOk : Bool) : Statement (.setWin w pecOk) := Or.inl rfl
theorem wr (ws : List Word) (pecOk : Bool) : Statement (.wr ws pecOk) := Or.inl rfl
theorem rd : Statement (.rd) := Or.inl rfl
theorem reRd : Statement (.reRd) := Or.inl rfl
theorem stat : Statement (.stat) := Or.inl rfl
theorem smbUndefinedCommand (code : BitVec 8) : Statement (.smbUndefinedCommand code) := of_check (n := "command code") (by decide) rfl
theorem smbusTimeout : Statement (.smbusTimeout) := Or.inl rfl
theorem semTake (x : Master) (sem : Fin 16) (tag : BitVec 8) : Statement (.semTake x sem tag) := Or.inl rfl
theorem semRel (x : Master) (sem : Fin 16) : Statement (.semRel x sem) := Or.inl rfl
theorem semForce (p : Port) (sem : Fin 16) (key : BitVec 16) : Statement (.semForce p sem key) := Or.inl rfl
theorem reservedAccess (p : Port) (off : BitVec 20) (write : Bool) : Statement (.reservedAccess p off write) := Or.inl rfl
theorem fswWrite (p : Port) (code : BitVec 4) : Statement (.fswWrite p code) := Or.inl rfl
theorem registerWrite (p : Port) (off : BitVec 20) (be : BitVec 4) (v : Word) : Statement (.registerWrite p off be v) := Or.inl rfl
theorem extest : Statement (.extest) := Or.inl rfl
theorem samplePreload (cells : BitVec 23) : Statement (.samplePreload cells) := Or.inl rfl
theorem idcode : Statement (.idcode) := Or.inl rfl
theorem clamp : Statement (.clamp) := Or.inl rfl
theorem highz : Statement (.highz) := Or.inl rfl
theorem wrapSel : Statement (.wrapSel) := Or.inl rfl
theorem wrapDr : Statement (.wrapDr) := Or.inl rfl
theorem privDbg : Statement (.privDbg) := Or.inl rfl
theorem bypass : Statement (.bypass) := Or.inl rfl
theorem wsBypass : Statement (.wsBypass) := Or.inl rfl
theorem wsPreload (cells : BitVec 1142) : Statement (.wsPreload cells) := Or.inl rfl
theorem wsExtest : Statement (.wsExtest) := Or.inl rfl
theorem wsIntest : Statement (.wsIntest) := Or.inl rfl
theorem wsLaneSt (m : Fin 2048) : Statement (.wsLaneSt m) := Or.inl rfl
theorem laneSelfTest (p : Port) (m : Fin 2048) : Statement (.laneSelfTest p m) := Or.inl rfl
theorem selfTestDone (failed : BitVec 8) : Statement (.selfTestDone failed) := of_check (n := "self-test steps") (by decide) rfl
theorem selfTestAbort : Statement (.selfTestAbort) := Or.inl rfl
theorem obsSelectWrite (p : Port) (pin : Fin 2) (v : Word) : Statement (.obsSelectWrite p pin v) := Or.inl rfl
theorem pfArm (p : Port) : Statement (.pfArm p) := Or.inl rfl
theorem pfSwtrig (p : Port) : Statement (.pfSwtrig p) := Or.inl rfl
theorem pfFreeze : Statement (.pfFreeze) := Or.inl rfl
theorem alignmentLoss (p : Fin 5) : Statement (.alignmentLoss p) := Or.inl rfl
theorem refclkReturn : Statement (.refclkReturn) := Or.inl rfl
theorem isoStrobeDeassert (n : Fin 256) : Statement (.isoStrobeDeassert n) := Or.inl rfl
theorem activatePauseEnd : Statement (.activatePauseEnd) := Or.inl rfl

end Sys2Proof.Laws.Hardware
end

