-- ==== Sys2Proof/Laws/Regions.lean ====
section
/-! SUPPORT. What the shared operations on regions, lanes and pending merges do to the records of regions and lanes. -/

namespace Sys2Proof.Machine

/-! ### Something done to every element of a list -/

/-- A property that every element's change keeps holds after all. -/
theorem forEach_keeps {α : Type} {p : State → Prop} (l : List α) (g : State → α → State) (s : State) (h : p s)
    (hg : ∀ u a, a ∈ l → p u → p (g u a)) : p (s.forEach l g) := by
  unfold State.forEach
  induction l generalizing s with
  | nil => exact h
  | cons a t ih => exact ih _ (hg s a List.mem_cons_self h) (fun u b hb => hg u b (List.mem_cons_of_mem _ hb))

/-- The same function at every lane of a list. -/
theorem forEach_modLane_lane (l : List Nat) (hn : l.Nodup) (g : Lane → Lane) (s : State) (k : Nat) :
    (s.forEach l (fun s m => s.modLane m g)).lane k = if k ∈ l then g (s.lane k) else s.lane k := by
  unfold State.forEach
  induction l generalizing s with
  | nil => simp
  | cons a t ih =>
    rw [List.foldl_cons, ih (List.nodup_cons.mp hn).2]
    have ha := (List.nodup_cons.mp hn).1
    by_cases e : k = a
    · subst e; simp [ha]
    · simp [e, State.lane_modLane_ne _ _ e]

/-- A change of each lane of a list by itself, under a property of the state that the changes keep. -/
theorem forEach_lane {p : State → Prop} (l : List Nat) (hn : l.Nodup) (g : State → Nat → State) (φ : Nat → Lane → Lane) (s : State) (h : p s)
    (hg : ∀ u m, p u → p (g u m) ∧ (g u m).lane m = φ m (u.lane m) ∧ ∀ k, k ≠ m → (g u m).lane k = u.lane k) (k : Nat) :
    (s.forEach l g).lane k = if k ∈ l then φ k (s.lane k) else s.lane k := by
  unfold State.forEach
  induction l generalizing s with
  | nil => simp
  | cons a t ih =>
    obtain ⟨h1, h2, h3⟩ := hg s a h
    rw [List.foldl_cons, ih (List.nodup_cons.mp hn).2 _ h1]
    have ha := (List.nodup_cons.mp hn).1
    by_cases e : k = a
    · subst e; simp [ha, h2]
    · simp [e, h3 k e]

@[simp] theorem forEach_modLane_rgn (l : List Nat) (g : Lane → Lane) (s : State) (k : Nat) :
    (s.forEach l (fun s m => s.modLane m g)).rgn k = s.rgn k :=
  forEach_keeps (p := fun u => u.rgn k = s.rgn k) _ _ _ rfl (fun _ _ _ hu => hu)

@[simp] theorem forEach_modLane_heat (l : List Nat) (g : Lane → Lane) (s : State) (k : Nat) :
    (s.forEach l (fun s m => s.modLane m g)).heat k = s.heat k :=
  forEach_keeps (p := fun u => u.heat k = s.heat k) _ _ _ rfl (fun _ _ _ hu => hu)

theorem mem_lanesOf (n m : Nat) : m ∈ lanesOf n ↔ m / 8 = n := by
  simp only [lanesOf, List.mem_cons, List.not_mem_nil, or_false]
  omega

theorem lanesOf_nodup (n : Nat) : (lanesOf n).Nodup := by
  simp only [lanesOf, List.nodup_cons, List.mem_cons, List.not_mem_nil, or_false, List.nodup_nil, not_false_eq_true, and_true]
  omega

/-- The lanes of a region, and no other, go off. -/
theorem State.lane_lanesOff (s : State) (n m : Nat) : (s.lanesOff n).lane m = if m / 8 = n then (s.lane m).disable else s.lane m := by
  unfold State.lanesOff
  rw [forEach_modLane_lane _ (lanesOf_nodup n)]
  simp only [mem_lanesOf]

theorem State.lanesOff_changes (s : State) (n : Nat) : Changes s (s.lanesOff n) [.lanes] [] :=
  Changes.forEach _ _ (Changes.refl ..) (fun _ _ _ hu => hu.modLane _ _ List.mem_cons_self)

/-! ### Pending merges end -/

theorem State.rgn_settle_ne (s : State) {n k : Nat} (st : RgnState) (h : k ≠ n) : (s.settle n st).rgn k = s.rgn k := by
  unfold State.settle
  dsimp only
  split
  · have e := (State.degradedEvt_kept (s.modRgn n fun r => { r with st := st, regSince := some (r.regSince.getD s.now) }) n (Sub.refl _) (Sub.refl _)
      (Kept.refl _ _ _)).rgn rfl k
    rw [e, State.rgn_modRgn_ne _ _ h]
  · rw [State.rgn_modRgn_ne _ _ h]

theorem State.rgn_settle (s : State) (n : Nat) (st : RgnState) :
    (s.settle n st).rgn n = { s.rgn n with st := st, regSince := some ((s.rgn n).regSince.getD s.now) } := by
  unfold State.settle
  dsimp only
  split
  · have e := (State.degradedEvt_kept (s.modRgn n fun r => { r with st := st, regSince := some (r.regSince.getD s.now) }) n (Sub.refl _) (Sub.refl _)
      (Kept.refl _ _ _)).rgn rfl n
    rw [e, State.rgn_modRgn_same]
  · rw [State.rgn_modRgn_same]

/-- The end of a merge leaves every region but those in MERGING. -/
theorem State.rgn_mergeEnded (s : State) {n k : Nat} (h : (s.rgn k).st ≠ .MERGING) : (s.mergeEnded n).rgn k = s.rgn k := by
  unfold State.mergeEnded
  split
  · rename_i hn
    have e : k ≠ n := by rintro rfl; exact h hn.1
    exact State.rgn_settle_ne _ _ e
  · rfl

theorem State.rgn_endMerge (s : State) (x : PMerge) (code : Nat) {k : Nat} (h : (s.rgn k).st ≠ .MERGING) :
    (s.endMerge x code).rgn k = s.rgn k := by
  unfold State.endMerge
  dsimp only
  have e : ∀ o c, (({ s with merges := s.merges.filter (fun y => !(y.gate = x.gate ∧ y.close = x.close ∧ y.origin = x.origin)) } : State).result
      o c).rgn k = s.rgn k := fun o c => by unfold State.result; split <;> rfl
  split
  · rw [State.rgn_mergeEnded, State.rgn_mergeEnded, e]
    · rw [e]; exact h
    · rw [State.rgn_mergeEnded, e]
      · exact h
      · rw [e]; exact h
  · exact e _ _

theorem State.rgn_refuseMerges (s : State) (n : Nat) {k : Nat} (h : (s.rgn k).st ≠ .MERGING) : (s.refuseMerges n).rgn k = s.rgn k := by
  unfold State.refuseMerges
  exact forEach_keeps (p := fun u => u.rgn k = s.rgn k) _ _ s rfl
    (fun u a _ hu => by rw [State.rgn_endMerge u a 7 (by rw [hu]; exact h), hu])

theorem State.rgn_loseTargets (s : State) (n k : Nat) : (s.loseTargets n).rgn k = s.rgn k :=
  (State.loseTargets_kept s n (Sub.refl _) (Sub.refl _) (Kept.refl _ _ s)).rgn rfl k

theorem State.heat_loseTargets (s : State) (n k : Nat) : (s.loseTargets n).heat k = s.heat k :=
  (State.loseTargets_kept s n (Sub.refl _) (Sub.refl _) (Kept.refl _ _ s)).heat rfl k

theorem State.lane_loseTargets (s : State) (n k : Nat) : (s.loseTargets n).lane k = s.lane k :=
  (State.loseTargets_kept s n (Sub.refl _) (Sub.refl _) (Kept.refl _ _ s)).lane rfl k

theorem State.lane_refuseMerges (s : State) (n k : Nat) : (s.refuseMerges n).lane k = s.lane k :=
  (State.refuseMerges_kept s n (Sub.refl _) (Sub.refl _) (Kept.refl _ _ s)).lane rfl k

theorem State.rgn_ackRgnStat (s : State) (n e d k : Nat) : (s.ackRgnStat n e d).rgn k = s.rgn k :=
  (State.ackRgnStat_kept s n e d (Sub.refl _) (Sub.refl _) (Kept.refl _ _ s)).rgn rfl k

theorem State.lane_ackRgnStat (s : State) (n e d k : Nat) : (s.ackRgnStat n e d).lane k = s.lane k :=
  (State.ackRgnStat_kept s n e d (Sub.refl _) (Sub.refl _) (Kept.refl _ _ s)).lane rfl k

/-! ### A region goes dark, or fails an attempt -/

theorem State.rgn_lanesOff (s : State) (n k : Nat) : (s.lanesOff n).rgn k = s.rgn k :=
  (State.lanesOff_kept s n (Sub.refl _) (Kept.refl _ 0 s)).rgn rfl k

theorem State.rgn_goDark (s : State) (n cause : Nat) : (s.goDark n cause).rgn n = { s.rgn n with
    st := .DARK, cause := cause, iso := true, ret := false, phase := .idle, regSince := none, graceEnd := none, darkAt := none,
    noLane := none, stopAt := none, rampDone := false, falseRun := 0, lossRun := 0 } := by
  unfold State.goDark
  dsimp only
  rw [State.rgn_ackRgnStat, State.rgnEvt_rgn, State.rgn_refuseMerges, State.rgn_loseTargets, State.rgn_modRgn_same, State.rgn_lanesOff]
  rw [State.rgn_loseTargets, State.rgn_modRgn_same]
  simp

theorem State.lane_goDark (s : State) (n cause m : Nat) :
    (s.goDark n cause).lane m = if m / 8 = n then (s.lane m).disable else s.lane m := by
  unfold State.goDark
  dsimp only
  rw [State.lane_ackRgnStat, State.rgnEvt_lane, State.lane_refuseMerges, State.lane_loseTargets, State.modRgn_lane, State.lane_lanesOff]

/-- A failed attempt (R100, R101). -/
theorem State.rgn_failAttempt (s : State) (n cause : Nat) : (s.failAttempt n cause).rgn n =
    if 4 ≤ (s.rgn n).attempts + 1 then { s.rgn n with
      attempts := 4, st := .DARK, cause := cause, iso := true, ret := false, phase := .idle, regSince := none, graceEnd := none,
      darkAt := none, noLane := none, stopAt := none, rampDone := false, falseRun := 0, lossRun := 0 }
    else { s.rgn n with
      iP := 0, ur := ⟨0, -4⟩, cr := none, st := .STARTING, phase := .waiting s.now, attempts := (s.rgn n).attempts + 1,
      cause := if cause = 1 then (s.rgn n).cause else cause, byStart := false, iso := true, ret := false, rampDone := false, falseRun := 0,
      lossRun := 0, regSince := none, stopAt := none, noLane := none, isoDue := none } := by
  unfold State.failAttempt
  dsimp only
  split
  · rw [State.rgn_goDark, State.rgn_modRgn_same]
  · rw [State.rgn_refuseMerges, State.rgn_loseTargets, State.rgn_modRgn_same]
    · unfold State.startHeat
      rw [State.rgn_modRgn_same, State.modHeat_rgn, State.rgn_lanesOff]
    · rw [State.rgn_loseTargets, State.rgn_modRgn_same]
      simp

theorem State.lane_failAttempt (s : State) (n cause m : Nat) :
    (s.failAttempt n cause).lane m = if m / 8 = n then (s.lane m).disable else s.lane m := by
  unfold State.failAttempt
  dsimp only
  split
  · rw [State.lane_goDark]; rfl
  · rw [State.lane_refuseMerges, State.lane_loseTargets]
    unfold State.startHeat
    rw [State.modRgn_lane, State.modRgn_lane, State.modHeat_lane, State.lane_lanesOff]

/-- A region that loses regulation. -/
theorem State.rgn_loseRegulation (s : State) (n cause : Nat) : (s.loseRegulation n cause).rgn n = (s.failAttempt n cause).rgn n := by
  unfold State.loseRegulation
  rw [State.rgn_ackRgnStat, State.rgnEvt_rgn]

theorem State.lane_loseRegulation (s : State) (n cause m : Nat) :
    (s.loseRegulation n cause).lane m = if m / 8 = n then (s.lane m).disable else s.lane m := by
  unfold State.loseRegulation
  rw [State.lane_ackRgnStat, State.rgnEvt_lane, State.lane_failAttempt]

/-! ### Event bits of regions stay set -/

/-- A one-bit field of RGN_EVT that reads 1. -/
def evtSet (s : State) (x : Fld) (n : Nat) : Prop := x ∈ Reg.fields .RGN_EVT ∧ x.hi = x.lo ∧ n < Reg.count .RGN_EVT ∧ s.f x n = 1

theorem evtSet.of_eq {s t : State} {x : Fld} {n : Nat} (h : evtSet s x n) (e : ∀ i, t.reg .RGN_EVT i = s.reg .RGN_EVT i) : evtSet t x n := by
  refine ⟨h.1, h.2.1, h.2.2.1, ?_⟩
  have hr := (Fld.reg_of_mem h.1).1
  have h4 := h.2.2.2
  unfold State.f at h4 ⊢
  rw [hr] at h4 ⊢
  rw [e, h4]

theorem evtSet.kept {P R : Nat} {s t : State} {x : Fld} {n : Nat} (h : evtSet s x n) (hk : Kept P R s t)
    (hb : R.testBit (Reg.bit .RGN_EVT) = false) : evtSet t x n := by
  refine ⟨h.1, h.2.1, h.2.2.1, ?_⟩
  have hr := (Fld.reg_of_mem h.1).1
  rw [hk.field (hr ▸ h.2.2.1) (hr ▸ hb)]
  exact h.2.2.2

theorem evtSet.rgnEvt {s : State} {x y : Fld} {n k : Nat} {src : Src} (h : evtSet s x n) (hy : y ∈ Reg.fields .RGN_EVT) :
    evtSet (s.rgnEvt y src k) x n := by
  refine ⟨h.1, h.2.1, h.2.2.1, ?_⟩
  have hr := (Fld.reg_of_mem h.1).1
  have hr2 := (Fld.reg_of_mem hy).1
  unfold State.rgnEvt
  rw [State.raiseHw_f, State.f_put _ _ (hr2 ▸ hy) (hr ▸ h.1) (hr ▸ h.2.2.1)]
  split
  · rename_i e
    cases e
    rw [h.2.1, Nat.add_sub_cancel_left] <;> rfl
  · exact h.2.2.2

theorem evtSet.settle {s : State} {x : Fld} {n k : Nat} (h : evtSet s x n) (st : RgnState) : evtSet (s.settle k st) x n := by
  unfold State.settle State.degradedEvt
  dsimp only
  split
  · exact ((h.of_eq (fun _ => rfl) : evtSet (s.modRgn k fun r => { r with st := st, regSince := some (r.regSince.getD s.now) }) x n).rgnEvt
      (by decide)).kept (State.ackRgnStat_kept _ k 3 0 (Sub.refl _) (Sub.refl _) (Kept.refl _ _ _)) rfl
  · exact h.of_eq (fun _ => rfl)

theorem evtSet.mergeEnded {s : State} {x : Fld} {n k : Nat} (h : evtSet s x n) : evtSet (s.mergeEnded k) x n := by
  unfold State.mergeEnded
  split
  · exact h.settle _
  · exact h

theorem evtSet.endMerge {s : State} {x : Fld} {n : Nat} (h : evtSet s x n) (y : PMerge) (code : Nat) : evtSet (s.endMerge y code) x n := by
  have h1 : ∀ l, evtSet { s with merges := l } x n := fun l => h.of_eq (fun _ => rfl)
  have h2 : ∀ l, evtSet (({ s with merges := l } : State).result y.origin code) x n := fun l =>
    (h1 l).kept (State.result_kept _ y.origin code (Sub.refl _) (Kept.refl 0 _ _)) rfl
  unfold State.endMerge
  dsimp only
  split
  · exact (h2 _).mergeEnded.mergeEnded
  · exact h2 _

theorem evtSet.refuseMerges {s : State} {x : Fld} {n : Nat} (h : evtSet s x n) (k : Nat) : evtSet (s.refuseMerges k) x n :=
  forEach_keeps (p := fun u => evtSet u x n) _ _ s h (fun _ a _ hu => hu.endMerge a 7)

theorem evtSet.loseTargets {s : State} {x : Fld} {n : Nat} (h : evtSet s x n) (k : Nat) : evtSet (s.loseTargets k) x n :=
  h.kept (State.loseTargets_kept s k (Sub.refl _) (Sub.refl _) (Kept.refl _ _ s)) rfl

theorem evtSet.lanesOff {s : State} {x : Fld} {n : Nat} (h : evtSet s x n) (k : Nat) : evtSet (s.lanesOff k) x n :=
  h.kept (State.lanesOff_kept s k (Sub.refl _) (Kept.refl _ 0 s)) rfl

theorem evtSet.modRgn {s : State} {x : Fld} {n : Nat} (h : evtSet s x n) (k : Nat) (g : Rgn → Rgn) : evtSet (s.modRgn k g) x n :=
  h.of_eq (fun _ => rfl)

theorem evtSet.ack {s : State} {x : Fld} {n : Nat} (h : evtSet s x n) (k e d : Nat) : evtSet (s.ackRgnStat k e d) x n :=
  h.kept (State.ackRgnStat_kept s k e d (Sub.refl _) (Sub.refl _) (Kept.refl _ _ _)) rfl

theorem evtSet.goDark {s : State} {x : Fld} {n : Nat} (h : evtSet s x n) (k cause : Nat) : evtSet (s.goDark k cause) x n := by
  unfold State.goDark
  dsimp only
  exact (((((h.lanesOff k).modRgn k _).loseTargets k).refuseMerges k).rgnEvt (by decide)).ack _ _ _

theorem evtSet.failAttempt {s : State} {x : Fld} {n : Nat} (h : evtSet s x n) (k cause : Nat) : evtSet (s.failAttempt k cause) x n := by
  have h1 : ∀ u : State, evtSet u x n → evtSet (u.startHeat k) x n := fun u hu => hu.of_eq (fun _ => rfl)
  unfold State.failAttempt
  dsimp only
  split
  · exact (h.modRgn _ _).goDark _ _
  · exact (((h1 _ (h.lanesOff k)).modRgn k _).loseTargets k).refuseMerges k

end Sys2Proof.Machine
end

