-- ==== Sys2Proof/Laws/Ports.lean ====
section
/-! SUPPORT. What a write through a host port does: the bits that it stores, and the write of a master that nothing refuses. -/

namespace Sys2Proof.Machine

/-! ### The bits of a stored word (R6, R571) -/

theorem Word.getLsbD_merge (old new m : Word) (k : Nat) : (Word.merge old new m).getLsbD k = if m.getLsbD k then new.getLsbD k else old.getLsbD k := by
  simp only [Word.merge, BitVec.getLsbD_or, BitVec.getLsbD_and, BitVec.getLsbD_not]
  by_cases hk : k < 32
  · cases m.getLsbD k <;> simp [hk]
  · have h1 := old.getLsbD_of_ge k (by omega)
    have h2 := new.getLsbD_of_ge k (by omega)
    simp [h1, h2]

/-- Bit `k` of what one field stores. -/
def fieldBit (f : Fld) (locked : Bool) (old v m : Word) (k : Nat) : Bool :=
  match f.acc with
  | .rw => (Word.merge old v m).getLsbD k
  | .lk => if locked then old.getLsbD k else (Word.merge old v m).getLsbD k
  | .w1c => old.getLsbD k && !(v.getLsbD k && m.getLsbD k)
  | _ => old.getLsbD k

/-- One field's part of a store. -/
def storeField (locked : Bool) (old v m : Word) (w : Word) (f : Fld) : Word :=
  match f.acc with
  | .rw => w.withField f.hi f.lo ((Word.merge old v m).field f.hi f.lo)
  | .lk => if locked then w else w.withField f.hi f.lo ((Word.merge old v m).field f.hi f.lo)
  | .w1c => w &&& ~~~(v &&& m &&& Word.mask f.hi f.lo)
  | _ => w

theorem storeWord_eq (l : List Fld) (locked : Bool) (old v m : Word) : storeWord l locked old v m = l.foldl (storeField locked old v m) old := rfl

/-- A field's store touches its own bits alone. -/
theorem storeField_out {f : Fld} (hf : f.hi < 32) (locked : Bool) (old v m w : Word) {k : Nat} (hk : ¬(f.lo ≤ k ∧ k ≤ f.hi)) :
    (storeField locked old v m w f).getLsbD k = w.getLsbD k := by
  unfold storeField
  split
  · rw [Word.getLsbD_withField _ _ hf, if_neg hk]
  · split
    · rfl
    · rw [Word.getLsbD_withField _ _ hf, if_neg hk]
  · simp only [BitVec.getLsbD_and, BitVec.getLsbD_not, Word.getLsbD_mask hf]
    by_cases h32 : k < 32
    · have : (decide (f.lo ≤ k) && decide (k ≤ f.hi)) = false := by
        rw [Bool.and_eq_false_iff]; simp only [decide_eq_false_iff_not]; omega
      simp [h32, this]
    · simp [w.getLsbD_of_ge k (by omega)]
  · rfl

theorem Word.testBit_field_sub (w : Word) {hi lo k : Nat} (h1 : lo ≤ k) (h2 : k ≤ hi) : (Word.field w hi lo).testBit (k - lo) = w.getLsbD k := by
  rw [Word.testBit_field]
  have : k - lo < hi + 1 - lo := by omega
  simp [this, Nat.add_sub_cancel' h1]

/-- In its own bits it stores what its access code says, when they are as they were. -/
theorem storeField_in {f : Fld} (hf : f.hi < 32) (locked : Bool) (old v m w : Word) {k : Nat} (h1 : f.lo ≤ k) (h2 : k ≤ f.hi)
    (hw : w.getLsbD k = old.getLsbD k) : (storeField locked old v m w f).getLsbD k = fieldBit f locked old v m k := by
  have h32 : k < 32 := by omega
  unfold storeField fieldBit
  split
  · rw [Word.getLsbD_withField _ _ hf, if_pos ⟨h1, h2⟩, Word.testBit_field_sub _ h1 h2]
  · split
    · exact hw
    · rw [Word.getLsbD_withField _ _ hf, if_pos ⟨h1, h2⟩, Word.testBit_field_sub _ h1 h2]
  · simp only [BitVec.getLsbD_and, BitVec.getLsbD_not, Word.getLsbD_mask hf, hw]
    simp [h32, h1, h2]
  · exact hw

theorem foldl_storeField_out (l : List Fld) (hl : ∀ f ∈ l, f.hi < 32) (locked : Bool) (old v m w : Word) {k : Nat}
    (hk : ∀ f ∈ l, ¬(f.lo ≤ k ∧ k ≤ f.hi)) : (l.foldl (storeField locked old v m) w).getLsbD k = w.getLsbD k := by
  induction l generalizing w with
  | nil => rfl
  | cons f t ih =>
    rw [List.foldl_cons, ih (fun g hg => hl g (List.mem_cons_of_mem _ hg)) _ (fun g hg => hk g (List.mem_cons_of_mem _ hg))]
    exact storeField_out (hl f List.mem_cons_self) _ _ _ _ _ (hk f List.mem_cons_self)

theorem foldl_storeField_in (l : List Fld) (hl : ∀ f ∈ l, f.hi < 32) (ha : fieldsApart l = true) (locked : Bool) (old v m w : Word) {f : Fld}
    (hf : f ∈ l) {k : Nat} (h1 : f.lo ≤ k) (h2 : k ≤ f.hi) (hw : w.getLsbD k = old.getLsbD k) :
    (l.foldl (storeField locked old v m) w).getLsbD k = fieldBit f locked old v m k := by
  induction l generalizing w with
  | nil => cases hf
  | cons g t ih =>
    simp only [fieldsApart, Bool.and_eq_true, List.all_eq_true, Bool.or_eq_true, decide_eq_true_eq] at ha
    rw [List.foldl_cons]
    rcases List.mem_cons.mp hf with rfl | ht
    · rw [foldl_storeField_out t (fun g hg => hl g (List.mem_cons_of_mem _ hg))]
      · exact storeField_in (hl f List.mem_cons_self) _ _ _ _ _ h1 h2 hw
      · intro g hg
        have := ha.1 g hg
        omega
    · refine ih (fun g hg => hl g (List.mem_cons_of_mem _ hg)) ha.2 _ ht ?_
      rw [storeField_out (hl g List.mem_cons_self), hw]
      have := ha.1 f ht
      omega

theorem Reg.field_ok {r : Reg} {f : Fld} (h : f ∈ r.fields) : f.hi < 32 := (Fld.reg_of_mem h).2.2

theorem Reg.apart (r : Reg) : fieldsApart r.fields = true := by
  have h := r.fields_ok
  simp only [Reg.fieldsOk, Bool.and_eq_true] at h
  exact h.2

/-- The bits of a field after a store. -/
theorem getLsbD_storeWord {r : Reg} {f : Fld} (hf : f ∈ r.fields) (locked : Bool) (old v m : Word) {k : Nat} (h1 : f.lo ≤ k) (h2 : k ≤ f.hi) :
    (storeWord r.fields locked old v m).getLsbD k = fieldBit f locked old v m k :=
  foldl_storeField_in _ (fun _ h => Reg.field_ok h) r.apart _ _ _ _ _ hf h1 h2 rfl

/-- The bits outside every field stay. -/
theorem getLsbD_storeWord_out {r : Reg} (locked : Bool) (old v m : Word) {k : Nat} (h : ∀ f ∈ r.fields, ¬(f.lo ≤ k ∧ k ≤ f.hi)) :
    (storeWord r.fields locked old v m).getLsbD k = old.getLsbD k :=
  foldl_storeField_out _ (fun _ h => Reg.field_ok h) _ _ _ _ _ h

theorem Word.field_ext {w w' : Word} {hi lo : Nat} (h : ∀ k, lo ≤ k → k ≤ hi → w.getLsbD k = w'.getLsbD k) : w.field hi lo = w'.field hi lo := by
  apply Nat.eq_of_testBit_eq
  intro k
  rw [Word.testBit_field, Word.testBit_field]
  by_cases hk : k < hi + 1 - lo
  · rw [h (lo + k) (by omega) (by omega)]
  · simp [hk]

/-- A written field, of a whole-word write. -/
theorem field_storeWord_rw {r : Reg} {f : Fld} (hf : f ∈ r.fields) (ha : f.acc = .rw) (locked : Bool) (old v : Word) :
    (storeWord r.fields locked old v (Word.byteMask 0xF#4)).field f.hi f.lo = v.field f.hi f.lo := by
  apply Word.field_ext
  intro k h1 h2
  have h32 := Reg.field_ok hf
  rw [getLsbD_storeWord hf _ _ _ _ h1 h2, fieldBit, ha]
  simp only
  have hm : (Word.byteMask 0xF#4).getLsbD k = true := by
    rw [show Word.byteMask 0xF#4 = BitVec.allOnes 32 from by decide, BitVec.getLsbD_allOnes, decide_eq_true_eq]
    omega
  rw [Word.getLsbD_merge, hm]
  rfl

/-- A field that a store does not write. -/
theorem field_storeWord_ro {r : Reg} {f : Fld} (hf : f ∈ r.fields) (h1 : f.acc ≠ .rw) (h2 : f.acc ≠ .lk) (h3 : f.acc ≠ .w1c) (locked : Bool)
    (old v m : Word) : (storeWord r.fields locked old v m).field f.hi f.lo = old.field f.hi f.lo := by
  apply Word.field_ext
  intro k l1 l2
  rw [getLsbD_storeWord hf _ _ _ _ l1 l2, fieldBit]
  split <;> first | rfl | (rename_i h; exact absurd h (by assumption))

/-! ### The word that leaves a register as it is -/

theorem keep_getLsbD {s : State} {r : Reg} {i : Nat} {f : Fld} (hf : f ∈ r.fields) {k : Nat} (h1 : f.lo ≤ k) (h2 : k ≤ f.hi) :
    (s.keep r i).getLsbD k = if f.acc = .rw ∨ f.acc = .lk then (s.reg r i).getLsbD k else false := by
  unfold State.keep
  have hr : ∀ g ∈ r.fields, g.reg = r := fun g hg => (Fld.reg_of_mem hg).1
  have hl : ∀ g ∈ r.fields, g.hi < 32 := fun g hg => Reg.field_ok hg
  have ha := r.apart
  have out : ∀ (l : List Fld) (w : Word), (∀ g ∈ l, g.hi < 32) → (∀ g ∈ l, ¬(g.lo ≤ k ∧ k ≤ g.hi)) →
      (l.foldl (fun (w : Word) f => match f.acc with
        | .rw | .lk => w.withField f.hi f.lo (s.f f i)
        | _ => w) w).getLsbD k = w.getLsbD k := by
    intro l
    induction l with
    | nil => intro w _ _; rfl
    | cons g t ih =>
      intro w h3 h4
      rw [List.foldl_cons, ih _ (fun g hg => h3 g (List.mem_cons_of_mem _ hg)) (fun g hg => h4 g (List.mem_cons_of_mem _ hg))]
      split
      · rw [Word.getLsbD_withField _ _ (h3 g List.mem_cons_self), if_neg (h4 g List.mem_cons_self)]
      · rw [Word.getLsbD_withField _ _ (h3 g List.mem_cons_self), if_neg (h4 g List.mem_cons_self)]
      · rfl
  have main : ∀ (l : List Fld) (w : Word), (∀ g ∈ l, g.hi < 32) → (∀ g ∈ l, g.reg = r) → fieldsApart l = true → f ∈ l → w.getLsbD k = false →
      (l.foldl (fun (w : Word) f => match f.acc with
        | .rw | .lk => w.withField f.hi f.lo (s.f f i)
        | _ => w) w).getLsbD k = if f.acc = .rw ∨ f.acc = .lk then (s.reg r i).getLsbD k else false := by
    intro l
    induction l with
    | nil => intro w _ _ _ h; cases h
    | cons g t ih =>
      intro w h3 h5 h4 hm hw
      simp only [fieldsApart, Bool.and_eq_true, List.all_eq_true, Bool.or_eq_true, decide_eq_true_eq] at h4
      rw [List.foldl_cons]
      rcases List.mem_cons.mp hm with rfl | ht
      · rw [out t _ (fun g hg => h3 g (List.mem_cons_of_mem _ hg))]
        · have e : (Word.withField w f.hi f.lo (s.f f i)).getLsbD k = (s.reg r i).getLsbD k := by
            rw [Word.getLsbD_withField _ _ (h3 f List.mem_cons_self), if_pos ⟨h1, h2⟩]
            unfold State.f
            rw [h5 f List.mem_cons_self, Word.testBit_field_sub _ h1 h2]
          split
          · rename_i h; simp [h, e]
          · rename_i h; simp [h, e]
          · rename_i q1 q2; rw [if_neg (fun h => h.elim q1 q2)]; exact hw
        · intro g hg
          have := h4.1 g hg
          omega
      · refine ih _ (fun g hg => h3 g (List.mem_cons_of_mem _ hg)) (fun g hg => h5 g (List.mem_cons_of_mem _ hg)) h4.2 ht ?_
        have hn : ¬(g.lo ≤ k ∧ k ≤ g.hi) := by
          have := h4.1 f ht
          omega
        split
        · rw [Word.getLsbD_withField _ _ (h3 g List.mem_cons_self), if_neg hn]; exact hw
        · rw [Word.getLsbD_withField _ _ (h3 g List.mem_cons_self), if_neg hn]; exact hw
        · exact hw
  exact main _ _ hl hr ha hf (by simp)

/-- A whole-word write of that word, with one wo or w1 bit set beside it, stores nothing. -/
theorem storeWord_keep {s : State} {r : Reg} {i : Nat} {x : Fld} (hx : x ∈ r.fields) (h1 : x.acc ≠ .rw) (h2 : x.acc ≠ .lk) (h3 : x.acc ≠ .w1c)
    (locked : Bool) (n : Nat) (m : Word) :
    storeWord r.fields locked (s.reg r i) ((s.keep r i).withField x.hi x.lo n) m = s.reg r i := by
  apply BitVec.eq_of_getLsbD_eq
  intro k hk
  by_cases hc : ∃ f ∈ r.fields, f.lo ≤ k ∧ k ≤ f.hi
  · obtain ⟨f, hf, l1, l2⟩ := hc
    rw [getLsbD_storeWord hf _ _ _ _ l1 l2]
    have key : f.acc = .rw ∨ f.acc = .lk → ((s.keep r i).withField x.hi x.lo n).getLsbD k = (s.reg r i).getLsbD k := by
      intro ha
      have hne : x ≠ f := by rintro rfl; rcases ha with h | h <;> contradiction
      have hap := Fld.apart_of_mem r.apart hx hf hne
      rw [Word.getLsbD_withField _ _ (Reg.field_ok hx), if_neg (by omega), keep_getLsbD hf l1 l2, if_pos ha]
    unfold fieldBit
    split
    · rename_i ha; rw [Word.getLsbD_merge, key (Or.inl ha)]; split <;> rfl
    · rename_i ha
      split
      · rfl
      · rw [Word.getLsbD_merge, key (Or.inr ha)]; split <;> rfl
    · rename_i ha
      have hne : x ≠ f := by rintro rfl; contradiction
      have hap := Fld.apart_of_mem r.apart hx hf hne
      rw [Word.getLsbD_withField _ _ (Reg.field_ok hx), if_neg (by omega), keep_getLsbD hf l1 l2, if_neg (by simp [ha])]
      simp
    · rfl
  · exact getLsbD_storeWord_out _ _ _ _ (fun f hf h => hc ⟨f, hf, h⟩)

/-! ### A write that nothing refuses -/

/-- A port's write that reaches its register. -/
theorem State.hostWrite_eq (s : State) (p : Port) {r : Reg} {i : Nat} (v : Word) (hi : i < r.count) (h1 : s.serving = true)
    (h2 : noSource r i = false) (h3 : s.absent r i = false) (h4 : s.standbyRefuses r = false)
    (h5 : (s.semOf r i (v &&& Word.byteMask 0xF#4)).any (s.heldBy p.master) = false) :
    s.hostWrite p r i v = .next ((s.regWrite p.master r i v (Word.byteMask 0xF#4)).mirror s p.master r (r.offset i) 0xF#4 v (v &&& Word.byteMask 0xF#4)) := by
  unfold State.hostWrite State.write regAt
  rw [Reg.offset_aligned, Reg.ofOffset_offset r hi]
  simp [h1, h2, h3, h4, h5]

/-- Mirroring is a matter of Relay. -/
theorem State.mirror_changes (s b : State) (x : Master) (r : Reg) (off : Nat) (be : BitVec 4) (v a : Word) :
    Changes s (s.mirror b x r off be v a) [.relay, .out] [] := by
  have h := State.mirror_kept s b x r off be v a (Sub.refl _) (Kept.refl _ 0 s)
  refine ⟨fun p hp => ?_, fun x i hx _ => h.field hx.2 (Nat.zero_testBit _), fun r i hi _ => h.regs r i hi (Nat.zero_testBit _)⟩
  cases p <;> first | exact h.parts _ rfl | exact absurd (by decide) hp

/-- Outside a pair there is none. -/
theorem State.mirror_eq (s b : State) (x : Master) (r : Reg) (off : Nat) (be : BitVec 4) (v a : Word) (h : s.inPair = false) :
    s.mirror b x r off be v a = s := by
  unfold State.mirror
  simp [h]

/-- The write that reaches its register does to it what `regWrite` says; the mirroring that follows is Relay's. -/
theorem State.hostWrite_takes {s : State} {p : Port} {r : Reg} {i : Nat} {sem : Option Nat} {v : Word} (h : s.takes p r i sem)
    (hi : i < r.count) (hn : noSource r i = false) (hs : s.semOf r i v = sem) :
    ∃ t, s.hostWrite p r i v = .next t ∧ Changes (s.regWrite p.master r i v (BitVec.allOnes 32)) t [.relay, .out] [] := by
  obtain ⟨h1, h2, h3, h4, h5⟩ := h
  have hm : Word.byteMask 0xF#4 = BitVec.allOnes 32 := by decide
  refine ⟨_, State.hostWrite_eq s p v hi h1 hn h2 h3 ?_, ?_⟩
  · rw [hm, BitVec.and_allOnes, hs]; exact h5
  · rw [hm, BitVec.and_allOnes]; exact State.mirror_changes _ _ _ _ _ _ _ _

theorem sets_iff {w : Word} {x : Fld} : sets w x = true ↔ w.field x.hi x.lo ≠ 0 := by
  unfold sets; simp

/-- The bit that the word sets. -/
theorem sets_put {s : State} {x : Fld} {i : Nat} (hx : x ∈ x.reg.fields) (h1 : x.hi = x.lo) (m : Word) (hm : m = BitVec.allOnes 32) :
    sets ((s.keep x.reg i).withField x.hi x.lo 1 &&& m) x = true := by
  have h32 := Reg.field_ok hx
  rw [sets_iff, hm, BitVec.and_allOnes, Word.field_withField_same _ _ h32, h1]
  have : x.lo + 1 - x.lo = 1 := by omega
  rw [this]; decide

/-- Another bit of its register that only acts when written as 1 is not set. -/
theorem sets_put_ne {s : State} {x y : Fld} {i : Nat} (hx : x ∈ x.reg.fields) (hy : y ∈ x.reg.fields) (hne : x ≠ y) (h1 : y.acc ≠ .rw)
    (h2 : y.acc ≠ .lk) (n : Nat) (m : Word) (hm : m = BitVec.allOnes 32) :
    sets ((s.keep x.reg i).withField x.hi x.lo n &&& m) y = false := by
  have h32 := Reg.field_ok hx
  have ha := Fld.apart_of_mem (Reg.apart x.reg) hx hy hne
  rw [Bool.eq_false_iff, ne_eq, sets_iff, Classical.not_not, hm, BitVec.and_allOnes, Word.field_withField_ne _ _ h32 ha]
  apply Nat.eq_of_testBit_eq
  intro k
  rw [Word.testBit_field, Nat.zero_testBit]
  by_cases hk : k < y.hi + 1 - y.lo
  · rw [keep_getLsbD hy (by omega) (by omega), if_neg (fun h => h.elim h1 h2), Bool.and_false]
  · simp [hk]

/-- A field that the word leaves as it is. -/
theorem field_put_kept {s : State} {x y : Fld} {i : Nat} (hx : x ∈ x.reg.fields) (hy : y ∈ x.reg.fields) (hne : x ≠ y)
    (ha : y.acc = .rw ∨ y.acc = .lk) (n : Nat) : ((s.keep x.reg i).withField x.hi x.lo n).field y.hi y.lo = (s.reg x.reg i).field y.hi y.lo := by
  have hap := Fld.apart_of_mem (Reg.apart x.reg) hx hy hne
  rw [Word.field_withField_ne _ _ (Reg.field_ok hx) hap]
  apply Word.field_ext
  intro k h1 h2
  rw [keep_getLsbD hy h1 h2, if_pos ha]

/-- The plain effect of such a write of an acting bit is a report at most. -/
theorem State.plain_put {s : State} {x : Fld} {i : Nat} (hx : x ∈ x.reg.fields) (h1 : x.acc ≠ .rw) (h2 : x.acc ≠ .lk) (h3 : x.acc ≠ .w1c)
    (c : Master) (n : Nat) (m : Word) :
    s.plain c x.reg i ((s.keep x.reg i).withField x.hi x.lo n) m = s.configErr c.fm x.reg i (s.written x.reg (s.openBits x.reg i m)) := by
  unfold State.plain
  rw [storeWord_keep hx h1 h2 h3, State.setReg_self]

end Sys2Proof.Machine
end

