-- ==== Sys2Proof/Tests/Slice0.lean ====
section
/-! SUPPORT. Tests: ill-formed commands, figures that the spec works out, and for every statement that has hypotheses a state and operands
that meet them. -/

namespace Sys2Proof.Machine

set_option maxRecDepth 4000

/-- A block in service: boot lock set, stage READY, Marshal running, the time base RUNNING at step 4,096, Baton up; regions 0, 1, 2 and 16 of
domain 0 and region 255 of domain 3 regulate, gates 0, 1 and 2 may close. -/
def live : State :=
  ((({
    now := 2000000000, powered := true, tablesInit := true, place := ⟨[(0, 1), (1, 1), (2, 1), (16, 1), (255, 4)]⟩, gatesOk := [0, 1, 2]
    rgns := ⟨[0, 1, 2, 16, 255].map (fun n => (n, { st := .ISLAND, iso := false }))⟩
    step := { tb := .RUNNING, count := 4096, lastEdge := some 1999999900, edge := some 1999999900 }
    boot := { marshal := true, lockedOnce := true, seeded := true }, baton := { up := true } } : State).put
    BOOT_STATUS.STAGE 0 7).put BOOT_STATUS.LOCK 0 1).put GAU_TSTAT.NVM_OK 0 1

/-- The block in service with one lane, and with one region, as given; all other lanes and regions are as after reset. -/
def live.withLane (m : Nat) (l : Lane) : State := { live with lanes := ⟨[(m, l)]⟩ }
def live.withRgn (n : Nat) (r : Rgn) : State := { live with rgns := ⟨[(n, r)]⟩ }

/-- A Relay port that is UP in epoch 0, and one in a state as given. -/
def link : RPort := { st := .UP, aligned := true, keys := [(0, 5#256)], peer := some ⟨9, 7#128, 3, 2, 0, 1⟩, lastData := 1999990000 }

/-- The block in a cascade (ROLE 1: its master) and in a pair (with RLY_STATUS.PAIR as given), with a Relay state. -/
def live.tree (role : Nat) (r : Relay) : State :=
  ((({ live with relay := r } : State).put RLY_CFG.MODE 0 2).put RLY_CFG.ROLE 0 role).put RLY_CFG.PORT_EN 0 31
def live.paired (st : Nat) (r : Relay) : State :=
  ((({ live with relay := r } : State).put RLY_CFG.MODE 0 1).put RLY_STATUS.PAIR 0 st).put RLY_CFG.PORT_EN 0 31

/-- The block with a command in Port A's mailbox: words from word 0 (CMD) on. -/
def State.askA (s : State) (ws : List Nat) : State :=
  ({ ((List.range ws.length).zip ws).foldl (fun (s : State) (x : Nat × Nat) => s.setReg .QB_MBX_DATA x.1 (BitVec.ofNat 32 x.2)) s with
    host := { s.host with busy := [0] } } : State).put QB_MBX_STATUS.STATE 0 1

/-! ### Ill-formed commands: one term that each check refuses -/

theorem test_ill_formed_reads : (Instr.samplePeriod [(1, ⟨0#8, none, []⟩), (1, ⟨0#8, none, []⟩)]).wellFormed = false := by decide
theorem test_ill_formed_currents : (Instr.vgScan 0 [5, 5]).wellFormed = false := by decide
theorem test_ill_formed_raw_result : (Instr.conversionDone 0 8388608 false 0).wellFormed = false := by decide
theorem test_ill_formed_self_test_steps : (Instr.selfTestDone 0x20#8).wellFormed = false := by decide
theorem test_ill_formed_table_word : (Instr.patrolRead 15 0 .clean).wellFormed = false := by decide
theorem test_ill_formed_notice_type : (Instr.noticeUndefined 0#4 0#8 0#52).wellFormed = false := by decide
theorem test_ill_formed_command_code : (Instr.smbUndefinedCommand 0x12#8).wellFormed = false := by decide
theorem test_ill_formed_coefficient_offset : (Instr.coefTableWrite .A 0x0#20 0xF#4 0#32).wellFormed = false := by decide
theorem test_ill_formed_stops : exec (.patrolRead 15 0 .clean) live = .fault (.illFormed "table word") := rfl
theorem test_well_formed : (Instr.patrolRead 14 111 .clean).wellFormed = true := by decide

/-! ### Figures that the spec works out -/

/-- 13, the worked address of each array. -/
theorem test_addresses : Reg.DOM_SETPT.offset 1 = 0x10408 ∧ Reg.RGN_SETPT.offset 125 = 0x27D08 ∧ Reg.LANE_CTRL.offset 1003 = 0x4FAC0 := by
  decide

/-- 04, One update of an islanded region: the error of step 1, the integrator of step 3, the terms of step 4, VDEM of step 5. -/
theorem test_update_error : errOf 160000 (-3) 0 = 600 := by decide
theorem test_update_integration : rnd16 ((2621 * 600 : Rat) / 2 ^ 20 + 163840 / 65536) = 262128 := by decide +kernel
theorem test_update_terms :
    rndStage [(3277 * 600 : Rat) / 2 ^ 15, 1400, -10 / 8] = ([⟨3840, -6⟩, ⟨89600, -6⟩, ⟨-80, -6⟩], false) := by decide +kernel
theorem test_update_demand : rndStage1 (60 + 1400 - 1.25 + 262128 / 65536 : Rat) = (⟨93616, -6⟩, false) := by decide +kernel

/-- 04, A heat carries a limited region: the share. -/
theorem test_share : rndStage1 ((32 * 1300 - 8 * 937.5) / 24 : Rat) = (⟨90933, -6⟩, false) := by decide +kernel

/-- 04, Balance pass: lanes 1,000, 1,003 and 1,005 of region 125 take the trims +1, +2 and −2, and lane 1,001 keeps its trim. -/
theorem test_balance :
    let l := [(1000, 1452), (1001, 1470), (1002, 1463), (1003, 1448), (1004, 1466), (1005, 1475), (1006, 1459), (1007, 1467)]
    let s := { live with balCtr := 64, place := ⟨[(125, 1)]⟩, rgns := ⟨[(125, { st := .ISLAND })]⟩
                         lanes := ⟨l.map (fun x => (x.1, { st := .SWITCHING, balSum := 64 * x.2, balN := 64 }))⟩ }
    ∃ t, exec .balancePass s = .next t ∧ [1000, 1003, 1005, 1001].map (fun m => (t.lane m).trim) = [1, 2, -2, 0] :=
  ⟨_, rfl, by decide +kernel⟩

/-! ### The hypotheses of the statements are met -/

theorem test_EmptyQueueIdles_hypotheses : State.reset.pending = [] ∧ live.pending = [] := by decide

theorem test_StepKeepsTablesCanonical_hypotheses :
    let s : State := { live with regs := ⟨[]⟩, lanes := ⟨[(0, { st := .SWITCHING }), (2047, { st := .LATCHED })]⟩, gates := ⟨[(2, true)]⟩
                                 heatOf := ⟨[(2, 1)]⟩, pending := [.powerOnReset] }
    s.tables.Canonical ∧ ∃ t, step s = .next t :=
  ⟨{ regs := rfl, listed := (fun e h => nomatch h), lanes := by decide, rgns := by decide, heats := by decide, heatOf := by decide
     gates := by decide, slots := by decide, place := by decide, placed := by decide, lower := by decide }, _, rfl⟩

/-- A command that answers a next state from a state with a blown fuse bit and something sent: for the statements of what no command does. -/
theorem test_ExecLeavesQueue_hypotheses :
    let s : State := { live with opal := { a := ⟨[(59, 1#32)]⟩ }, out := [.tdo 5], pending := [.powerOnReset] }
    (tblGet 0#32 s.opal.a 59).getLsbD 0 = true ∧ ∃ t, exec .marshalHeartbeat s = .next t :=
  ⟨by decide, _, rfl⟩

theorem test_StandbyPortsRefuseWrites_hypotheses :
    ∃ (off : BitVec 20) (be : BitVec 4) (s : State) (r : Reg) (i : Nat), s.serving = true ∧ s.standby = true ∧ i < r.count ∧
      off.toNat / 4 * 4 = r.offset i ∧ noSource r i = false ∧ s.absent r i = false ∧ be ≠ 0#4 ∧
      ¬(0x6000 ≤ off.toNat ∧ off.toNat < 0x7000) ∧ r ≠ .QB_MBX_DATA ∧ r ≠ .QB_MBX_CTRL ∧ r ≠ .QB_MBX_STATUS :=
  ⟨0x10000#20, 0x1#4, live.paired 2 {}, .DOM_CTRL, 0, by decide⟩

theorem test_SemaphoresGuardAccesses_hypotheses :
    (∀ e ∈ [(Reg.BOOT_UPD_DATA, 0), (.LED_SNAP, 2), (.LED_CR_ALLOC, 2), (.COEF_M, 8), (.COEF_X, 8), (.COEF_CTRL, 8), (.REP_CFG, 9),
        (.REP_SEL, 9), (.REP_BIN, 9), (.GAU_TRIM_SEL, 10), (.RLY_CTRL, 11), (.RLY_GRP_BUDGET, 11), (.RLY_CR_CFG, 11), (.TST_OBS_A, 13),
        (.TST_OBS_B, 13), (.TST_LST_CTRL, 13), (.PF_CTRL, 13), (.PF_CFG, 13), (.PF_TRIG, 13), (.PF_WIN, 13), (.LANE_CTRL, 14),
        (.DOM_CTRL, 4), (.DOM_SETPT, 4), (.DOM_RCMD, 4), (.DOM_RCMD_STEP_LO, 4), (.DOM_RCMD_STEP_HI, 4), (.DOM_RCMD_RES, 4), (.RGN_SETPT, 4)],
      let s := live.put QB_SEM.OWNER e.2 2
      s.serving = true ∧ s.standby = false ∧ 0 < e.1.count ∧ (BitVec.ofNat 20 (e.1.offset 0)).toNat / 4 * 4 = e.1.offset 0 ∧
        s.absent e.1 0 = false ∧ s.f QB_SEM.OWNER e.2 ≠ 0 ∧ s.f QB_SEM.OWNER e.2 ≠ Port.A.ix + 1) ∧
    (∀ e ∈ [(GAU_CFG.QCLR, 1), (LED_REC_CTRL.POP, 2), (LED_CTX.REL, 2), (FLT_CTRL.FE_ARM, 3), (FLT_CTRL.FN_REL, 3), (FLT_LOG_CTRL.POP, 3),
        (LIM_STR_HOST.LEVEL, 12)],
      let s := live.put QB_SEM.OWNER e.2 2
      s.serving = true ∧ s.standby = false ∧ 0 < e.1.reg.count ∧
        (BitVec.ofNat 20 (e.1.reg.offset 0)).toNat / 4 * 4 = e.1.reg.offset 0 ∧ s.absent e.1.reg 0 = false ∧
        s.f QB_SEM.OWNER e.2 ≠ 0 ∧ s.f QB_SEM.OWNER e.2 ≠ Port.A.ix + 1 ∧ Word.field (1#32 <<< e.1.lo) e.1.hi e.1.lo = 1) ∧
    (LIM_STR_HOST.LEVEL.reg.offset 0 / 4096 = 3 ∧ LIM_STR_HOST.LEVEL ∈ LIM_STR_HOST.LEVEL.reg.fields ∧ LIM_STR_HOST.LEVEL.acc = .rw) ∧
    (let s := live.put QB_SEM.OWNER 1 2; s.serving = true ∧ s.f QB_SEM.OWNER 1 ≠ 0 ∧ s.f QB_SEM.OWNER 1 ≠ Port.A.ix + 1) := by
  decide

theorem test_StagingIndexRule_hypotheses :
    (∃ s : State, s.takes .A .BOOT_UPD_DATA 0 (some 0) ∧ s.boot.stageIx = 1023) ∧
    (∃ s : State, s.takes .B .BOOT_UPD_DATA 0 (some 0) ∧ s.boot.stageIx = 1024) ∧
    (∃ s : State, s.asks .A 0x10 ∧ s.f QB_SEM.OWNER 0 = Port.A.ix + 1) ∧
    (∃ s : State, s.asks .A 0x11 ∧ s.f QB_SEM.OWNER 0 = Port.A.ix + 1) :=
  ⟨⟨{ live with boot := { live.boot with stageIx := 1023 } }, by unfold State.takes; decide, rfl⟩,
    ⟨{ live with boot := { live.boot with stageIx := 1024 } }, by unfold State.takes; decide, rfl⟩,
    ⟨(live.put QB_SEM.OWNER 0 1).askA [0x10, 0x00FF0001], by unfold State.asks; decide, by decide⟩,
    ⟨(live.put QB_SEM.OWNER 0 1).askA [0x11, 0], by unfold State.asks; decide, by decide⟩⟩

theorem test_ReservedOffsetsIgnored_hypotheses :
    live.serving = true ∧ ∀ r i, i < Reg.count r → noSource r i = false → (0xFFFFF#20).toNat / 4 * 4 ≠ r.offset i := by
  refine ⟨by decide, fun r i hi _ he => ?_⟩
  have h := Reg.ofOffset_offset r hi
  rw [← he] at h
  exact absurd (h.symm.trans (by decide : Reg.ofOffset ((0xFFFFF#20).toNat / 4 * 4) = none)) (by simp)

theorem test_FaultHoldsReleased_hypotheses : ({ live with refLost := true } : State).takes .A .FLT_CTRL 0 (some 3) := by
  unfold State.takes; decide

theorem test_EventLogIsARing_hypotheses :
    let e : Evt := ⟨255, .lane, 2047, .hardware, .sense, 4096, 5, false, 1999999000⟩
    let s : State := { live with coll := { srcs := ⟨[(0, { pend := some e })]⟩ } }
    let t := ({ live with now := 100000000000 } : State).put FLT_CNT.SEV 0 1
    s.nextSrc = some (.FAST_LATCH, e) ∧ Src.ofId 0 = some .FAST_LATCH ∧ t.fb FLT_CNT.SEV 0 = true ∧ t.levelActive .FAST_LATCH = false ∧
      (t.src 0).lastEvent + t.fltQ 0 ≤ t.now ∧ (t.src 0).condEnd + t.fltQ 0 ≤ t.now := by
  decide

/-- A command of each group whose frame is stated answers a next state. -/
theorem test_frames_hypotheses :
    (∃ t, exec (.latchEnd 0) live = .next t) ∧ (∃ t, exec .batonLinkAckDue live = .next t) ∧ (∃ t, exec (.coefCtrlEnWrite .A 0#32) live = .next t) ∧
      (∃ t, exec .housekeepingTick live = .next t) ∧ (∃ t, exec .marshalHeartbeat live = .next t) ∧
      (∃ t, exec (.portAligned 0) live = .next t) ∧ (∃ t, exec (.bootTableInitDone []) live = .next t) ∧
      (∃ t, exec (.portATimeout true) live = .next t) :=
  ⟨⟨_, rfl⟩, ⟨_, rfl⟩, ⟨_, rfl⟩, ⟨_, rfl⟩, ⟨_, rfl⟩, ⟨_, rfl⟩, ⟨_, rfl⟩, ⟨_, rfl⟩⟩

theorem test_FastLimitLatches_hypotheses :
    (∃ (m : Fin 2048) (s : State), ((s.lane m).st = .RAMP ∨ (s.lane m).st = .SWITCHING ∨ (s.lane m).st = .BURST ∨ (s.lane m).st = .FOLLOWER ∨ (s.lane m).st = .HOLD) ∧
      8 ≤ (s.lane m).fastRun ∧ ((s.lane m).st = .RAMP ∨ (s.lane m).retry < 3)) ∧
    (∃ (m : Fin 2048) (s : State), ((s.lane m).st = .RAMP ∨ (s.lane m).st = .SWITCHING ∨ (s.lane m).st = .BURST ∨ (s.lane m).st = .FOLLOWER ∨ (s.lane m).st = .HOLD) ∧
      8 ≤ (s.lane m).fastRun ∧ ((s.lane m).st = .RAMP ∨ (s.lane m).retry < 3)) ∧
    (∃ (m : Fin 2048) (s : State), ((s.lane m).st = .SWITCHING ∨ (s.lane m).st = .BURST ∨ (s.lane m).st = .FOLLOWER ∨ (s.lane m).st = .HOLD) ∧
      8 ≤ (s.lane m).fastRun ∧ 3 ≤ (s.lane m).retry) ∧
    (∃ (m : Fin 2048) (s : State), (s.lane m).st = .LATCHED ∧ (s.lane m).latchAt + 2000 ≤ s.now) ∧
    (∃ (m : Fin 2048) (s : State), (s.lane m).st = .LATCHED ∧ (s.lane m).latchAt + 2000 ≤ s.now) ∧
    (∃ (m : Fin 2048) (s : State), (s.lane m).st ≠ .FAILED ∧ (s.lane m).st ≠ .RETIRED ∧ (s.lane m).st ≠ .LATCHED ∧
      (s.lane m).latchAt + 1000000 ≤ s.now) :=
  ⟨⟨2047, live.withLane 2047 { st := .RAMP, fastRun := 8, retry := 3 }, by decide, by decide, by decide⟩,
    ⟨5, live.withLane 5 { st := .SWITCHING, fastRun := 9, retry := 2, latches := 255 }, by decide, by decide, by decide⟩,
    ⟨5, live.withLane 5 { st := .HOLD, fastRun := 8, retry := 3 }, by decide, by decide, by decide⟩,
    ⟨5, live.withLane 5 { st := .LATCHED, prev := .SWITCHING, latchAt := 1999998000 }, by decide, by decide⟩,
    ⟨5,
      { live.withRgn 0 { st := .ISLAND, keepSince := some 1 } with lanes := ⟨[(5, { st := .LATCHED, prev := .RAMP, retry := 1, latchAt := 1999998000 })]⟩ },
      by decide, by decide⟩,
    ⟨0, live.withLane 0 { st := .SWITCHING, retry := 2, latchAt := 1999000000 }, by decide, by decide, by decide, by decide⟩⟩

theorem test_StartingBlockCompletes_hypotheses :
    (∃ (n : Fin 256) (s : State) (t0 : Nat), (s.rgn n).phase = .measuring t0 ∧ t0 + 2000 ≤ s.now) ∧
    (∃ (n : Fin 256) (s : State) (t0 : Nat), (s.rgn n).phase = .measuring t0 ∧ t0 + 2000 ≤ s.now) ∧
    (∃ (n : Fin 256) (s : State), (s.rgn n).st = .STARTING ∧ (s.rgn n).phase = .ramp ∧ (s.rgn n).rampDone = false ∧
      (s.heat (s.heatIx n)).ref = (s.heat (s.heatIx n)).tgt ∧ (s.rgn n).er.natAbs ≤ 1000 ∧ s.step.tb ≠ .UNSYNC) ∧
    (∃ (n : Fin 256) (s : State), (s.rgn n).st = .STARTING ∧ (s.rgn n).phase = .ramp ∧ 400 ≤ (s.rgn n).falseRun) ∧
    (∃ (n : Fin 256) (s : State), (s.rgn n).st = .STARTING ∧ (s.rgn n).phase = .ramp ∧ 400 ≤ (s.rgn n).falseRun) ∧
    (∃ (n : Fin 256) (s : State) (t0 : Nat), (s.rgn n).st = .STARTING ∧ (s.rgn n).phase = .waiting t0 ∧ t0 + 1000000 ≤ s.now ∧ s.running = false ∧
      48 ≤ (s.rgn n).working) ∧
    (∃ (n : Fin 256) (s : State) (t0 : Nat), (s.rgn n).st = .STARTING ∧ (s.rgn n).phase = .waiting t0 ∧ t0 + 1000000 ≤ s.now ∧ s.running = false ∧
      48 ≤ (s.rgn n).working) ∧
    (∃ (n : Fin 256) (s : State) (t0 : Nat), (s.rgn n).regSince = some t0 ∧ t0 + 1000000000 ≤ s.now) ∧
    (∃ (n : Fin 256) (s : State) (t0 : Nat), (s.rgn n).isoDue = some t0 ∧ t0 ≤ s.now ∧ (s.rgn n).st.regulating = true) :=
  ⟨⟨255, live.withRgn 255 { st := .STARTING, phase := .measuring 1999998000 }, 1999998000, by decide, by decide⟩,
    ⟨0, { live.withRgn 0 { st := .STARTING, phase := .measuring 5 } with lanes := ⟨[(3, { st := .FAILED })]⟩ }.put LANE_CTRL.EN 2 0, 5, by decide,
      by decide⟩,
    ⟨0,
      { live.withRgn 0 { st := .STARTING, phase := .ramp, er := -1000 } with lanes := ⟨[(0, { st := .RAMP, de := true }), (1, { st := .LATCHED })]⟩ },
      by decide, by decide, by decide, by decide, by decide, by decide⟩,
    ⟨255, live.withRgn 255 { st := .STARTING, phase := .ramp, falseRun := 400, attempts := 3 }, by decide, by decide, by decide⟩,
    ⟨0,
      { live.withRgn 0 { st := .STARTING, phase := .ramp, falseRun := 400, attempts := 2 } with lanes := ⟨[(0, { st := .RAMP }), (1, { st := .LATCHED }), (2, { st := .RETIRED }), (8, { st := .RAMP })]⟩ },
      by decide, by decide, by decide⟩,
    ⟨1,
      { live.withRgn 1 { st := .STARTING, phase := .waiting 1999000000, attempts := 2, byStart := true, working := 48 } with step := { tb := .IDLE, count := 4096 } },
      1999000000, by decide, by decide, by decide, by decide, by decide⟩,
    ⟨1, { live.withRgn 1 { st := .STARTING, phase := .waiting 1999000000, attempts := 2 } with step := {} }, 1999000000, by decide, by decide,
      by decide, by decide, by decide⟩,
    ⟨255, live.withRgn 255 { st := .ISLAND, attempts := 2, regSince := some 1000000000 }, 1000000000, by decide, by decide⟩,
    ⟨0, live.withRgn 0 { st := .DEGRADED, isoDue := some 2000000000 }, 2000000000, by decide, by decide, by decide⟩⟩

theorem test_LaneFaultsAndOverload_hypotheses :
    (∃ (m : Fin 2048) (s : State), ((s.lane m).st = .RAMP ∨ (s.lane m).st = .SWITCHING ∨ (s.lane m).st = .BURST ∨ (s.lane m).st = .FOLLOWER ∨ (s.lane m).st = .HOLD) ∧
      2000 ≤ (s.lane m).openNs) ∧
    (∃ (m : Fin 2048) (s : State), ((s.lane m).st = .RAMP ∨ (s.lane m).st = .SWITCHING ∨ (s.lane m).st = .BURST ∨ (s.lane m).st = .FOLLOWER ∨ (s.lane m).st = .HOLD) ∧
      2000 ≤ (s.lane m).openNs) ∧
    (∃ (m : Fin 2048) (s : State), ((s.lane m).st = .SWITCHING ∨ (s.lane m).st = .BURST) ∧ 1000 ≤ (s.lane m).mmRun) ∧
    (∃ (n : Fin 256) (s : State), (s.rgn n).ovFlag = false ∧ 400 ≤ (s.rgn n).ovRun) ∧
    (∃ (n : Fin 256) (s : State), (s.rgn n).ovFlag = true ∧ 400 ≤ (s.rgn n).ovClr) ∧
    (∃ (n : Fin 256) (s : State), (s.rgn n).ovFlag = true ∧ 400 ≤ (s.rgn n).ovClr) ∧
    (∃ (n : Fin 256) (s : State), (s.rgn n).ovFlag = true ∧ (s.rgn n).ovRaised = false ∧ (s.rgn n).ovSince + 2000000 ≤ s.now) ∧
    (∃ (n : Fin 256) (s : State), 20000 ≤ (s.rgn n).capRun ∧ (s.rgn n).capRaised = false ∧ s.fb RGN_CTRL.RESCUE_EN n = false) ∧
    (∃ (n : Fin 256) (s : State) (g : Nat) (k : Nat), 20000 ≤ (s.rgn n).capRun ∧ (s.rgn n).capRaised = false ∧ s.fb RGN_CTRL.RESCUE_EN n = true ∧
      s.members (s.heatIx n) = [n.val] ∧ (s.rgn n).st.regulating = true ∧ s.rescueGate n = some (g, k) ∧ s.roomOwn 1 = true ∧ s.inCascade = false) :=
  ⟨⟨2047, live.withLane 2047 { st := .BURST, openNs := 2000, retry := 1 }, by decide, by decide⟩,
    ⟨5, { live.withRgn 0 { st := .ISLAND } with lanes := ⟨[(5, { st := .FOLLOWER, openNs := 2000, retry := 1 })]⟩ }, by decide, by decide⟩,
    ⟨0, live.withLane 0 { st := .SWITCHING, mmRun := 1000, retry := 2 }, by decide, by decide⟩,
    ⟨0, live.withRgn 0 { st := .ISLAND, ovRun := 400 }, by decide, by decide⟩,
    ⟨0, live.withRgn 0 { st := .ISLAND, ovFlag := true, ovRun := 7, ovClr := 400 }, by decide, by decide⟩,
    ⟨0, { live with rgns := ⟨[(0, { st := .ISLAND, ovFlag := true, ovClr := 400 }), (1, { ovFlag := true })]⟩ }, by decide, by decide⟩,
    ⟨0, live.withRgn 0 { st := .ISLAND, ovFlag := true, ovSince := 1998000000 }, by decide, by decide, by decide⟩,
    ⟨255, live.withRgn 255 { st := .ISLAND, capRun := 20000 }, by decide, by decide, by decide⟩,
    ⟨0, ({ live with rgns := ⟨[(0, { st := .ISLAND, capRun := 20000 }), (1, { st := .ISLAND })]⟩ } : State).put RGN_CTRL.RESCUE_EN 0 1, 0, 1,
      by decide, by decide, by decide, by decide, by decide, by decide, by decide, by decide⟩⟩

theorem test_KeeperBalanceBurst_hypotheses :
    (∃ (n : Fin 256) (s : State), 4 ≤ (s.rgn n).miss ∧ (s.rgn n).keepSince = none ∧ ((s.rgn n).st.regulating = true ∨ (s.rgn n).st = .STARTING)) ∧
    (∃ (n : Fin 256) (s : State), 4 ≤ (s.rgn n).miss ∧ (s.rgn n).keepSince = none ∧ ((s.rgn n).st.regulating = true ∨ (s.rgn n).st = .STARTING)) ∧
    (∃ (n : Fin 256) (s : State) (t0 : Nat), (s.rgn n).keepSince = some t0 ∧ t0 + 1000000 ≤ s.now ∧ s.members (s.heatIx n) = [n.val] ∧
      (s.rgn n).st.regulating = true) ∧
    (∃ (n : Fin 256) (s : State) (t0 : Nat), (s.rgn n).keepSince = some t0 ∧ t0 + 1000000 ≤ s.now ∧ s.members (s.heatIx n) = [n.val] ∧
      (s.rgn n).st.regulating = true) ∧
    (∃ (s : State), 64 ≤ s.balCtr ∧ s.fb STR_CFG.BAL_EN = false) ∧
    (∃ (s : State), 64 ≤ s.balCtr ∧ s.fb STR_CFG.BAL_EN = true ∧ s.placed.Nodup) ∧
    (∃ (h : Fin 256) (s : State), (s.heat h).burst = false ∧ (s.heat h).burstWait = false ∧ 200 ≤ (s.heat h).burstRun ∧ s.burstBarred h = false ∧
      s.running = true ∧ s.roomOwn 1 = true) ∧
    (∃ (h : Fin 256) (s : State), (s.heat h).burst = false ∧ (s.heat h).burstWait = false ∧ 200 ≤ (s.heat h).burstRun ∧ s.burstBarred h = false ∧
      s.running = false) :=
  ⟨⟨0,
      { live.withRgn 0 { st := .STARTING, miss := 4 } with lanes := ⟨[(0, { st := .RAMP, peak := 30 }), (1, { st := .LATCHED }), (2, { st := .SHED, peak := 10 }), (8, { st := .SWITCHING })]⟩ },
      by decide, by decide, by decide⟩,
    ⟨255, { live.withRgn 255 { st := .ISLAND, miss := 4 } with lanes := ⟨[(2047, { st := .FOLLOWER, peak := 400 })]⟩ }, by decide, by decide,
      by decide⟩,
    ⟨255,
      { live.withRgn 255 { st := .ISLAND, keepSince := some 1999000000, attempts := 3 } with lanes := ⟨[(2040, { st := .HOLD, held := .SWITCHING }), (2041, { st := .FAILED, cause := 1 })]⟩ },
      1999000000, by decide, by decide, by decide, by decide⟩,
    ⟨0, { live.withRgn 0 { st := .ISLAND, keepSince := some 1999000000, attempts := 1 } with lanes := ⟨[(0, { st := .HOLD, held := .SWITCHING })]⟩ },
      1999000000, by decide, by decide, by decide, by decide⟩,
    ⟨({ live with balCtr := 64, lanes := ⟨[(0, { st := .SWITCHING, trim := 5, balSum := 9, balN := 3 })]⟩ } : State).put STR_CFG.BAL_EN 0 0,
      by decide, by decide⟩,
    ⟨{ live with balCtr := 64, lanes := ⟨[(0, { st := .SWITCHING, trim := 5, balSum := 64000, balN := 64 }), (1, { st := .SWITCHING, trim := -60, balSum := 6400, balN := 64 }), (24, { trim := 1, balN := 4 })]⟩ },
      by decide, by decide, by decide⟩,
    ⟨0, { live with heats := ⟨[(0, { burstRun := 200 })]⟩ }, by decide +kernel, by decide +kernel, by decide +kernel, by decide +kernel,
      by decide +kernel, by decide +kernel⟩,
    ⟨255,
      { live with heats := ⟨[(255, { burstRun := 200 })]⟩, step := { tb := .IDLE, count := 4096 }, lanes := ⟨[(2040, { st := .SWITCHING }), (2041, { st := .SWITCHING }), (2042, { st := .SWITCHING })]⟩ },
      by decide +kernel, by decide +kernel, by decide +kernel, by decide +kernel, by decide +kernel⟩⟩

theorem test_PendingMergesEnd_hypotheses :
    (∃ (g : Fin 512) (s : State) (x : PMerge) (a : Nat) (b : Nat), s.pendingOf g true = some x ∧ 64 ≤ x.vfail ∧ s.step.tb ≠ .UNSYNC ∧
      gateEnds g = some (a, b)) ∧
    (∃ (g : Fin 512) (s : State) (x : PMerge) (f : Nat) (a : Nat) (b : Nat), s.pendingOf g true = some x ∧ x.f = some f ∧ gateEnds g = some (a, b) ∧
      x.ordered = false ∧ f ≤ s.step.count + 64 ∧ s.step.count < f ∧ s.running = true ∧ s.inCascade = false ∧ s.roomOwn 1 = true) ∧
    (∃ (g : Fin 512) (s : State) (x : PMerge) (f : Nat) (a : Nat) (b : Nat), s.pendingOf g true = some x ∧ x.f = some f ∧ gateEnds g = some (a, b) ∧
      f ≤ s.step.count ∧ s.running = true ∧ x.vfail < 64 ∧ s.closeReady a b = true ∧ s.closeVolt a b = true ∧ s.specOf (s.heatIx a) = false ∧
      s.specOf (s.heatIx b) = false) ∧
    (∃ (g : Fin 512) (s : State) (x : PMerge) (a : Nat) (b : Nat), s.pendingOf g false = some x ∧ gateEnds g = some (a, b) ∧
      s.deferMax (s.domOf a) ≤ x.dcount) :=
  ⟨⟨0,
      { live with merges := [{ gate := 0, close := true, origin := .cmd 0, vfail := 64 }], rgns := ⟨[(0, { st := .MERGING }), (1, { st := .MERGING, working := 71 })]⟩ },
      { gate := 0, close := true, origin := .cmd 0, vfail := 64 }, 0, 1, by decide, by decide, by decide, by decide⟩,
    ⟨1, { live with merges := [{ gate := 1, close := true, origin := .cmd 0, f := some 4160, d := some 3000 }] },
      { gate := 1, close := true, origin := .cmd 0, f := some 4160, d := some 3000 }, 4160, 0, 16, by decide, by decide, by decide, by decide,
      by decide, by decide, by decide, by decide, by decide⟩,
    ⟨2,
      { live with merges := [{ gate := 2, close := true, origin := .cmd 0, f := some 4096, d := some 3000, vfail := 63 }], rgns := ⟨[(1, { st := .MERGING }), (2, { st := .ISLAND })]⟩ },
      { gate := 2, close := true, origin := .cmd 0, f := some 4096, d := some 3000, vfail := 63 }, 4096, 1, 2, by decide +kernel, by decide +kernel,
      by decide +kernel, by decide +kernel, by decide +kernel, by decide +kernel, by decide +kernel, by decide +kernel, by decide +kernel,
      by decide +kernel⟩,
    ⟨2, { live with merges := [{ gate := 2, close := false, origin := .cmd 0, dcount := 1000 }], gates := ⟨[(2, true)]⟩, heatOf := ⟨[(2, 1)]⟩ },
      { gate := 2, close := false, origin := .cmd 0, dcount := 1000 }, 1, 2, by decide, by decide, by decide⟩⟩

theorem test_RegionsLoseRegulation_hypotheses :
    (∃ (h : Fin 256) (s : State), s.members h = [h.val] ∧ (s.rgn h).st.regulating = true ∧ 400 ≤ (s.rgn h).lossRun) ∧
    (∃ (h : Fin 256) (s : State), s.members h = [h.val] ∧ (s.rgn h).st.regulating = true ∧ 400 ≤ (s.rgn h).lossRun) ∧
    (∃ (h : Fin 256) (s : State) (n : Nat), (∃ k ∈ s.members h, (s.rgn k).st.regulating = true ∧ 400 ≤ (s.rgn k).lossRun) ∧ 2 ≤ (s.members h).length ∧
      argMin (fun n => ((s.outNow n : Int) : Rat)) (s.members h) = some n) ∧
    (∃ (n : Fin 256) (s : State), (s.rgn n).st = .SPLITTING ∧ s.stepsPassed (s.rgn n).splitAt (s.rgn n).splitNs 1 = true) ∧
    (∃ (n : Fin 256) (s : State) (k : Nat), (s.rgn n).noLane = some k ∧ 64 ≤ k ∧ s.step.tb ≠ .UNSYNC ∧
      ((s.rgn n).st = .ISLAND ∨ (s.rgn n).st = .DEGRADED) ∧ s.members (s.heatIx n) = [n.val]) ∧
    (∃ (n : Fin 256) (s : State) (b : Nat), (s.rgn n).darkAt = some b ∧ s.stepsPassed b (s.rgn n).darkNs 1 = true) ∧
    (∃ (n : Fin 256) (s : State) (e : Nat), (s.rgn n).graceEnd = some e ∧ e ≤ s.step.count ∧ s.step.tb ≠ .UNSYNC ∧ (s.rgn n).darkAt = none ∧
      (s.rgn n).st ≠ .OFF ∧ (s.rgn n).st ≠ .DARK) ∧
    (∃ (n : Fin 256) (s : State) (e : Nat), (s.rgn n).graceEnd = some e ∧ e ≤ s.step.count ∧ s.step.tb ≠ .UNSYNC ∧ (s.rgn n).darkAt = none ∧
      (s.rgn n).st ≠ .OFF ∧ (s.rgn n).st ≠ .DARK) :=
  ⟨⟨255, live.withRgn 255 { st := .DEGRADED, lossRun := 400, attempts := 3 }, by decide, by decide, by decide⟩,
    ⟨0, { live.withRgn 0 { st := .ISLAND, lossRun := 400 } with lanes := ⟨[(0, { st := .SWITCHING })]⟩ }, by decide, by decide, by decide⟩,
    ⟨0,
      { live with gates := ⟨[(0, true)]⟩, heatOf := ⟨[(1, 0)]⟩, rgns := ⟨[(0, { st := .MERGED, iso := false, outs := [90000] }), (1, { st := .MERGED, iso := false, lossRun := 400, outs := [80000] })]⟩ },
      1, by decide, by decide, by decide⟩,
    ⟨0, live.withRgn 0 { st := .SPLITTING, splitAt := 4095 }, by decide, by decide⟩,
    ⟨255, live.withRgn 255 { st := .ISLAND, noLane := some 64 }, 64, by decide, by decide, by decide, by decide, by decide⟩,
    ⟨0, live.withRgn 0 { st := .ISLAND, darkAt := some 4095 }, 4095, by decide, by decide⟩,
    ⟨0, live.withRgn 0 { st := .ISLAND, graceEnd := some 4096 }, 4096, by decide, by decide, by decide, by decide, by decide, by decide⟩,
    ⟨1,
      { live with gates := ⟨[(0, true)]⟩, heatOf := ⟨[(1, 0)]⟩, rgns := ⟨[(0, { st := .MERGED, iso := false, outs := [90000] }), (1, { st := .MERGED, iso := false, graceEnd := some 4096, outs := [80000] })]⟩ },
      4096, by decide, by decide, by decide, by decide, by decide, by decide⟩⟩

theorem test_RetentionAndVerticalGroups_hypotheses :
    (∃ (h : Fin 256) (s : State) (b : Nat), (s.heat h).retDue = some b ∧
      s.stepsPassed (b - max 1 (s.f RGN_RETAIN.SETUP h)) (s.heat h).retNs (max 1 (s.f RGN_RETAIN.SETUP h)) = true) ∧
    (∃ (h : Fin 256) (s : State), (s.heat h).retOut = true ∧ s.boundaryNow = true ∧
      (∀ n ∈ s.members h, (s.outNow n - 100 * (((s.heat h).retOp : Nat) : Int)).natAbs ≤ 1000)) ∧
    (∃ (n : Fin 256) (currents : List Nat) (s : State), (Instr.vgScan n currents).wellFormed = true ∧ 2400 ≤ s.delivered n) ∧
    (∃ (n : Fin 256) (currents : List Nat) (s : State), (Instr.vgScan n currents).wellFormed = true ∧ 2400 ≤ s.delivered n) ∧
    (∃ (n : Fin 256) (currents : List Nat) (s : State), (Instr.vgScan n currents).wellFormed = true ∧ s.delivered n < 2400) ∧
    (∃ (n : Fin 256) (g : Fin 104) (s : State) (i : Nat), s.step.queue.any (fun e => e.act = .spareMap n g) = true ∧ s.running = false ∧
      (List.range 8).find? (fun i => (s.rgn n).vgMap.getD i 127 = 127 && !(s.rgn n).vgFailed.contains (96 + i)) = some i) ∧
    (∃ (n : Fin 256) (g : Fin 104) (s : State) (i : Nat), s.step.queue.any (fun e => e.act = .spareMap n g) = true ∧ s.running = false ∧
      (List.range 8).find? (fun i => (s.rgn n).vgMap.getD i 127 = 127 && !(s.rgn n).vgFailed.contains (96 + i)) = some i) ∧
    (∃ (n : Fin 256) (g : Fin 104) (s : State), s.step.queue.any (fun e => e.act = .spareMap n g) = false ∧ g.val < 96 ∧
      (s.rgn n).vgFailed.contains g.val = true ∧ (s.rgn n).vgMap.contains g.val = false ∧ 0 < s.freeSpares n ∧ s.running = true ∧ s.roomOwn 1 = true) :=
  ⟨⟨255, { live with heats := ⟨[(255, { retDue := some 4096 })]⟩ }, 4096, by decide, by decide⟩,
    ⟨0,
      { live with step := { live.step with lastEdge := some 1999999951 }, heats := ⟨[(0, { retOut := true, retLow := true, retOp := 800 })]⟩, rgns := ⟨[(0, { st := .RETAIN, before := .DEGRADED, ret := true, outs := [81000] })]⟩ },
      by decide, by decide, by decide⟩,
    ⟨0, 10 :: List.replicate 103 100, { live with lanes := ⟨[(0, { st := .SWITCHING, iPri := 2400 })]⟩ }, by decide, by decide⟩,
    ⟨0, 10 :: 1 :: List.replicate 102 100,
      { live with lanes := ⟨[(0, { st := .SWITCHING, iPri := 2400 })]⟩, rgns := ⟨[(0, { st := .ISLAND, vgLow := ⟨[(0, 3), (1, 1), (5, 2)]⟩ })]⟩ },
      by decide, by decide⟩,
    ⟨0, List.replicate 104 25, live, by decide, by decide⟩,
    ⟨0, 5, { live with step := { tb := .IDLE, count := 9, queue := [⟨10, .spareMap 0 5⟩] } }, 0, by decide, by decide, by decide⟩,
    ⟨0, 96,
      { live with rgns := ⟨[(0, { st := .ISLAND, vgFailed := [5, 96], vgMap := [5, 127, 127, 127, 127, 127, 127, 127] })]⟩, step := { tb := .IDLE, count := 9, queue := [⟨10, .spareMap 0 96⟩] } },
      1, by decide, by decide, by decide⟩,
    ⟨0, 95, live.withRgn 0 { st := .ISLAND, vgFailed := [95] }, by decide, by decide, by decide, by decide, by decide, by decide, by decide⟩⟩

theorem test_LaneWritesQueueTheirActions_hypotheses :
    (∃ (p : Port) (m : Fin 2048) (en : Bool) (s : State), s.takes p .LANE_CTRL m (some 14) ∧ s.fb LANE_CTRL.EN m = !en ∧ s.roomOut 1 = true) ∧
    (∃ (p : Port) (m : Fin 2048) (en : Bool) (s : State), s.takes p .LANE_CTRL m (some 14) ∧ s.fb LANE_CTRL.EN m = !en ∧ s.roomOut 1 = true) ∧
    (∃ (p : Port) (m : Fin 2048) (s : State), s.takes p .LANE_CTRL m (some 14) ∧ ((s.lane m).st = .FAILED ∨ (s.lane m).st = .FOLLOWER) ∧
      s.queueUsed + 3 ≤ 448) ∧
    (∃ (p : Port) (m : Fin 2048) (s : State), s.takes p .LANE_CTRL m (some 14) ∧ (s.lane m).st ≠ .FAILED ∧ (s.lane m).st ≠ .FOLLOWER) ∧
    (∃ (p : Port) (m : Fin 2048) (s : State), s.takes p .LANE_CTRL m (some 14) ∧ (s.lane m).st ≠ .RETIRED ∧
      s.step.queue.any (fun e => e.act = .laneRetire m) = false ∧ s.roomOut 1 = true) :=
  ⟨⟨.A, 2047, false, live, by (unfold State.takes; decide), by decide, by decide⟩,
    ⟨.B, 0, true, live.put LANE_CTRL.EN 0 0, by (unfold State.takes; decide), by decide, by decide⟩,
    ⟨.B, 5, live.withLane 5 { st := .FOLLOWER, cause := 3, retry := 2 }, by (unfold State.takes; decide), by decide, by decide⟩,
    ⟨.A, 5, live, by (unfold State.takes; decide), by decide, by decide⟩,
    ⟨.A, 2047, live, by (unfold State.takes; decide), by decide, by decide, by decide⟩⟩

theorem test_RegionCommandsQueue_hypotheses :
    (∃ (p : Port) (d : Fin 4) (g : Fin 512) (a : Nat) (b : Nat) (s : State), s.takes p .DOM_RCMD d (some (4 + d)) ∧
      s.f DOM_RCMD_RES.STATUS d ∉ [1, 2, 3] ∧ s.gateOk g = true ∧ gateEnds g = some (a, b) ∧ s.domOf a = d ∧ s.roomOut 1 = true) ∧
    (∃ (p : Port) (d : Fin 4) (g : Fin 512) (a : Nat) (b : Nat) (s : State), s.takes p .DOM_RCMD d (some (4 + d)) ∧
      s.f DOM_RCMD_RES.STATUS d ∉ [1, 2, 3] ∧ s.gateOk g = true ∧ gateEnds g = some (a, b) ∧ s.domOf a = d ∧ s.roomOut 1 = true) ∧
    (∃ (p : Port) (d : Fin 4) (g : Fin 512) (a : Nat) (b : Nat) (s : State), s.takes p .DOM_RCMD d (some (4 + d)) ∧
      s.f DOM_RCMD_RES.STATUS d ∉ [1, 2, 3] ∧ s.gateOk g = true ∧ gateEnds g = some (a, b) ∧ s.domOf a = d ∧ s.roomOut 1 = true) ∧
    (∃ (p : Port) (d : Fin 4) (n : Fin 256) (s : State), s.takes p .DOM_RCMD d (some (4 + d)) ∧ s.f DOM_RCMD_RES.STATUS d ∉ [1, 2, 3] ∧
      s.isPlaced n = true ∧ s.domOf n = d ∧ s.step.tb ≠ .UNSYNC ∧ s.roomOut 1 = true) ∧
    (∃ (p : Port) (d : Fin 4) (n : Fin 256) (s : State), s.takes p .DOM_RCMD d (some (4 + d)) ∧ s.f DOM_RCMD_RES.STATUS d ∉ [1, 2, 3] ∧
      s.isPlaced n = true ∧ s.domOf n = d ∧ s.step.tb ≠ .UNSYNC ∧ s.roomOut 1 = true) ∧
    (∃ (p : Port) (d : Fin 4) (n : Fin 256) (s : State), s.takes p .DOM_RCMD d (some (4 + d)) ∧ s.f DOM_RCMD_RES.STATUS d ∉ [1, 2, 3] ∧
      s.isPlaced n = true ∧ s.domOf n = d ∧ s.step.tb ≠ .UNSYNC ∧ s.roomOut 1 = true) ∧
    (∃ (p : Port) (d : Fin 4) (n : Fin 256) (s : State), s.takes p .DOM_RCMD d (some (4 + d)) ∧ s.f DOM_RCMD_RES.STATUS d ∉ [1, 2, 3] ∧
      s.isPlaced n = true ∧ s.domOf n = d ∧ s.step.tb ≠ .UNSYNC ∧ s.roomOut 1 = true) ∧
    (∃ (p : Port) (d : Fin 4) (n : Fin 256) (s : State), s.takes p .DOM_RCMD d (some (4 + d)) ∧ s.f DOM_RCMD_RES.STATUS d ∉ [1, 2, 3] ∧
      s.isPlaced n = true ∧ s.domOf n = d ∧ s.step.tb = .UNSYNC ∧ s.allOpen n = true ∧ (s.rgn n).st = .OFF ∧ 48 ≤ (s.rgn n).working) ∧
    (∃ (p : Port) (d : Fin 4) (n : Fin 256) (s : State), s.takes p .DOM_RCMD d (some (4 + d)) ∧ s.f DOM_RCMD_RES.STATUS d ∉ [1, 2, 3] ∧
      s.isPlaced n = true ∧ s.domOf n = d ∧ s.step.tb = .UNSYNC ∧ s.allOpen n = true ∧
      ((s.rgn n).st = .ISLAND ∨ (s.rgn n).st = .MERGED ∨ (s.rgn n).st = .DEGRADED)) :=
  ⟨⟨.A, 0, 1, 0, 16, live, by (unfold State.takes; decide), by decide, by decide, by decide, by decide, by decide⟩,
    ⟨.B, 0, 0, 0, 1, { live with heats := ⟨[(0, { burst := true })]⟩, lanes := ⟨[(0, { st := .BURST }), (1, { st := .SHED })]⟩ },
      by (unfold State.takes; decide), by decide, by decide, by decide, by decide, by decide⟩,
    ⟨.B, 0, 2, 1, 2, { live with gates := ⟨[(2, true)]⟩, heatOf := ⟨[(2, 1)]⟩ }, by (unfold State.takes; decide), by decide, by decide, by decide,
      by decide, by decide⟩,
    ⟨.A, 3, 255, (live.withRgn 255 {}).put DOM_RCMD_STEP_LO.STEP_LO 3 5000, by (unfold State.takes; decide), by decide, by decide, by decide,
      by decide, by decide⟩,
    ⟨.A, 3, 255, live, by (unfold State.takes; decide), by decide, by decide, by decide, by decide, by decide⟩,
    ⟨.B, 0, 0, live, by (unfold State.takes; decide), by decide, by decide, by decide, by decide, by decide⟩,
    ⟨.B, 0, 16, live, by (unfold State.takes; decide), by decide, by decide, by decide, by decide, by decide⟩,
    ⟨.A, 3, 255, { live.withRgn 255 {} with step := {} }, by (unfold State.takes; decide), by decide, by decide, by decide, by decide, by decide,
      by decide, by decide⟩,
    ⟨.A, 3, 255, { live.withRgn 255 { st := .DEGRADED } with step := {} }, by (unfold State.takes; decide), by decide, by decide, by decide,
      by decide, by decide, by decide⟩⟩

theorem test_RailWritesTakeEffect_hypotheses :
    (∃ (p : Port) (n : Fin 256) (s : State), s.takes p .RGN_CTRL n none ∧ (s.rgn n).st = .DARK) ∧
    (∃ (p : Port) (n : Fin 256) (s : State), s.takes p .RGN_CTRL n none ∧ (s.rgn n).st = .DARK) ∧
    (∃ (p : Port) (d : Fin 4) (mesh : Bool) (s : State), s.takes p .DOM_CTRL d (some (4 + d)) ∧ s.fb DOM_CTRL.MESH d = !mesh ∧ s.roomOut 1 = true) ∧
    (∃ (p : Port) (d : Fin 4) (s : State), s.takes p .DOM_SETPT d (some (4 + d))) ∧
    (∃ (p : Port) (d : Fin 4) (s : State), s.takes p .DOM_SETPT d (some (4 + d)) ∧ s.roomOut 1 = true) ∧
    (∃ (p : Port) (n : Fin 256) (s : State), s.takes p .RGN_SETPT n (some (4 + s.domOf n))) ∧
    (∃ (p : Port) (n : Fin 256) (s : State), s.takes p .RGN_SETPT n (some (4 + s.domOf n)) ∧ s.roomOut 1 = true) ∧
    (∃ (p : Port) (n : Fin 256) (s : State), s.takes p .RGN_STR_CFG n none) :=
  ⟨⟨.A, 255, live.withRgn 255 { st := .DARK, attempts := 4, cause := 2 }, by (unfold State.takes; decide), by decide⟩,
    ⟨.B, 0, { live.withRgn 0 { st := .DARK, attempts := 4 } with step := {} }, by (unfold State.takes; decide), by decide⟩,
    ⟨.A, 3, true, live, by (unfold State.takes; decide), by decide, by decide⟩,
    ⟨.A, 3, live, by (unfold State.takes; decide)⟩,
    ⟨.B, 3, live, by (unfold State.takes; decide), by decide⟩,
    ⟨.A, 255, live, by (unfold State.takes; decide)⟩,
    ⟨.A, 255, live.put DOM_RCMD_STEP_LO.STEP_LO 3 5000, by (unfold State.takes; decide), by decide⟩,
    ⟨.B, 255, live, by (unfold State.takes; decide)⟩⟩

theorem test_TimeAdvances_hypotheses :
    (∃ (t : Nat) (s : State), s.powered = true ∧ s.step.tb = .RUNNING ∧ (∀ e, s.step.edge = some e → e + 400 ≤ t)) ∧
    (∃ (t : Nat) (s : State), s.powered = true ∧ s.step.tb = .RUNNING ∧ (∀ e, s.step.edge = some e → e + 400 ≤ t)) ∧
    (∃ (t : Nat) (s : State), s.powered = true ∧ s.step.tb = .RUNNING ∧ (∀ e, s.step.edge = some e → e + 400 ≤ t)) ∧
    (∃ (t : Nat) (s : State), s.powered = true ∧ (∃ e, s.step.edge = some e ∧ t < e + 400)) ∧
    (∃ (t : Nat) (s : State), s.powered = true ∧ s.step.tb = .UNSYNC ∧ s.step.bcast = none ∧ (∀ e, s.step.edge = some e → e + 400 ≤ t)) ∧
    (∃ (t : Nat) (s : State), s.powered = true ∧ s.step.tb = .UNSYNC ∧ s.step.bcast = none ∧ (∀ e, s.step.edge = some e → e + 400 ≤ t)) ∧
    (∃ (s : State) (e : Nat), s.step.tb = .RUNNING ∧ s.gateHold = false ∧ s.step.lastEdge = some e ∧ max e s.step.holdEnd + 100000 < s.now ∧
      s.baton.up = true) ∧
    (∃ (frame : BitVec 64) (stop : Bool) (s : State), s.powered = true ∧ frameGood frame stop = true) ∧
    (∃ (frame : BitVec 64) (stop : Bool) (s : State), s.powered = true ∧ frameGood frame stop = false ∧ s.f BAT_ERR2.BCAST < 255) ∧
    (∃ (s : State), 4096 ≤ s.step.sinceFrame ∧ s.step.missRep = false) ∧
    (∃ (rs : List (Nat × RgnRead)) (s : State), (Instr.samplePeriod rs).wellFormed = true ∧ s.powered = true) ∧
    (∃ (rs : List (Nat × RgnRead)) (s : State), (Instr.samplePeriod rs).wellFormed = true ∧ s.powered = true) ∧
    (∃ (rs : List (Nat × RgnRead)) (s : State), (Instr.samplePeriod rs).wellFormed = true ∧ s.powered = true) ∧
    (∃ (s : State), s.serving = true) ∧
    (∃ (h : Fin 256) (s : State), 8 ≤ (s.heat h).atRun ∧ (s.heat h).atTgt = false) ∧
    (∃ (h : Fin 256) (s : State), 8 ≤ (s.heat h).atRun ∧ (s.heat h).atTgt = false) :=
  ⟨⟨2000000300, live, by decide, by decide, by decide⟩,
    ⟨2000000640, { live with step := { live.step with bcast := some (9000, 2000000620) } }, by decide, by decide, by decide⟩,
    ⟨2000000640, { live with step := { live.step with bcast := some (9000, 2000000621) } }, by decide, by decide, by decide⟩,
    ⟨2000000299, live, by decide, by decide⟩,
    ⟨0, { live with step := {} }, by decide, by decide, by decide, by decide⟩,
    ⟨2000000400, { live with step := { edge := some 2000000000 } }, by decide, by decide, by decide, by decide⟩,
    ⟨{ live with step := { live.step with lastEdge := some 1999899999 } }, 1999899999, by decide, by decide, by decide, by decide, by decide⟩,
    ⟨13042424520866236555#64, true, live, by decide, by decide⟩,
    ⟨13042424520866236555#64, false, live.put BAT_ERR2.BCAST 0 254, by decide, by decide, by decide⟩,
    ⟨{ live with step := { live.step with sinceFrame := 4096 } }, by decide, by decide⟩,
    ⟨[(255, { code := 0x80#8, q := some 600, lanes := List.replicate 8 ⟨0xFFF#12, 0#12, 1, 500, 0, 0, false, 50, 100⟩ })], live, by decide, by decide⟩,
    ⟨[(0, { code := 1#8, q := none, lanes := [] })], { live with blockReset := some 5, now := 49 }, by decide, by decide⟩,
    ⟨[(0, { code := 1#8, q := none, lanes := [] }), (1, { code := 200#8, q := some 400, lanes := List.replicate 8 ⟨100#12, 90#12, 1, 500, 0, 0, true, 50, 100⟩ })],
      { live with resume := some 0, lanes := ⟨[(0, { st := .SWITCHING }), (8, { st := .RAMP })]⟩ }, by decide, by decide⟩,
    ⟨live, by decide⟩,
    ⟨255, { live with heats := ⟨[(255, { atRun := 8 })]⟩ }, by decide, by decide⟩,
    ⟨0, { live with heats := ⟨[(0, { atRun := 8 })]⟩, slots := ⟨[(3, { st := .MOVING, ntype := 4, target := 0, vset := 0 })]⟩ }, by decide, by decide⟩⟩

theorem test_BatonLinkCarriesNotices_hypotheses :
    (∃ (bits : BitVec 80) (edges : Nat) (s : State), s.powered = true ∧ s.baton.up = true ∧ 20 ≤ edges ∧ crc16 (BitVec.ofNat 64 (bits.toNat / 65536)) = bits.toNat % 65536 ∧ (let p : BitVec 64 := BitVec.ofNat 64 (bits.toNat / 65536); p.toNat / 2 ^ 60 ≤ 1)) ∧
    (∃ (bits : BitVec 80) (edges : Nat) (s : State), s.powered = true ∧ s.baton.up = true ∧ 20 ≤ edges ∧ crc16 (BitVec.ofNat 64 (bits.toNat / 65536)) = bits.toNat % 65536 ∧ (let p : BitVec 64 := BitVec.ofNat 64 (bits.toNat / 65536); 1 < p.toNat / 2 ^ 60 ∧ seqOf p = s.baton.rxNext)) ∧
    (∃ (bits : BitVec 80) (edges : Nat) (s : State), s.powered = true ∧ s.baton.up = true ∧ 20 ≤ edges ∧ crc16 (BitVec.ofNat 64 (bits.toNat / 65536)) = bits.toNat % 65536 ∧ (let p : BitVec 64 := BitVec.ofNat 64 (bits.toNat / 65536); 1 < p.toNat / 2 ^ 60 ∧ seqOf p = s.baton.rxNext)) ∧
    (∃ (bits : BitVec 80) (edges : Nat) (s : State), s.powered = true ∧ s.baton.up = true ∧ 20 ≤ edges ∧ crc16 (BitVec.ofNat 64 (bits.toNat / 65536)) = bits.toNat % 65536 ∧ (let p : BitVec 64 := BitVec.ofNat 64 (bits.toNat / 65536); 1 < p.toNat / 2 ^ 60 ∧ seqOf p ≠ s.baton.rxNext ∧ s.f BAT_ERR.SEQ < 255)) ∧
    (∃ (bits : BitVec 80) (edges : Nat) (s : State), s.powered = true ∧
      (edges < 20 ∨ crc16 (BitVec.ofNat 64 (bits.toNat / 65536)) ≠ bits.toNat % 65536) ∧ s.f BAT_ERR.CRC < 255) ∧
    (∃ (bits : BitVec 80) (edges : Nat) (s : State), s.powered = true ∧
      (edges < 20 ∨ crc16 (BitVec.ofNat 64 (bits.toNat / 65536)) ≠ bits.toNat % 65536) ∧ s.f BAT_ERR.CRC < 255) ∧
    (∃ (s : State), 0 < s.baton.rxUncov) ∧
    (∃ (s : State) (x : BitVec 64 × Nat) (l : List (BitVec 64 × Nat)), s.baton.unacked = x :: l ∧ x.2 + 2000 ≤ s.now) ∧
    (∃ (seq : BitVec 8) (body : BitVec 52) (s : State) (rest : List (BitVec 64)), s.baton.up = true ∧
      s.baton.rxq = payloadOf 0 seq.toNat body :: rest) ∧
    (∃ (body : BitVec 52) (s : State), s.baton.up = true ∧ noticeBad 1 body = false ∧ bodyBit body 42 = false ∧ s.baton.wait = []) ∧
    (∃ (body : BitVec 52) (s : State), s.baton.up = true ∧ noticeBad 1 body = false ∧ bodyBit body 42 = false ∧ s.baton.wait = []) ∧
    (∃ (body : BitVec 52) (s : State), s.baton.up = true ∧ noticeBad 1 body = false ∧ bodyBit body 42 = true) ∧
    (∃ (ntype : BitVec 4) (seq : BitVec 8) (body : BitVec 52) (s : State), (Instr.noticeUndefined ntype seq body).wellFormed = true ∧
      s.baton.up = true ∧ s.f BAT_ERR.ENC < 255) ∧
    (∃ (ntype : BitVec 4) (seq : BitVec 8) (body : BitVec 52) (s : State), (Instr.noticeUndefined ntype seq body).wellFormed = true ∧
      s.baton.up = true ∧ s.f BAT_ERR.ENC < 255) :=
  ⟨⟨75563628333437357685790#80, 20, live, by decide, by decide, by decide, by decide, by decide⟩,
    ⟨302231454903657298747015#80, 20, live, by decide, by decide, by decide, by decide, by decide, by decide⟩,
    ⟨302231454903657298747015#80, 20, { live with baton := { up := true, rxUncov := 31 } }, by decide, by decide, by decide, by decide, by decide,
      by decide⟩,
    ⟨377494170724392269359325#80, 20, live.put BAT_ERR.SEQ 0 254, by decide, by decide, by decide, by decide, by decide, by decide, by decide⟩,
    ⟨377494170724392269359325#80, 19, live.put BAT_ERR.CRC 0 254, by decide, by decide, by decide⟩,
    ⟨377494170724392269359324#80, 20, live, by decide, by decide, by decide⟩,
    ⟨{ live with baton := { up := true, rxUncov := 1, lastRx := 255 } }, by decide⟩,
    ⟨{ live with baton := { up := true, unacked := [(7#64, 1999998000), (8#64, 1999999000)] } }, (7#64, 1999998000), [(8#64, 1999999000)], by decide,
      by decide⟩,
    ⟨255#8, 0xFFFFFFFFFFFFF#52, { live with baton := { up := true, rxq := [payloadOf 0 255 0xFFFFFFFFFFFFF#52, 9#64] } }, [9#64], by decide,
      by decide⟩,
    ⟨0x180000000000#52, { live with baton := { up := true, unacked := [(0x2010000000000000#64, 1999998000), (0x3020000000000000#64, 1999999000)] } },
      by decide, by decide, by decide, by decide⟩,
    ⟨0x100000000000#52,
      { live with baton := { up := true, unacked := [(0x2010000000000000#64, 1999998000), (0x3020000000000000#64, 1999999000)], rxq := [payloadOf 1 0 0x100000000000#52] } },
      by decide, by decide, by decide, by decide⟩,
    ⟨0x40000000000#52,
      { live with baton := { up := true, rxNext := 9, lastRx := 8, txNext := 4, lastTx := 3, unacked := [(0x2010000000000000#64, 1999998000), (0x3020000000000000#64, 1999999000)] } },
      by decide, by decide, by decide⟩,
    ⟨11#4, 3#8, 5#52, live.put BAT_ERR.ENC 0 254, by decide, by decide, by decide⟩,
    ⟨15#4, 3#8, 5#52, live, by decide, by decide, by decide⟩⟩

theorem test_SetpointNoticesAct_hypotheses :
    (∃ (body : BitVec 52) (s : State), s.takesNotice 4 body true false ∧ bodyBit body 5 = false ∧ (let n := bodyField body 35 28; let scope := bodyBit body 27; let d := if scope then n % 4 else s.domOf n; let v := bodyField body 26 15; (if scope then s.domRgns d ≠ [] else s.isPlaced n = true) ∧ s.spSrc d = 1 ∧ s.f DOM_VRANGE.VMIN d ≤ v ∧ v ≤ max (s.f DOM_VRANGE.VMIN d) (s.f DOM_VRANGE.VMAX d) ∧ s.roomOut 1 = true)) ∧
    (∃ (body : BitVec 52) (s : State), s.takesNotice 4 body true false ∧ bodyBit body 5 = false ∧ (let n := bodyField body 35 28; let scope := bodyBit body 27; let d := if scope then n % 4 else s.domOf n; let v := bodyField body 26 15; (if scope then s.domRgns d ≠ [] else s.isPlaced n = true) ∧ s.spSrc d = 1 ∧ s.f DOM_VRANGE.VMIN d ≤ v ∧ v ≤ max (s.f DOM_VRANGE.VMIN d) (s.f DOM_VRANGE.VMAX d) ∧ s.roomOut 1 = true)) ∧
    (∃ (body : BitVec 52) (s : State), s.takesNotice 4 body false false ∧ bodyBit body 5 = true ∧ (let n := bodyField body 35 28; let scope := bodyBit body 27; let d := if scope then n % 4 else s.domOf n; let v := bodyField body 26 15; (if scope then s.domRgns d ≠ [] else s.isPlaced n = true) ∧ s.spSrc d = 1 ∧ s.f DOM_VRANGE.VMIN d ≤ v ∧ v ≤ max (s.f DOM_VRANGE.VMIN d) (s.f DOM_VRANGE.VMAX d))) ∧
    (∃ (tag : BitVec 8) (s : State), s.baton.up = true ∧ (s.slot tag.toNat).latch = false ∧ (s.slot tag.toNat).st = .MOVING ∧
      (s.slot tag.toNat).execAt + 10000000 ≤ s.now) ∧
    (∃ (tag : BitVec 8) (s : State), s.baton.up = true ∧ (s.slot tag.toNat).latch = false ∧ (s.slot tag.toNat).st = .MOVING ∧
      (s.slot tag.toNat).hold = true ∧ (s.slot tag.toNat).execAt + 1000 * clampN 5 100 (s.f BAT_CFG.GATE_TO) ≤ s.now) ∧
    (∃ (tag : BitVec 8) (s : State), s.baton.up = true ∧ (s.slot tag.toNat).latch = false ∧ (s.slot tag.toNat).st = .DEFERRED ∧
      (s.slot tag.toNat).hold = false ∧ 1024 ≤ (s.slot tag.toNat).held) ∧
    (∃ (body : BitVec 52) (s : State), s.takesNotice 5 body false false ∧ (s.slot (bodyField body 51 44)).ntype = 4 ∧ (let tag := bodyField body 51 44; ((s.slot tag).st = .QUEUED ∨ (s.slot tag).st = .DEFERRED))) ∧
    (∃ (body : BitVec 52) (s : State), s.takesNotice 5 body false false ∧ (s.slot (bodyField body 51 44)).ntype = 4 ∧ (let tag := bodyField body 51 44; ((s.slot tag).st = .QUEUED ∨ (s.slot tag).st = .DEFERRED))) ∧
    (∃ (body : BitVec 52) (s : State), s.takesNotice 5 body false false ∧ (s.slot (bodyField body 51 44)).ntype = 4 ∧ (let tag := bodyField body 51 44; (s.slot tag).st = .MOVING)) ∧
    (∃ (body : BitVec 52) (s : State), s.takesNotice 5 body false false ∧ (s.slot (bodyField body 51 44)).ntype = 4 ∧ (let tag := bodyField body 51 44; (s.slot tag).st = .COMPLETE)) :=
  ⟨⟨0x1064ff41a7fc0#52, ((live.put DOM_SP_CFG.SRC 3 1).put DOM_SP_CFG.SRC 0 1), by (unfold State.takesNotice; decide), by decide, by decide,
      by decide, by decide, by decide, by decide⟩,
    ⟨0x1000009c20180#52, ((live.put DOM_SP_CFG.SRC 3 1).put DOM_SP_CFG.SRC 0 1), by (unfold State.takesNotice; decide), by decide, by decide,
      by decide, by decide, by decide, by decide⟩,
    ⟨0xff1c27fa0#52, ((live.put DOM_SP_CFG.SRC 3 1).put DOM_SP_CFG.SRC 0 1), by (unfold State.takesNotice; decide), by decide, by decide, by decide,
      by decide, by decide⟩,
    ⟨255#8, { live with slots := ⟨[(255, { st := .MOVING, ntype := 4, target := 1, execAt := 1990000000 })]⟩ }, by decide, by decide, by decide,
      by decide⟩,
    ⟨255#8, { live with slots := ⟨[(255, { st := .MOVING, ntype := 4, hold := true, execAt := 1999950000 })]⟩ }, by decide, by decide, by decide,
      by decide, by decide⟩,
    ⟨0#8, { live with slots := ⟨[(0, { st := .DEFERRED, ntype := 4, held := 1024 })]⟩ }, by decide, by decide, by decide, by decide, by decide⟩,
    ⟨0xff00000000000#52,
      { live with slots := ⟨[(255, { st := .QUEUED, ntype := 4 })]⟩, step := { live.step with queue := [⟨5000, .setpt 255⟩, ⟨5000, .setpt 3⟩] } },
      by (unfold State.takesNotice; decide), by decide, by decide⟩,
    ⟨0xff00000000000#52, { live with slots := ⟨[(255, { st := .DEFERRED, ntype := 4 })]⟩ }, by (unfold State.takesNotice; decide), by decide,
      by decide⟩,
    ⟨0xff00000000000#52, { live with slots := ⟨[(255, { st := .MOVING, ntype := 4, hold := true, target := 1, priors := [(1, some 1500)] })]⟩ },
      by (unfold State.takesNotice; decide), by decide, by decide⟩,
    ⟨0xff00000000000#52, { live with slots := ⟨[(255, { st := .COMPLETE, ntype := 4, status := 9 })]⟩ }, by (unfold State.takesNotice; decide),
      by decide, by decide⟩⟩

theorem test_ForecastNoticesAct_hypotheses :
    (∃ (body : BitVec 52) (s : State), s.baton.up = true ∧ noticeBad 2 body = false ∧ s.blockReset = none ∧
      s.namedRgns (bodyBit body 27) (bodyField body 35 28) ≠ [] ∧ s.pacer.pend.length < 4096) ∧
    (∃ (body : BitVec 52) (s : State), s.baton.up = true ∧ noticeBad 2 body = false ∧ s.blockReset = none ∧
      s.namedRgns (bodyBit body 27) (bodyField body 35 28) ≠ [] ∧ s.pacer.pend.length < 4096) ∧
    (∃ (body : BitVec 52) (s : State), s.takesNotice 3 body true true ∧ s.namedRgns (bodyBit body 27) (bodyField body 35 28) ≠ [] ∧
      s.pacer.barriers.length < 64) ∧
    (∃ (body : BitVec 52) (s : State), s.takesNotice 3 body true true ∧ s.namedRgns (bodyBit body 27) (bodyField body 35 28) ≠ [] ∧
      s.pacer.barriers.length < 64) ∧
    (∃ (tag : BitVec 8) (s : State) (b : Barrier), s.pacer.barriers.find? (fun b => b.checking ∧ b.tag = tag.toNat) = some b ∧ s.baton.up = true ∧
      s.inCascade = false) ∧
    (∃ (body : BitVec 52) (s : State), s.takesNotice 6 body false false ∧ s.groupOpen (bodyField body 51 46) = true) ∧
    (∃ (body : BitVec 52) (s : State), s.takesNotice 7 body false false ∧ s.groupOpen (bodyField body 51 46) = true) :=
  ⟨⟨0x1001ff7ffffff#52, live, by decide, by decide, by decide, by decide, by decide⟩,
    ⟨0x1000038000010#52, live, by decide, by decide, by decide, by decide, by decide⟩,
    ⟨0x1020ff7ffffe0#52, live, by (unfold State.takesNotice; decide), by decide, by decide⟩,
    ⟨0x101f008002000#52, live, by (unfold State.takesNotice; decide), by decide, by decide⟩,
    ⟨255#8, { live with pacer := { barriers := [⟨1, [0], 4200, 255, 3, 5, 4, true, 4200, 0, 1⟩] } }, ⟨1, [0], 4200, 255, 3, 5, 4, true, 4200, 0, 1⟩,
      by decide, by decide, by decide⟩,
    ⟨0xfc00000000000#52,
      { live with pacer := { groups := [(63, 5000)], barriers := [⟨1, [0], 4200, 3, 3, 63, 4, false, 4200, 0, 1⟩], pend := [⟨5000, false, 0, 63, ⟨0, 0, false, 1⟩, 2⟩] } },
      by (unfold State.takesNotice; decide), by decide⟩,
    ⟨0xfc00000000000#52,
      { live with pacer := { groups := [(63, 5000)], barriers := [⟨1, [0], 4200, 3, 3, 63, 4, false, 4200, 0, 1⟩, ⟨2, [1], 4300, 4, 3, 0, 4, false, 4300, 0, 2⟩], pend := [⟨5000, false, 0, 63, ⟨0, 0, false, 1⟩, 2⟩] } },
      by (unfold State.takesNotice; decide), by decide⟩⟩

theorem test_ContextPeriodFreqNoticesAct_hypotheses :
    (∃ (body : BitVec 52) (s : State), s.takesNotice 8 body true false ∧ s.roomOut 1 = true ∧ bodyField body 29 28 = 0) ∧
    (∃ (body : BitVec 52) (s : State), s.takesNotice 8 body true false ∧ s.roomOut 1 = true ∧ bodyField body 29 28 = 1) ∧
    (∃ (body : BitVec 52) (s : State), s.takesNotice 8 body true false ∧ s.roomOut 1 = true ∧ bodyField body 29 28 = 2) ∧
    (∃ (body : BitVec 52) (s : State), s.takesNotice 9 body true true ∧ s.roomOut 1 = true ∧ (bodyField body 35 12 = 0 ∨ 256 ≤ bodyField body 35 12)) ∧
    (∃ (body : BitVec 52) (s : State), s.takesNotice 9 body true true ∧ s.roomOut 1 = true ∧ (bodyField body 35 12 = 0 ∨ 256 ≤ bodyField body 35 12)) ∧
    (∃ (body : BitVec 52) (s : State), s.takesNotice 10 body false false ∧ bodyBit body 47 = false ∧ s.freqOk (bodyField body 51 48) = true) ∧
    (∃ (body : BitVec 52) (s : State), s.takesNotice 10 body false false ∧ bodyBit body 47 = false ∧ s.freqOk (bodyField body 51 48) = true) ∧
    (∃ (body : BitVec 52) (s : State), s.takesNotice 10 body false false ∧ bodyBit body 47 = true ∧ s.fb LIM_STR_STATUS.FLOOR_PEND = true ∧
      s.lim.low = .inForce ∧ bodyField body 51 48 ≤ s.lim.floorFp) ∧
    (∃ (body : BitVec 52) (s : State), s.takesNotice 10 body false false ∧ bodyBit body 47 = true ∧ s.fb LIM_STR_STATUS.FLOOR_PEND = true ∧
      s.lim.low = .released ∧ bodyField body 51 48 = s.f LIM_VT_CFG.NOM ∧ s.f LIM_VT_CFG.NOM ≤ s.lim.floorFp) :=
  ⟨⟨0x1001fcff00000#52, live, by (unfold State.takesNotice; decide), by decide, by decide⟩,
    ⟨0x1000150000000#52, live, by (unfold State.takesNotice; decide), by decide, by decide⟩,
    ⟨0x1000160900000#52, live, by (unfold State.takesNotice; decide), by decide, by decide⟩,
    ⟨0x1001000100ff0#52, live, by (unfold State.takesNotice; decide), by decide, by decide⟩,
    ⟨0x1001000000ff0#52, live, by (unfold State.takesNotice; decide), by decide, by decide⟩,
    ⟨0xc7f8000000000#52, live, by (unfold State.takesNotice; decide), by decide, by decide⟩,
    ⟨0x57f8000000000#52, live.put RLY_CFG.CREDIT 0 1, by (unfold State.takesNotice; decide), by decide, by decide⟩,
    ⟨0x3ff8000000000#52, ({ live with lim := { low := .inForce, floorFp := 3, floorAt := some 5 } } : State).put LIM_STR_STATUS.FLOOR_PEND 0 1,
      by (unfold State.takesNotice; decide), by decide, by decide, by decide, by decide⟩,
    ⟨0xcff8000000000#52, ({ live with lim := { low := .released, floorFp := 12, floorAt := some 5 } } : State).put LIM_STR_STATUS.FLOOR_PEND 0 1,
      by (unfold State.takesNotice; decide), by decide, by decide, by decide, by decide, by decide⟩⟩

theorem test_PacerCommandsComplete_hypotheses :
    (∃ (s : State), s.step.count % 1024 = 0 ∧ s.pacer.winSteps ≠ 0 ∧ s.placed.Nodup) ∧
    (∃ (s : State), s.step.count % 1024 = 0 ∧ s.pacer.winSteps ≠ 0 ∧ s.placed.Nodup) ∧
    (∃ (p : Port) (off : BitVec 20) (s : State) (r : Reg) (i : Nat), (r = .COEF_M ∨ r = .COEF_X) ∧ i < r.count ∧ off.toNat = r.offset i ∧
      s.takes p r i (some 8) ∧ s.fb COEF_CTRL.EN = false) ∧
    (∃ (p : Port) (off : BitVec 20) (s : State) (r : Reg) (i : Nat), (r = .COEF_M ∨ r = .COEF_X) ∧ i < r.count ∧ off.toNat = r.offset i ∧
      s.takes p r i (some 8) ∧ s.fb COEF_CTRL.EN = false) ∧
    (∃ (p : Port) (off : BitVec 20) (be : BitVec 4) (s : State) (r : Reg) (i : Nat), (r = .COEF_M ∨ r = .COEF_X) ∧ i < r.count ∧
      off.toNat = r.offset i ∧ be ≠ 0#4 ∧ s.takes p r i (some 8) ∧ s.fb COEF_CTRL.EN = true) ∧
    (∃ (p : Port) (s : State), s.takes p .COEF_CTRL 0 (some 8)) ∧
    (∃ (p : Port) (s : State), s.takes p .COEF_CTRL 0 (some 8)) ∧
    (∃ (p : Port) (s : State), s.takes p .COEF_CTRL 0 (some 8)) ∧
    (∃ (p : Port) (s : State), s.takes p .REP_CFG 0 (some 9)) ∧
    (∃ (s : State) (img : List Byte), s.pacer.loading = some img) :=
  ⟨⟨{ live with pacer := { winSteps := 1024, winVoid := false }, rgns := ⟨[(0, { st := .ISLAND, mode := .FORECAST, sErr := 301, sRef := 1000, bad := 3, clean := 7 }), (1, { st := .ISLAND, mode := .DEMOTED, sErr := 300, sRef := 1000, clean := 63 }), (2, { winBad := true, sErr := 4, sRef := 5 }), (255, { mode := .FORECAST })]⟩ },
      by decide, by decide, by decide⟩,
    ⟨{ live with pacer := { winSteps := 1023, winVoid := false }, rgns := ⟨[(0, { sErr := 301, sRef := 1000, bad := 3 })]⟩ }, by decide, by decide,
      by decide⟩,
    ⟨.A, 0x9FFFC#20, live.put COEF_CTRL.EN 0 0, .COEF_M, 32767, by decide, by decide, by decide, by (unfold State.takes; decide), by decide⟩,
    ⟨.B, 0xA0000#20, live.put COEF_CTRL.EN 0 0, .COEF_X, 0, by decide, by decide, by decide, by (unfold State.takes; decide), by decide⟩,
    ⟨.A, 0xA0FFC#20, 1#4, live, .COEF_X, 1023, by decide, by decide, by decide, by decide, by (unfold State.takes; decide), by decide⟩,
    ⟨.A, live.put COEF_CTRL.EN 0 0, by (unfold State.takes; decide)⟩,
    ⟨.A, live, by (unfold State.takes; decide)⟩,
    ⟨.A, live, by (unfold State.takes; decide)⟩,
    ⟨.A, { live with pacer := { bins := ⟨[(7, 3)]⟩, len := 300 } }, by (unfold State.takes; decide)⟩,
    ⟨{ live with pacer := { loading := some [] }, boot := { live.boot with modelPort := some 1, modelEn := true } }, [], by decide⟩⟩

theorem test_LimitsFollowTheCap_hypotheses :
    (∃ (s : State), s.powered = true) ∧
    (∃ (s : State), s.powered = true) ∧
    (∃ (s : State), s.powered = true ∧ s.lim.pcapHigh = true) ∧
    (∃ (t : Nat) (s : State) (r : Nat) (f : Nat), s.powered = true ∧ s.lim.pcapHigh = false ∧ s.lim.pcapRise = some r ∧ s.lim.pcapFall = some f ∧
      10000 ≤ t - r ∧ t - r ≤ 1000000) ∧
    (∃ (s : State), s.powered = true ∧ s.capSrc = 0 ∧ (s.lim.pcapValid = none ∨ s.lim.pcapAt + 2000000 ≤ s.now) ∧ s.lim.pcapRep = false) ∧
    (∃ (s : State), s.powered = true ∧ s.capSrc = 1 ∧ (tblGet none s.gauge.latest 52 = none ∨ s.gauge.anaAt + 2000000 < s.now) ∧
      s.fb LIM_CAP_STATUS.ANA_STALE = false) ∧
    (∃ (n : Fin 256) (s : State), 20 ≤ (s.rgn n).dtRun ∧ s.lim.thRun.contains n.val = false) ∧
    (∃ (p : Port) (level : BitVec 14) (s : State), s.takes p .LIM_STR_HOST 0 (if level = 0#14 then none else some 12)) ∧
    (∃ (p : Port) (level : BitVec 14) (s : State), s.takes p .LIM_STR_HOST 0 (if level = 0#14 then none else some 12)) ∧
    (∃ (p : Port) (s : State), s.takes p .LIM_PWR1 0 (some 12)) :=
  ⟨⟨{ live with lim := { smpN := 20, pSum := 4000000000000 } }, by decide⟩,
    ⟨{ live with lim := { smpN := 20, pSum := 40000000000000, thRun := [1], pin := List.replicate 1000 50000 }, rgns := ⟨[(0, { st := .ISLAND, pTick := 40 })]⟩, heats := ⟨[(0, { ref := 100000 })]⟩ },
      by decide⟩,
    ⟨{ live with lim := { pcapHigh := true } }, by decide, by decide⟩,
    ⟨2000000000, { live with lim := { pcapRise := some 1999990000, pcapFall := some 1999995000, pcapRun := 3 } }, 1999990000, 1999995000, by decide,
      by decide, by decide, by decide, by decide, by decide⟩,
    ⟨{ live with lim := { pcapValid := some (10000, 5000), pcapAt := 1998000000, pcapLost := false, cap := 700 } }, by decide, by decide, by decide,
      by decide⟩,
    ⟨({ live with gauge := { latest := ⟨[(52, some 5)]⟩, anaAt := 1997999999 }, lim := { anaStale := false, cap := 700 } } : State).put LIM_CFG.CAPSRC 0 1,
      by decide, by decide, by decide, by decide⟩,
    ⟨255, live.withRgn 255 { st := .ISLAND, dtRun := 20 }, by decide, by decide⟩,
    ⟨.A, 0x3FFF#14, live, by (unfold State.takes; decide)⟩,
    ⟨.B, 0#14, live.put LIM_STR_HOST.LEVEL 0 5, by (unfold State.takes; decide)⟩,
    ⟨.A, live.put LIM_PWR1.PEAK 0 4095, by (unfold State.takes; decide)⟩⟩

theorem test_LowestStateEntersAndEnds_hypotheses :
    (∃ (s : State), s.powered = true ∧ s.lim.alert = false ∧ s.lim.low ≠ .inForce ∧ s.inCascade = false) ∧
    (∃ (s : State), s.powered = true ∧ s.lim.alert = false ∧ s.lim.low ≠ .inForce ∧ s.inCascade = false) ∧
    (∃ (s : State), s.powered = true ∧ s.lim.alert = false ∧ s.lim.low = .inForce ∧ s.inCascade = false) ∧
    (∃ (s : State), s.lim.alert = true) ∧
    (∃ (s : State), s.lim.low = .inForce ∧ s.lim.alert = false ∧ s.lim.alertHigh + s.lowHold ≤ s.now ∧ s.lim.appr = false ∧ s.inCascade = false) ∧
    (∃ (s : State) (a : Nat), s.lim.floorAt = some a ∧ a + 1000000 ≤ s.now ∧ s.fb LIM_STR_STATUS.FLOOR_PEND = true ∧ s.baton.up = true) :=
  ⟨⟨live, by decide, by decide, by decide, by decide⟩,
    ⟨{ live with baton := {}, lim := { low := .rising } }, by decide, by decide, by decide, by decide⟩,
    ⟨{ live with lim := { low := .inForce, lowLast := 2, exitOk := true } }, by decide, by decide, by decide, by decide⟩,
    ⟨{ live with lim := { alert := true } }, by decide⟩,
    ⟨{ live with lim := { low := .inForce, emerg := 15360, vtOn := true, alertHigh := 1900000000 } }, by decide, by decide, by decide, by decide,
      by decide⟩,
    ⟨({ live with lim := { low := .inForce, floorAt := some 1999000000, floorFp := 3, lowFirst := 2 } } : State).put LIM_STR_STATUS.FLOOR_PEND 0 1,
      1999000000, by decide, by decide, by decide, by decide⟩⟩

theorem test_GaugeSequencesRun_hypotheses :
    (∃ (s : State), s.gaugeOn = true ∧ (∀ k < 16, (s.mod_ k).hk = none)) ∧
    (∃ (s : State), s.gaugeOn = true ∧ (∃ k < 16, (s.mod_ k).hk ≠ none)) ∧
    (∃ (k : Fin 16) (r : Int) (ovr : Bool) (t : Nat) (s : State) (e : Nat), (Instr.conversionDone k r ovr t).wellFormed = true ∧ s.gaugeOn = true ∧ (let m := s.mod_ k; m.inj = some e)) ∧
    (∃ (k : Fin 16) (r : Int) (ovr : Bool) (t : Nat) (s : State) (e : Nat), (Instr.conversionDone k r ovr t).wellFormed = true ∧ s.gaugeOn = true ∧ (let m := s.mod_ k; m.inj = some e)) ∧
    (∃ (k : Fin 16) (r : Int) (ovr : Bool) (t : Nat) (s : State) (e : Nat), (Instr.conversionDone k r ovr t).wellFormed = true ∧ s.gaugeOn = true ∧ (let m := s.mod_ k; m.inj = none ∧ m.hk = some e)) ∧
    (∃ (k : Fin 16) (r : Int) (ovr : Bool) (t : Nat) (s : State) (e : Nat), (Instr.conversionDone k r ovr t).wellFormed = true ∧ s.gaugeOn = true ∧ (let m := s.mod_ k; m.inj = none ∧ m.hk = some e)) ∧
    (∃ (k : Fin 16) (r : Int) (ovr : Bool) (t : Nat) (s : State) (e : Nat), (Instr.conversionDone k r ovr t).wellFormed = true ∧ s.gaugeOn = true ∧ (let m := s.mod_ k; m.inj = none ∧ m.hk = some e)) ∧
    (∃ (k : Fin 16) (r : Int) (ovr : Bool) (t : Nat) (s : State) (e : Nat), (Instr.conversionDone k r ovr t).wellFormed = true ∧ s.gaugeOn = true ∧ (let m := s.mod_ k; m.inj = none ∧ m.hk = none ∧ s.regNow k = some e)) ∧
    (∃ (k : Fin 16) (r : Int) (ovr : Bool) (t : Nat) (s : State) (e : Nat), (Instr.conversionDone k r ovr t).wellFormed = true ∧ s.gaugeOn = true ∧ (let m := s.mod_ k; m.inj = none ∧ m.hk = none ∧ s.regNow k = some e)) ∧
    (∃ (k : Fin 16) (r : Int) (ovr : Bool) (t : Nat) (s : State) (e : Nat), (Instr.conversionDone k r ovr t).wellFormed = true ∧ s.gaugeOn = true ∧ (let m := s.mod_ k; m.inj = none ∧ m.hk = none ∧ s.regNow k = some e)) ∧
    (∃ (k : Fin 16) (s : State), s.gaugeOn = true ∧ s.fb GAU_MOD_CFG.EN k = true ∧ (let m := s.mod_ k; s.rsrc k = 1 ∧ s.regNow k = none ∧ m.regDelay = none)) ∧
    (∃ (k : Fin 16) (s : State), s.gaugeOn = true ∧ s.fb GAU_MOD_CFG.EN k = true ∧ (let m := s.mod_ k; s.rsrc k = 1 ∧ s.regNow k = none ∧ m.regDelay = none)) ∧
    (∃ (k : Fin 16) (s : State), s.gaugeOn = true ∧ s.fb GAU_MOD_CFG.EN k = true ∧ (let m := s.mod_ k; s.rsrc k = 1 ∧ (s.regNow k ≠ none ∨ m.regDelay ≠ none) ∧ m.regPend = false)) ∧
    (∃ (k : Fin 16) (s : State), s.gaugeOn = true ∧ s.fb GAU_MOD_CFG.EN k = true ∧ (let m := s.mod_ k; s.rsrc k = 1 ∧ (s.regNow k ≠ none ∨ m.regDelay ≠ none) ∧ m.regPend = true)) ∧
    (∃ (k : Fin 16) (s : State), s.gaugeOn = true ∧ s.fb GAU_MOD_CFG.EN k = true ∧ (let m := s.mod_ k; s.isrc k = 1 ∧ m.inj = none ∧ m.injDelay = none)) ∧
    (∃ (k : Fin 16) (s : State), s.gaugeOn = true ∧ s.fb GAU_MOD_CFG.EN k = true ∧ (let m := s.mod_ k; s.isrc k = 1 ∧ m.inj = none ∧ m.injDelay = none)) ∧
    (∃ (k : Fin 16) (s : State), s.gaugeOn = true ∧ s.fb GAU_MOD_CFG.EN k = true ∧ (let m := s.mod_ k; s.isrc k = 1 ∧ (m.inj ≠ none ∨ m.injDelay ≠ none))) ∧
    (∃ (k : Fin 16) (s : State) (a : Nat), let m := s.mod_ k; m.regDelay = some a ∧ a + 10 * s.f GAU_MOD_DLY.RDLY k ≤ s.now) ∧
    (∃ (k : Fin 16) (s : State) (a : Nat), let m := s.mod_ k; m.injDelay = some a ∧ a + 10 * s.f GAU_MOD_DLY.IDLY k ≤ s.now) ∧
    (∃ (p : Port) (k : Fin 16) (s : State), s.takes p .GAU_MOD_CFG k none ∧ s.fb GAU_MOD_CFG.EN k = true ∧ (let m := s.mod_ k; s.regNow k = none ∧ m.regDelay = none)) ∧
    (∃ (p : Port) (k : Fin 16) (s : State), s.takes p .GAU_MOD_CFG k none ∧ s.fb GAU_MOD_CFG.EN k = true ∧ (let m := s.mod_ k; s.regNow k ≠ none ∧ m.regPend = false)) ∧
    (∃ (p : Port) (k : Fin 16) (s : State), s.takes p .GAU_MOD_CFG k none ∧ s.fb GAU_MOD_CFG.EN k = true ∧ (let m := s.mod_ k; m.inj = none ∧ m.injDelay = none)) ∧
    (∃ (p : Port) (s : State), s.serving = true ∧ s.heldBy p.master 1 = false ∧ (∃ (e : _) (rest : _), s.gauge.queue = e :: rest)) ∧
    (∃ (p : Port) (s : State), s.serving = true ∧ s.heldBy p.master 1 = false ∧ s.gauge.queue = []) ∧
    (∃ (p : Port) (s : State), s.takes p .GAU_CFG 0 (some 1)) :=
  ⟨⟨live.put LIM_CFG.CAPSRC 0 1, by decide, by decide⟩,
    ⟨{ live with gauge := { mods := ⟨[(15, { hk := some 3 })]⟩ } }, by decide, by decide⟩,
    ⟨15, 8388607, false, 2000000000, { live with gauge := { mods := ⟨[(15, { inj := some 0, hk := some 1 })]⟩ } }, 0, by decide, by decide, by decide⟩,
    ⟨0, -8388607, true, 2000000001, ({ live with gauge := { mods := ⟨[(0, { inj := some 1, hk := some 1 })]⟩ } } : State).put GAU_MOD_CFG.ILEN 0 3, 1,
      by decide, by decide, by decide⟩,
    ⟨0, -8388607, true, 2000000001, { live with gauge := { mods := ⟨[(0, { hk := some 2, hkCap := true })]⟩ } }, 2, by decide, by decide, by decide,
      by decide⟩,
    ⟨7, 4000, false, 2000000001, { live with gauge := { mods := ⟨[(7, { hk := some 0 })]⟩ } }, 0, by decide, by decide, by decide, by decide⟩,
    ⟨0, 4000, false, 2000000001, { live with gauge := { mods := ⟨[(0, { hk := some 3, hkCap := true })]⟩ } }, 3, by decide, by decide, by decide,
      by decide⟩,
    ⟨15, 0, false, 0, { live with gauge := { mods := ⟨[(15, { reg := some 15 })]⟩ } }, 15, by decide, by decide, by decide, by decide, by decide⟩,
    ⟨3, 77, false, 0, { live with gauge := { mods := ⟨[(3, { reg := some 15, regPend := true })]⟩ } }, 15, by decide, by decide, by decide, by decide,
      by decide⟩,
    ⟨3, 77, false, 0, { live with gauge := { mods := ⟨[(3, { reg := some 2 })]⟩ } }, 2, by decide, by decide, by decide, by decide, by decide⟩,
    ⟨15, live.put GAU_MOD_CFG.RSRC 15 1, by decide, by decide, by decide, by decide, by decide⟩,
    ⟨15, (live.put GAU_MOD_CFG.RSRC 15 1).put GAU_MOD_DLY.RDLY 15 9, by decide, by decide, by decide, by decide, by decide⟩,
    ⟨15, ({ live with gauge := { mods := ⟨[(15, { reg := some 0 })]⟩ } } : State).put GAU_MOD_CFG.RSRC 15 1, by decide, by decide, by decide,
      by decide, by decide⟩,
    ⟨15, ({ live with gauge := { mods := ⟨[(15, { regDelay := some 5, regPend := true })]⟩ } } : State).put GAU_MOD_CFG.RSRC 15 1, by decide,
      by decide, by decide, by decide, by decide⟩,
    ⟨15, live.put GAU_MOD_CFG.ISRC 15 1, by decide, by decide, by decide, by decide, by decide⟩,
    ⟨15, (live.put GAU_MOD_CFG.ISRC 15 1).put GAU_MOD_DLY.IDLY 15 9, by decide, by decide, by decide, by decide, by decide⟩,
    ⟨15, ({ live with gauge := { mods := ⟨[(15, { injDelay := some 5 })]⟩ } } : State).put GAU_MOD_CFG.ISRC 15 1, by decide, by decide, by decide,
      by decide⟩,
    ⟨15, ({ live with gauge := { mods := ⟨[(15, { regDelay := some 1999999990 })]⟩ } } : State).put GAU_MOD_DLY.RDLY 15 1, 1999999990, by decide,
      by decide⟩,
    ⟨0, { live with gauge := { mods := ⟨[(0, { injDelay := some 2000000000 })]⟩ } }, 2000000000, by decide, by decide⟩,
    ⟨.A, 15, live.put GAU_MOD_CFG.RSRC 15 0, by (unfold State.takes; decide), by decide, by decide, by decide⟩,
    ⟨.B, 0, { live with gauge := { mods := ⟨[(0, { reg := some 3 })]⟩ } }, by (unfold State.takes; decide), by decide, by decide, by decide⟩,
    ⟨.A, 15, live, by (unfold State.takes; decide), by decide, by decide, by decide⟩,
    ⟨.A, { live with gauge := { queue := [0x123456789ABCDEF0#64, 5#64] } }, by decide, by decide, 0x123456789ABCDEF0#64, [5#64], by decide⟩,
    ⟨.B, live, by decide, by decide, by decide⟩,
    ⟨.A, { live with gauge := { queue := [5#64], lastTime := some 4, jumped := true } }, by (unfold State.takes; decide)⟩⟩

theorem test_GaugeRoundsAndTelemetry_hypotheses :
    (∃ (s : State), s.gauge.roundDone = true) ∧
    (∃ (s : State), s.gauge.roundDone = true) ∧
    (∃ (s : State), s.gauge.telN ≠ 0) ∧
    (∃ (s : State), s.gauge.telN ≠ 0) ∧
    (∃ (p : Port) (d : Fin 4) (s : State), s.takes p .DOM_TEL_CTRL d none) ∧
    (∃ (p : Port) (s : State), s.takes p .GAU_TSTAT 0 none) :=
  ⟨⟨{ live with gauge := { roundDone := true, latest := ⟨[(50, some 6039797), (1010, some 6000000)]⟩, sensors := ⟨[(0, { got := true, badRun := 2 }), (1, { badRun := 2 })]⟩ } },
      by decide⟩,
    ⟨{ live with gauge := { roundDone := true } }, by decide⟩,
    ⟨{ live with gauge := { telN := 20000, telI := ⟨[(0, 4000000)]⟩, telP := ⟨[(0, 300000000000)]⟩ }, rgns := ⟨[(0, { st := .ISLAND, outs := [90000, 90100] }), (255, { st := .OFF })]⟩ },
      by decide⟩,
    ⟨{ live with gauge := { telN := 1, telI := ⟨[(3, 7)]⟩ }, boot := { live.boot with pause := some ⟨0, 0, 0, false, false, none⟩ } }, by decide⟩,
    ⟨.A, 3, ((live.put DOM_TEL_I.I_PEAK 3 5).put DOM_TEL_V.V_MIN 3 7).put RGN_GAU_V.V_MIN 255 9, by (unfold State.takes; decide)⟩,
    ⟨.A, live.put GAU_TSTAT.PEAK 0 77, by (unfold State.takes; decide)⟩⟩

theorem test_LedgerCommandsComplete_hypotheses :
    (∃ (p : Port) (s : State), s.takes p .LED_SNAP 0 (some 2) ∧ s.led.snapBusy = false) ∧
    (∃ (s : State), s.led.snapBusy = true) ∧
    (∃ (p : Port) (c : Fin 64) (s : State), s.takes p .LED_CTX c (some 2) ∧ s.ctxSt c = .CLOSED) ∧
    (∃ (p : Port) (s : State), s.takes p .LED_REC_CTRL 0 (some 2) ∧ (∃ (r : _) (rest : _), s.led.recs = r :: rest)) ∧
    (∃ (p : Port) (s : State), s.takes p .LED_REC_CTRL 0 (some 2) ∧ s.led.recs = []) ∧
    (∃ (s : State), s.serving = true) ∧
    (∃ (s : State), s.powered = true ∧ s.boot.pause = none) ∧
    (∃ (s : State), s.powered = true ∧ s.boot.pause = none) ∧
    (∃ (s : State) (x : Scrub), s.led.scrub = some x ∧ x.phase = 2 ∧ s.blockReset = none ∧ s.running = true) ∧
    (∃ (s : State) (x : Scrub), s.led.scrub = some x ∧ x.phase = 2 ∧ s.blockReset = none ∧ s.running = false ∧ s.led.waiting = []) ∧
    (∃ (s : State) (x : Scrub), s.led.scrub = some x ∧ x.phase ≠ 3 ∧ x.overran = false ∧ x.start + 2000000 ≤ s.now) ∧
    (∃ (p : Port) (s : State), s.takes p .LED_CR_ALLOC 0 (some 2)) ∧
    (∃ (p : Port) (s : State), s.takes p .LED_CR_ALLOC 0 (some 2)) :=
  ⟨⟨.A, live.put LED_SNAP.VALID 0 1, by (unfold State.takes; decide), by decide⟩,
    ⟨{ live with led := { snapBusy := true, m := 123456789012345, u := 77, ra := 5000000000, rs := 3 } }, by decide⟩,
    ⟨.A, 63, { live with led := { ctx := ⟨[(63, .CLOSED)]⟩, attr := ⟨[(63, 12)]⟩, spec := ⟨[(63, 13)]⟩, ra := 1, rs := 2 } },
      by (unfold State.takes; decide), by decide⟩,
    ⟨.A, { live with led := { recs := [⟨63, 1, 281474976710655, 5, 6⟩] } }, by (unfold State.takes; decide),
      (⟨63, 1, 281474976710655, 5, 6⟩ : CloseRec), ([] : List CloseRec), by decide⟩,
    ⟨.A, live, by (unfold State.takes; decide), by decide⟩,
    ⟨{ live with led := { tv := ⟨[(63, { e := 4294967295, st := 2, seq := 255 })]⟩ } }, by decide⟩,
    ⟨{ live with led := { tv := ⟨[(63, { e := 4294967295, st := 2, seq := 255 })]⟩, ctx := ⟨[(3, .RUNNING)]⟩, attr := ⟨[(3, 400000000000000)]⟩ } },
      by decide, by decide⟩,
    ⟨{ live with led := { scrub := some ⟨1, 0, 2, false⟩, tv := ⟨[(63, { e := 4294967295, st := 2, seq := 255 })]⟩, ctx := ⟨[(3, .RUNNING)]⟩, attr := ⟨[(3, 400000000000000)]⟩ } },
      by decide, by decide⟩,
    ⟨{ live with led := { scrub := some ⟨5, 1999000000, 2, false⟩ } }, ⟨5, 1999000000, 2, false⟩, by decide, by decide, by decide, by decide⟩,
    ⟨{ live with led := { scrub := some ⟨5, 1999000000, 2, false⟩ }, step := { tb := .IDLE, count := 4096 } }, ⟨5, 1999000000, 2, false⟩, by decide,
      by decide, by decide, by decide, by decide⟩,
    ⟨{ live with led := { scrub := some ⟨5, 1998000000, 2, false⟩ } }, ⟨5, 1998000000, 2, false⟩, by decide, by decide, by decide, by decide⟩,
    ⟨.A, { live with relay := { credit := true } }, by (unfold State.takes; decide)⟩,
    ⟨.A, live, by (unfold State.takes; decide)⟩⟩

theorem test_CollectorProcessesAndRecovers_hypotheses :
    (∃ (s : State) (x : Src) (e : Evt), s.nextSrc = some (x, e) ∧ (let i := x.id; let en := s.fb FLT_RCT.EN i; let wc := s.f FLT_CNT.WCOUNT i; let n := if wc = 0 ∨ (s.src i).winStart + s.fltW i < e.at_ then e.merge else min 255 (wc + e.merge); let sev := en && ((s.src i).force || s.fb FLT_CNT.SEV i || decide (s.fltN i ≤ n)); let set := (if !en then 0 else if sev then s.f FLT_RCT.SEV i else s.f FLT_RCT.NORM i) ||| (if x = .THERM_SHUT then 16 else 0); set.testBit 2 = false)) ∧
    (∃ (s : State) (x : Src) (e : Evt), s.nextSrc = some (x, e) ∧ (let i := x.id; let en := s.fb FLT_RCT.EN i; let wc := s.f FLT_CNT.WCOUNT i; let n := if wc = 0 ∨ (s.src i).winStart + s.fltW i < e.at_ then e.merge else min 255 (wc + e.merge); let sev := en && ((s.src i).force || s.fb FLT_CNT.SEV i || decide (s.fltN i ≤ n)); let set := (if !en then 0 else if sev then s.f FLT_RCT.SEV i else s.f FLT_RCT.NORM i) ||| (if x = .THERM_SHUT then 16 else 0); set.testBit 2 = false)) ∧
    (∃ (i : Fin 128) (x : Src) (s : State), Src.ofId i = some x ∧ s.fb FLT_CNT.SEV i = true ∧ s.levelActive x = false ∧
      (s.src i).lastEvent + s.fltQ i ≤ s.now ∧ (s.src i).condEnd + s.fltQ i ≤ s.now) ∧
    (∃ (s : State), s.boot.marshal = true ∧ s.coll.halted = false ∧ s.blockReset = none ∧ s.coll.hb + 10000000 ≤ s.now) ∧
    (∃ (s : State), s.boot.marshal = true ∧ s.coll.halted = false) ∧
    (∃ (s : State) (a : Nat), s.coll.trapAt = some a ∧ s.coll.trapLate = false ∧ a + 1000000 ≤ s.now) ∧
    (∃ (s : State) (a : Nat), s.coll.trapAt = some a ∧ s.coll.trapHeld = false) ∧
    (∃ (s : State) (a : Nat), s.coll.trapAt = some a ∧ s.coll.trapHeld = true ∧ s.marshalOn = true) ∧
    (∃ (s : State), s.powered = true ∧ s.refLost = false) ∧
    (∃ (s : State), s.refLost = true) :=
  ⟨⟨{ live with coll := { srcs := ⟨[(0, { pend := some ⟨255, .lane, 2047, .hardware, .sense, 4096, 5, false, 1999999000⟩ })]⟩ } }, .FAST_LATCH,
      (⟨255, .lane, 2047, .hardware, .sense, 4096, 5, false, 1999999000⟩ : Evt), by decide, by decide⟩,
    ⟨({ live with coll := { srcs := ⟨[(0x61, { pend := some ⟨255, .lane, 2047, .hardware, .sense, 4096, 5, false, 1999999000⟩ })]⟩ } } : State).put FLT_RCT.EN 0x61 0,
      .THERM_SHUT, (⟨255, .lane, 2047, .hardware, .sense, 4096, 5, false, 1999999000⟩ : Evt), by decide, by decide⟩,
    ⟨0, .FAST_LATCH, ({ live with now := 10000000000 } : State).put FLT_CNT.SEV 0 1, by decide, by decide, by decide, by decide, by decide⟩,
    ⟨live, by decide, by decide, by decide, by decide⟩,
    ⟨live, by decide, by decide⟩,
    ⟨{ live with coll := { trapAt := some 1999000000 } }, 1999000000, by decide, by decide, by decide⟩,
    ⟨{ live with coll := { trapAt := some 1999000000 } }, 1999000000, by decide, by decide⟩,
    ⟨{ live with coll := { trapAt := some 1999000000, trapHeld := true } }, 1999000000, by decide, by decide, by decide⟩,
    ⟨live, by decide, by decide⟩,
    ⟨{ live with refLost := true }, by decide⟩⟩

theorem test_CollectorCommandsAndPatrol_hypotheses :
    (∃ (p : Port) (s : State), s.takes p .FLT_CTRL 0 (some 3)) ∧
    (∃ (p : Port) (s : State), s.takes p .FLT_CTRL 0 (some 3)) ∧
    (∃ (p : Port) (s : State), s.takes p .FLT_STATUS 0 none) ∧
    (∃ (p : Port) (s : State), s.takes p .FLT_LOG_CTRL 0 (some 3) ∧ (∃ (r : _) (rest : _), s.coll.log = r :: rest)) ∧
    (∃ (p : Port) (s : State), s.takes p .FLT_LOG_CTRL 0 (some 3) ∧ s.coll.log = []) ∧
    (∃ (s : State), s.marshalOn = true ∧ s.fb GAU_TSTAT.NVM_OK = true ∧ s.boot.copyAt + 1000000000 ≤ s.now ∧
      s.nvm.log.length + s.coll.fresh.length + 1 ≤ max 1 Config.logPerSector * s.logSectors) ∧
    (∃ (tid : Fin 16) (index : Nat) (s : State), (Instr.patrolRead tid index .clean).wellFormed = true ∧ s.tablesInit = true ∧
      s.badWords.contains (tid.val, index) = false) ∧
    (∃ (tid : Fin 16) (index : Nat) (s : State), (Instr.patrolRead tid index .clean).wellFormed = true ∧ s.tablesInit = true ∧
      s.badWords.contains (tid.val, index) = false) ∧
    (∃ (tid : Fin 16) (index : Nat) (s : State), (Instr.patrolRead tid index .clean).wellFormed = true ∧ s.tablesInit = true ∧
      s.badWords.contains (tid.val, index) = false) ∧
    (∃ (tid : Fin 16) (index : Nat) (s : State), (Instr.patrolRead tid index .clean).wellFormed = true ∧ s.tablesInit = true) ∧
    (∃ (n : Fin 256) (s : State), s.marshalOn = true ∧ s.coll.trapAt = none ∧ s.isPlaced n = true) :=
  ⟨⟨.A, live, by (unfold State.takes; decide)⟩,
    ⟨.A, (live).put QB_SEM.OWNER 3 1, by (unfold State.takes; decide)⟩,
    ⟨.B, { live with coll := { crstAt := some 5 } }, by (unfold State.takes; decide)⟩,
    ⟨.A, { live with coll := { log := [⟨69, true, true, 255, 7, 4294967295, 5, 5, 281474976710655, 63, true⟩] } }, by (unfold State.takes; decide),
      (⟨69, true, true, 255, 7, 4294967295, 5, 5, 281474976710655, 63, true⟩ : LogRec), ([] : List LogRec), by decide⟩,
    ⟨.B, live, by (unfold State.takes; decide), by decide⟩,
    ⟨live.put GAU_TSTAT.NVM_OK 0 1, by decide, by decide, by decide,
      by (have h := Nat.le_max_left 1 Config.logPerSector; show 1 ≤ max 1 Config.logPerSector * 64; omega)⟩,
    ⟨14, 111, live, by decide, by decide, by decide⟩,
    ⟨0, 4095, live, by decide, by decide, by decide⟩,
    ⟨14, 111, live, by decide, by decide, by decide⟩,
    ⟨14, 111, live, by decide, by decide⟩,
    ⟨255, live, by decide, by decide, by decide⟩⟩

theorem test_RelayLinksRiseAndFall_hypotheses :
    (∃ (p : Fin 5) (s : State), s.powered = true ∧ s.portOn p = true) ∧
    (∃ (p : Fin 5) (s : State), s.powered = true ∧ s.portOn p = true) ∧
    (∃ (p : Fin 5) (s : State), (s.port p).st = .TRAIN ∧ (s.port p).aligned = true ∧ (s.port p).since + 10000 ≤ s.now ∧ s.upper p = false ∧
      (s.port p).peer = none) ∧
    (∃ (p : Fin 5) (s : State), (s.port p).st = .TRAIN ∧ (s.port p).aligned = true ∧ (s.port p).since + 10000 ≤ s.now ∧ s.upper p = true ∧
      (s.port p).peer = none ∧ s.fb BOOT_STATUS.ENT_FAIL = false) ∧
    (∃ (p : Fin 5) (f : List Byte) (s : State), s.powered = true ∧ s.portOn p = true ∧ frameOk f = true ∧ byteAt f 0 = 2 ∧ (s.port p).st = .TRAIN) ∧
    (∃ (p : Fin 5) (f : List Byte) (s : State), s.powered = true ∧ s.portOn p = true ∧ frameOk f = true ∧ byteAt f 0 = 2 ∧ (s.port p).st = .HELLO ∧
      s.fb BOOT_STATUS.ENT_FAIL = false ∧ (s.upper p = true → (s.port p).own ≠ none)) ∧
    (∃ (p : Fin 5) (f : List Byte) (s : State), s.powered = true ∧ s.portOn p = true ∧ frameOk f = true ∧ byteAt f 0 = 2 ∧ (s.port p).st = .HELLO ∧
      s.fb BOOT_STATUS.ENT_FAIL = false ∧ (s.upper p = true → (s.port p).own ≠ none)) ∧
    (∃ (p : Fin 5) (s : State), let x := s.port p; x.st = .HELLO ∧ x.since + 1000000 ≤ s.now ∧ s.fb BOOT_STATUS.ENT_FAIL = false) ∧
    (∃ (p : Fin 5) (s : State), let x := s.port p; x.st = .REFUSED ∧ x.since + 10000000 ≤ s.now) ∧
    (∃ (p : Fin 5) (s : State), let x := s.port p; x.st = .UP ∧ ((x.aligned = false ∧ x.lostAt + 1000 ≤ s.now) ∨ x.lastData + 16000 ≤ s.now)) ∧
    (∃ (p : Fin 5) (s : State), let x := s.port p; x.st = .UP ∧ ((x.aligned = false ∧ x.lostAt + 1000 ≤ s.now) ∨ x.lastData + 16000 ≤ s.now)) ∧
    (∃ (p : Fin 5) (s : State), let x := s.port p; x.st = .UP ∧ ((x.aligned = false ∧ x.lostAt + 1000 ≤ s.now) ∨ x.lastData + 16000 ≤ s.now)) ∧
    (∃ (p : Fin 5) (s : State), let x := s.port p; x.st = .UP ∧ (2 ^ 32 - 65536 ≤ x.txSeq ∨ 2 ^ 32 - 65536 ≤ x.rx.high.getD 0)) ∧
    (∃ (p : Fin 5) (s : State), let x := s.port p; x.aligned = true) :=
  ⟨⟨4, live.tree 1 { ports := ⟨[]⟩ }, by decide, by decide⟩,
    ⟨0, live.tree 0 { ports := ⟨[(0, link)]⟩ }, by decide, by decide⟩,
    ⟨0, live.tree 0 { ports := ⟨[(0, { st := .TRAIN, aligned := true, since := 1999990000 })]⟩ }, by decide, by decide, by decide, by decide,
      by decide⟩,
    ⟨4, live.tree 1 { ports := ⟨[(4, { st := .TRAIN, aligned := true, since := 1999990000 })]⟩ }, by decide, by decide, by decide, by decide,
      by decide, by decide⟩,
    ⟨4, 2#8 :: List.replicate 63 0#8, live.tree 1 { ports := ⟨[(4, { st := .TRAIN, aligned := true })]⟩ }, by decide, by decide, by decide, by decide,
      by decide⟩,
    ⟨1, 2#8 :: List.replicate 63 0#8, live.tree 1 { ports := ⟨[(1, { st := .HELLO, aligned := true, own := some ⟨9, 7#128, 3, 2, 0, 1⟩ })]⟩ },
      by decide, by decide, by decide, by decide, by decide, by decide, by decide⟩,
    ⟨0, 2#8 :: List.replicate 63 0#8, live.tree 0 { ports := ⟨[(0, { st := .HELLO, aligned := true })]⟩ }, by decide, by decide, by decide, by decide,
      by decide, by decide, by decide⟩,
    ⟨4, live.tree 1 { ports := ⟨[(4, { st := .HELLO, since := 1999000000 })]⟩ }, by decide, by decide, by decide⟩,
    ⟨4, live.tree 1 { ports := ⟨[(4, { st := .REFUSED, since := 1990000000 })]⟩ }, by decide, by decide⟩,
    ⟨4, live.tree 1 { ports := ⟨[(4, { link with lastData := 1999984000 })]⟩ }, by decide, by decide⟩,
    ⟨0, live.tree 0 { ports := ⟨[(0, { link with aligned := false, lostAt := 1999999000 })]⟩ }, by decide, by decide⟩,
    ⟨1, live.paired 1 { ports := ⟨[(1, { link with lastData := 1999984000 }), (2, link)]⟩ }, by decide, by decide⟩,
    ⟨1, live.tree 1 { ports := ⟨[(1, { link with txSeq := 4294901760 })]⟩ }, by decide, by decide⟩,
    ⟨0, live.tree 0 { ports := ⟨[(0, link)]⟩ }, by decide⟩⟩

theorem test_RelayFramesAndKeys_hypotheses :
    (∃ (p : Fin 5) (f : List Byte) (s : State) (h : RHello) (k : Nat × BitVec 256), s.powered = true ∧ s.portOn p = true ∧ frameOk f = true ∧ byteAt f 0 = 1 ∧ (s.port p).st = .UP ∧ (s.port p).peer = some h ∧ (s.port p).keys.find? (fun k => k.1 % 256 = byteAt f 1) = some k ∧ (let q := leAt f 4 4; s.f RLY_PERR.TAG p < 255 ∧ s.f RLY_PERR.REPLAY p < 255)) ∧
    (∃ (p : Fin 5) (s : State) (k : Nat × BitVec 256), (s.port p).st = .UP ∧ (s.port p).keys.find? (fun k => k.1 = (s.port p).txE) = some k ∧
      (s.port p).lastSent + 500 ≤ s.now) ∧
    (∃ (p : Fin 5) (s : State) (k : Nat × BitVec 256), (s.port p).st = .UP ∧ (s.port p).keys.find? (fun k => k.1 = (s.port p).txE) = some k ∧
      (s.port p).unacked ≠ [] ∧ (s.port p).ackAt + 4000 ≤ s.now) ∧
    (∃ (p : Fin 5) (s : State), s.isUp p = true ∧ s.upper p = true ∧ (s.port p).rekey = none ∧
      (2 ^ 31 ≤ (s.port p).txSeq ∨ 2 ^ 31 ≤ (s.port p).rx.high.getD 0)) ∧
    (∃ (p : Fin 5) (s : State), s.isUp p = true ∧ s.upper p = true ∧ (s.port p).rekey = none ∧ (∃ (q : Port), s.takes q .RLY_CTRL 0 (some 11))) ∧
    (∃ (p : Fin 5) (s : State) (w : RWindow) (left : Nat) (fin : Nat), (s.port p).old = some (w, left, fin) ∧ (left = 0 ∨ fin ≤ s.now)) ∧
    (∃ (p : Fin 5) (body : BitVec 272) (s : State) (h : RHello), (s.port p).peer = some h ∧ s.upper p = false ∧ s.isUp p = true ∧
      bf body 16 4 = (s.port p).txE + 1) ∧
    (∃ (p : Fin 5) (body : BitVec 272) (s : State) (h : RHello) (n : BitVec 128), (s.port p).peer = some h ∧ (s.port p).rekey = some n ∧
      s.isUp p = true ∧ bf body 16 4 = (s.port p).txE + 1) :=
  ⟨⟨4, 1#8 :: List.replicate 63 0#8, live.tree 1 { ports := ⟨[(4, link)]⟩ }, (⟨9, 7#128, 3, 2, 0, 1⟩ : RHello), (0, 5#256), by decide, by decide,
      by decide, by decide, by decide, by decide, by decide, by decide, by decide⟩,
    ⟨4, live.tree 1 { ports := ⟨[(4, link)]⟩ }, (0, 5#256), by decide, by decide, by decide⟩,
    ⟨4, live.tree 1 { ports := ⟨[(4, { link with unacked := [(65535, ⟨0x04, true, 5#272⟩)], ackAt := 1999996000 })]⟩ }, (0, 5#256), by decide,
      by decide, by decide, by decide⟩,
    ⟨1, live.tree 1 { ports := ⟨[(1, { link with txSeq := 2147483648 })]⟩ }, by decide, by decide, by decide, by decide⟩,
    ⟨1, live.tree 1 { ports := ⟨[(1, link)]⟩ }, by decide, by decide, by decide, .A, by (unfold State.takes; decide)⟩,
    ⟨1,
      live.tree 1 { ports := ⟨[(1, { link with old := some (({ epoch := 3 } : RWindow), 0, 2000000001), keys := [(3, 1#256), (4, 5#256)], txE := 4 })]⟩ },
      ({ epoch := 3 } : RWindow), 0, 2000000001, by decide, by decide⟩,
    ⟨0, BitVec.ofNat 272 (2 ^ 128), live.tree 0 { ports := ⟨[(0, link)]⟩ }, (⟨9, 7#128, 3, 2, 0, 1⟩ : RHello), by decide, by decide, by decide,
      by decide⟩,
    ⟨1, BitVec.ofNat 272 (2 ^ 128), live.tree 1 { ports := ⟨[(1, { link with rekey := some 5#128 })]⟩ }, (⟨9, 7#128, 3, 2, 0, 1⟩ : RHello), 5#128,
      by decide, by decide, by decide, by decide⟩⟩

theorem test_CascadeMessagesAct_hypotheses :
    (∃ (s : State) (key : BitVec 256), s.hasParent = true ∧ s.sends 0 key) ∧
    (∃ (s : State), s.isMaster = false) ∧
    (∃ (body : BitVec 272) (s : State), let src := bf body 0 1; s.isMaster = true ∧ 1 ≤ src ∧ src ≤ 4) ∧
    (∃ (body : BitVec 272) (s : State), let src := bf body 0 1; s.isMaster = true ∧ 1 ≤ src ∧ src ≤ 4) ∧
    (∃ (body : BitVec 272) (s : State), s.roomOut 1 = true) ∧
    (∃ (body : BitVec 272) (s : State), s.roomOut 1 = true) ∧
    (∃ (s : State), s.isMaster = true) ∧
    (∃ (s : State) (key : _), s.isMaster = false ∧ s.hasParent = true ∧ s.sends 0 key) ∧
    (∃ (body : BitVec 272) (s : State), let rel := bf body 0 6; let k := bf body 6 1; s.isMaster = true ∧ maxN ((s.relay.delays.filter (fun x => x.1 = rel)).map (fun x => x.2)) < k) ∧
    (∃ (s : State) (key : _), s.isMaster = false ∧ s.hasParent = true ∧ s.sends 0 key) ∧
    (∃ (s : State) (key : _), s.isMaster = false ∧ s.hasParent = true ∧ s.sends 0 key) ∧
    (∃ (body : BitVec 272) (s : State), s.isMaster = true ∧ bf body 3 1 = 1) ∧
    (∃ (s : State), s.hasParent = true ∧ s.powered = true ∧ (s.port 0).st = .DOWN ∧ (s.port 0).since + 100000 ≤ s.now ∧
      s.fb RLY_STATUS.ACTING = false) :=
  ⟨⟨live.tree 0 { ports := ⟨[(0, link)]⟩ }, 5#256, by decide, by (unfold State.sends; decide)⟩,
    ⟨live.tree 0 { ports := ⟨[(0, link)]⟩ }, by decide⟩,
    ⟨BitVec.ofNat 272 (mkBody [(4, 1), (4160, 6), (65535, 2), (3, 2)]), live.tree 1 { ports := ⟨[(4, link)]⟩ }, by decide, by decide, by decide⟩,
    ⟨BitVec.ofNat 272 (mkBody [(1, 1), (0, 6), (15360, 2), (3, 2)]), live.tree 1 { ports := ⟨[(1, link), (4, link)]⟩ }, by decide, by decide,
      by decide⟩,
    ⟨BitVec.ofNat 272 (mkBody [(4160, 6), (5000, 2)]), live.tree 0 { ports := ⟨[(0, link), (1, link)]⟩ }, by decide⟩,
    ⟨BitVec.ofNat 272 (mkBody [(4096, 6), (5000, 2)]), live.tree 0 { ports := ⟨[(0, link), (1, link)]⟩ }, by decide⟩,
    ⟨live.tree 1 { ports := ⟨[(4, link)]⟩ }, by decide⟩,
    ⟨live.tree 0 { ports := ⟨[(0, link)]⟩ }, 5#256, by decide, by decide, by (unfold State.sends; decide)⟩,
    ⟨BitVec.ofNat 272 (mkBody [(4200, 6), (255, 1)]), live.tree 1 { ports := ⟨[(4, link)]⟩, delays := [(4200, 254), (4300, 255)] }, by decide,
      by decide⟩,
    ⟨live.tree 0 { ports := ⟨[(0, link)]⟩ }, 5#256, by decide, by decide, by (unfold State.sends; decide)⟩,
    ⟨live.tree 0 { ports := ⟨[(0, link)]⟩ }, 5#256, by decide, by decide, by (unfold State.sends; decide)⟩,
    ⟨BitVec.ofNat 272 (mkBody [(3, 2), (255, 1), (1, 1)]), live.tree 1 { ports := ⟨[(4, link)]⟩ }, by decide, by decide⟩,
    ⟨live.tree 0 { ports := ⟨[(0, { since := 1999900000 })]⟩ }, by decide, by decide, by decide, by decide, by decide⟩⟩

theorem test_PairCommandsAct_hypotheses :
    (∃ (p : Fin 5) (s : State), s.pairPorts.contains p.val = true) ∧
    (∃ (s : State) (p : Nat) (key : BitVec 256), s.inPair = true ∧ s.pairSt = 1 ∧ s.pairPorts.find? s.isUp = some p ∧ s.sends p key) ∧
    (∃ (body : BitVec 272) (s : State), s.inPair = true ∧ s.standby = true ∧ bf body 0 6 = s.relay.digestAt ∧ (let same := BitVec.ofNat 128 (bf body 6 16) = s.relay.digest; same)) ∧
    (∃ (body : BitVec 272) (s : State), s.inPair = true ∧ s.standby = true ∧ bf body 0 6 = s.relay.digestAt ∧ (let same := BitVec.ofNat 128 (bf body 6 16) = s.relay.digest; ¬same ∧ s.relay.differ = 0)) ∧
    (∃ (body : BitVec 272) (s : State), s.inPair = true ∧ s.standby = true ∧ bf body 0 6 = s.relay.digestAt ∧ (let same := BitVec.ofNat 128 (bf body 6 16) = s.relay.digest; ∃ (q : _), ¬same ∧ s.relay.differ ≠ 0 ∧ s.pairPorts.find? s.isUp = some q)) ∧
    (∃ (body : BitVec 272) (s : State), s.inPair = true ∧ (∃ (q : _), bf body 0 1 = 0 ∧ s.pairSt = 1 ∧ s.pairPorts.find? s.isUp = some q)) ∧
    (∃ (body : BitVec 272) (s : State), s.inPair = true ∧ bf body 0 1 = 1 ∧ s.standby = true) ∧
    (∃ (body : BitVec 272) (s : State), s.inPair = true ∧ bf body 0 1 = 2 ∧ s.standby = true) ∧
    (∃ (q : Port) (s : State) (p : Nat), s.takes q .RLY_CTRL 0 (some 11) ∧ s.standby = true ∧ s.pairPorts.find? s.isUp = some p) ∧
    (∃ (s : State), s.inPair = true ∧ s.powered = true ∧ s.relay.hbLost = false ∧ s.relay.waitFrame = false ∧ s.relay.fenced = false ∧
      maxN (s.pairPorts.map (fun p => (s.port p).lastData)) + 1000 * clampN 1 4 (s.f RLY_CFG.HB_TO) ≤ s.now ∧ s.pairSt = 1) ∧
    (∃ (s : State), s.inPair = true ∧ s.powered = true ∧ s.relay.hbLost = false ∧ s.relay.waitFrame = false ∧ s.relay.fenced = false ∧
      maxN (s.pairPorts.map (fun p => (s.port p).lastData)) + 1000 * clampN 1 4 (s.f RLY_CFG.HB_TO) ≤ s.now ∧ s.standby = true ∧ s.blockReset = none) ∧
    (∃ (s : State), s.inPair = true ∧ s.powered = true ∧ s.relay.hbLost = false ∧ s.relay.waitFrame = false ∧ s.relay.fenced = false ∧
      maxN (s.pairPorts.map (fun p => (s.port p).lastData)) + 1000 * clampN 1 4 (s.f RLY_CFG.HB_TO) ≤ s.now ∧ s.standby = true ∧ s.blockReset = none) ∧
    (∃ (s : State), s.inPair = true ∧ s.powered = true ∧ s.relay.fenced = false) ∧
    (∃ (s : State) (a : _), s.relay.fence = some a ∧ a + 1000 ≤ s.now) ∧
    (∃ (s : State), s.relay.fence = none ∧ s.relay.fenced = true) ∧
    (∃ (q : Port) (s : State), s.takes q .RLY_CTRL 0 (some 11) ∧ s.pairSt = 1 ∧ s.relay.peerSt = 2) ∧
    (∃ (q : Port) (s : State), s.takes q .RLY_CTRL 0 (some 11) ∧ ¬(s.pairSt = 1 ∧ s.relay.peerSt = 2) ∧ s.relay.switching = false) ∧
    (∃ (s : State), s.inPair = true ∧ s.standby = true) :=
  ⟨⟨2, live.paired 1 { ports := ⟨[(1, link), (2, link)]⟩ }, by decide⟩,
    ⟨live.paired 1 { ports := ⟨[(1, link), (2, link)]⟩ }, 1, 5#256, by decide, by decide, by decide, by (unfold State.sends; decide)⟩,
    ⟨BitVec.ofNat 272 (mkBody [(4096, 6), (99, 16)]),
      live.paired 2 { ports := ⟨[(1, link), (2, link)]⟩, digestAt := 4096, digest := 99#128, differ := 1 }, by decide, by decide, by decide,
      by decide⟩,
    ⟨BitVec.ofNat 272 (mkBody [(4096, 6), (98, 16)]), live.paired 2 { ports := ⟨[(1, link), (2, link)]⟩, digestAt := 4096, digest := 99#128 },
      by decide, by decide, by decide, by decide, by decide⟩,
    ⟨BitVec.ofNat 272 (mkBody [(4096, 6), (98, 16)]),
      live.paired 2 { ports := ⟨[(1, link), (2, link)]⟩, digestAt := 4096, digest := 99#128, differ := 1 }, by decide, by decide, by decide, 1,
      by decide, by decide, by decide⟩,
    ⟨BitVec.ofNat 272 (mkBody [(0, 1)]), live.paired 1 { ports := ⟨[(1, link), (2, link)]⟩ }, by decide, 1, by decide, by decide, by decide⟩,
    ⟨BitVec.ofNat 272 (mkBody [(1, 1), (7, 4), (9, 16)]), live.paired 3 { ports := ⟨[(1, link), (2, link)]⟩ }, by decide, by decide, by decide⟩,
    ⟨BitVec.ofNat 272 (mkBody [(2, 1), (5120, 6)]), live.paired 3 { ports := ⟨[(1, link), (2, link)]⟩ }, by decide, by decide, by decide⟩,
    ⟨.A, live.paired 2 { ports := ⟨[(1, link), (2, link)]⟩ }, 1, by (unfold State.takes; decide), by decide, by decide⟩,
    ⟨live.paired 1 { ports := ⟨[(1, link), (2, link)]⟩ }, by decide, by decide, by decide, by decide, by decide, by decide, by decide⟩,
    ⟨live.paired 2 { ports := ⟨[(1, link), (2, link)]⟩ }, by decide, by decide, by decide, by decide, by decide, by decide, by decide, by decide⟩,
    ⟨live.paired 3 { ports := ⟨[(1, link), (2, link)]⟩ }, by decide, by decide, by decide, by decide, by decide, by decide, by decide, by decide⟩,
    ⟨live.paired 1 { ports := ⟨[(1, link), (2, link)]⟩ }, by decide, by decide, by decide⟩,
    ⟨live.paired 1 { ports := ⟨[(1, link), (2, link)]⟩, fence := some 1999999000 }, 1999999000, by decide, by decide⟩,
    ⟨live.paired 2 { ports := ⟨[(1, link), (2, link)]⟩, fenced := true }, by decide, by decide⟩,
    ⟨.A, live.paired 1 { ports := ⟨[(1, link), (2, link)]⟩, peerSt := 2 }, by (unfold State.takes; decide), by decide, by decide⟩,
    ⟨.B, live.paired 1 { ports := ⟨[(1, link), (2, link)]⟩, peerSt := 3 }, by (unfold State.takes; decide), by decide, by decide⟩,
    ⟨live.paired 2 { ports := ⟨[(1, link), (2, link)]⟩ }, by decide, by decide⟩⟩

theorem test_CreditMessagesAct_hypotheses :
    (∃ (p : Fin 5) (body : BitVec 272) (s : State), let id := bf body 0 2; let boot := bf body 2 2; let g := bf body 4 1 * s.f RLY_CR_CFG.UNIT; let granted := sumN (s.relay.granted.map (fun x => x.2)); (id ≠ s.f RLY_PPEER.PEER p ∨ (s.port p).lastBoot = none ∨ (s.port p).lastBoot = some boot) ∧ s.f RLY_CFG.ROLE = 1 ∧ s.creditCfg = true ∧ s.relay.granted.find? (fun x => x.1 = id) = none ∧ granted + g ≤ 1000 * s.f RLY_GRP_BUDGET.B) ∧
    (∃ (p : Fin 5) (body : BitVec 272) (s : State), let id := bf body 0 2; let boot := bf body 2 2; let g := bf body 4 1 * s.f RLY_CR_CFG.UNIT; let granted := sumN (s.relay.granted.map (fun x => x.2)); (id ≠ s.f RLY_PPEER.PEER p ∨ (s.port p).lastBoot = none ∨ (s.port p).lastBoot = some boot) ∧ s.f RLY_CFG.ROLE = 1 ∧ s.creditCfg = true ∧ s.relay.granted.find? (fun x => x.1 = id) = none ∧ 1000 * s.f RLY_GRP_BUDGET.B < granted + g) ∧
    (∃ (p : Fin 5) (body : BitVec 272) (s : State), let id := bf body 0 2; let boot := bf body 2 2; (id ≠ s.f RLY_PPEER.PEER p ∨ (s.port p).lastBoot = none ∨ (s.port p).lastBoot = some boot) ∧ s.f RLY_CFG.ROLE = 0 ∧ s.hasParent = true ∧ s.isUp 0 = true) ∧
    (∃ (s : State) (rest : List Nat) (k : _), k < 5 ∧ s.relay.joinq = k :: rest) ∧
    (∃ (s : State) (rest : List Nat), (s.relay.joinq = 5 :: rest ∨ s.relay.joinq = []) ∧ s.relay.credit = false ∧ s.creditCfg = true) ∧
    (∃ (s : State) (rest : List Nat), (s.relay.joinq = 5 :: rest ∨ s.relay.joinq = []) ∧ s.relay.credit = false ∧ s.creditCfg = true) ∧
    (∃ (body : BitVec 272) (s : State), s.relay.credit = true ∧ s.led.logRoom = true ∧ (let x := min (bf body 0 4) (s.led.pool - 1000 * (s.f RLY_CR_CFG.RESERVE : Int)).toNat; 0 < x)) ∧
    (∃ (body : BitVec 272) (s : State), s.relay.credit = true ∧ s.led.logRoom = true ∧ s.crEntry (bf body 0 4) false = none) ∧
    (∃ (body : BitVec 272) (s : State) (e : CrEntry), s.crEntry (bf body 0 4) true = some e ∧ e.phase = .prepared) ∧
    (∃ (body : BitVec 272) (s : State) (e : CrEntry), s.crEntry (bf body 0 4) true = some e ∧ e.phase = .committed) ∧
    (∃ (body : BitVec 272) (s : State) (e : CrEntry), s.crEntry (bf body 0 4) true = some e ∧ e.phase = .aborted) ∧
    (∃ (body : BitVec 272) (s : State) (e : CrEntry), s.crEntry (bf body 0 4) true = some e ∧ e.phase = .committed) ∧
    (∃ (body : BitVec 272) (s : State) (e : CrEntry), s.crEntry (bf body 0 4) false = some e ∧ e.phase = .prepared) ∧
    (∃ (body : BitVec 272) (s : State) (e : CrEntry), s.crEntry (bf body 0 4) false = some e ∧ e.phase = .prepared) ∧
    (∃ (s : State) (e : CrEntry) (tid : Nat), s.crEntry tid true = some e ∧ e.phase = .prepared ∧ e.at_ + 1000000 ≤ s.now) :=
  ⟨⟨4, BitVec.ofNat 272 (mkBody [(9, 2), (5, 2), (1, 1)]),
      ((live.tree 1 { ports := ⟨[(4, link)]⟩ }).put RLY_CFG.CREDIT 0 1).put RLY_GRP_BUDGET.B 0 100, by decide, by decide, by decide, by decide,
      by decide⟩,
    ⟨4, BitVec.ofNat 272 (mkBody [(9, 2), (5, 2), (1, 1)]),
      ((live.tree 1 { ports := ⟨[(4, link)]⟩, granted := [(8, 1)] }).put RLY_CFG.CREDIT 0 1).put RLY_CR_CFG.UNIT 0 100, by decide, by decide,
      by decide, by decide, by decide⟩,
    ⟨4, BitVec.ofNat 272 (mkBody [(9, 2), (5, 2), (1, 1)]), (live.tree 0 { ports := ⟨[(0, link), (4, link)]⟩ }).put RLY_CFG.CREDIT 0 1, by decide,
      by decide, by decide, by decide⟩,
    ⟨(live.tree 0 { ports := ⟨[(0, link), (4, link)]⟩, joinq := [4, 5] }).put RLY_CFG.CREDIT 0 1, [5], 4, by decide, by decide⟩,
    ⟨(live.tree 0 { ports := ⟨[(0, link)]⟩, joinq := [5, 2] }).put RLY_CFG.CREDIT 0 1, [2], by decide, by decide, by decide⟩,
    ⟨(live.tree 0 { ports := ⟨[(0, link)]⟩ }).put RLY_CFG.CREDIT 0 1, [], by decide, by decide, by decide⟩,
    ⟨BitVec.ofNat 272 (mkBody [(5000, 4)]),
      { (live.tree 1 { ports := ⟨[(4, link), (0, link)]⟩, credit := true }).put RLY_CFG.CREDIT 0 1 with led := { log := [], pool := 3000 } },
      by decide, by decide, by decide⟩,
    ⟨BitVec.ofNat 272 (mkBody [(77, 4), (5000, 4)]),
      { (live.tree 1 { ports := ⟨[(4, link), (0, link)]⟩, credit := true }).put RLY_CFG.CREDIT 0 1 with led := { log := [] } }, by decide, by decide,
      by decide⟩,
    ⟨BitVec.ofNat 272 (mkBody [(77, 4), (5000, 4)]),
      { (live.tree 1 { ports := ⟨[(4, link), (0, link)]⟩, credit := true }).put RLY_CFG.CREDIT 0 1 with led := { log := [(⟨77, true, 4, .prepared, 5000, 4000, false, 1999000000⟩ : CrEntry)], pool := 3000, escOut := 5000, escIn := 5000 } },
      (⟨77, true, 4, .prepared, 5000, 4000, false, 1999000000⟩ : CrEntry), by decide, by decide⟩,
    ⟨BitVec.ofNat 272 (mkBody [(77, 4), (5000, 4)]),
      { (live.tree 1 { ports := ⟨[(4, link), (0, link)]⟩, credit := true }).put RLY_CFG.CREDIT 0 1 with led := { log := [(⟨77, true, 4, .committed, 5000, 4000, false, 1999000000⟩ : CrEntry)], pool := 3000, escOut := 5000, escIn := 5000 } },
      (⟨77, true, 4, .committed, 5000, 4000, false, 1999000000⟩ : CrEntry), by decide, by decide⟩,
    ⟨BitVec.ofNat 272 (mkBody [(77, 4), (5000, 4)]),
      { (live.tree 1 { ports := ⟨[(4, link), (0, link)]⟩, credit := true }).put RLY_CFG.CREDIT 0 1 with led := { log := [(⟨77, true, 4, .aborted, 5000, 4000, false, 1999000000⟩ : CrEntry)], pool := 3000, escOut := 5000, escIn := 5000 } },
      (⟨77, true, 4, .aborted, 5000, 4000, false, 1999000000⟩ : CrEntry), by decide, by decide⟩,
    ⟨BitVec.ofNat 272 (mkBody [(77, 4), (5000, 4)]),
      { (live.tree 1 { ports := ⟨[(4, link), (0, link)]⟩, credit := true }).put RLY_CFG.CREDIT 0 1 with led := { log := [(⟨77, true, 4, .committed, 5000, 4000, false, 1999000000⟩ : CrEntry)], pool := 3000, escOut := 5000, escIn := 5000 } },
      (⟨77, true, 4, .committed, 5000, 4000, false, 1999000000⟩ : CrEntry), by decide, by decide⟩,
    ⟨BitVec.ofNat 272 (mkBody [(77, 4), (5000, 4)]),
      { (live.tree 1 { ports := ⟨[(4, link), (0, link)]⟩, credit := true }).put RLY_CFG.CREDIT 0 1 with led := { log := [(⟨77, false, 4, .prepared, 5000, 4000, false, 1999000000⟩ : CrEntry)], pool := 3000, escOut := 5000, escIn := 5000 } },
      (⟨77, false, 4, .prepared, 5000, 4000, false, 1999000000⟩ : CrEntry), by decide, by decide⟩,
    ⟨BitVec.ofNat 272 (mkBody [(77, 4), (5000, 4)]),
      { (live.tree 1 { ports := ⟨[(4, link), (0, link)]⟩, credit := true }).put RLY_CFG.CREDIT 0 1 with led := { log := [(⟨77, false, 4, .prepared, 5000, 4000, false, 1999000000⟩ : CrEntry)], pool := 3000, escOut := 5000, escIn := 5000 } },
      (⟨77, false, 4, .prepared, 5000, 4000, false, 1999000000⟩ : CrEntry), by decide, by decide⟩,
    ⟨{ (live.tree 1 { ports := ⟨[(4, link), (0, link)]⟩, credit := true }).put RLY_CFG.CREDIT 0 1 with led := { log := [(⟨77, true, 4, .prepared, 5000, 4000, false, 1999000000⟩ : CrEntry)], escOut := 5000 } },
      (⟨77, true, 4, .prepared, 5000, 4000, false, 1999000000⟩ : CrEntry), 77, by decide, by decide, by decide⟩⟩

theorem test_MailboxReadsAnswer_hypotheses :
    (∃ (p : Port) (s : State), s.asks p 0x01) ∧
    (∃ (p : Port) (s : State), s.asks p 0x02) ∧
    (∃ (p : Port) (s : State), s.asks p 0x40 ∧ s.nvm.log ≠ []) ∧
    (∃ (p : Port) (s : State), s.asks p 0x40 ∧ s.nvm.log = []) ∧
    (∃ (p : Port) (s : State), s.asks p 0x41 ∧ (∃ (r : LogRec) (boot : Nat) (rest : List LogEnt), s.nvm.logFirst ≤ s.mbxWord p 1 ∧
      s.nvm.log.drop (s.mbxWord p 1 - s.nvm.logFirst) = .stored r boot :: rest)) ∧
    (∃ (p : Port) (s : State), s.asks p 0x41 ∧ (s.mbxWord p 1 < s.nvm.logFirst ∨ s.nvm.logFirst + s.nvm.log.length ≤ s.mbxWord p 1)) ∧
    (∃ (p : Port) (s : State), s.asks p 0x41 ∧ (s.mbxWord p 1 < s.nvm.logFirst ∨ s.nvm.logFirst + s.nvm.log.length ≤ s.mbxWord p 1)) ∧
    (∃ (p : Port) (s : State) (e : CrEntry), s.asks p 0x42 ∧ s.creditCfg = true ∧ s.led.log[s.mbxWord p 1 % 256]? = some e) ∧
    (∃ (p : Port) (s : State) (cmd : Nat), s.asks p cmd ∧
      cmd ∉ [0x01, 0x02, 0x10, 0x11, 0x12, 0x13, 0x14, 0x15, 0x20, 0x21, 0x22, 0x30, 0x31, 0x40, 0x41, 0x42, 0x60, 0x61, 0x62, 0x63]) ∧
    (∃ (p : Port) (s : State) (cmd : Nat), s.asks p cmd ∧
      cmd ∉ [0x01, 0x02, 0x10, 0x11, 0x12, 0x13, 0x14, 0x15, 0x20, 0x21, 0x22, 0x30, 0x31, 0x40, 0x41, 0x42, 0x60, 0x61, 0x62, 0x63]) ∧
    (∃ (p : Port) (s : State), s.asks p 0x22) ∧
    (∃ (p : Port) (s : State), s.host.busy.head? = some p.ix ∧ s.f QB_MBX_STATUS.STATE p.ix = 1 ∧ s.mbxCmd p = 2 ∧ s.powered = true ∧
      (s.blockReset ≠ none ∨ s.stage = 8) ∧ s.stage ≠ 10) ∧
    (∃ (p : Port) (s : State), s.host.busy.head? = some p.ix ∧ s.f QB_MBX_STATUS.STATE p.ix = 1 ∧ s.mbxCmd p = 2 ∧ s.powered = true ∧
      (s.blockReset ≠ none ∨ s.stage = 8) ∧ s.stage ≠ 10) ∧
    (∃ (p : Port) (s : State), s.host.busy.head? = some p.ix ∧ s.f QB_MBX_STATUS.STATE p.ix = 1 ∧ s.mbxCmd p = 2 ∧ s.powered = true ∧
      (∃ (x : _), s.boot.pause = some x ∧ s.blockReset = none ∧ s.stage = 9 ∧ s.boot.marshal = true ∧ s.coll.halted = false)) ∧
    (∃ (p : Port) (s : State), s.host.busy.head? = some p.ix ∧ s.f QB_MBX_STATUS.STATE p.ix = 1 ∧ s.mbxCmd p = 2 ∧ s.powered = true ∧
      (∃ (a : _), s.coll.trapAt = some a ∧ s.blockReset = none ∧ s.stage = 7 ∧ s.marshalOn = true)) ∧
    (∃ (p : Port) (s : State), s.host.busy.head? = some p.ix ∧ s.f QB_MBX_STATUS.STATE p.ix = 1 ∧ s.mbxCmd p = 2 ∧ s.powered = true ∧
      (∃ (x : _), s.led.scrub = some x ∧ s.coll.trapAt = none ∧ s.blockReset = none ∧ s.stage = 7 ∧ s.marshalOn = true)) ∧
    (∃ (p : Port) (s : State), s.host.busy.head? = some p.ix ∧ s.f QB_MBX_STATUS.STATE p.ix = 1 ∧ s.mbxCmd p = 2 ∧ s.powered = true ∧
      s.standby = true ∧ s.led.scrub = none ∧ s.coll.trapAt = none ∧ s.blockReset = none ∧ s.stage = 7 ∧ s.marshalOn = true) :=
  ⟨⟨.A, live.askA [0x01], by (unfold State.asks; decide)⟩,
    ⟨.A, live.askA [0x02, 1, 2, 3, 4, 5, 6, 7, 8, 9, 10, 11, 12, 13, 14, 15], by (unfold State.asks; decide)⟩,
    ⟨.A,
      ({ live with nvm := { log := [.loss 5, .stored ⟨69, true, true, 255, 7, 4294967295, 5, 5, 281474976710655, 63, true⟩ 7], logFirst := 100 } } : State).askA [0x40],
      by (unfold State.asks; decide), by decide⟩,
    ⟨.A, live.askA [0x40], by (unfold State.asks; decide), by decide⟩,
    ⟨.A,
      ({ live with nvm := { log := [.loss 5, .stored ⟨69, true, true, 255, 7, 4294967295, 5, 5, 281474976710655, 63, true⟩ 7], logFirst := 100 } } : State).askA [0x41, 101],
      by (unfold State.asks; decide), ⟨69, true, true, 255, 7, 4294967295, 5, 5, 281474976710655, 63, true⟩, 7, [], by decide, by decide⟩,
    ⟨.A,
      ({ live with nvm := { log := [.loss 5, .stored ⟨69, true, true, 255, 7, 4294967295, 5, 5, 281474976710655, 63, true⟩ 7], logFirst := 100 } } : State).askA [0x41, 102],
      by (unfold State.asks; decide), by decide⟩,
    ⟨.A,
      ({ live with nvm := { log := [.loss 5, .stored ⟨69, true, true, 255, 7, 4294967295, 5, 5, 281474976710655, 63, true⟩ 7], logFirst := 100 } } : State).askA [0x41, 99],
      by (unfold State.asks; decide), by decide⟩,
    ⟨.A,
      ({ (live.tree 1 { ports := ⟨[(4, link), (0, link)]⟩, credit := true }).put RLY_CFG.CREDIT 0 1 with led := { log := [(⟨77, true, 4, .committed, 5000, 4000, false, 1999000000⟩ : CrEntry)] } } : State).askA [0x42, 0],
      (⟨77, true, 4, .committed, 5000, 4000, false, 1999000000⟩ : CrEntry), by (unfold State.asks; decide), by decide, by decide⟩,
    ⟨.A, live.askA [0x03], 3, by (unfold State.asks; decide), by decide⟩,
    ⟨.A, live.askA [0xFF], 255, by (unfold State.asks; decide), by decide⟩,
    ⟨.A, live.askA [0x22, 128], by (unfold State.asks; decide)⟩,
    ⟨.A, ({ live with blockReset := some 5 } : State).askA [0x02], by decide, by decide, by decide, by decide, by decide, by decide⟩,
    ⟨.A, (live.put BOOT_STATUS.STAGE 0 8).askA [0x02], by decide, by decide, by decide, by decide, by decide, by decide⟩,
    ⟨.A,
      (({ live with boot := { live.boot with pause := some ⟨1999000000, 0, 0, false, false, none⟩ } } : State).put BOOT_STATUS.STAGE 0 9).askA [0x02],
      by decide, by decide, by decide, by decide, (⟨1999000000, 0, 0, false, false, none⟩ : Pause), by decide, by decide, by decide, by decide,
      by decide⟩,
    ⟨.A, ({ live with coll := { trapAt := some 5 } } : State).askA [0x02], by decide, by decide, by decide, by decide, 5, by decide, by decide,
      by decide, by decide⟩,
    ⟨.A, ({ live with led := { scrub := some ⟨5, 1999000000, 2, false⟩ } } : State).askA [0x02], by decide, by decide, by decide, by decide,
      (⟨5, 1999000000, 2, false⟩ : Scrub), by decide, by decide, by decide, by decide, by decide⟩,
    ⟨.A, (live.paired 2 { ports := ⟨[(1, link), (2, link)]⟩ }).askA [0x02], by decide, by decide, by decide, by decide, by decide, by decide,
      by decide, by decide, by decide, by decide⟩⟩

theorem test_UpdateSessionRuns_hypotheses :
    (∃ (p : Port) (s : State), s.takes p .BOOT_UPD_DATA 0 (some 0) ∧ s.boot.stageIx ≤ 1023) ∧
    (∃ (p : Port) (s : State), s.takes p .BOOT_UPD_DATA 0 (some 0) ∧ 1023 < s.boot.stageIx) ∧
    (∃ (p : Port) (s : State) (first : Nat) (room : Nat), s.asks p 0x10 ∧ s.f QB_SEM.OWNER 0 = p.ix + 1 ∧ s.boot.updOpen = false ∧ (let kind := s.mbxWord p 1 % 8; let pages := s.mbxWord p 1 / 65536 % 1024 + 1; 1 ≤ kind ∧ kind ≤ 4 ∧ s.updTarget kind = some (first, room) ∧ pages ≤ room)) ∧
    (∃ (p : Port) (s : State) (first : Nat) (room : Nat), s.asks p 0x10 ∧ s.f QB_SEM.OWNER 0 = p.ix + 1 ∧ s.boot.updOpen = false ∧ (let kind := s.mbxWord p 1 % 8; let pages := s.mbxWord p 1 / 65536 % 1024 + 1; 1 ≤ kind ∧ kind ≤ 4 ∧ s.updTarget kind = some (first, room) ∧ room < pages)) ∧
    (∃ (p : Port) (s : State) (first : Nat) (room : Nat), s.asks p 0x11 ∧ s.f QB_SEM.OWNER 0 = p.ix + 1 ∧ s.boot.updOpen = true ∧
      s.updTarget (s.f BOOT_UPD_STATUS.KIND) = some (first, room) ∧ s.fb GAU_TSTAT.NVM_OK = false) ∧
    (∃ (p : Port) (s : State) (first : Nat) (room : Nat), s.asks p 0x11 ∧ s.f QB_SEM.OWNER 0 = p.ix + 1 ∧ s.boot.updOpen = true ∧ s.updTarget (s.f BOOT_UPD_STATUS.KIND) = some (first, room) ∧ (let next := s.f BOOT_UPD_STATUS.NEXT; s.fb GAU_TSTAT.NVM_OK = true ∧ s.mbxWord p 1 % 1024 = next ∧ next < s.boot.updPages ∧ s.nvm.rotating = false)) ∧
    (∃ (p : Port) (s : State) (first : Nat) (room : Nat), s.asks p 0x12 ∧ s.f QB_SEM.OWNER 0 = p.ix + 1 ∧ s.boot.updOpen = true ∧ (let kind := s.f BOOT_UPD_STATUS.KIND; s.updTarget kind = some (first, room) ∧ s.f BOOT_UPD_STATUS.NEXT = s.boot.updPages)) ∧
    (∃ (p : Port) (s : State), s.asks p 0x13 ∧ s.f QB_SEM.OWNER 0 = p.ix + 1 ∧ (s.boot.updOpen = true ∨ s.f BOOT_UPD_STATUS.RES ≠ 0)) ∧
    (∃ (p : Port) (s : State), s.asks p 0x10 ∧ s.f QB_SEM.OWNER 0 ≠ p.ix + 1) :=
  ⟨⟨.A, { live with boot := { live.boot with stageIx := 1023 } }, by (unfold State.takes; decide), by decide⟩,
    ⟨.B, { live with boot := { live.boot with stageIx := 1024 } }, by (unfold State.takes; decide), by decide⟩,
    ⟨.A, ((live.put QB_SEM.OWNER 0 1)).askA [0x10, 0x00FF0001], 384, 256, by (unfold State.asks; decide), by decide, by decide, by decide, by decide,
      by decide, by decide⟩,
    ⟨.A, ((live.put QB_SEM.OWNER 0 1)).askA [0x10, 0x03FF0003], 960, 256, by (unfold State.asks; decide), by decide, by decide, by decide, by decide,
      by decide, by decide⟩,
    ⟨.A,
      ((((({ live with boot := { live.boot with updOpen := true, updPages := 5 } } : State).put BOOT_UPD_STATUS.KIND 0 1).put GAU_TSTAT.NVM_OK 0 0).put QB_SEM.OWNER 0 1)).askA [0x11, 5],
      384, 256, by (unfold State.asks; decide), by decide, by decide, by decide, by decide⟩,
    ⟨.A,
      ((((({ live with boot := { live.boot with updOpen := true, updPages := 5 } } : State).put BOOT_UPD_STATUS.KIND 0 1).put BOOT_UPD_STATUS.NEXT 0 4).put QB_SEM.OWNER 0 1)).askA [0x11, 4],
      384, 256, by (unfold State.asks; decide), by decide, by decide, by decide, by decide, by decide, by decide, by decide⟩,
    ⟨.A,
      ((((({ live with boot := { live.boot with updOpen := true, updPages := 1 } } : State).put BOOT_UPD_STATUS.KIND 0 1).put BOOT_UPD_STATUS.NEXT 0 1).put QB_SEM.OWNER 0 1)).askA [0x12],
      384, 256, by (unfold State.asks; decide), by decide, by decide, by decide, by decide⟩,
    ⟨.A, ((({ live with boot := { live.boot with updOpen := true, updPages := 5 } } : State).put QB_SEM.OWNER 0 1)).askA [0x13],
      by (unfold State.asks; decide), by decide, by decide⟩,
    ⟨.A, live.askA [0x10, 0x00FF0001], by (unfold State.asks; decide), by decide⟩⟩

theorem test_ActivationAndTrialsRun_hypotheses :
    (∃ (p : Port) (s : State), s.asks p 0x14 ∧ s.f QB_SEM.OWNER 0 = p.ix + 1 ∧ s.fb GAU_TSTAT.NVM_OK = true ∧ s.f BOOT_UPD_STATUS.RES = 3 ∧
      s.f BOOT_UPD_STATUS.KIND = 1) ∧
    (∃ (p : Port) (s : State), s.asks p 0x14 ∧ s.f QB_SEM.OWNER 0 = p.ix + 1 ∧ s.fb GAU_TSTAT.NVM_OK = true ∧ s.f BOOT_UPD_STATUS.RES = 3 ∧
      s.f BOOT_UPD_STATUS.KIND = 2) ∧
    (∃ (p : Port) (s : State), s.asks p 0x14 ∧ s.f QB_SEM.OWNER 0 = p.ix + 1 ∧ s.fb GAU_TSTAT.NVM_OK = true ∧ s.f BOOT_UPD_STATUS.RES = 3 ∧
      s.f BOOT_UPD_STATUS.KIND = 3) ∧
    (∃ (p : Port) (s : State), s.asks p 0x14 ∧ s.f QB_SEM.OWNER 0 = p.ix + 1 ∧ s.fb GAU_TSTAT.NVM_OK = true ∧ s.f BOOT_UPD_STATUS.RES = 3 ∧
      (∃ (k : _), s.f BOOT_UPD_STATUS.KIND = 4 ∧ s.nvm.rotating = false ∧ [0, 1].find? (fun k => (s.nvm.key k).st = 1) = some k)) ∧
    (∃ (p : Port) (s : State), s.asks p 0x31 ∧ (s.f QB_SEM.OWNER 8 = p.ix + 1 ∨ s.f QB_SEM.OWNER 8 = 0) ∧ s.pacer.loading = none) ∧
    (∃ (p : Port) (s : State), s.asks p 0x31 ∧ (s.f QB_SEM.OWNER 8 = p.ix + 1 ∨ s.f QB_SEM.OWNER 8 = 0) ∧ s.pacer.loading = none) ∧
    (∃ (p : Port) (s : State) (x : Trial), s.asks p 0x15 ∧ s.f QB_SEM.OWNER 0 = p.ix + 1 ∧ s.fb GAU_TSTAT.NVM_OK = true ∧ s.nvm.trial = some x) ∧
    (∃ (s : State), s.fb BOOT_STATUS.TRIAL = true ∧ s.marshalOn = true ∧ s.fb GAU_TSTAT.NVM_OK = true ∧ s.boot.minuteAt + 60000000000 ≤ s.now) ∧
    (∃ (s : State) (x : Trial), s.nvm.trial = some x ∧ 10 ≤ x.minutes ∧ s.marshalOn = true ∧ s.coll.trapAt = none ∧ s.fb GAU_TSTAT.NVM_OK = true ∧
      s.f QB_SEM.OWNER 0 = 0) ∧
    (∃ (s : State) (r : Nat) (e : Nat), s.nvm.rotating = true ∧ s.marshalOn = true ∧ s.fb GAU_TSTAT.NVM_OK = true ∧ s.retiring = some r ∧
      s.liveEpoch = some e ∧ (∃ (i : _) (k : _), s.rotPage (s.nvm.key r).epoch = some (i, k))) ∧
    (∃ (s : State) (r : Nat) (e : Nat), s.nvm.rotating = true ∧ s.marshalOn = true ∧ s.fb GAU_TSTAT.NVM_OK = true ∧ s.retiring = some r ∧
      s.liveEpoch = some e ∧ s.rotPage (s.nvm.key r).epoch = none) :=
  ⟨⟨.A, (((live.put QB_SEM.OWNER 0 1).put BOOT_UPD_STATUS.RES 0 3).put BOOT_UPD_STATUS.KIND 0 1).askA [0x14], by (unfold State.asks; decide),
      by decide, by decide, by decide, by decide⟩,
    ⟨.A, (((live.put QB_SEM.OWNER 0 1).put BOOT_UPD_STATUS.RES 0 3).put BOOT_UPD_STATUS.KIND 0 2).askA [0x14], by (unfold State.asks; decide),
      by decide, by decide, by decide, by decide⟩,
    ⟨.A, (((live.put QB_SEM.OWNER 0 1).put BOOT_UPD_STATUS.RES 0 3).put BOOT_UPD_STATUS.KIND 0 3).askA [0x14], by (unfold State.asks; decide),
      by decide, by decide, by decide, by decide⟩,
    ⟨.A,
      (((({ live with nvm := { key1 := { epoch := 2, st := 1 } } } : State).put QB_SEM.OWNER 0 1).put BOOT_UPD_STATUS.RES 0 3).put BOOT_UPD_STATUS.KIND 0 4).askA [0x14],
      by (unfold State.asks; decide), by decide, by decide, by decide, 1, by decide, by decide, by decide⟩,
    ⟨.A, live.askA [0x31], by (unfold State.asks; decide), by decide, by decide⟩,
    ⟨.A, (live.put QB_SEM.OWNER 8 1).askA [0x31], by (unfold State.asks; decide), by decide, by decide⟩,
    ⟨.A, ((({ live with nvm := { recs := [.trialStart 1 0] } } : State).put QB_SEM.OWNER 0 1)).askA [0x15], (⟨1, 0, 1, 0⟩ : Trial),
      by (unfold State.asks; decide), by decide, by decide, by decide⟩,
    ⟨({ live with nvm := { recs := [.trialStart 1 0] }, boot := { live.boot with minuteAt := 1940000000000 }, now := 2000000000000 } : State).put BOOT_STATUS.TRIAL 0 1,
      by decide, by decide, by decide, by decide⟩,
    ⟨{ live with nvm := { recs := .trialStart 1 0 :: List.replicate 10 .trialMinute } }, (⟨1, 0, 1, 10⟩ : Trial), by decide, by decide, by decide,
      by decide, by decide, by decide⟩,
    ⟨{ live with nvm := { recs := [.rotBegin], key0 := { epoch := 1, st := 3 }, key1 := { epoch := 2, st := 2 }, pages := ⟨[(3, [0x50#8, 0x51#8, 0#8, 1#8])]⟩ }, boot := { live.boot with parts := [(0, 0, 16384), (2, 16384, 4096)] } },
      0, 2, by decide, by decide, by decide, by decide, by decide, 3, 3, by decide⟩,
    ⟨{ live with nvm := { recs := [.rotBegin], key0 := { epoch := 1, st := 3 }, key1 := { epoch := 2, st := 2 } }, boot := { live.boot with parts := [(0, 0, 16384)] } },
      0, 2, by decide, by decide, by decide, by decide, by decide, by decide⟩⟩

theorem test_StoredListsAndTokens_hypotheses :
    (∃ (p : Port) (s : State) (l : List Nat), (s.f QB_SEM.OWNER 14 = p.ix + 1 ∨ s.f QB_SEM.OWNER 14 = 0) ∧ s.fb GAU_TSTAT.NVM_OK = true ∧ s.retireArgs p = some l ∧ (let all := l.foldl (fun (acc : List Nat) x => if acc.contains x then acc else acc ++ [x]) s.retireList; s.asks p 0x20 ∧ all.length ≤ 128)) ∧
    (∃ (p : Port) (s : State) (l : List Nat), (s.f QB_SEM.OWNER 14 = p.ix + 1 ∨ s.f QB_SEM.OWNER 14 = 0) ∧ s.fb GAU_TSTAT.NVM_OK = true ∧ s.retireArgs p = some l ∧ (let all := l.foldl (fun (acc : List Nat) x => if acc.contains x then acc else acc ++ [x]) s.retireList; s.asks p 0x20 ∧ 128 < all.length)) ∧
    (∃ (p : Port) (s : State) (l : List Nat), (s.f QB_SEM.OWNER 14 = p.ix + 1 ∨ s.f QB_SEM.OWNER 14 = 0) ∧ s.fb GAU_TSTAT.NVM_OK = true ∧
      s.retireArgs p = some l ∧ s.asks p 0x21) ∧
    (∃ (s : State) (p : Port), s.asks p 0x30 ∧ (s.f QB_SEM.OWNER 14 = p.ix + 1 ∨ s.f QB_SEM.OWNER 14 = 0) ∧ s.fb GAU_TSTAT.NVM_OK = true) ∧
    (∃ (s : State), s.f BOOT_CFG.LP_SAVE ≠ 0 ∧ s.marshalOn = true ∧ s.coll.trapAt = none ∧ s.led.scrub = none ∧ s.fb GAU_TSTAT.NVM_OK = true ∧
      s.f QB_SEM.OWNER 0 = 0 ∧ s.boot.saveAt + 60000000000 * s.f BOOT_CFG.LP_SAVE ≤ s.now) ∧
    (∃ (p : Port) (s : State), s.asks p 0x60) ∧
    (∃ (p : Port) (s : State), s.asks p 0x61 ∧ (let o := s.mbxWord p 1 % 512; o % 52 = 0 ∧ o ≤ 260)) ∧
    (∃ (p : Port) (s : State), s.asks p 0x61 ∧ (let o := s.mbxWord p 1 % 512; (o % 52 ≠ 0 ∨ 260 < o))) ∧
    (∃ (p : Port) (s : State), s.asks p 0x61 ∧ (let o := s.mbxWord p 1 % 512; (o % 52 ≠ 0 ∨ 260 < o))) ∧
    (∃ (p : Port) (s : State), s.asks p 0x62) ∧
    (∃ (s : State) (p : Port), s.asks p 0x63) ∧
    (∃ (s : State) (e : _), s.boot.rightsEnd = some e ∧ e ≤ s.now) :=
  ⟨⟨.A, ({ live with nvm := { set0 := { retire := some (List.range 127) } } } : State).askA [0x20, 2, 5, 2047], [5, 2047], by decide, by decide,
      by decide, by (unfold State.asks; decide), by decide⟩,
    ⟨.A, ({ live with nvm := { set0 := { retire := some (List.range 128) } } } : State).askA [0x20, 1, 2047], [2047], by decide, by decide, by decide,
      by (unfold State.asks; decide), by decide⟩,
    ⟨.A, ({ live with nvm := { set0 := { retire := some [4, 5] } } } : State).askA [0x21, 1, 5], [5], by decide, by decide, by decide,
      by (unfold State.asks; decide)⟩,
    ⟨live.askA [0x30], .A, by (unfold State.asks; decide), by decide, by decide⟩,
    ⟨({ live with now := 70000000000 } : State).put BOOT_CFG.LP_SAVE 0 1, by decide, by decide, by decide, by decide, by decide, by decide, by decide⟩,
    ⟨.A, live.askA [0x60], by (unfold State.asks; decide)⟩,
    ⟨.A, live.askA [0x61, 260, 1, 2, 3], by (unfold State.asks; decide), by decide, by decide⟩,
    ⟨.A, live.askA [0x61, 312], by (unfold State.asks; decide), by decide⟩,
    ⟨.A, live.askA [0x61, 51], by (unfold State.asks; decide), by decide⟩,
    ⟨.A, live.askA [0x62], by (unfold State.asks; decide)⟩,
    ⟨live.askA [0x63], .A, by (unfold State.asks; decide)⟩,
    ⟨{ live with boot := { live.boot with rightsEnd := some 2000000000 } }, 2000000000, by decide, by decide⟩⟩

theorem test_ColdBootStages_hypotheses :
    (∃ (s : State), s.powered = false) ∧
    (∃ (s : State), s.powered = false) ∧
    (∃ (s : State), s.powered = true ∧ s.tablesInit = false) ∧
    (∃ (s : State), (s.stage = 2 ∨ s.stage = 3) ∧ s.nvm.sfdpOk = true ∧ lastCopied s.nvm.recs = none) ∧
    (∃ (s : State), (s.stage = 2 ∨ s.stage = 3) ∧ s.nvm.sfdpOk = true ∧ lastCopied s.nvm.recs = none) ∧
    (∃ (s : State), (s.stage = 2 ∨ s.stage = 3) ∧ s.nvm.sfdpOk = false) ∧
    (∃ (s : State), s.stage = 4 ∧ s.nvm.trial = none ∧ s.nvm.committed ≤ 1) ∧
    (∃ (s : State), s.stage = 4 ∧ s.nvm.trial = none ∧ (∀ k ≤ 1, ∃ x, s.checkPart 1 (3 + k) = .error x) ∧ s.nvm.committed ≤ 1) ∧
    (∃ (s : State), s.stage = 5 ∧ s.tablesInit = true ∧ s.marshalOn = true ∧ s.blockReset = none) ∧
    (∃ (s : State) (k : Nat) (rest : List Nat), s.stage = 6 ∧ s.domsLeft = k :: rest ∧ (s.boot.domPos = 0 ∨ ∃ a, s.boot.domSettled = some a ∧
      a + 100000 * min 100 (s.f BOOT_CFG.GAP) ≤ s.now)) ∧
    (∃ (s : State) (k : Nat) (rest : List Nat), s.stage = 6 ∧ s.domsLeft = k :: rest ∧ (s.boot.domPos = 0 ∨ ∃ a, s.boot.domSettled = some a ∧
      a + 100000 * min 100 (s.f BOOT_CFG.GAP) ≤ s.now)) ∧
    (∃ (s : State), s.stage = 6 ∧ s.domsLeft = [] ∧ (s.boot.domPos = 0 ∨ s.boot.domSettled ≠ none)) ∧
    (∃ (s : State), s.stage = 6 ∧ s.domsLeft = [] ∧ (s.boot.domPos = 0 ∨ s.boot.domSettled ≠ none)) ∧
    (∃ (s : State), s.powered = true) ∧
    (∃ (s : State), s.powered = true) :=
  ⟨⟨{}, by decide⟩,
    ⟨{ live with powered := false }, by decide⟩,
    ⟨{ live with tablesInit := false }, by decide, by decide⟩,
    ⟨({ live with nvm := { sfdpOk := true, size := 67108864 } } : State).put BOOT_STATUS.STAGE 0 3, by decide, by decide, by decide⟩,
    ⟨({ live with nvm := { sfdpOk := true } } : State).put BOOT_STATUS.STAGE 0 2, by decide, by decide, by decide⟩,
    ⟨live.put BOOT_STATUS.STAGE 0 2, by decide, by decide⟩,
    ⟨live.put BOOT_STATUS.STAGE 0 4, by decide, by decide, by decide⟩,
    ⟨({ live with nvm := { committed := 1 } } : State).put BOOT_STATUS.STAGE 0 4, by decide, by decide, by (intro k hk; match k, hk with | 0, _ => exact ⟨_, rfl⟩ | 1, _ => exact ⟨_, rfl⟩), by decide⟩,
    ⟨live.put BOOT_STATUS.STAGE 0 5, by decide, by decide, by decide, by decide⟩,
    ⟨({ live with boot := { live.boot with domPos := 0 } } : State).put BOOT_STATUS.STAGE 0 6, 1, [3], by decide, by decide, by decide⟩,
    ⟨({ live with boot := { live.boot with domPos := 2, domSettled := some 1900000000 } } : State).put BOOT_STATUS.STAGE 0 6, 3, [], by decide,
      by decide, by decide⟩,
    ⟨({ live with boot := { live.boot with domPos := 4, domSettled := some 1900000000 } } : State).put BOOT_STATUS.STAGE 0 6, by decide, by decide,
      by decide⟩,
    ⟨({ live with place := ⟨[]⟩ } : State).put BOOT_STATUS.STAGE 0 6, by decide, by decide, by decide⟩,
    ⟨live, by decide⟩,
    ⟨live, by decide⟩⟩

theorem test_ResetsAndWarmBoot_hypotheses :
    (∃ (p : Port) (key : BitVec 16) (s : State), s.takes p .QB_CTRL 0 none ∧ key = 0x0B20#16 ∧ s.blockReset = none) ∧
    (∃ (p : Port) (key : BitVec 16) (s : State), s.takes p .QB_CTRL 0 none ∧ key ≠ 0x0B20#16) ∧
    (∃ (s : State) (a : Nat), s.blockReset = some a ∧ s.relay.fenced = false) ∧
    (∃ (s : State) (a : Nat), s.blockReset = some a ∧ s.relay.fenced = true) ∧
    (∃ (s : State), s.powered = true ∧ s.blockReset = none ∧ s.boot.marshal = false ∧ s.coll.halted = false ∧ s.stage = 8 ∧ s.boot.codeOk = true ∧
      s.nvm.trial = none ∧ s.boot.setNew = false ∧ lastCopied s.nvm.recs = none ∧ s.led.scrub = none ∧ s.coll.trapHeld = false) ∧
    (∃ (s : State) (x : Pause) (p : Port), s.boot.pause = some x ∧ x.port = some p.ix ∧ s.coll.trapHeld = false ∧ x.ok = false) ∧
    (∃ (s : State) (x : Pause) (p : Port), s.boot.pause = some x ∧ x.port = some p.ix ∧ s.coll.trapHeld = false ∧ x.ok = true ∧ x.slot ≤ 1) :=
  ⟨⟨.A, 0x0B20#16, live, by (unfold State.takes; decide), by decide, by decide⟩,
    ⟨.B, 0x0B21#16, live, by (unfold State.takes; decide), by decide⟩,
    ⟨{ live with blockReset := some 1999999000 }, 1999999000, by decide, by decide⟩,
    ⟨{ live with blockReset := some 1999999000, relay := { fenced := true } }, 1999999000, by decide, by decide⟩,
    ⟨({ live with boot := { live.boot with marshal := false } } : State).put BOOT_STATUS.STAGE 0 8, by decide, by decide, by decide, by decide,
      by decide, by decide, by decide, by decide, by decide, by decide, by decide⟩,
    ⟨({ live with boot := { live.boot with pause := some ⟨1965000000, 1, 0, false, false, some 0⟩ } } : State).askA [0x14],
      ⟨1965000000, 1, 0, false, false, some 0⟩, .A, by decide, by decide, by decide, by decide⟩,
    ⟨({ live with boot := { live.boot with pause := some ⟨1965000000, 1, 0, false, true, some 0⟩ } } : State).askA [0x14],
      ⟨1965000000, 1, 0, false, true, some 0⟩, .A, by decide, by decide, by decide, by decide, by decide⟩⟩

theorem test_HostPortsServe_hypotheses :
    (∃ (s : State), s.powered = true) ∧
    (∃ (w : Word) (s : State), s.serving = true ∧ w.field 31 24 = 0) ∧
    (∃ (w : Word) (s : State), s.serving = true ∧ w.field 31 24 ≠ 0) ∧
    (∃ (s : State), s.serving = true) ∧
    (∃ (r : Reg) (i : Nat) (s : State), r ∈ [.GAU_TH_CFG, .LANE_CFG, .DOM_SP_CFG, .STR_SEG] ∧ i < r.count ∧ s.takes .B r i none ∧
      s.host.winOff = r.offset i) ∧
    (∃ (r : Reg) (i : Nat) (s : State), r ∈ [.GAU_TH_CFG, .LANE_CFG, .DOM_SP_CFG, .STR_SEG] ∧ i < r.count ∧ s.takes .B r i none ∧
      s.host.winOff = r.offset i) ∧
    (∃ (k : Nat) (s : State), s.takes .B .GAU_TRIM_SEL 0 none ∧ s.host.winOff = Reg.offset .GAU_TRIM_SEL 0 ∧ s.f QB_SEM.OWNER 10 = 1 ∧
      s.host.winInc = false ∧ k = s.f QB_PORT_ERR.SEM 1) ∧
    (∃ (s : State), s.serving = true) ∧
    (∃ (s : State) (r : Reg) (i : Nat), s.serving = true ∧ s.host.winCount = 0 ∧ s.host.winOff = r.offset i ∧ i < r.count ∧ noSource r i = false ∧
      s.absent r i = false ∧ r ∉ [.GAU_QDATA_LO, .STP_COUNT_LO, .LED_TV_LO]) ∧
    (∃ (s : State) (r : Reg) (i : Nat), s.serving = true ∧ s.host.winCount = 0 ∧ s.host.winOff = r.offset i ∧ i < r.count ∧ noSource r i = false ∧
      s.absent r i = false ∧ r ∉ [.GAU_QDATA_LO, .STP_COUNT_LO, .LED_TV_LO]) ∧
    (∃ (s : State), s.serving = true) ∧
    (∃ (s : State), s.serving = true) ∧
    (∃ (s : State), s.serving = true) ∧
    (∃ (s : State), s.serving = true ∧ (∃ (code : BitVec 8), (Instr.smbUndefinedCommand code).wellFormed = true)) ∧
    (∃ (x : Master) (i : Fin 16) (s : State), s.serving = true ∧ s.blockReset = none ∧ (x = .marshal ∨ s.standby = false) ∧ s.f QB_SEM.OWNER i = 0) ∧
    (∃ (x : Master) (i : Fin 16) (s : State), s.serving = true ∧ s.blockReset = none ∧ (x = .marshal ∨ s.standby = false) ∧ s.f QB_SEM.OWNER i = 0) ∧
    (∃ (x : Master) (i : Fin 16) (s : State), s.serving = true ∧ s.blockReset = none ∧ (x = .marshal ∨ s.standby = false) ∧ s.f QB_SEM.OWNER i ≠ 0) ∧
    (∃ (x : Master) (i : Fin 16) (s : State), s.serving = true ∧ s.blockReset = none ∧ (x = .marshal ∨ s.standby = false) ∧
      s.f QB_SEM.OWNER i = x.owner) ∧
    (∃ (x : Master) (i : Fin 16) (s : State), s.serving = true ∧ s.blockReset = none ∧ (x = .marshal ∨ s.standby = false) ∧
      s.f QB_SEM.OWNER i ≠ x.owner) ∧
    (∃ (p : Port) (key : BitVec 16) (s : State), s.takes p .QB_SEM_FORCE 0 none ∧ key = 0x0B20#16) ∧
    (∃ (p : Port) (key : BitVec 16) (s : State), s.takes p .QB_SEM_FORCE 0 none ∧ key ≠ 0x0B20#16) ∧
    (∃ (off : BitVec 20) (s : State), s.serving = true ∧ regAt off.toNat = none) ∧
    (∃ (p : Port) (s : State), s.takes p .QB_LANE_CFG 0 none) ∧
    (∃ (p : Port) (r : Reg) (i : Nat) (s : State), r ∈ [.GAU_TH_CFG, .LANE_CFG, .DOM_SP_CFG, .STR_SEG] ∧ i < r.count ∧ s.takes p r i none) ∧
    (∃ (p : Port) (r : Reg) (i : Nat) (s : State), r ∈ [.GAU_TH_CFG, .LANE_CFG, .DOM_SP_CFG, .STR_SEG] ∧ i < r.count ∧ s.takes p r i none) :=
  ⟨⟨live, by decide⟩,
    ⟨0x000FFFFF#32, live, by decide, by decide⟩,
    ⟨0x010FFFFF#32, live, by decide, by decide⟩,
    ⟨live, by decide⟩,
    ⟨.LANE_CFG, 2047, { live with host := { winOff := Reg.offset .LANE_CFG 2047 } }, by decide, by decide, by (unfold State.takes; decide), by decide⟩,
    ⟨.STR_SEG, 0, { live with host := { winOff := Reg.offset .STR_SEG 0, winInc := true } }, by decide, by decide, by (unfold State.takes; decide),
      by decide⟩,
    ⟨0, ({ live with host := { winOff := Reg.offset .GAU_TRIM_SEL 0 } } : State).put QB_SEM.OWNER 10 1, by (unfold State.takes; decide), by decide,
      by decide, by decide, by decide⟩,
    ⟨live, by decide⟩,
    ⟨{ live with host := { winOff := Reg.offset .QB_ID 0 } }, .QB_ID, 0, by decide, by decide, by decide, by decide, by decide, by decide, by decide⟩,
    ⟨{ live with host := { winOff := Reg.offset .RGN_STATUS 255 } }, .RGN_STATUS, 255, by decide, by decide, by decide, by decide, by decide,
      by decide, by decide⟩,
    ⟨{ live with host := { replay := [5#32] } }, by decide⟩,
    ⟨live, by decide⟩,
    ⟨live, by decide⟩,
    ⟨live, by decide, 0x05#8, by decide⟩,
    ⟨.portA, 15, live, by decide, by decide, by decide, by decide⟩,
    ⟨.marshal, 0, live.paired 2 { ports := ⟨[(1, link), (2, link)]⟩ }, by decide, by decide, by decide, by decide⟩,
    ⟨.portA, 15, live.put QB_SEM.OWNER 15 2, by decide, by decide, by decide, by decide⟩,
    ⟨.portB, 15, live.put QB_SEM.OWNER 15 2, by decide, by decide, by decide, by decide⟩,
    ⟨.portA, 15, live.put QB_SEM.OWNER 15 2, by decide, by decide, by decide, by decide⟩,
    ⟨.A, 0x0B20#16, live.put QB_SEM.OWNER 15 2, by (unfold State.takes; decide), by decide⟩,
    ⟨.B, 0x0B21#16, live.put QB_SEM.OWNER 15 2, by (unfold State.takes; decide), by decide⟩,
    ⟨0xFFFFF#20, live, by decide, by decide⟩,
    ⟨.A, live, by (unfold State.takes; decide)⟩,
    ⟨.A, .LANE_CFG, 2047, live, by decide, by decide, by (unfold State.takes; decide)⟩,
    ⟨.B, .GAU_TH_CFG, 0, live, by decide, by decide, by (unfold State.takes; decide)⟩⟩

theorem test_TestAndTraceCommands_hypotheses :
    (∃ (s : State), s.powered = true ∧ (let live := s.placed.any (fun n => (s.rgn n).st.regulating || (s.rgn n).st = .STARTING); ∃ (c : _) (ir : _), (c, ir) ∈ [(Instr.extest, 0x00), (.clamp, 0x03), (.highz, 0x04)] ∧ live = false)) ∧
    (∃ (s : State), s.powered = true ∧ (let live := s.placed.any (fun n => (s.rgn n).st.regulating || (s.rgn n).st = .STARTING); ∃ (c : _) (ir : _), (c, ir) ∈ [(Instr.extest, 0x00), (.clamp, 0x03), (.highz, 0x04)] ∧ live = true)) ∧
    (∃ (s : State), s.powered = true) ∧
    (∃ (m : Fin 2048) (s : State), s.testable m = true ∧ s.test.lst = none ∧ (∃ (p : _), s.takes p .TST_LST_CTRL 0 (some 13))) ∧
    (∃ (m : Fin 2048) (s : State), s.testable m = true ∧ s.test.lst = none ∧ s.powered = true) ∧
    (∃ (p : Port) (m : Fin 2048) (s : State), s.takes p .TST_LST_CTRL 0 (some 13) ∧ (s.testable m = false ∨ s.test.lst ≠ none)) ∧
    (∃ (failed : BitVec 8) (s : State) (m : Nat) (at_ : Nat) (st : RgnState), (Instr.selfTestDone failed).wellFormed = true ∧
      s.test.lst = some (m, at_, st) ∧ s.blockReset = none ∧ (s.rgn (m / 8)).st = st ∧ failed = 0#8) ∧
    (∃ (failed : BitVec 8) (s : State) (m : Nat) (at_ : Nat) (st : RgnState), (Instr.selfTestDone failed).wellFormed = true ∧
      s.test.lst = some (m, at_, st) ∧ s.blockReset = none ∧ (s.rgn (m / 8)).st = st ∧ failed ≠ 0#8 ∧ (s.lane m).st = .DISABLED) ∧
    (∃ (s : State) (m : Nat) (at_ : Nat) (st : RgnState), s.test.lst = some (m, at_, st) ∧ (s.rgn (m / 8)).st ≠ st) ∧
    (∃ (p : Port) (pin : Fin 2) (v : Word) (s : State), let r : Reg := if pin = 0 then .TST_OBS_A else .TST_OBS_B; let sel := v.field 8 0; let allowed := sel = 0 ∨ (s.opalWord 59).getLsbD 0 = false ∨ (s.f TST_STATUS.RIGHTS).testBit (if sel < 256 then 0 else 1) = true; s.takes p r 0 (some 13) ∧ allowed) ∧
    (∃ (p : Port) (pin : Fin 2) (v : Word) (s : State), let r : Reg := if pin = 0 then .TST_OBS_A else .TST_OBS_B; let sel := v.field 8 0; let allowed := sel = 0 ∨ (s.opalWord 59).getLsbD 0 = false ∨ (s.f TST_STATUS.RIGHTS).testBit (if sel < 256 then 0 else 1) = true; s.takes p r 0 (some 13) ∧ ¬allowed) ∧
    (∃ (p : Port) (s : State), s.takes p .PF_CTRL 0 (some 13) ∧ s.blockReset = none) ∧
    (∃ (p : Port) (s : State), s.takes p .PF_CTRL 0 (some 13) ∧ s.fb PF_CTRL.ARM = true ∧ s.fb PF_STATUS.TRIG = false) ∧
    (∃ (p : Port) (s : State), s.takes p .PF_CTRL 0 (some 13) ∧ s.fb PF_CTRL.ARM = false) ∧
    (∃ (s : State), s.fb PF_CTRL.ARM = true ∧ s.pf.post = some 0) :=
  ⟨⟨{ live with rgns := ⟨[]⟩ }, by decide, Instr.extest, 0, by decide, by decide⟩,
    ⟨live, by decide, Instr.highz, 4, by decide, by decide⟩,
    ⟨live, by decide⟩,
    ⟨2047, ({ live with lanes := ⟨[(2047, { st := .FAILED })]⟩ } : State).put LANE_CTRL.EN 2047 0, by decide, by decide, Port.A,
      by (unfold State.takes; decide)⟩,
    ⟨2047, ({ live with lanes := ⟨[(2047, { st := .FAILED })]⟩ } : State).put LANE_CTRL.EN 2047 0, by decide, by decide, by decide⟩,
    ⟨.A, 5, live.withLane 5 { st := .SWITCHING }, by (unfold State.takes; decide), by decide⟩,
    ⟨0#8, { live with test := { lst := some (2047, 1999999000, .ISLAND) } }, 2047, 1999999000, .ISLAND, by decide, by decide, by decide, by decide,
      by decide⟩,
    ⟨0x0A#8, { live with test := { lst := some (2047, 1999999000, .ISLAND) } }, 2047, 1999999000, .ISLAND, by decide, by decide, by decide, by decide,
      by decide, by decide⟩,
    ⟨{ live with test := { lst := some (2047, 1999999000, .OFF) } }, 2047, 1999999000, .OFF, by decide, by decide⟩,
    ⟨.A, 1, 255#32, live, by (unfold State.takes; decide), by decide⟩,
    ⟨.B, 0, 300#32, { live with opal := { a := ⟨[(59, 1#32)]⟩ } }, by (unfold State.takes; decide), by decide⟩,
    ⟨.A, live, by (unfold State.takes; decide), by decide⟩,
    ⟨.A, live.put PF_CTRL.ARM 0 1, by (unfold State.takes; decide), by decide, by decide⟩,
    ⟨.A, live, by (unfold State.takes; decide), by decide⟩,
    ⟨({ live with pf := { post := some 0 } } : State).put PF_CTRL.ARM 0 1, by decide, by decide⟩⟩

end Sys2Proof.Machine
end

section
/-! PROOF. What a field reads after power-on reset (R9), from the field tables of the register map. -/

namespace Sys2Proof.Machine

/-! ### The word that the Reset columns spell -/

/-- Writing fields that lie apart from a field leaves it. -/
theorem field_foldl_rst_of_apart {l : List Fld} {x : Fld} (hl : ∀ y ∈ l, y.hi < 32) (ha : ∀ y ∈ l, y.hi < x.lo ∨ x.hi < y.lo) (w : Word) :
    (l.foldl (fun w f => w.withField f.hi f.lo f.rst) w).field x.hi x.lo = w.field x.hi x.lo := by
  induction l generalizing w with
  | nil => rfl
  | cons y t ih =>
    rw [List.forall_mem_cons] at hl ha
    rw [List.foldl_cons, ih hl.2 ha.2, Word.field_withField_ne w y.rst hl.1 ha.1]

/-- Of fields that lie apart, each reads the reset value written to it, cut to its width. -/
theorem field_foldl_rst {l : List Fld} {x : Fld} (hl : ∀ y ∈ l, y.hi < 32) (ha : fieldsApart l = true) (hx : x ∈ l) (w : Word) :
    (l.foldl (fun w f => w.withField f.hi f.lo f.rst) w).field x.hi x.lo = x.rst % 2 ^ (x.hi + 1 - x.lo) := by
  induction l generalizing w with
  | nil => cases hx
  | cons y t ih =>
    rw [List.forall_mem_cons] at hl
    simp only [fieldsApart, Bool.and_eq_true, List.all_eq_true, Bool.or_eq_true, decide_eq_true_eq] at ha
    obtain ⟨hy, ht⟩ := ha
    rw [List.foldl_cons]
    rcases List.mem_cons.mp hx with rfl | hxt
    · rw [field_foldl_rst_of_apart hl.2 (fun z hz => (hy z hz).symm), Word.field_withField_same w x.rst hl.1]
    · exact ih hl.2 ht hxt _

theorem regs_rst_fit : (Reg.all.all fun r => r.fields.all fun x => decide (x.rst < 2 ^ (x.hi + 1 - x.lo))) = true := by decide +kernel

theorem Fld.rst_lt {r : Reg} {x : Fld} (hx : x ∈ r.fields) : x.rst < 2 ^ (x.hi + 1 - x.lo) := by
  have h := List.all_eq_true.mp regs_rst_fit r r.mem_all
  exact of_decide_eq_true (List.all_eq_true.mp h x hx)

/-! ### The fields whose reset value depends on the element or the release -/

/-- The fields that Reg.resetExtra writes. -/
def Reg.variedFields : Reg → List Fld
  | .QB_VERSION => Reg.fields .QB_VERSION
  | .STR_PHDR => [STR_PHDR.FB]
  | .GAU_SEQ => [GAU_SEQ.IN_E, GAU_SEQ.IN_O]
  | .GAU_INJ => [GAU_INJ.IN_E, GAU_INJ.IN_O]
  | .FLT_CLS => [FLT_CLS.N]
  | .FLT_RCT => [FLT_RCT.NORM, FLT_RCT.SEV]
  | _ => []

theorem Reg.variedFields_subset (r : Reg) : r.variedFields ⊆ r.fields := by
  cases r <;> decide

/-- Outside the five registers with element values, only the release varies, which no master writes. -/
theorem Fld.ro_of_mem_variedFields {r : Reg} {x : Fld} (hr : r ∉ [Reg.STR_PHDR, .GAU_SEQ, .GAU_INJ, .FLT_CLS, .FLT_RCT])
    (hx : x ∈ r.variedFields) : x.acc = .ro := by
  unfold Reg.variedFields at hx
  split at hx
  case h_1 => exact (by decide : ∀ y ∈ Reg.fields .QB_VERSION, y.acc = .ro) x hx
  case h_7 => cases hx
  all_goals simp at hr

/-- Reg.resetExtra writes no other field. -/
theorem Reg.field_resetExtra {r : Reg} {x : Fld} (hx : x ∈ r.fields) (hv : x ∉ r.variedFields) (i : Nat) (w : Word) :
    (r.resetExtra i w).field x.hi x.lo = w.field x.hi x.lo := by
  have put : ∀ y ∈ r.variedFields, ∀ (u : Word) (v : Nat), (u.withField y.hi y.lo v).field x.hi x.lo = u.field x.hi x.lo := by
    intro y hy u v
    have hyr := r.variedFields_subset hy
    have hok := r.fields_ok
    simp only [Reg.fieldsOk, Bool.and_eq_true] at hok
    exact Word.field_withField_ne u v (Fld.reg_of_mem hyr).2.2 (Fld.apart_of_mem hok.2 hyr hx fun e => hv (e ▸ hy))
  unfold Reg.resetExtra
  split
  case h_1 => exact absurd hx hv
  case h_2 => exact put STR_PHDR.FB (by decide) w i
  case h_3 => exact (put GAU_SEQ.IN_O (by decide) _ _).trans (put GAU_SEQ.IN_E (by decide) w _)
  case h_4 => exact (put GAU_INJ.IN_O (by decide) _ _).trans (put GAU_INJ.IN_E (by decide) w _)
  case h_5 =>
    split
    · exact put FLT_CLS.N (by decide) w _
    · rfl
  case h_6 =>
    split
    · exact (put FLT_RCT.SEV (by decide) _ _).trans (put FLT_RCT.NORM (by decide) w _)
    · rfl
  case h_7 => rfl

/-! ### Fields after power-on reset -/

/-- The register file lists nothing after power-on reset, so a field reads its register's reset word. -/
theorem State.f_reset_eq (x : Fld) (i : Nat) : State.reset.f x i = (x.reg.resetWord i).field x.hi x.lo := rfl

/-- A field reads its Reset column (R9), where that is one value for all elements. -/
theorem State.f_reset {x : Fld} (hx : x ∈ x.reg.fields) (hv : x ∉ x.reg.variedFields) (i : Nat) : State.reset.f x i = x.rst := by
  have hok := x.reg.fields_ok
  simp only [Reg.fieldsOk, Bool.and_eq_true] at hok
  rw [State.f_reset_eq, Reg.resetWord, Reg.field_resetExtra hx hv, field_foldl_rst (fun y hy => (Fld.reg_of_mem hy).2.2) hok.2 hx,
    Nat.mod_eq_of_lt (Fld.rst_lt hx)]

/-- The feedback code of a Stride profile's header is the profile's number. -/
theorem State.f_reset_strPhdrFb {i : Nat} (hi : i < 16) : State.reset.f STR_PHDR.FB i = i := by
  have h : State.reset.f STR_PHDR.FB i = i % 16 := Word.field_withField_same _ i (by decide)
  rw [h, Nat.mod_eq_of_lt hi]

/-! ### Reset columns against a list of values -/

/-- What a list of reset values gives a field: the value beside it, 0 where it is not listed. -/
def Fld.listedRst (l : List (Fld × Nat)) (x : Fld) : Nat := ((l.find? (fun e => e.1 = x)).map (·.2)).getD 0

/-- The Reset column of every rw and lk field outside the registers with element values is what the list gives. -/
def rstsListed (l : List (Fld × Nat)) : Bool :=
  Reg.all.all fun r => r.fields.all fun x =>
    !decide (x.acc = .rw ∨ x.acc = .lk) || [Reg.STR_PHDR, .GAU_SEQ, .GAU_INJ, .FLT_CLS, .FLT_RCT].contains r || decide (x.rst = x.listedRst l)

/-- A list that agrees with the Reset columns gives what the fields read after power-on reset. -/
theorem State.f_reset_listed {l : List (Fld × Nat)} (hl : rstsListed l = true) (x : Fld) (i : Nat) (hx : x.has i)
    (ha : x.acc = .rw ∨ x.acc = .lk) (hr : x.reg ∉ [Reg.STR_PHDR, .GAU_SEQ, .GAU_INJ, .FLT_CLS, .FLT_RCT]) :
    State.reset.f x i = x.listedRst l := by
  have hv : x ∉ x.reg.variedFields := fun h => by
    have hro := Fld.ro_of_mem_variedFields hr h
    rw [hro] at ha
    rcases ha with h | h <;> cases h
  have hrst : x.rst = x.listedRst l := by
    have h := List.all_eq_true.mp (List.all_eq_true.mp hl x.reg x.reg.mem_all) x hx.1
    simp only [Bool.or_eq_true, Bool.not_eq_true', decide_eq_false_iff_not, List.contains_iff_mem, decide_eq_true_eq] at h
    exact (h.resolve_left fun h => h.elim (· ha) hr)
  rw [State.f_reset hx.1 hv, hrst]

/-- Settles O8: the listed values are the register map's Reset columns, computed field by field; the fields of FLT_CLS, FLT_RCT and STR_PHDR
that do not vary with the element read theirs (R9), FB its profile's number; the state beside the registers is at its defaults (log entries 1
and 10). -/
theorem resetRegisterValues : Obligations.ResetRegisterValues := by
  refine ⟨State.f_reset_listed (by decide +kernel), fun x _ => ⟨?_, ?_, ?_⟩, fun i hi => ⟨State.f_reset_strPhdrFb hi, ?_, ?_⟩, rfl, rfl, rfl,
    fun _ => rfl, fun _ => rfl, fun _ => rfl, rfl, rfl⟩
  · exact State.f_reset (x := FLT_CLS.W) (by decide) (by decide) x.id
  · exact State.f_reset (x := FLT_RCT.EN) (by decide) (by decide) x.id
  · exact State.f_reset (x := FLT_RCT.Q) (by decide) (by decide) x.id
  · exact State.f_reset (x := STR_PHDR.TRK) (by decide) (by decide) i
  · exact State.f_reset (x := STR_PHDR.PKI) (by decide) (by decide) i

end Sys2Proof.Machine
end

section
/-! PROOF. The functional reset of the cache die (R27). -/

namespace Sys2Proof.Machine

/-- Settles O12: the command's whole meaning is to answer the state it is given (R27). -/
theorem cacheDieResetChangesNothing : Obligations.CacheDieResetChangesNothing := by
  intro s
  show execCacheDieReset s = .next s
  rfl

end Sys2Proof.Machine
end

section
/-! PROOF. FLT_CTRL.FN_REL releases the holds of FAULT_N (R439): every source but a level source whose condition lasts (R426). -/

namespace Sys2Proof.Machine

/-! ### Sources -/

theorem Src.mem_all (x : Src) : x ∈ Src.all := by cases x <;> decide

theorem Src.ofId_id (x : Src) : Src.ofId x.id = some x := by cases x <;> rfl

theorem Src.id_inj {x y : Src} (h : x.id = y.id) : x = y :=
  Option.some.inj (by rw [← Src.ofId_id x, h, Src.ofId_id y])

theorem Src.id_lt (x : Src) : x.id < Reg.count .FLT_CNT :=
  (by decide : ∀ y ∈ Src.all, y.id < Reg.count .FLT_CNT) x x.mem_all

/-! ### Frames in sequence -/

/-- Two frames over the same parts and fields compose. -/
theorem Changes.trans {s t u : State} {ps : List Part} {fs : List (Fld × Nat)} (h : Changes s t ps fs) (k : Changes t u ps fs) :
    Changes s u ps fs := by
  obtain ⟨hp, hf, hr⟩ := h
  obtain ⟨kp, kf, kr⟩ := k
  refine ⟨fun p hn => ?_, fun x i hx hn => (kf x i hx hn).trans (hf x i hx hn), fun r i hi hn => (kr r i hi hn).trans (hr r i hi hn)⟩
  have h1 := hp p hn
  have h2 := kp p hn
  cases p <;> exact Eq.trans h2 h1

/-- A frame holds over more parts and fields. -/
theorem Changes.mono {s t : State} {ps qs : List Part} {fs gs : List (Fld × Nat)} (h : Changes s t ps fs) (hp : ps ⊆ qs) (hf : fs ⊆ gs) :
    Changes s t qs gs := by
  obtain ⟨h1, h2, h3⟩ := h
  exact ⟨fun p hn => h1 p fun e => hn (hp e), fun x i hx hn => h2 x i hx fun e => hn (hf e),
    fun r i hi hn => h3 r i hi fun e => hn (List.map_subset _ hf e)⟩

/-- A one-bit field is set when it reads 1. -/
theorem State.fb_iff_f_eq_one (s : State) {x : Fld} (h : x.hi = x.lo) (i : Nat) : s.fb x i = true ↔ s.f x i = 1 := by
  have hlt := s.f_lt x i
  rw [h, Nat.add_sub_cancel_left] at hlt
  unfold State.fb
  rw [decide_eq_true_iff]
  omega

/-! ### The condition of a level source (R426) -/

/-- The hold bits of FAULT_N, one for each source. -/
def faultHolds : List (Fld × Nat) := Src.all.map fun x => (FLT_CNT.FHOLD, x.id)

theorem mem_faultHolds (x : Src) : (FLT_CNT.FHOLD, x.id) ∈ faultHolds := List.mem_map.mpr ⟨x, x.mem_all, rfl⟩

/-- They lie in one register array. -/
theorem reg_of_mem_faultHolds {e : Fld × Nat} (h : e ∈ faultHolds) : e.1.reg = .FLT_CNT := by
  obtain ⟨x, -, rfl⟩ := List.mem_map.mp h
  rfl

/-- A change of holds leaves the words of every other register. -/
theorem Changes.reg_of_faultHolds {s t : State} {ps : List Part} (h : Changes s t ps faultHolds) {r : Reg} (hr : r ≠ .FLT_CNT) {i : Nat}
    (hi : i < r.count) : t.reg r i = s.reg r i :=
  h.2.2 r i hi fun e => by
    obtain ⟨a, ha, he⟩ := List.mem_map.mp e
    exact hr ((congrArg Prod.fst he).symm.trans (reg_of_mem_faultHolds ha))

/-- The conditions do not depend on the holds. -/
theorem Changes.levelActive {s t : State} (h : Changes s t [] faultHolds) (x : Src) : t.levelActive x = s.levelActive x := by
  have part : ∀ p : Part, p.same s t := fun p => h.1 p List.not_mem_nil
  have field : ∀ y : Fld, y.reg ≠ .FLT_CNT → 0 < y.reg.count → t.f y = s.f y := fun y hn hi => by
    unfold State.f; rw [h.reg_of_faultHolds hn hi]
  have placed : t.placed = s.placed := by unfold State.placed; rw [show t.place = s.place from part .place]
  have rgn : ∀ n, t.rgn n = s.rgn n := fun n => by unfold State.rgn; rw [show t.rgns = s.rgns from part .rgns]
  have sensor : ∀ q, t.sensor q = s.sensor q := fun q => by unfold State.sensor; rw [show t.gauge = s.gauge from part .gauge]
  have used : t.usedSensors = s.usedSensors := by unfold State.usedSensors; rw [placed, h.reg_of_faultHolds (by decide) (by decide)]
  unfold State.levelActive
  split
  case h_1 => exact part .refLost
  case h_2 => simp only [placed, rgn]
  case h_3 => unfold State.fb; rw [field _ (by decide) (by decide)]
  case h_4 => unfold State.fb; rw [field _ (by decide) (by decide)]
  case h_5 => simp only [used, sensor]
  case h_6 => rw [field _ (by decide) (by decide)]
  case h_7 => unfold State.fb; rw [field _ (by decide) (by decide)]
  case h_8 => rw [show t.lim = s.lim from part .lim]
  case h_9 => rfl

/-- A source that is not one of the level sources has no condition. -/
theorem State.levelActive_of_event (s : State) {x : Src}
    (h : x ∉ [Src.REFCLK_LOST, .OVERLOAD, .THERM_WARN, .THERM_SHUT, .SENSOR_BAD, .INPUT_RAIL, .CAP_LOST, .LOWEST]) : s.levelActive x = false := by
  unfold State.levelActive
  split
  case h_9 => rfl
  all_goals exact absurd (by decide) h

/-! ### The release (R439) -/

/-- One source's part of the release. -/
def State.releaseFaultHold (s : State) (x : Src) : State := if s.levelActive x then s else s.put FLT_CNT.FHOLD x.id 0

theorem State.fnRel_eq (s : State) : s.fnRel = s.forEach Src.all State.releaseFaultHold := rfl

theorem Changes.releaseFaultHold {s t : State} (h : Changes s t [] faultHolds) (x : Src) : Changes s (t.releaseFaultHold x) [] faultHolds :=
  Changes.ite h (h.put 0 (by decide) (mem_faultHolds x))

theorem Changes.fnRel (s : State) : Changes s s.fnRel [] faultHolds :=
  Changes.forEach _ _ (Changes.refl s _ _) fun _ x _ h => h.releaseFaultHold x

/-- A hold after one source's part. -/
theorem State.f_releaseFaultHold (s : State) (x y : Src) :
    (s.releaseFaultHold y).f FLT_CNT.FHOLD x.id = if x = y ∧ s.levelActive y = false then 0 else s.f FLT_CNT.FHOLD x.id := by
  unfold State.releaseFaultHold
  cases s.levelActive y
  case true => simp
  case false =>
    rw [if_neg Bool.false_ne_true, State.f_put _ _ (by decide) (by decide) x.id_lt]
    by_cases e : x = y
    · simp [e]
    · simp [e, mt Src.id_inj e]

/-- The parts of a list of sources, after other holds have changed. -/
theorem State.f_forEach_releaseFaultHold {s : State} (l : List Src) {t : State} (h : Changes s t [] faultHolds) (x : Src) :
    (t.forEach l State.releaseFaultHold).f FLT_CNT.FHOLD x.id = if x ∈ l ∧ s.levelActive x = false then 0 else t.f FLT_CNT.FHOLD x.id := by
  induction l generalizing t with
  | nil => simp [State.forEach]
  | cons y l ih =>
    have step : (t.forEach (y :: l) State.releaseFaultHold).f FLT_CNT.FHOLD x.id = _ := ih (h.releaseFaultHold y)
    rw [step, State.f_releaseFaultHold, h.levelActive]
    by_cases e : x = y
    · subst e; cases s.levelActive x <;> simp
    · simp [e]

theorem State.f_fnRel (s : State) (x : Src) :
    s.fnRel.f FLT_CNT.FHOLD x.id = if s.levelActive x then s.f FLT_CNT.FHOLD x.id else 0 := by
  rw [State.fnRel_eq, State.f_forEach_releaseFaultHold _ (Changes.refl s _ _)]
  cases s.levelActive x <;> simp [x.mem_all]

/-- A host's write that sets FN_REL and not FE_ARM is the release, in a block reset too. -/
theorem State.regWrite_fnRel (s : State) (p : Port) {v m : Word} (rel : sets (v &&& m) FLT_CTRL.FN_REL = true)
    (arm : sets (v &&& m) FLT_CTRL.FE_ARM = false) : s.regWrite p.master .FLT_CTRL 0 v m = s.fnRel := by
  have taken : (s.blockReset.isSome && blockResetRegs.contains .FLT_CTRL) = false := Bool.and_false _
  have host : p.master ≠ .marshal := by cases p <;> decide
  unfold State.regWrite
  simp only [taken, State.systemWrite, State.onSet, rel, arm, host, false_and, if_false, if_true, Bool.false_eq_true]

/-- A port's write of FN_REL that reaches the register is the release and its mirroring. -/
theorem State.fnRel_takes {s : State} {p : Port} (h : s.takes p .FLT_CTRL 0 (some 3)) :
    ∃ t, exec (.fnRel p) s = .next t ∧ Changes s.fnRel t [.relay, .out] [] := by
  have rel := sets_put (s := s) (x := FLT_CTRL.FN_REL) (i := 0) (by decide) rfl _ rfl
  have arm := sets_put_ne (s := s) (x := FLT_CTRL.FN_REL) (y := FLT_CTRL.FE_ARM) (i := 0) (by decide) (by decide) (by decide) (by decide)
    (by decide) 1 _ rfl
  have write := s.regWrite_fnRel p rel arm
  rw [BitVec.and_allOnes] at rel
  obtain ⟨t, ht, hc⟩ := State.hostWrite_takes h (by decide) rfl (if_pos (by rw [rel, Bool.or_true]))
  exact ⟨t, ht, write ▸ hc⟩

/-- A hold after the command: kept while the source's condition `c` lasts, released otherwise. -/
theorem fhold_kept_or_released {s t : State} {x : Src} {c : Prop} (h : t.f FLT_CNT.FHOLD x.id = if s.levelActive x then s.f FLT_CNT.FHOLD x.id else 0)
    (hc : s.levelActive x = true ↔ c) :
    (c → t.f FLT_CNT.FHOLD x.id = s.f FLT_CNT.FHOLD x.id) ∧ (¬c → t.f FLT_CNT.FHOLD x.id = 0) :=
  ⟨fun k => by rw [h, if_pos (hc.mpr k)], fun k => by rw [h, if_neg (mt hc.mp k)]⟩

/-- Settles O15: the write runs the release over all sources, a hold stays where its source's condition lasts (R439), and these conditions
are those of R426. -/
theorem faultHoldsReleased : Obligations.FaultHoldsReleased := by
  intro p s hs
  obtain ⟨t, ht, hc⟩ := State.fnRel_takes hs
  have ⟨_, fields, _⟩ := hc
  have hold : ∀ x : Src, t.f FLT_CNT.FHOLD x.id = if s.levelActive x then s.f FLT_CNT.FHOLD x.id else 0 := fun x =>
    (fields FLT_CNT.FHOLD x.id ⟨by decide, x.id_lt⟩ List.not_mem_nil).trans (s.f_fnRel x)
  refine ⟨t, ht, fun x _ hx => ?_, fhold_kept_or_released (hold _) ?_, fhold_kept_or_released (hold _) ?_, fhold_kept_or_released (hold _) ?_,
    fhold_kept_or_released (hold _) ?_, fhold_kept_or_released (hold _) ?_, fhold_kept_or_released (hold _) ?_, fhold_kept_or_released (hold _) ?_,
    fhold_kept_or_released (hold _) ?_, ?_⟩
  · rw [hold, s.levelActive_of_event hx]; rfl
  · rfl
  · simp [State.levelActive]
  · exact s.fb_iff_f_eq_one rfl 0
  · exact s.fb_iff_f_eq_one rfl 0
  · simp [State.levelActive]
  · simp [State.levelActive]
  · exact s.fb_iff_f_eq_one rfl 0
  · simp [State.levelActive]
  · exact ((Changes.fnRel s).mono (List.nil_subset _) (List.Subset.refl _)).trans (hc.mono (List.Subset.refl _) (List.nil_subset _))

end Sys2Proof.Machine
end

section
/-! PROOF. The event log is a ring of 256 records: one for each event processed and for each recovery (R447). -/

namespace Sys2Proof.Machine

variable {s t : State}

/-! ### What leaves the log -/

/-- The event log is as it was, and the register with the count of its lost records. -/
def LogKept (s t : State) : Prop := t.coll.log = s.coll.log ∧ t.reg .FLT_LOG_CTRL = s.reg .FLT_LOG_CTRL

theorem LogKept.ovw (h : LogKept s t) : t.f FLT_LOG_CTRL.OVW = s.f FLT_LOG_CTRL.OVW :=
  congrArg (Word.field · FLT_LOG_CTRL.OVW.hi FLT_LOG_CTRL.OVW.lo) h.2

theorem LogKept.refl (s : State) : LogKept s s := ⟨rfl, rfl⟩

theorem LogKept.trans {u : State} (h : LogKept s t) (k : LogKept t u) : LogKept s u := ⟨k.1.trans h.1, k.2.trans h.2⟩

theorem LogKept.ite {c : Prop} [Decidable c] {a b : State} (ha : LogKept s a) (hb : LogKept s b) : LogKept s (if c then a else b) := by
  split <;> assumption

/-- What keeps the register keeps the log when it leaves that list of the collector. -/
theorem LogKept.of_kept {P R : Nat} (h : Kept P R s t) (hR : R.testBit (Reg.bit .FLT_LOG_CTRL) = false) (hl : t.coll.log = s.coll.log) :
    LogKept s t := ⟨hl, h.regs _ _ (by decide) hR⟩

/-- What keeps the collector and the register keeps the log. -/
theorem LogKept.of_kept_coll {P R : Nat} (h : Kept P R s t) (hR : R.testBit (Reg.bit .FLT_LOG_CTRL) = false)
    (hP : P.testBit (Part.bit .coll) = false) : LogKept s t :=
  .of_kept h hR (congrArg Collector.log (h.parts .coll hP))

theorem State.put_logKept (s : State) {x : Fld} (i v : Nat) (hx : x.reg ≠ .FLT_LOG_CTRL) : LogKept s (s.put x i v) :=
  ⟨rfl, State.reg_setReg_ne s _ (by decide) fun e => hx (congrArg Prod.fst e)⟩

theorem State.bump_logKept (s : State) {x : Fld} (i : Nat) (hx : x.reg ≠ .FLT_LOG_CTRL) : LogKept s (s.bump x i) :=
  s.put_logKept i _ hx

theorem State.modSrc_logKept (s : State) (i : Nat) (f : SrcState → SrcState) : LogKept s (s.modSrc i f) := ⟨rfl, rfl⟩

theorem State.classify_logKept (s : State) (i : Nat) (e : Evt) : LogKept s (s.classify i e) := by
  unfold State.classify
  extract_lets wc anew n s1
  have h1 : LogKept s s1 := .trans (.ite (b := s) (s.modSrc_logKept i _) (.refl s)) (State.put_logKept _ _ _ (by decide))
  exact .ite (h1.trans (s1.put_logKept _ _ (by decide))) h1

theorem State.capture_logKept (s : State) (i : Nat) (e : Evt) (sev : Bool) : LogKept s (s.capture i e sev) :=
  .of_kept_coll (State.capture_kept s i e sev (P := 0) (Sub.refl _) (Kept.refl _ _ s)) rfl rfl

theorem State.pfRecord_logKept (s : State) (k : Nat) (ws : List Nat) : LogKept s (s.pfRecord k ws) :=
  .of_kept_coll (State.pfRecord_kept s k ws (Sub.refl _) (Sub.refl _) (Kept.refl _ _ s)) rfl rfl

theorem State.pfTrigger_logKept (s : State) (k : Nat) : LogKept s (s.pfTrigger k) :=
  .of_kept_coll (State.pfTrigger_kept s k (Sub.refl _) (Sub.refl _) (Kept.refl _ _ s)) rfl rfl

theorem State.holdFaultN_logKept (s : State) (i : Nat) : LogKept s (s.holdFaultN i) :=
  .of_kept_coll (State.holdFaultN_kept s i (P := 0) (Sub.refl _) (Kept.refl _ _ s)) rfl rfl

theorem State.reactC_logKept (s : State) : LogKept s s.reactC :=
  .of_kept (State.reactC_kept s (Sub.refl _) (Sub.refl _) (Kept.refl _ _ s)) rfl rfl

theorem State.reactI_logKept (s : State) (i : Nat) : LogKept s (s.reactI i) :=
  .of_kept_coll (State.reactI_kept s i (P := 0) (Sub.refl _) (Kept.refl _ _ s)) rfl rfl

theorem State.reactT_logKept (s : State) : LogKept s s.reactT := by
  unfold State.reactT
  exact .ite ⟨rfl, rfl⟩ ⟨rfl, rfl⟩

/-- Marshal's part of a block reset ends its trap handler and leaves the log. -/
theorem State.resetMarshal_logKept (s : State) : LogKept s s.resetMarshal := by
  refine .of_kept (State.resetMarshal_kept s (Sub.refl _) (Sub.refl _) (Kept.refl _ _ s)) rfl ?_
  unfold State.resetMarshal
  dsimp only
  split <;> rfl

/-- The log outlives a block reset. Before Marshal's part the masks are those of `State.enterBlockReset_kept` less the collector's bit. -/
theorem State.enterBlockReset_logKept (s : State) (reaction : Bool) : LogKept s (s.enterBlockReset reaction) := by
  have before : LogKept s s.abortSelfTest.resetFields.gaugeReset.resetPacer.resetStride :=
    .of_kept_coll (P := 541493059640) (R := 0x200000000000200dc041000000001f803400000000003a08)
      (State.resetStride_kept _ rfl (State.resetPacer_kept _ rfl rfl (State.gaugeReset_kept _ rfl (State.resetFields_kept _ rfl
        (State.abortSelfTest_kept _ rfl rfl (Kept.refl _ _ s)))))) rfl rfl
  have ack : ∀ u : State, LogKept u (u.ackState 2) := fun u =>
    .of_kept_coll (State.ackState_kept u 2 (Sub.refl _) (Sub.refl _) (Kept.refl _ _ u)) rfl rfl
  unfold State.enterBlockReset
  extract_lets s1
  have h1 : LogKept s s1 := before.trans (State.resetMarshal_logKept _)
  clear_value s1
  refine .ite (.refl s) (h1.trans (.trans ?_ (ack _)))
  exact ⟨rfl, rfl⟩

theorem State.reactB_logKept (s : State) (i : Nat) : LogKept s (s.reactB i) := by
  have storm : ∀ u : State, LogKept u
      ({ u with coll := { u.coll with halted := true, trapAt := none, trapHeld := false } } : State) := fun _ => ⟨rfl, rfl⟩
  unfold State.reactB
  refine .ite (.refl s) (.ite ?_ (s.enterBlockReset_logKept true))
  exact (((s.holdFaultN_logKept i).trans (State.reactC_logKept _)).trans (storm _)).trans (State.put_logKept _ _ _ (by decide))

/-- The reactions leave the log, those that reset the block included. -/
theorem State.react_logKept (s : State) (i set : Nat) : LogKept s (s.react i set) := by
  have opt : ∀ (c : Bool) (u v : State), LogKept u v → LogKept u (if c then v else u) := fun c u v h => .ite h (.refl u)
  unfold State.react
  exact ((((opt _ _ _ (State.holdFaultN_logKept _ _)).trans (opt _ _ _ (State.reactC_logKept _))).trans
    (opt _ _ _ (State.reactI_logKept _ _))).trans (opt _ _ _ (State.reactT_logKept _))).trans (opt _ _ _ (State.reactB_logKept _ _))

/-! ### One record written (R447) -/

theorem State.logWrite_of_room {r : LogRec} (h : s.coll.log.length < 256) :
    (s.logWrite r).coll.log = s.coll.log ++ [r] ∧ (s.logWrite r).f FLT_LOG_CTRL.OVW = s.f FLT_LOG_CTRL.OVW := by
  unfold State.logWrite
  split
  case h_1 => rw [if_neg (Nat.not_le.mpr h)]; exact ⟨rfl, rfl⟩
  case h_2 e => rw [e]; exact ⟨rfl, rfl⟩

theorem State.logWrite_of_full {r : LogRec} (h : 256 ≤ s.coll.log.length) :
    (s.logWrite r).coll.log = s.coll.log.tail ++ [r] ∧ (s.logWrite r).f FLT_LOG_CTRL.OVW = min 255 (s.f FLT_LOG_CTRL.OVW + 1) := by
  unfold State.logWrite
  split
  case h_1 o rest e =>
    rw [if_pos h, e]
    refine ⟨rfl, ?_⟩
    unfold State.bump
    rw [State.f_put_same _ _ (by decide) (by decide)]
    exact Nat.mod_eq_of_lt (Nat.lt_of_le_of_lt (Nat.min_le_left 255 _) (by decide))
  case h_2 e => rw [e] at h; cases h

/-- From `s` to `t` one record of a source has been written: appended, or in place of the oldest of a full ring, which is counted. -/
def RecordWritten (s t : State) (i : Nat) (recovery : Bool) : Prop :=
  ∃ r : LogRec, r.src = i ∧ r.recovery = recovery ∧
    (s.coll.log.length < 256 → t.coll.log = s.coll.log ++ [r] ∧ t.f FLT_LOG_CTRL.OVW = s.f FLT_LOG_CTRL.OVW) ∧
    (256 ≤ s.coll.log.length → t.coll.log = s.coll.log.tail ++ [r] ∧ t.f FLT_LOG_CTRL.OVW = min 255 (s.f FLT_LOG_CTRL.OVW + 1))

/-- What came before the record left the log. -/
theorem LogKept.recordWritten {r : LogRec} (h : LogKept s t) : RecordWritten s (t.logWrite r) r.src r.recovery := by
  refine ⟨r, rfl, rfl, ?_, ?_⟩
  · rw [← h.1, ← h.ovw]; exact State.logWrite_of_room
  · rw [← h.1, ← h.ovw]; exact State.logWrite_of_full

/-- What follows the record leaves the log. -/
theorem RecordWritten.trans {u : State} {i : Nat} {b : Bool} (h : RecordWritten s t i b) (k : LogKept t u) : RecordWritten s u i b := by
  obtain ⟨r, hs, hr, room, full⟩ := h
  exact ⟨r, hs, hr, by rwa [k.1, k.ovw], by rwa [k.1, k.ovw]⟩

/-! ### Events and recoveries -/

/-- Processing an event writes its record once: classification and capture come before it, traces and reactions after it (R447). -/
theorem State.processSrc_recordWritten (s : State) (x : Src) (e : Evt) : RecordWritten s (s.processSrc x e) x.id false := by
  unfold State.processSrc
  extract_lets i force coll s0 s1 en s2 sev set s3 s4 w s5 s6
  have h1 : LogKept s s1 := .trans (t := s0) ⟨rfl, rfl⟩ (s0.put_logKept _ _ (by decide))
  have h2 : LogKept s1 s2 := .ite (s1.classify_logKept i e) (.refl s1)
  have h3 : LogKept s2 s3 := .ite (.refl s2) (s2.capture_logKept i e sev)
  have h5 : LogKept s4 s5 := .ite (s4.pfRecord_logKept _ _) (.refl s4)
  have h6 : LogKept s5 s6 := .ite (s5.pfTrigger_logKept 1) (.refl s5)
  exact ((h1.trans h2).trans h3).recordWritten.trans ((h5.trans h6).trans (s6.react_logKept i set))

theorem State.selfCheck_logKept (s : State) (x : Src) : LogKept s (s.selfCheck x) :=
  .ite (s.put_logKept _ _ (by decide)) (.refl s)

theorem faultProcess_recordWritten {x : Src} {e : Evt} (h : s.nextSrc = some (x, e)) :
    Completes .faultProcess s fun t => RecordWritten s t x.id false := by
  have run : exec .faultProcess s = .next ((s.processSrc x e).selfCheck x) := by
    show execFaultProcess s = _
    unfold execFaultProcess
    rw [h]
  exact ⟨_, run, (s.processSrc_recordWritten x e).trans (State.selfCheck_logKept _ x)⟩

theorem faultRecovery_recordWritten {i : Fin 128} {x : Src} (hx : Src.ofId i = some x) (sev : s.fb FLT_CNT.SEV i = true)
    (cond : s.levelActive x = false) (event : (s.src i).lastEvent + s.fltQ i ≤ s.now) (ended : (s.src i).condEnd + s.fltQ i ≤ s.now) :
    Completes (.faultRecovery i) s fun t => RecordWritten s t i true := by
  have quiet : ¬ s.now < max (s.src i).lastEvent (s.src i).condEnd + s.fltQ i := by omega
  show ∃ t, execFaultRecovery i s = .next t ∧ _
  unfold execFaultRecovery
  rw [hx]
  dsimp only
  rw [if_neg (by rw [sev, cond]; simpa using quiet)]
  refine ⟨_, rfl, ?_⟩
  extract_lets
  have before : LogKept s (((((s.put FLT_CNT.SEV i 0).put FLT_CNT.WCOUNT i 0).put FLT_CNT.FHOLD i 0).bump FLT_CNT.RECOV i).bump FLT_RECOV.RECOV) :=
    ((((s.put_logKept _ _ (by decide)).trans (State.put_logKept _ _ _ (by decide))).trans (State.put_logKept _ _ _ (by decide))).trans
      (State.bump_logKept _ _ (by decide))).trans (State.bump_logKept _ _ (by decide))
  exact (before.recordWritten (r := ⟨i, true, false, _, _, _, _, _, _, _, _⟩)).trans ⟨rfl, rfl⟩

/-- Settles O16: each command calls `State.logWrite` once, which appends or replaces the oldest record, and all else that it does, a block reset
included, leaves the log (R447). -/
theorem eventLogIsARing : Obligations.EventLogIsARing :=
  ⟨fun _ _ _ h => faultProcess_recordWritten h, fun _ _ _ hx sev cond event ended => faultRecovery_recordWritten hx sev cond event ended⟩

end Sys2Proof.Machine
end

section
/-! PROOF. The staging index of BOOT_UPD_DATA (R563): a store advances it, a store past the last word sets OVR, UPD_OPEN and UPD_PAGE reset it. -/

namespace Sys2Proof.Machine

variable {s : State} {p : Port}

/-! ### A command that Marshal serves -/

/-- Firmware performs a command that asks (R589). -/
theorem State.mbxGate_of_asks {cmd : Nat} (h : s.asks p cmd) : s.mbxGate p cmd = .perform := by
  obtain ⟨-, -, -, powered, reset, stage, marshal, trap, scrub, standby⟩ := h
  have ⟨⟨on, running⟩, pause⟩ : (s.boot.marshal = true ∧ s.coll.halted = false) ∧ s.boot.pause = none := by
    simpa [State.marshalOn] using marshal
  have past : s.stage ≠ 10 ∧ s.stage ≠ 8 ∧ ¬ s.stage < 6 := by omega
  simp [State.mbxGate, powered, reset, past, on, running, pause, trap, scrub, standby]

theorem State.serve_of_asks {cmd : Nat} (h : s.asks p cmd) {ok : Nat → Bool} (hok : ok cmd = true) (act : State → State) :
    s.serve p ok act = act s := by
  have gate := State.mbxGate_of_asks h
  obtain ⟨head, busy, code, -⟩ := h
  simp [State.serve, head, busy, code, hok, gate]

theorem State.guarded_of_owner {sem : Nat} (h : s.f QB_SEM.OWNER sem = p.ix + 1) (own : Bool) (act : State → State) :
    s.guarded p sem own act = act s := if_pos (Or.inl h)

/-! ### What leaves Marshal's part of the state -/

@[simp] theorem State.answer_boot (s : State) (q status ra : Nat) (res : List (Nat × Nat)) : (s.answer q status ra res).boot = s.boot :=
  (State.answer_kept s q status ra res (Sub.refl _) (Sub.refl _) (Kept.refl _ _ s)).parts .boot rfl

@[simp] theorem State.updRes_boot (s : State) (r : Nat) : (s.updRes r).boot = s.boot := rfl

@[simp] theorem State.updFail_boot (s : State) (p : Port) (r : Nat) (res : List (Nat × Nat)) : (s.updFail p r res).boot = s.boot :=
  State.answer_boot _ _ _ _ _

@[simp] theorem State.raiseNvm_boot (s : State) (x : Src) (addr : Nat) : (s.raiseNvm x addr).boot = s.boot := rfl

@[simp] theorem State.setPage_boot (s : State) (k : Nat) (b : List Byte) : (s.setPage k b).boot = s.boot := rfl

@[simp] theorem State.overwritten_boot (s : State) (kind : Nat) : (s.overwritten kind).boot = s.boot :=
  (State.overwritten_kept s kind (Sub.refl _) (Sub.refl _) (Kept.refl _ _ s)).parts .boot rfl

/-! ### UPD_OPEN and UPD_PAGE -/

/-- The index is reset whatever UPD_OPEN answers: a session is open, a bad kind, no target, too many pages, or the session opens. -/
theorem State.updOpen_stageIx (s : State) (p : Port) : (s.updOpen p).boot.stageIx = 0 := by
  unfold State.updOpen
  extract_lets kind pages _ s0 _ s1 s2
  have start : s0.boot.stageIx = 0 := rfl
  have opened : s2.boot.stageIx = 0 := rfl
  split
  · simp [start]
  split
  · simp [start]
  split
  case h_1 => simp [start]
  case h_2 =>
    split
    · simp [start]
    · simp [opened]

/-- The index is reset whatever UPD_PAGE answers: no session, no target, the flash not to be written, a wrong page number, a page that does
not open, or the page written. -/
theorem State.updPage_stageIx (s : State) (p : Port) : (s.updPage p).boot.stageIx = 0 := by
  unfold State.updPage
  extract_lets kind next _ s0
  have start : s0.boot.stageIx = 0 := rfl
  split
  · simp [start]
  split
  case h_1 => simp [start]
  case h_2 =>
    split
    · simp [start]
    split
    · simp [start]
    split
    case h_1 => simp [start]
    case h_2 => simp [start]

theorem exec_updOpen_of_owner (h : s.asks p 0x10) (own : s.f QB_SEM.OWNER 0 = p.ix + 1) : exec (.updOpen p) s = .next (s.updOpen p) := by
  show execUpdOpen p s = _
  rw [execUpdOpen, State.serve_of_asks h rfl, State.guarded_of_owner own]

theorem exec_updPage_of_owner (h : s.asks p 0x11) (own : s.f QB_SEM.OWNER 0 = p.ix + 1) : exec (.updPage p) s = .next (s.updPage p) := by
  show execUpdPage p s = _
  rw [execUpdPage, State.serve_of_asks h rfl, State.guarded_of_owner own]

/-! ### The write of BOOT_UPD_DATA -/

/-- Only some registers are mirrored to a standby; the write of any other is all that happens (R487). -/
theorem State.mirror_of_not_mirrored {r : Reg} {act : Word} (h : r.mirrored act = false) (s before : State) (x : Master) (off : Nat)
    (be : BitVec 4) (v : Word) : s.mirror before x r off be v act = s := by
  unfold State.mirror
  simp [h]

/-- A write that reaches BOOT_UPD_DATA stages its word, in a block reset too; Marshal's units are not mirrored. -/
theorem exec_bootUpdDataWrite_of_takes (h : s.takes p .BOOT_UPD_DATA 0 (some 0)) (w : Word) :
    exec (.bootUpdDataWrite p w) s = .next (s.stageWrite w) := by
  obtain ⟨serving, present, standby, taken, owner⟩ := h
  have all : w &&& Word.byteMask 0xF#4 = w := BitVec.and_allOnes
  have write : s.regWrite p.master .BOOT_UPD_DATA 0 w (Word.byteMask 0xF#4) = s.stageWrite w := by
    unfold State.regWrite
    simp only [taken, State.systemWrite, all, Bool.false_eq_true, if_false]
  show s.hostWrite p .BOOT_UPD_DATA 0 w = _
  rw [State.hostWrite_eq s p w (by decide) serving rfl present standby owner, write, State.mirror_of_not_mirrored rfl]

theorem State.stageWrite_of_room (h : s.boot.stageIx ≤ 1023) (w : Word) :
    s.stageWrite w = { s with boot := { s.boot with
      staging := tblSet 0 s.boot.staging s.boot.stageIx w.toNat, stageIx := s.boot.stageIx + 1 } } := if_neg (Nat.not_lt.mpr h)

theorem State.stageWrite_of_full (h : 1023 < s.boot.stageIx) (w : Word) : s.stageWrite w = s.put BOOT_UPD_STATUS.OVR 0 1 := if_pos h

/-- Settles O13: a write that reaches the register is `State.stageWrite` and nothing else, whose two branches are the two outcomes of a store;
each branch of UPD_OPEN and UPD_PAGE starts from the index at 0 and leaves it there (R563). -/
theorem stagingIndexRule : Obligations.StagingIndexRule := by
  refine ⟨fun p w s hs => ⟨fun room => ⟨_, exec_bootUpdDataWrite_of_takes hs w, ?_⟩,
      fun full => ⟨_, exec_bootUpdDataWrite_of_takes hs w, ?_⟩⟩,
    fun p s hs own => ⟨_, exec_updOpen_of_owner hs own, s.updOpen_stageIx p⟩,
    fun p s hs own => ⟨_, exec_updPage_of_owner hs own, s.updPage_stageIx p⟩⟩
  · rw [State.stageWrite_of_room room]
    exact ⟨rfl, tblGet_set_same _ _ _ _, fun k hk => tblGet_set_ne _ _ _ _ hk, rfl⟩
  · rw [State.stageWrite_of_full full]
    exact ⟨State.f_put_same _ _ (by decide) (by decide), (Changes.refl s _ _).put 1 (by decide) (by decide)⟩

end Sys2Proof.Machine
end

section
/-! PROOF. Accesses at reserved offsets (R566): the search of the register map finds nothing there, so an access does nothing but count. -/

namespace Sys2Proof.Machine

/-! ### Where no register lies -/

/-- What the search of the register map finds is an element at that offset. -/
theorem Reg.ofOffset_sound {off : Nat} {r : Reg} {i : Nat} (h : Reg.ofOffset off = some (r, i)) : i < r.count ∧ r.offset i = off := by
  rw [Reg.ofOffset_eq] at h
  obtain ⟨r', -, found⟩ := List.exists_of_findSome?_eq_some h
  obtain ⟨rfl, hi, ho⟩ := Reg.probe_sound found
  exact ⟨hi, ho⟩

/-- The words of FLT_CLS, FLT_RCT and FLT_CNT for an ID without a source are found in the map and reserved all the same. -/
theorem regAt_eq_none {off : Nat} (h : ∀ r i, i < Reg.count r → noSource r i = false → off / 4 * 4 ≠ r.offset i) : regAt off = none := by
  unfold regAt
  split
  case h_1 r i found =>
    obtain ⟨hi, ho⟩ := Reg.ofOffset_sound found
    have unused : noSource r i = true := Bool.of_not_eq_false fun used => h r i hi used ho.symm
    exact if_pos unused
  case h_2 => rfl

variable {s : State} {off : Nat}

theorem State.write_of_reserved (serving : s.serving = true) (reserved : regAt off = none) (x : Master) (be : BitVec 4) (v : Word) :
    s.write x off be v = (s.countPort x QB_PORT_ERR.RSVD, true) := by
  unfold State.write
  simp only [serving, reserved, Bool.not_true, Bool.false_eq_true, if_false]

theorem State.read_of_reserved (serving : s.serving = true) (reserved : regAt off = none) (x : Master) :
    s.read x off = (s.countPort x QB_PORT_ERR.RSVD, 0#32) := by
  unfold State.read
  simp only [serving, reserved, Bool.not_true, Bool.false_eq_true, if_false]

/-! ### The count of a port -/

/-- A counter stands at the most that its bits hold. -/
theorem State.f_bump_same (s : State) {x : Fld} {i : Nat} (hx : x ∈ x.reg.fields) (hi : i < x.reg.count) :
    (s.bump x i).f x i = min (2 ^ (x.hi + 1 - x.lo) - 1) (s.f x i + 1) := by
  have room := Nat.two_pow_pos (x.hi + 1 - x.lo)
  rw [State.bump, State.f_put_same _ _ hx hi, satAdd, Nat.mod_eq_of_lt (by omega)]

/-- A port counts in its own element. -/
theorem State.countPort_port (s : State) (p : Port) (c : Fld) : s.countPort p.master c = s.bump c p.ix := by cases p <;> rfl

/-- QB_PORT_ERR has an element for each port. -/
theorem port_ix_lt_count (p : Port) : p.ix < Reg.count .QB_PORT_ERR := by cases p <;> decide

theorem State.f_bump_rsvd (s : State) (p : Port) :
    (s.bump QB_PORT_ERR.RSVD p.ix).f QB_PORT_ERR.RSVD p.ix = min 255 (s.f QB_PORT_ERR.RSVD p.ix + 1) :=
  s.f_bump_same (by decide) (port_ix_lt_count p)

theorem State.bump_rsvd_changes (s : State) (p : Port) (ps : List Part) :
    Changes s (s.bump QB_PORT_ERR.RSVD p.ix) ps [(QB_PORT_ERR.RSVD, p.ix)] :=
  (Changes.refl s ps _).bump (by decide) (List.mem_singleton_self _)

/-! ### What the commands do there -/

theorem exec_registerWrite_of_reserved {off : BitVec 20} (serving : s.serving = true) (reserved : regAt off.toNat = none) (p : Port)
    (be : BitVec 4) (v : Word) : exec (.registerWrite p off be v) s = .next (s.bump QB_PORT_ERR.RSVD p.ix) := by
  show execRegisterWrite p off be v s = _
  rw [execRegisterWrite, State.write_of_reserved serving reserved, State.countPort_port]

theorem exec_reservedAccess_write_of_reserved {off : BitVec 20} (serving : s.serving = true) (reserved : regAt off.toNat = none) (p : Port) :
    exec (.reservedAccess p off true) s = .next (s.bump QB_PORT_ERR.RSVD p.ix) := by
  show execReservedAccess p off true s = _
  simp only [execReservedAccess, reserved, Option.isSome_none, Bool.false_eq_true, if_false, if_true, State.write_of_reserved serving reserved,
    State.countPort_port]

theorem exec_reservedAccess_read_of_reserved {off : BitVec 20} (serving : s.serving = true) (reserved : regAt off.toNat = none) (p : Port) :
    exec (.reservedAccess p off false) s =
      .next { s.bump QB_PORT_ERR.RSVD p.ix with host := { s.host with rdata := 0#32 } } := by
  show execReservedAccess p off false s = _
  simp only [execReservedAccess, reserved, Option.isSome_none, Bool.false_eq_true, if_false, State.read_of_reserved serving reserved,
    State.countPort_port, State.bump_host]

/-- Settles O14: no register is found at the offset, so each access is the count of its port, and a read gives 0 besides (R566); on a standby
too, since the offset is looked up before the refusal (log entry 30). -/
theorem reservedOffsetsIgnored : Obligations.ReservedOffsetsIgnored := by
  intro p off be v s serving free
  have reserved := regAt_eq_none free
  have counts := s.f_bump_rsvd p
  have frame := s.bump_rsvd_changes p
  refine ⟨⟨_, exec_reservedAccess_write_of_reserved serving reserved p, counts, frame []⟩,
    ⟨_, exec_registerWrite_of_reserved serving reserved p be v, counts, frame []⟩,
    ⟨_, exec_reservedAccess_read_of_reserved serving reserved p, rfl, counts, (frame [.host]).upd rfl fun q hq => ?_⟩⟩
  cases q with
  | host => exact absurd (List.mem_singleton_self _) hq
  | _ => rfl

end Sys2Proof.Machine
end
